-- ==== Sys2Proof/Word.lean ====
section
/-! DEFINITION. The words of the host line: bytes, byte strings and the 16-bit CRC word (chapter The Host Line, 12.6). -/

namespace Sys2Proof

/-- One character of the host line: 8 data bits (chapter The Host Line). -/
abbrev Byte := BitVec 8

/-- A run of bytes on the host line, first byte first. -/
abbrev Bytes := List Byte

/-- A CRC-16 value: the plan digest (R20) and the check field of a frame (R162). -/
abbrev Crc16 := BitVec 16

end Sys2Proof
end

