-- ==== Sys2Proof/Syntax.lean ====
section
/-! DEFINITION. The commands of the block, one constructor per row of spec/opcode_table.json. A request of the host line
carries its frame's TAG and BODY bytes as received (R162, R164), so that a body of the wrong length is a form of the
command; the bytes are read by Machine/Operands.lean. A plant event or timer event carries what the event names. -/

namespace Sys2Proof

/-- The two inputs of a door (R89). -/
inductive DoorInput where
  | contact
  | presence
  deriving DecidableEq, Repr

/-- The two site meters (R57): the total-site meter and the unmanaged-feeder meter. -/
inductive Meter where
  | total
  | unmanaged
  deriving DecidableEq, Repr

/-- What one poll of a sensor point delivers (R117, R135). -/
inductive SensorSample where
  | reading (value : Int)
  | noAnswer
  deriving DecidableEq, Repr

/-- The target of an override: a target kind and a zone together (R32). -/
inductive OverrideTarget where
  | climate (zone : Fin 12)
  | light (zone : Fin 24)
  deriving DecidableEq, Repr

/-- How the write and read-back of the store image ends (R161). -/
inductive SaveResult where
  | compared
  | compareFailed
  | noAnswer
  deriving DecidableEq, Repr

/-- The commands (spec/opcode_table.json, in the table's order but for the line's byte events, which stand last). -/
inductive Instr where
  | powerOn
  | storeLoadComplete (answers : Bool)
  | frameComplete (bytes : Bytes)
  | frameGapExpiry
  | unknownKindRequest (tag kind : Byte) (body : Bytes)
  | ping (tag : Byte) (body : Bytes)
  | status (tag : Byte) (body : Bytes)
  | setClock (tag : Byte) (body : Bytes)
  | readClock (tag : Byte) (body : Bytes)
  | addPhase (tag : Byte) (body : Bytes)
  | dropPhase (tag : Byte) (body : Bytes)
  | editPhase (tag : Byte) (body : Bytes)
  | readPhases (tag : Byte) (body : Bytes)
  | readContext (tag : Byte) (body : Bytes)
  | setScene (tag : Byte) (body : Bytes)
  | setClimateSet (tag : Byte) (body : Bytes)
  | setProfile (tag : Byte) (body : Bytes)
  | readTable (tag : Byte) (body : Bytes)
  | readPending (tag : Byte) (body : Bytes)
  | cancelPending (tag : Byte) (body : Bytes)
  | setOverride (tag : Byte) (body : Bytes)
  | clearOverride (tag : Byte) (body : Bytes)
  | readOverrides (tag : Byte) (body : Bytes)
  | configChannel (tag : Byte) (body : Bytes)
  | readChannel (tag : Byte) (body : Bytes)
  | ackTrip (tag : Byte) (body : Bytes)
  | setLimits (tag : Byte) (body : Bytes)
  | readBudget (tag : Byte) (body : Bytes)
  | readQueue (tag : Byte) (body : Bytes)
  | configDoor (tag : Byte) (body : Bytes)
  | readDoor (tag : Byte) (body : Bytes)
  | checkBegin (tag : Byte) (body : Bytes)
  | checkEnd (tag : Byte) (body : Bytes)
  | readSessions (tag : Byte) (body : Bytes)
  | readDoorCounters (tag : Byte) (body : Bytes)
  | configZone (tag : Byte) (body : Bytes)
  | readZone (tag : Byte) (body : Bytes)
  | configPoint (tag : Byte) (body : Bytes)
  | readPoints (tag : Byte) (body : Bytes)
  | configLightZone (tag : Byte) (body : Bytes)
  | readLightZone (tag : Byte) (body : Bytes)
  | walkStart (tag : Byte) (body : Bytes)
  | walkStop (tag : Byte) (body : Bytes)
  | resume (tag : Byte) (body : Bytes)
  | restartPlant (tag : Byte) (body : Bytes)
  | restartFull (tag : Byte) (body : Bytes)
  | save (tag : Byte) (body : Bytes)
  | fetchNotices (tag : Byte) (body : Bytes)
  | setNoticeLevel (tag : Byte) (body : Bytes)
  | clockAdvance
  | timedTurn
  | overrideExpiry (target : OverrideTarget)
  | meterPulse (meter : Meter)
  | meterSample
  | minOnExpiry (ch : Fin 128)
  | minOffExpiry (ch : Fin 128)
  | urgencyExpiry (ch : Fin 128)
  | tripSample (ch : Fin 128) (asserted : Bool)
  | doorInputSample (door : Fin 32) (input : DoorInput) (active : Bool)
  | debounceExpiry (door : Fin 32) (input : DoorInput)
  | heldTimerExpiry (door : Fin 32)
  | loopSample (door : Fin 32) (flows : Bool)
  | checkLimitExpiry
  | tempPointSample (point : Fin 32) (sample : SensorSample)
  | tempPointStaleExpiry (point : Fin 32)
  | exhaustPointSample (point : Fin 12) (sample : SensorSample)
  | exhaustPointStaleExpiry (point : Fin 12)
  | zoneEvaluation (zone : Fin 12)
  | presencePulse (zone : Fin 24)
  | presenceTimerExpiry (zone : Fin 24)
  | dwellExpiry
  | firePanelSample (asserted : Bool)
  | saveComplete (result : SaveResult)
  | syncReceived (byte : Byte)
  | lenOutOfRange (len : Byte)
  deriving DecidableEq, Repr

end Sys2Proof
end

