-- ==== Sys2Proof/Decode.lean ====
section
/-! DEFINITION. The reading of a command from the bits of spec/opcode_table.json. No row of that table gives bits: the commands
are requests of the host line, whose frames Machine/LineUnit.lean and Machine/Operands.lean read, and events. -/

namespace Sys2Proof

/-- The command a word spells by the table's bits. No row gives bits, so no word spells a command. -/
def decodeTableWord (_nbits _w : Nat) : Option Instr := none

end Sys2Proof
end

