-- ==== Sys2Proof/Machine/Requests.lean ====
section
/-! DEFINITION. The request kinds of the host line and the body lengths R164 tests (chapter The Host Line, 12.5). -/

namespace Sys2Proof.Machine

/-- The body lengths a kind takes: exactly one, or any up to a bound (PING). -/
inductive BodyRule where
  | exactly (n : Nat)
  | upTo (n : Nat)
  deriving DecidableEq, Repr

/-- Whether a body length meets the rule. -/
def BodyRule.admits : BodyRule → Nat → Bool
  | .exactly n, len => len == n
  | .upTo n, len => len ≤ n

/-- The table of 12.5: each request kind with the body length tested for it. -/
def requestTable : List (Byte × BodyRule) :=
  [(0x01, .upTo 239), (0x02, .exactly 1), (0x03, .exactly 4), (0x04, .exactly 0), (0x10, .exactly 8), (0x11, .exactly 2),
   (0x12, .exactly 8), (0x13, .exactly 1), (0x14, .exactly 0), (0x18, .exactly 50), (0x19, .exactly 50), (0x1A, .exactly 24),
   (0x1B, .exactly 2), (0x1C, .exactly 0), (0x1D, .exactly 0), (0x20, .exactly 9), (0x21, .exactly 2), (0x22, .exactly 0),
   (0x28, .exactly 14), (0x29, .exactly 1), (0x2A, .exactly 1), (0x30, .exactly 12), (0x31, .exactly 0), (0x32, .exactly 2),
   (0x38, .exactly 9), (0x39, .exactly 1), (0x3A, .exactly 0), (0x3B, .exactly 0), (0x3C, .exactly 0), (0x3D, .exactly 4),
   (0x40, .exactly 24), (0x41, .exactly 1), (0x42, .exactly 9), (0x43, .exactly 1), (0x48, .exactly 11), (0x49, .exactly 1),
   (0x4A, .exactly 1), (0x4B, .exactly 0), (0x50, .exactly 0), (0x51, .exactly 1), (0x52, .exactly 0), (0x58, .exactly 0),
   (0x59, .exactly 1)]

/-- The body rule of a kind, absent when the kind is not in the table. -/
def bodyRule? (kind : Byte) : Option BodyRule := (requestTable.find? (·.1 == kind)).map (·.2)

end Sys2Proof.Machine
end

