-- ==== Sys2Proof/Config.lean ====
section
/-! DEFINITION. What the part fixes (its capacities and periods, spec/00_scope.md) and the free values: what the manual
leaves open is an opaque constant here, so that nothing can evaluate it or prove a value of it. -/

namespace Sys2Proof.Config

/-- Week-seconds in a week (R1). -/
abbrev weekSeconds : Nat := 604800
/-- Week-minutes in a week (R4). -/
abbrev weekMinutes : Nat := 10080
/-- Phase records the list holds (R4). -/
abbrev maxPhases : Nat := 48
/-- Override records the table holds (R32). -/
abbrev maxOverrides : Nat := 16
/-- Notices the queue holds (R168). -/
abbrev maxNotices : Nat := 64
/-- Notices one FETCH NOTICES returns (R169). -/
abbrev fetchCount : Nat := 8
/-- Frames the request buffer holds (R163). -/
abbrev maxFrames : Nat := 4
/-- Session records the log holds (R115). -/
abbrev maxSessions : Nat := 128
/-- Records one READ SESSIONS returns (R116). -/
abbrev readSessionCount : Nat := 6
/-- The bound of a 32-bit saturating counter. -/
abbrev max32 : Nat := 4294967295
/-- The bound of a 16-bit saturating counter. -/
abbrev max16 : Nat := 65535
/-- Seconds between meter samples (R57). -/
abbrev samplePeriod : Nat := 10
/-- Seconds between evaluations of a zone (R125). -/
abbrev evaluationPeriod : Nat := 60
/-- Seconds a temperature point may go without a good sample (R117). -/
abbrev tempStale : Nat := 300
/-- Seconds an exhaust point may go without a good sample (R135). -/
abbrev exhaustStale : Nat := 120
/-- Seconds a contact check may run (R104). -/
abbrev checkLimit : Nat := 30

/-- What a failed save leaves in the external store: the image that stood there, the new image, or one that fails the
check (R161: 'The image it leaves may fail the check at the next power-on'). -/
inductive FailedImage where
  | previous
  | written
  | failing
  deriving DecidableEq, Repr, Inhabited

/-- FREE VALUE (log entry 12). What the n-th failed save leaves in the store (R161). -/
opaque failedSaveImage : Nat → FailedImage

/-- FREE VALUE (log entry 13). The byte that stands for the role target of an UNUSED channel in a reply: R38 gives it
'none' and no rule gives that a code. -/
opaque noRoleTargetByte : Byte

/-- FREE VALUE (log entry 13). The byte that stands for the class of an UNUSED channel in a reply: R38 gives it no class. -/
opaque noClassByte : Byte

/-- FREE VALUE (log entry 14). The steps a LIGHT or UNUSED channel's configuration holds after a CONFIG CHANNEL whose
steps field R39 ignores; the argument is the ignored field. -/
opaque ignoredSteps : Nat → Nat

/-- FREE VALUE (log entry 15). A figure of a zone's last evaluation that the evaluation did not work out (R128 to R134);
the arguments are the number of the field in the READ ZONE reply, the zone and the model's free-value counter, which each
evaluation advances. -/
opaque openFigure : Nat → Nat → Nat → Byte × Byte

/-- FREE VALUE (log entry 15). The freeze-condition byte of READ ZONE when the integral was not frozen (R134). -/
opaque noFreezeByte : Byte

/-- FREE VALUE (log entry 16). The energy, average demand, contract limit and flag bytes of READ BUDGET's last-window group
while the record is empty: R86 gives only the length, 0, and the close time; the argument numbers the byte. -/
opaque emptyWindowByte : Nat → Byte

end Sys2Proof.Config
end

