-- ==== Sys2Proof/Machine/Types.lean ====
section
/-! DEFINITION. The records each block of the part keeps (spec/00_scope.md, block overview), as plain data. Quantities are
natural numbers in the unit of spec/00_scope.md, temperatures and setpoints integers in tenths of a degree Celsius; a running
timer is `some` of its remaining real seconds, a timer at `some 0` is due, and `none` is a timer that is not running. -/

namespace Sys2Proof.Machine

/-- A table with a fixed number of entries. -/
abbrev Table (α : Type) (n : Nat) := Vector α n

/-- A timer in real seconds: not running, or the seconds left (`some 0`: the expiry is due). -/
abbrev Timer := Option Nat

/-! ### Shift Plan Unit -/

/-- Phase kind (R4). -/
inductive PhaseKind where
  | work
  | changeover
  | break_
  | setback
  deriving DecidableEq, Repr, Inhabited

/-- The fields of a phase record but its start (R4). The fallback phase is such a record without a start (R9). -/
structure PhaseFields where
  kind : PhaseKind
  scene : Fin 16
  climateSet : Fin 8
  profile : Fin 4
  label : Nat
  precondition : Bool
  deriving DecidableEq, Repr

/-- A record of the phase list (R4). -/
structure PhaseRec where
  start : Nat
  fields : PhaseFields
  deriving DecidableEq, Repr

/-- A copy of a phase in the context with its source start, absent when it is a copy of the fallback phase (R10). -/
structure PhaseCopy where
  source : Option Nat
  fields : PhaseFields
  deriving DecidableEq, Repr

/-- The five totals of the current phase (R12). -/
structure PhaseTotals where
  docked : Nat := 0
  bare : Nat := 0
  cycles : Nat := 0
  held : Nat := 0
  shed : Nat := 0
  deriving DecidableEq, Repr

/-- A lighting scene: one level for each lighting zone (R22). -/
abbrev Scene := Table Nat 24

/-- One climate zone's values in a climate set (R23). -/
structure ClimateEntry where
  setpoint : Int
  cap : Nat
  ventMin : Nat
  deriving DecidableEq, Repr

/-- A climate set (R23). -/
abbrev ClimateSet := Table ClimateEntry 12

/-- One value for each load class, in the order LIGHT, HEAT, AIR, DOCK. -/
structure PerClass (α : Type) where
  light : α
  heat : α
  air : α
  dock : α
  deriving DecidableEq, Repr

/-- Load class (R38). -/
inductive LoadClass where
  | light
  | heat
  | air
  | dock
  deriving DecidableEq, Repr, Inhabited

/-- An allowance profile (R24). -/
structure Profile where
  share : PerClass Nat
  weight : PerClass Nat
  tight : Nat
  urgency : PerClass Nat
  deriving DecidableEq, Repr

/-- A pending edit: the table, the index and the entry's new content (R28). -/
inductive PendingEdit where
  | scene (index : Fin 16) (content : Scene)
  | climateSet (index : Fin 8) (content : ClimateSet)
  | profile (index : Fin 4) (content : Profile)
  deriving DecidableEq, Repr

/-- An override record (R32). `remaining` is absent for UNTIL_TURN. -/
structure Override where
  target : OverrideTarget
  value : Int
  remaining : Timer
  setAt : Option Nat
  deriving DecidableEq, Repr

/-- Why an override ended (R35). -/
inductive EndCause where
  | expired
  | turn
  | cleared
  deriving DecidableEq, Repr

/-- Why a turn was taken and reported (R15). -/
inductive TurnCause where
  | timed
  | jump
  | emptied
  deriving DecidableEq, Repr

/-- The state of the Shift Plan Unit. -/
structure PlanUnit where
  /-- The shed clock: unset, or the week-second (R1). -/
  clock : Option Nat
  /-- The week-second of next's start that the clock has reached and whose timed turn has not been taken (R14). -/
  turnDue : Option Nat
  /-- The phase list (R4). -/
  phases : List PhaseRec
  /-- The fallback phase (R9). -/
  fallback : PhaseFields
  /-- Previous, current and next, and current's totals (R10, R12). -/
  previous : Option PhaseCopy
  current : PhaseCopy
  next : Option Nat
  totals : PhaseTotals
  /-- The settings tables (R22 to R24). -/
  scenes : Table Scene 16
  climateSets : Table ClimateSet 8
  profiles : Table Profile 4
  /-- The pending-edit list (R28). -/
  edits : List PendingEdit
  /-- The override table (R32). -/
  overrides : List Override
  /-- The plan digest (R20). -/
  digest : Crc16
  deriving DecidableEq, Repr

/-! ### Load Budget Unit -/

/-- Channel role (R38). -/
inductive Role where
  | unused
  | heater
  | fan
  | light
  | curtain
  | docklight
  deriving DecidableEq, Repr, Inhabited

/-- A channel's configuration (R38). `roleTarget` is the zone or door number, absent for UNUSED. -/
structure ChannelConfig where
  role : Role
  roleTarget : Option Nat
  steps : Nat
  rating : Nat
  priority : Nat
  minOn : Nat
  minOff : Nat
  tripUsed : Bool
  protMin : Nat
  deriving DecidableEq, Repr

/-- What a channel's start-queue entry stores; its class, priority, steps wanted and held flag are the channel's own
(R75: class, priority and steps wanted follow from the channel, held is set exactly while min-off runs). -/
structure QueueEntry where
  age : Nat
  urgent : Bool
  deriving DecidableEq, Repr

/-- What the output chain was last commanded for a channel position (R53): the relay stages energised, 1 to `stages`,
and the dimming output in millivolts. -/
structure Output where
  stages : Nat
  dimming : Nat
  deriving DecidableEq, Repr

/-- A load channel: configuration, live state, start-queue entry and output command (R38, R75, R53). `granted` is in steps
for a step channel and in hW for a LIGHT channel. -/
structure Channel where
  cfg : ChannelConfig
  target : Nat
  granted : Nat
  minOnT : Timer
  minOffT : Timer
  serial : Nat
  tripIn : Bool
  tripped : Bool
  entry : Option QueueEntry
  out : Output
  deriving DecidableEq, Repr

/-- Channel state (R42); the step count of ON is the granted steps. -/
inductive ChannelState where
  | off
  | on
  | holdOff
  | tripped
  deriving DecidableEq, Repr

/-- The six limits (R54). -/
structure Limits where
  contract : Nat
  feed : Nat
  margin : Nat
  window : Nat
  wTotal : Nat
  wUnmanaged : Nat
  deriving DecidableEq, Repr

/-- The last-window record (R64). -/
structure LastWindow where
  energy : Nat
  length : Nat
  average : Nat
  contract : Nat
  overContract : Bool
  estimated : Bool
  byClockSet : Bool
  closeTime : Option Nat
  deriving DecidableEq, Repr

/-- Why a shedding event shed (R82). -/
inductive ShedCause where
  | ceiling
  | profile
  | protected_
  deriving DecidableEq, Repr

/-- The state of the Load Budget Unit. -/
structure LoadBudget where
  /-- The channel table (R38), holding the start queue (R75) and the output commands (R53). -/
  channels : Table Channel 128
  /-- The step-up serial issued last (R38, R43). -/
  lastSerial : Nat
  /-- The limits as configured and as active (R54). -/
  configured : Limits
  active : Limits
  /-- The pulse counters (R57). -/
  nT : Nat
  nU : Nat
  /-- Seconds to the next meter sample (R57). -/
  sampleT : Nat
  /-- Whole seconds since the last meter sample (R68). -/
  sinceSample : Nat
  /-- The demand window (R59). -/
  energy : Nat
  elapsed : Nat
  windowLen : Nat
  estimated : Bool
  /-- The figures (R58 to R62). -/
  pu : Nat
  ct : Nat
  managed : Nat
  pProt : Nat
  shareable : Nat
  reserve : PerClass Nat
  pool : Nat
  /-- Meter silence (R67). -/
  silence : Nat
  silent : Bool
  estimates : Nat
  /-- The last-window record, absent while empty (R64). -/
  lastWindow : Option LastWindow
  /-- The tight flag (R72) and the shed condition (R85). -/
  tight : Bool
  shed : Bool
  deriving DecidableEq, Repr

/-! ### Dock Supervisor -/

/-- Door state (R89). -/
inductive DoorState where
  | unused
  | unknown
  | shut
  | shutDocked
  | openDocked
  | openBare
  | held
  | fault
  deriving DecidableEq, Repr, Inhabited

/-- Loop result (R89). -/
inductive LoopResult where
  | untested
  | connected
  | openLoop
  deriving DecidableEq, Repr, Inhabited

/-- Session end reason (R114). -/
inductive EndReason where
  | departed
  | doorFault
  | disabled
  | restart
  deriving DecidableEq, Repr

/-- A door's configuration (R88). -/
structure DoorConfig where
  enabled : Bool
  zone : Fin 12
  kd : Nat
  heldTime : Nat
  debounce : Nat
  curtain : Option (Fin 128)
  light : Option (Fin 128)
  deriving DecidableEq, Repr

/-- An open session (R112); its door is the door that holds it. -/
structure Session where
  number : Nat
  arrival : Option Nat
  label : Nat
  openSeconds : Nat
  cycles : Nat
  loss : Nat
  deriving DecidableEq, Repr

/-- A closed session record (R114). -/
structure SessionRecord where
  door : Fin 32
  reason : EndReason
  departure : Option Nat
  session : Session
  deriving DecidableEq, Repr

/-- A door record (R88, R89, R108, R109). `heldLength` is the length the held timer was started with (R95, R96). -/
structure Door where
  cfg : DoorConfig
  rawOpen : Bool
  rawPresent : Bool
  debOpen : Bool
  debPresent : Bool
  contactT : Timer
  presenceT : Timer
  state : DoorState
  heldT : Timer
  heldLength : Nat
  loop : LoopResult
  curtainRunning : Bool
  sentLight : Nat
  sentCurtain : Nat
  cycles : Nat
  heldEpisodes : Nat
  rate : Nat
  stamp : Nat
  session : Option Session
  deriving DecidableEq, Repr

/-- A contact check in progress (R104, R105): the seconds left, the doors under test (the loops the check current is driven
into) and the last loop sample of each. -/
structure ContactCheck where
  remaining : Nat
  underTest : Table Bool 32
  sample : Table (Option Bool) 32
  deriving DecidableEq, Repr

/-- How a contact check ended (R106, R107). -/
inductive CheckEnding where
  | ended
  | expired
  | abandoned
  deriving DecidableEq, Repr

/-- The state of the Dock Supervisor. -/
structure Dock where
  doors : Table Door 32
  /-- The zone ΔT copies (R108). -/
  zoneDT : Table Nat 12
  check : Option ContactCheck
  /-- The session log, oldest first (R115). -/
  log : List SessionRecord
  lost : Nat
  lossReported : Bool
  nextSession : Nat
  deriving DecidableEq, Repr

/-! ### Climate Unit -/

/-- Point state (R117, R135). -/
inductive PointState where
  | unused
  | starting
  | good
  | stale
  deriving DecidableEq, Repr, Inhabited

/-- A temperature or exhaust point (R117, R135). -/
structure SensorPoint where
  state : PointState
  value : Option Int
  bad : Nat
  staleT : Timer
  lastGood : Option Nat
  deriving DecidableEq, Repr

/-- A climate zone's configuration (R122). -/
structure ZoneConfig where
  heater : Option (Fin 128)
  fan : Option (Fin 128)
  tempPoint : Fin 32
  exhaustPoint : Option (Fin 12)
  kp : Nat
  ki : Nat
  imax : Nat
  phi : Nat
  kv : Nat
  mz : Nat
  occupiedFallback : Nat
  setbackFallback : Nat
  x1 : Nat
  x2 : Nat
  xp : Nat
  deriving DecidableEq, Repr

/-- Zone mode (R126). -/
inductive ZoneMode where
  | off
  | setback
  | occupied
  | precondition
  | stopped
  deriving DecidableEq, Repr, Inhabited

/-- Ventilation state (R138). -/
inductive VentState where
  | normal
  | purge
  | blind
  | stopped
  deriving DecidableEq, Repr, Inhabited

/-- Where a setpoint was taken from (R134). -/
inductive SetpointSource where
  | override
  | current
  | next
  deriving DecidableEq, Repr, Inhabited

/-- The row of the table of R128 that froze the integral. -/
inductive FreezeCondition where
  | tripped
  | heldBack
  | atTop
  | atBottom
  deriving DecidableEq, Repr

/-- The terms worked out with the error (R128, R129). -/
structure HeatTerms where
  error : Int
  proportional : Int
  integralTerm : Int
  loss : Nat
  feedforward : Nat
  frozen : Option FreezeCondition
  deriving DecidableEq, Repr

/-- The figures of a zone's last evaluation that READ ZONE reports (R134, R144). A figure the evaluation did not work out
is `none`; `evaluated` is clear before the zone's first evaluation. -/
structure ZoneFigures where
  evaluated : Bool
  setpoint : Int
  source : SetpointSource
  lead : Option Nat
  temperature : Option Int
  outdoor : Int
  terms : Option HeatTerms
  integral : Int
  fallbackCall : Bool
  call : Nat
  target : Nat
  exhaust : Option Int
  ventMin : Nat
  computed : Nat
  deriving DecidableEq, Repr

/-- A climate zone record (R122, R124, R138). -/
structure Zone where
  cfg : ZoneConfig
  mode : ZoneMode
  integral : Int
  call : Nat
  heaterTarget : Nat
  deltaT : Nat
  evalT : Nat
  figures : ZoneFigures
  vent : VentState
  fanTarget : Nat
  lowerCandidate : Option Nat
  purgeStart : Nat
  deriving DecidableEq, Repr

/-- The state of the Climate Unit. -/
structure Climate where
  zones : Table Zone 12
  temps : Table SensorPoint 32
  exhausts : Table SensorPoint 12
  outdoorPoint : Fin 32
  designTemp : Int
  deriving DecidableEq, Repr

/-! ### Lighting Unit -/

/-- A lighting zone's configuration (R145). -/
structure LightConfig where
  channel : Option (Fin 128)
  presence : Bool
  hold : Nat
  breakHold : Nat
  setback : Nat
  protMin : Nat
  deriving DecidableEq, Repr

/-- Where a lighting target comes from (R147). -/
inductive LightSource where
  | stopped
  | walk
  | override
  | vacant
  | scene
  deriving DecidableEq, Repr, Inhabited

/-- A lighting zone record (R145). -/
structure LightZone where
  cfg : LightConfig
  presenceT : Timer
  vacant : Bool
  source : LightSource
  target : Nat
  lastSent : Nat
  walkResult : Option Nat
  deriving DecidableEq, Repr

/-- A commissioning walk in progress (R152, R153): the dwell, the seconds left of the visit, the zone under visit, the zones
still to visit and the number of visits begun. -/
structure LightWalk where
  dwell : Nat
  remaining : Nat
  visiting : Fin 24
  toVisit : List (Fin 24)
  begun : Nat
  deriving DecidableEq, Repr

/-- How a commissioning walk ended (R154). -/
inductive WalkEnding where
  | complete
  | stopped
  | aborted
  deriving DecidableEq, Repr

/-- The state of the Lighting Unit. `lastKind` is the kind it last took from current (R149). -/
structure Lighting where
  zones : Table LightZone 24
  walk : Option LightWalk
  lastKind : PhaseKind
  deriving DecidableEq, Repr

/-! ### Stop Control, the Setting Store interface and the Line Interface -/

/-- The plant-stop state (R156). -/
inductive PlantState where
  | running
  | stopped
  | released
  deriving DecidableEq, Repr, Inhabited

/-- Stop Control (R156): the plant-stop state, the fire-panel input as last sampled and the stop stamp. -/
structure StopControl where
  state : PlantState
  fire : Bool
  stopStamp : Nat
  deriving DecidableEq, Repr

/-- Notice level (R167). -/
inductive NoticeLevel where
  | alarms
  | alarmsAndOperation
  | all
  deriving DecidableEq, Repr, Inhabited

/-- The point configuration (R120). -/
structure PointConfig where
  tempUsed : Table Bool 32
  exhaustUsed : Table Bool 12
  outdoorPoint : Fin 32
  designTemp : Int
  deriving DecidableEq, Repr

/-- The snapshot a SAVE takes (R160). -/
structure Snapshot where
  channels : Table ChannelConfig 128
  doors : Table DoorConfig 32
  zones : Table ZoneConfig 12
  lights : Table LightConfig 24
  points : PointConfig
  scenes : Table Scene 16
  climateSets : Table ClimateSet 8
  profiles : Table Profile 4
  phases : List PhaseRec
  fallback : PhaseFields
  limits : Limits
  level : NoticeLevel
  deriving DecidableEq, Repr

/-- What the external store holds: nothing that was ever written, or an image: a snapshot with the CRC-16 that stands beside it, right
or wrong (R158, R161). -/
inductive StoreImage where
  | blank
  | written (content : Snapshot) (crc : Crc16)
  deriving DecidableEq, Repr

/-- Where the running configuration came from at the last start (R160). -/
inductive StoreSource where
  | store
  | defaults
  deriving DecidableEq, Repr, Inhabited

/-- How the last save ended (R160). -/
inductive LastSave where
  | none
  | done
  | failed
  deriving DecidableEq, Repr, Inhabited

/-- Why an image was rejected or a save failed (R158, R161). -/
inductive StoreReason where
  | noAnswer
  | checkFailed
  | compareFailed
  deriving DecidableEq, Repr

/-- The Setting Store interface with the external store (R160, R161). `saving` is the snapshot being written, with the plan
digest it was taken under. -/
structure SettingStore where
  image : StoreImage
  source : StoreSource
  saving : Option (Snapshot × Crc16)
  lastSave : LastSave
  deriving DecidableEq, Repr

/-- A complete frame in the request buffer (R162, R163). -/
structure Frame where
  tag : Byte
  kind : Byte
  body : Bytes
  deriving DecidableEq, Repr

/-- Notice kinds (12.6, the notice table). -/
inductive NoticeKind where
  | heldOpen
  | doorFault
  | channelTripped
  | plantStop
  | pointStale
  | meterSilent
  | storeInvalid
  | saveFailed
  | logFull
  | noticesLost
  | turn
  | checkDone
  | purgeStart
  | purgeEnd
  | plantReleased
  | plantResumed
  | saveDone
  | overrideEnded
  | walkDone
  | clockNeeded
  | pointRestored
  | meterRestored
  | shed
  | budgetTight
  | budgetEased
  | trailerArrived
  | trailerDeparted
  deriving DecidableEq, Repr

/-- Notice class (R167). -/
inductive NoticeClass where
  | alarm
  | operation
  | detail
  deriving DecidableEq, Repr

/-- A notice record (R167). -/
structure Notice where
  kind : NoticeKind
  time : Option Nat
  subject : Nat
  data : Bytes
  deriving DecidableEq, Repr

/-- The Line Interface (R162 to R170). `rx` holds the bytes from the SYNC of the frame being collected, and is empty while the
receiver hunts; `sent` is the reply frames handed to the transmitter, first one first. -/
structure Line where
  rx : Bytes
  buffer : List Frame
  notices : List Notice
  level : NoticeLevel
  lost : Nat
  badFrames : Nat
  overruns : Nat
  attention : Bool
  sent : List Bytes
  deriving DecidableEq, Repr

/-- Where the part stands in its start-up (R158): held in power-on reset, loading the setting store, or running. -/
inductive Stage where
  | inReset
  | loading
  | running
  deriving DecidableEq, Repr, Inhabited

end Sys2Proof.Machine
end

