-- ==== Sys2Proof/Machine/Codec.lean ====
section
/-! DEFINITION. Tables by index, saturating counters and timers, the byte order of the host line, the CRC-16, and the codes of the
enumerated values (spec/00_scope.md, Conventions; chapter The Host Line, 12.4 and 12.6). -/

namespace Sys2Proof.Machine

/-! ### Tables -/

/-- The entry at an index. -/
def look {α : Type} {n : Nat} (t : Table α n) (i : Fin n) : α := t[i]

/-- The table with one entry replaced. -/
def upd {α : Type} {n : Nat} (t : Table α n) (i : Fin n) (x : α) : Table α n := t.set i x

/-- The indices of a table, lowest first. -/
def indices (n : Nat) : List (Fin n) := List.finRange n

/-- The index a number names, if it is in range. -/
def index? (n k : Nat) : Option (Fin n) := if h : k < n then some ⟨k, h⟩ else none

/-- Σ over the entries of a table. -/
def sumTable {α : Type} {n : Nat} (f : α → Nat) (t : Table α n) : Nat := (t.toList.map f).sum

/-- The number of entries that satisfy a test. -/
def countTable {α : Type} {n : Nat} (p : α → Bool) (t : Table α n) : Nat := sumTable (fun x => if p x then 1 else 0) t

/-- The value for a class. -/
def PerClass.get {α : Type} (p : PerClass α) : LoadClass → α
  | .light => p.light
  | .heat => p.heat
  | .air => p.air
  | .dock => p.dock

/-- A value for each class, worked out class by class. -/
def PerClass.build {α : Type} (f : LoadClass → α) : PerClass α := ⟨f .light, f .heat, f .air, f .dock⟩

/-- Σ over the four classes. -/
def PerClass.sum (p : PerClass Nat) : Nat := p.light + p.heat + p.air + p.dock

/-! ### Arithmetic (spec/00_scope.md, Arithmetic) -/

/-- A saturating sum. -/
def satAdd (bound a b : Nat) : Nat := min bound (a + b)

/-- Division rounded up. -/
def ceilDiv (a b : Nat) : Nat := (a + b - 1) / b

/-- clamp(a, b, x). -/
def clampInt (lo hi x : Int) : Int := max lo (min hi x)

/-- x brought into a–b. -/
def clampNat (lo hi x : Nat) : Nat := max lo (min hi x)

/-- The greatest of the listed values that is not above x; the first one when all are above it. The list rises. -/
def greatestNotAbove (first : Nat) (rest : List Nat) (x : Nat) : Nat :=
  rest.foldl (fun best v => if v ≤ x then v else best) first

/-! ### Timers -/

/-- A timer started from its full time; a time of 0 s does not start it (R44, R45). -/
def startTimer (seconds : Nat) : Timer := if seconds = 0 then none else some seconds

/-- One real second off a running timer; a timer that is due stays due. -/
def tickTimer : Timer → Timer
  | none => none
  | some n => some (n - 1)

/-! ### Bytes, little-endian (spec/00_scope.md, The host line) -/

/-- A number as one byte. -/
def le8 (n : Nat) : Bytes := [BitVec.ofNat 8 n]

/-- A number as two bytes, little-endian. -/
def le16 (n : Nat) : Bytes := [BitVec.ofNat 8 n, BitVec.ofNat 8 (n / 256)]

/-- A number as four bytes, little-endian. -/
def le32 (n : Nat) : Bytes := le16 n ++ le16 (n / 65536)

/-- A signed number as two bytes, two's complement; of a number that two bytes cannot carry, the low 16 bits (log entry 33). -/
def leInt16 (z : Int) : Bytes := le16 (BitVec.ofInt 16 z).toNat

/-- A signed number as four bytes, two's complement. -/
def leInt32 (z : Int) : Bytes := le32 (BitVec.ofInt 32 z).toNat

/-- A flag as one byte: 0 for clear and 1 for set (12.4). -/
def leFlag (b : Bool) : Bytes := [if b then 1 else 0]

/-- A week-second that can be absent (spec/00_scope.md, Absent times). -/
def leTime : Option Nat → Bytes
  | some t => le32 t
  | none => le32 0xFFFFFFFF

/-- A week-minute that can be absent. -/
def leStart : Option Nat → Bytes
  | some t => le16 t
  | none => le16 0xFFFF

/-- A two-byte quantity with 0xFFFF for absence. -/
def leOpt16 : Option Nat → Bytes
  | some t => le16 t
  | none => le16 0xFFFF

/-- A one-byte quantity with 0xFF for absence. -/
def leOpt8 : Option Nat → Bytes
  | some t => le8 t
  | none => le8 0xFF

/-- The byte at a position of a body, as a number. -/
def u8 (b : Bytes) (at_ : Nat) : Nat := (b.getD at_ 0).toNat

/-- Two bytes of a body, little-endian. -/
def u16 (b : Bytes) (at_ : Nat) : Nat := u8 b at_ + 256 * u8 b (at_ + 1)

/-- Four bytes of a body, little-endian. -/
def u32 (b : Bytes) (at_ : Nat) : Nat := u16 b at_ + 65536 * u16 b (at_ + 2)

/-- Two bytes of a body, two's complement. -/
def i16 (b : Bytes) (at_ : Nat) : Int := (BitVec.ofNat 16 (u16 b at_)).toInt

/-- A flag byte: any value but 0 is read as set (12.4). -/
def uFlag (b : Bytes) (at_ : Nat) : Bool := u8 b at_ != 0

/-! ### CRC-16 (R20) -/

/-- One bit of the CRC: polynomial 0x1021, most significant bit first. -/
def crcShift (c : Crc16) : Crc16 := if c.msb then (c <<< 1) ^^^ 0x1021#16 else c <<< 1

/-- One byte of the CRC, most significant bit first. -/
def crcByte (c : Crc16) (b : Byte) : Crc16 :=
  crcShift (crcShift (crcShift (crcShift (crcShift (crcShift (crcShift (crcShift (c ^^^ (b.setWidth 16 <<< 8)))))))))

/-- The CRC-16 of a byte sequence: initial value 0xFFFF, neither reflected nor inverted (R20). -/
def crc16 (bytes : Bytes) : Crc16 := bytes.foldl crcByte 0xFFFF#16

/-! ### Enumerated values (12.4: one byte, numbered in the order given, from 0) -/

/-- The code of a phase kind. -/
def PhaseKind.code : PhaseKind → Nat
  | .work => 0
  | .changeover => 1
  | .break_ => 2
  | .setback => 3

/-- The phase kind of a code. -/
def phaseKind? : Nat → Option PhaseKind
  | 0 => some .work
  | 1 => some .changeover
  | 2 => some .break_
  | 3 => some .setback
  | _ => none

/-- The code of a role. -/
def Role.code : Role → Nat
  | .unused => 0
  | .heater => 1
  | .fan => 2
  | .light => 3
  | .curtain => 4
  | .docklight => 5

/-- The role of a code. -/
def role? : Nat → Option Role
  | 0 => some .unused
  | 1 => some .heater
  | 2 => some .fan
  | 3 => some .light
  | 4 => some .curtain
  | 5 => some .docklight
  | _ => none

/-- The code of a class. -/
def LoadClass.code : LoadClass → Nat
  | .light => 0
  | .heat => 1
  | .air => 2
  | .dock => 3

/-- The code of a channel state. -/
def ChannelState.code : ChannelState → Nat
  | .off => 0
  | .on => 1
  | .holdOff => 2
  | .tripped => 3

/-- The code of a door state. -/
def DoorState.code : DoorState → Nat
  | .unused => 0
  | .unknown => 1
  | .shut => 2
  | .shutDocked => 3
  | .openDocked => 4
  | .openBare => 5
  | .held => 6
  | .fault => 7

/-- The code of a loop result. -/
def LoopResult.code : LoopResult → Nat
  | .untested => 0
  | .connected => 1
  | .openLoop => 2

/-- The code of a session end reason. -/
def EndReason.code : EndReason → Nat
  | .departed => 0
  | .doorFault => 1
  | .disabled => 2
  | .restart => 3

/-- The code of a zone mode. -/
def ZoneMode.code : ZoneMode → Nat
  | .off => 0
  | .setback => 1
  | .occupied => 2
  | .precondition => 3
  | .stopped => 4

/-- The code of a ventilation state. -/
def VentState.code : VentState → Nat
  | .normal => 0
  | .purge => 1
  | .blind => 2
  | .stopped => 3

/-- The code of a point state. -/
def PointState.code : PointState → Nat
  | .unused => 0
  | .starting => 1
  | .good => 2
  | .stale => 3

/-- The code of a setpoint source. -/
def SetpointSource.code : SetpointSource → Nat
  | .override => 0
  | .current => 1
  | .next => 2

/-- The code of a freeze condition: its row of the table of R128, from 0. -/
def FreezeCondition.code : FreezeCondition → Nat
  | .tripped => 0
  | .heldBack => 1
  | .atTop => 2
  | .atBottom => 3

/-- The code of a lighting target source. -/
def LightSource.code : LightSource → Nat
  | .stopped => 0
  | .walk => 1
  | .override => 2
  | .vacant => 3
  | .scene => 4

/-- The code of a plant-stop state. -/
def PlantState.code : PlantState → Nat
  | .running => 0
  | .stopped => 1
  | .released => 2

/-- The code of a turn cause. -/
def TurnCause.code : TurnCause → Nat
  | .timed => 0
  | .jump => 1
  | .emptied => 2

/-- The code of a shed cause. -/
def ShedCause.code : ShedCause → Nat
  | .ceiling => 0
  | .profile => 1
  | .protected_ => 2

/-- The code of a check ending. -/
def CheckEnding.code : CheckEnding → Nat
  | .ended => 0
  | .expired => 1
  | .abandoned => 2

/-- The code of a walk ending. -/
def WalkEnding.code : WalkEnding → Nat
  | .complete => 0
  | .stopped => 1
  | .aborted => 2

/-- The code of an override's end cause. -/
def EndCause.code : EndCause → Nat
  | .expired => 0
  | .turn => 1
  | .cleared => 2

/-- The codes of an override target: target kind, then zone (R37). -/
def targetKindCode : OverrideTarget → Nat
  | .climate _ => 0
  | .light _ => 1

/-- The zone of an override target. -/
def targetZone : OverrideTarget → Nat
  | .climate z => z.val
  | .light z => z.val

/-- The code of a store reason. -/
def StoreReason.code : StoreReason → Nat
  | .noAnswer => 0
  | .checkFailed => 1
  | .compareFailed => 2

/-- The code of a store source. -/
def StoreSource.code : StoreSource → Nat
  | .store => 0
  | .defaults => 1

/-- The code of a last-save result. -/
def LastSave.code : LastSave → Nat
  | .none => 0
  | .done => 1
  | .failed => 2

/-- The code of a notice level. -/
def NoticeLevel.code : NoticeLevel → Nat
  | .alarms => 0
  | .alarmsAndOperation => 1
  | .all => 2

/-- The notice level of a code. -/
def noticeLevel? : Nat → Option NoticeLevel
  | 0 => some .alarms
  | 1 => some .alarmsAndOperation
  | 2 => some .all
  | _ => none

/-- The code of a notice (12.6). -/
def NoticeKind.code : NoticeKind → Nat
  | .heldOpen => 0x01
  | .doorFault => 0x02
  | .channelTripped => 0x03
  | .plantStop => 0x04
  | .pointStale => 0x05
  | .meterSilent => 0x06
  | .storeInvalid => 0x07
  | .saveFailed => 0x08
  | .logFull => 0x09
  | .noticesLost => 0x0A
  | .turn => 0x20
  | .checkDone => 0x21
  | .purgeStart => 0x22
  | .purgeEnd => 0x23
  | .plantReleased => 0x24
  | .plantResumed => 0x25
  | .saveDone => 0x26
  | .overrideEnded => 0x27
  | .walkDone => 0x28
  | .clockNeeded => 0x29
  | .pointRestored => 0x2A
  | .meterRestored => 0x2B
  | .shed => 0x40
  | .budgetTight => 0x41
  | .budgetEased => 0x42
  | .trailerArrived => 0x43
  | .trailerDeparted => 0x44

/-- The class of a notice (12.6). -/
def NoticeKind.cls : NoticeKind → NoticeClass
  | .heldOpen | .doorFault | .channelTripped | .plantStop | .pointStale | .meterSilent | .storeInvalid | .saveFailed
  | .logFull | .noticesLost => .alarm
  | .turn | .checkDone | .purgeStart | .purgeEnd | .plantReleased | .plantResumed | .saveDone | .overrideEnded | .walkDone
  | .clockNeeded | .pointRestored | .meterRestored => .operation
  | .shed | .budgetTight | .budgetEased | .trailerArrived | .trailerDeparted => .detail

/-! ### Record layouts (12.6) -/

/-- The flags byte of a phase record: bit 0 the precondition flag (12.6). -/
def phaseFlags (f : PhaseFields) : Bytes := leFlag f.precondition

/-- A phase record in its eight-byte layout, with start 0xFFFF for an absent start (12.6, R20). -/
def phaseBytes (start : Option Nat) (f : PhaseFields) : Bytes :=
  leStart start ++ le8 f.kind.code ++ le8 f.scene ++ le8 f.climateSet ++ le8 f.profile ++ le8 f.label ++ phaseFlags f

/-- A scene in the digest layout: 48 bytes (R20). -/
def sceneBytes (s : Scene) : Bytes := s.toList.flatMap le16

/-- A climate set in the digest layout: 48 bytes (R20). -/
def climateSetBytes (s : ClimateSet) : Bytes :=
  s.toList.flatMap fun e => leInt16 e.setpoint ++ le8 e.cap ++ le8 e.ventMin

/-- Four values in class order. -/
def classBytes (enc : Nat → Bytes) (p : PerClass Nat) : Bytes := enc p.light ++ enc p.heat ++ enc p.air ++ enc p.dock

/-- A profile in the digest layout: 22 bytes (R20). -/
def profileBytes (p : Profile) : Bytes :=
  classBytes le16 p.share ++ classBytes le8 p.weight ++ le16 p.tight ++ classBytes le16 p.urgency

/-- A session record in its 23-byte layout (12.6). -/
def sessionBytes (r : SessionRecord) : Bytes :=
  le16 r.session.number ++ le8 r.door ++ le8 r.reason.code ++ leTime r.session.arrival ++ leTime r.departure
    ++ le8 r.session.label ++ le32 r.session.openSeconds ++ le16 r.session.cycles ++ le32 r.session.loss

/-- A notice record in its layout (12.6). -/
def noticeBytes (n : Notice) : Bytes :=
  le8 (7 + n.data.length) ++ le8 n.kind.code ++ leTime n.time ++ le8 n.subject ++ n.data

/-- A frame: SYNC, LEN, TAG, KIND, BODY and the CRC over LEN through BODY, little-endian (R162, R164). -/
def frameBytes (tag kind : Byte) (body : Bytes) : Bytes :=
  let counted : Bytes := BitVec.ofNat 8 (2 + body.length) :: tag :: kind :: body
  0xC3#8 :: counted ++ le16 (crc16 counted).toNat

/-- The byte sequence the plan digest is taken over (R20). -/
def planBytes (phases : List PhaseRec) (scenes : Table Scene 16) (sets : Table ClimateSet 8)
    (profiles : Table Profile 4) (fallback : PhaseFields) : Bytes :=
  phases.flatMap (fun r => phaseBytes (some r.start) r.fields)
    ++ scenes.toList.flatMap sceneBytes ++ sets.toList.flatMap climateSetBytes
    ++ profiles.toList.flatMap profileBytes ++ phaseBytes none fallback

/-- The plan digest of what a plan holds now (R20). -/
def PlanUnit.digestNow (p : PlanUnit) : Crc16 :=
  crc16 (planBytes p.phases p.scenes p.climateSets p.profiles p.fallback)

/-! ### Configurations on the line and in the store image -/

/-- A channel field on the line. -/
def channelFieldByte (c : Option (Fin 128)) : Bytes := leOpt8 (c.map (·.val))

/-- A used mask as a number. -/
def maskOf {n : Nat} (t : Table Bool n) : Nat := ((indices n).map fun i => if look t i then 2 ^ i.val else 0).sum

/-- The six limits on the line (R55). -/
def limitsBytes (l : Limits) : Bytes :=
  le16 l.contract ++ le16 l.feed ++ le16 l.margin ++ le16 l.window ++ le16 l.wTotal ++ le16 l.wUnmanaged

/-- A door's configuration on the line, in the order of CONFIG DOOR (R103). -/
def doorConfigBytes (c : DoorConfig) : Bytes :=
  leFlag c.enabled ++ le8 c.zone ++ le8 c.kd ++ le16 c.heldTime ++ le8 c.debounce ++ channelFieldByte c.curtain
    ++ channelFieldByte c.light

/-- A zone's configuration on the line, in the order of CONFIG ZONE (R134). -/
def zoneConfigBytes (c : ZoneConfig) : Bytes :=
  channelFieldByte c.heater ++ channelFieldByte c.fan ++ le8 c.tempPoint ++ leOpt8 (c.exhaustPoint.map (·.val))
    ++ le16 c.kp ++ le8 c.ki ++ le16 c.imax ++ le16 c.phi ++ le8 c.kv ++ le8 c.mz ++ le16 c.occupiedFallback
    ++ le16 c.setbackFallback ++ le16 c.x1 ++ le16 c.x2 ++ le16 c.xp

/-- A lighting zone's configuration on the line, in the order of CONFIG LIGHT ZONE (R146, R155). -/
def lightConfigBytes (c : LightConfig) : Bytes :=
  channelFieldByte c.channel ++ leFlag c.presence ++ le16 c.hold ++ le16 c.breakHold ++ le16 c.setback ++ le16 c.protMin

/-! ### The store image (R158, R160, R161; its layout is the model's own, log entry 36) -/

/-- A channel's configuration in the store image, in the order of CONFIG CHANNEL, with 0xFF for no role target. -/
def channelImage (c : ChannelConfig) : Bytes :=
  le8 c.role.code ++ leOpt8 c.roleTarget ++ le8 c.steps ++ le16 c.rating ++ le8 c.priority ++ le16 c.minOn ++ le16 c.minOff
    ++ leFlag c.tripUsed ++ le16 c.protMin

/-- The point configuration in the store image, in the order of CONFIG POINT. -/
def pointImage (c : PointConfig) : Bytes :=
  le32 (maskOf c.tempUsed) ++ le16 (maskOf c.exhaustUsed) ++ le8 c.outdoorPoint ++ leInt16 c.designTemp

/-- The whole image of a snapshot, in the order in which R160 lists what it holds; the tables and the phases stand in the digest
layout of R20. -/
def Snapshot.image (c : Snapshot) : Bytes :=
  c.channels.toList.flatMap channelImage ++ c.doors.toList.flatMap doorConfigBytes ++ c.zones.toList.flatMap zoneConfigBytes
    ++ c.lights.toList.flatMap lightConfigBytes ++ pointImage c.points
    ++ c.scenes.toList.flatMap sceneBytes ++ c.climateSets.toList.flatMap climateSetBytes
    ++ c.profiles.toList.flatMap profileBytes
    ++ le8 c.phases.length ++ c.phases.flatMap (fun r => phaseBytes (some r.start) r.fields) ++ phaseBytes none c.fallback
    ++ limitsBytes c.limits ++ le8 c.level.code

/-- The CRC-16 over the whole image, in the manner of the plan digest (R158). -/
def Snapshot.crc (c : Snapshot) : Crc16 := crc16 c.image

/-- The image a whole write leaves: the snapshot with its CRC-16 (R161). -/
def Snapshot.written (c : Snapshot) : StoreImage := .written c c.crc

/-- The image a write that was cut short leaves: its CRC-16 does not verify (R158; which wrong CRC it holds is the model's choice,
log entry 36). -/
def Snapshot.cutShort (c : Snapshot) : StoreImage := .written c (~~~c.crc)

/-- What the check of R158 makes of an image: the snapshot, when its CRC-16 verifies; a store that was never written holds none. -/
def StoreImage.verified : StoreImage → Option Snapshot
  | .blank => none
  | .written c crc => if crc = c.crc then some c else none

end Sys2Proof.Machine
end

