-- ==== Sys2Proof/Machine/Defaults.lean ====
section
/-! DEFINITION. The factory defaults of every item of the snapshot (R158: a rejected image gives each its own chapter's default) and the
live state each record starts with after power-on and after a FULL restart. -/

namespace Sys2Proof.Machine

/-- The fallback phase of a rejected image (R9). -/
def defaultFallback : PhaseFields :=
  { kind := .work, scene := 0, climateSet := 0, profile := 0, label := 255, precondition := false }

/-- The factory allowance profile (R24). -/
def defaultProfile : Profile :=
  { share := ⟨150, 450, 150, 100⟩, weight := ⟨2, 4, 2, 8⟩, tight := 500, urgency := ⟨0, 300, 120, 0⟩ }

/-- The factory values of a zone in a climate set (R23). -/
def defaultClimateEntry : ClimateEntry := { setpoint := 150, cap := 8, ventMin := 1 }

/-- The factory channel configuration (R43). -/
def defaultChannel : ChannelConfig :=
  { role := .unused, roleTarget := none, steps := 1, rating := 1, priority := 0, minOn := 60, minOff := 120,
    tripUsed := false, protMin := 0 }

/-- The factory door configuration (R88). -/
def defaultDoor : DoorConfig :=
  { enabled := false, zone := 0, kd := 0, heldTime := 300, debounce := 2, curtain := none, light := none }

/-- The factory configuration of a climate zone (R122). -/
def defaultZone (z : Fin 12) : ZoneConfig :=
  { heater := none, fan := none, tempPoint := ⟨z.val, by omega⟩, exhaustPoint := none, kp := 80, ki := 10, imax := 600,
    phi := 500, kv := 0, mz := 0, occupiedFallback := 300, setbackFallback := 100, x1 := 300, x2 := 700, xp := 1000 }

/-- The factory configuration of a lighting zone (R145). -/
def defaultLight : LightConfig :=
  { channel := none, presence := false, hold := 600, breakHold := 180, setback := 0, protMin := 0 }

/-- The factory limits (R54). -/
def defaultLimits : Limits :=
  { contract := 12000, feed := 16000, margin := 300, window := 900, wTotal := 10, wUnmanaged := 10 }

/-- The factory point configuration (R120). -/
def defaultPoints : PointConfig :=
  { tempUsed := Vector.replicate 32 false, exhaustUsed := Vector.replicate 12 false, outdoorPoint := 31, designTemp := -350 }

/-- What a rejected image gives every item of the snapshot (R158). -/
def factorySnapshot : Snapshot :=
  { channels := Vector.replicate 128 defaultChannel
    doors := Vector.replicate 32 defaultDoor
    zones := Vector.ofFn defaultZone
    lights := Vector.replicate 24 defaultLight
    points := defaultPoints
    scenes := Vector.replicate 16 (Vector.replicate 24 1000)
    climateSets := Vector.replicate 8 (Vector.replicate 12 defaultClimateEntry)
    profiles := Vector.replicate 4 defaultProfile
    phases := []
    fallback := defaultFallback
    limits := defaultLimits
    level := .alarmsAndOperation }

/-- A channel as it starts: nothing granted, no timer running, serial 0, the trip input as sampled (R43). -/
def startChannel (cfg : ChannelConfig) (tripIn : Bool) : Channel :=
  { cfg := cfg, target := 0, granted := 0, minOnT := none, minOffT := none, serial := 0, tripIn := tripIn,
    tripped := false, entry := none, out := ⟨0, 0⟩ }

/-- A door as it starts, its raw inputs as sampled (R89, R108, R109). -/
def startDoor (cfg : DoorConfig) (rawOpen rawPresent : Bool) : Door :=
  { cfg := cfg, rawOpen := rawOpen, rawPresent := rawPresent, debOpen := rawOpen, debPresent := rawPresent,
    contactT := if cfg.enabled then some cfg.debounce else none,
    presenceT := if cfg.enabled then some cfg.debounce else none,
    state := if cfg.enabled then .unknown else .unused,
    heldT := none, heldLength := 0, loop := .untested, curtainRunning := false, sentLight := 0, sentCurtain := 0,
    cycles := 0, heldEpisodes := 0, rate := 0, stamp := 0, session := none }

/-- A sensor point as it starts: STARTING with its stale timer running when used, UNUSED otherwise (R117, R136). -/
def startPoint (used : Bool) (staleTime : Nat) : SensorPoint :=
  { state := if used then .starting else .unused, value := none, bad := 0,
    staleT := if used then some staleTime else none, lastGood := none }

/-- The figures of a zone before its first evaluation: 0, with source CURRENT and no reading (R134, R144). -/
def startFigures : ZoneFigures :=
  { evaluated := false, setpoint := 0, source := .current, lead := some 0, temperature := some 0, outdoor := 0,
    terms := some ⟨0, 0, 0, 0, 0, none⟩, integral := 0, fallbackCall := false, call := 0, target := 0, exhaust := none,
    ventMin := 0, computed := 0 }

/-- A climate zone as it starts; zone z's first evaluation comes 5 × z s after the load (R124, R125, R138). -/
def startZone (z : Fin 12) (cfg : ZoneConfig) : Zone :=
  { cfg := cfg, mode := .off, integral := 0, call := 0, heaterTarget := 0, deltaT := 0, evalT := 5 * z.val,
    figures := startFigures, vent := .normal, fanTarget := 0, lowerCandidate := none, purgeStart := 0 }

/-- A lighting zone as it starts, before its target is derived (R145). -/
def startLight (cfg : LightConfig) : LightZone :=
  { cfg := cfg, presenceT := none, vacant := false, source := .scene, target := 0, lastSent := 0, walkResult := none }

/-- The Shift Plan Unit as it starts with loaded tables: clock unset, the fallback phase current, no edits, no overrides (R1,
R10, R29, R32). -/
def startPlan (c : Snapshot) : PlanUnit :=
  let p : PlanUnit :=
    { clock := none, turnDue := none, phases := c.phases, fallback := c.fallback, previous := none,
      current := ⟨none, c.fallback⟩, next := none, totals := {}, scenes := c.scenes, climateSets := c.climateSets,
      profiles := c.profiles, edits := [], overrides := [], digest := 0 }
  { p with digest := p.digestNow }

/-- The Load Budget Unit as it starts, before its first figures: the first window at E = 0 and t = 0 with the active limits
equal to the configured ones (R43, R54, R57, R65, R67). -/
def startBudget (c : Snapshot) (tripIn : Fin 128 → Bool) : LoadBudget :=
  { channels := Vector.ofFn fun i => startChannel (look c.channels i) (tripIn i)
    lastSerial := 0, configured := c.limits, active := c.limits, nT := 0, nU := 0, sampleT := Config.samplePeriod,
    sinceSample := 0, energy := 0, elapsed := 0, windowLen := c.limits.window, estimated := false, pu := 0, ct := 0,
    managed := 0, pProt := 0, shareable := 0, reserve := ⟨0, 0, 0, 0⟩, pool := 0, silence := 0, silent := false,
    estimates := 0, lastWindow := none, tight := false, shed := false }

/-- The Dock Supervisor as it starts (R89, R104, R108, R112, R115). -/
def startDock (c : Snapshot) (rawOpen rawPresent : Fin 32 → Bool) : Dock :=
  { doors := Vector.ofFn fun d => startDoor (look c.doors d) (rawOpen d) (rawPresent d)
    zoneDT := Vector.replicate 12 0, check := none, log := [], lost := 0, lossReported := false, nextSession := 0 }

/-- The Climate Unit as it starts (R117, R120, R124, R135). -/
def startClimate (c : Snapshot) : Climate :=
  { zones := Vector.ofFn fun z => startZone z (look c.zones z)
    temps := Vector.ofFn fun p => startPoint (look c.points.tempUsed p) Config.tempStale
    exhausts := Vector.ofFn fun p => startPoint (look c.points.exhaustUsed p) Config.exhaustStale
    outdoorPoint := c.points.outdoorPoint, designTemp := c.points.designTemp }

/-- The Lighting Unit as it starts, before its presence timers and targets are settled (R145). -/
def startLighting (c : Snapshot) : Lighting :=
  { zones := c.lights.map startLight, walk := none, lastKind := c.fallback.kind }

/-- The Line Interface as it starts, keeping what was already handed to the transmitter (R162, R163, R168, R170). -/
def startLine (level : NoticeLevel) (sent : List Bytes) : Line :=
  { rx := [], buffer := [], notices := [], level := level, lost := 0, badFrames := 0, overruns := 0, attention := false,
    sent := sent }

end Sys2Proof.Machine
end

