-- ==== Sys2Proof/Machine/State.lean ====
section
/-! DEFINITION. The state of the part, its fault and refusal reasons, and its state after reset. -/

namespace Sys2Proof.Machine

/-- Fault reasons. THERE ARE NONE: the manual gives every command of the table an effect, or says that it does nothing, in every
state, so no meaning ends in a fault (NOTES.md, Stops). -/
inductive Fault where
  deriving DecidableEq, Repr

/-- Refusal reasons. -/
inductive Refusal where
  /-- Raised only by an arm of exec whose command has no meaning yet (safe: the run stops). No arm raises it now. -/
  | notModelled (mnemonic : String)
  deriving DecidableEq, Repr

/-- The state of the Prejun 3212, block by block (spec/00_scope.md, block overview), with the queue of waiting commands. -/
structure State where
  /-- The commands that wait, first in, first out (the model's own). -/
  pending : List Instr
  /-- Where the part stands in its start-up (R158). -/
  stage : Stage
  /-- The running-seconds count (R109). -/
  seconds : Nat
  plan : PlanUnit
  budget : LoadBudget
  dock : Dock
  climate : Climate
  lighting : Lighting
  stop : StopControl
  store : SettingStore
  line : Line
  /-- The model's own counter: how many free values have been drawn (log entries 12 and 15). -/
  drawn : Nat
  deriving DecidableEq, Repr

/-- The state the part takes from a configuration before any live state arises, with the inputs as they stand; that
the stop stamp of R156 is then 0 is a DESIGN CHOICE (log entry 1). -/
def State.fresh (stage : Stage) (c : Snapshot) (tripIn : Fin 128 → Bool) (rawOpen rawPresent : Fin 32 → Bool) (fire : Bool)
    (store : SettingStore) (sent : List Bytes) (pending : List Instr) (drawn : Nat) : State :=
  { pending := pending
    stage := stage
    seconds := 0
    plan := startPlan c
    budget := startBudget c tripIn
    dock := startDock c rawOpen rawPresent
    climate := startClimate c
    lighting := startLighting c
    stop := { state := .running, fire := fire, stopStamp := 0 }
    store := store
    line := startLine c.level sent
    drawn := drawn }

/-- The part held in power-on reset: the factory configuration, every input clear, an external store that was never
written, an empty queue (log entries 1 and 2 name each value the manual does not give). -/
def State.reset : State :=
  State.fresh .inReset factorySnapshot (fun _ => false) (fun _ => false) (fun _ => false) false
    { image := .blank, source := .defaults, saving := none, lastSave := .none } [] [] 0

end Sys2Proof.Machine
end

