-- ==== Sys2Proof/Machine/Flags.lean ====
section
/-! DEFINITION. What is derived from the state whenever it is needed and not stored: a channel's class, state, protected part, driven
level and output command (R38, R42, R47, R53), the class grants, pool use, free pool, tight condition, fair shares and
availability (R70 to R73), membership of the deficit set and of the start queue (R74, R75), and the door figures (R99, R108). -/

namespace Sys2Proof.Machine

/-! ### Channels -/

/-- Whether a role's load is driven in whole stages (R38). -/
def Role.isStep : Role → Bool
  | .heater | .fan | .curtain | .docklight => true
  | .unused | .light => false

/-- The class that follows from a role; UNUSED has none (R38). -/
def Role.cls : Role → Option LoadClass
  | .unused => none
  | .heater => some .heat
  | .fan => some .air
  | .light => some .light
  | .curtain | .docklight => some .dock

/-- units(level) = rating × level ÷ 1000, rounded up (R47, R61). -/
def units (rating level : Nat) : Nat := ceilDiv (rating * level) 1000

/-- The protected part of a channel: units(protected minimum) of a LIGHT channel while the plant is RUNNING, units(1000) while
it is STOPPED or RELEASED, and nothing for any other role (R47, R61). -/
def Channel.protPart (plant : PlantState) (c : Channel) : Nat :=
  match c.cfg.role with
  | .light => if plant = .running then units c.cfg.rating c.cfg.protMin else units c.cfg.rating 1000
  | _ => 0

/-- The non-protected grant of a channel (R70). -/
def Channel.nonProtected (plant : PlantState) (c : Channel) : Nat :=
  match c.cfg.role with
  | .unused => 0
  | .light => c.granted - c.protPart plant
  | _ => c.granted * c.cfg.rating

/-- The power a channel holds, its protected part included (R67, managed draw). -/
def Channel.draw (c : Channel) : Nat :=
  match c.cfg.role with
  | .unused => 0
  | .light => c.granted
  | _ => c.granted * c.cfg.rating

/-- The level a LIGHT channel drives; 0 for any other role (R47). -/
def Channel.drivenLevel (c : Channel) : Nat :=
  match c.cfg.role with
  | .light => if units c.cfg.rating c.target ≤ c.granted then c.target else c.granted * 1000 / c.cfg.rating
  | _ => 0

/-- The stages a step channel drives; 0 for any other role (R42). -/
def Channel.drivenSteps (c : Channel) : Nat := if c.cfg.role.isStep then c.granted else 0

/-- The output chain's command for a channel (R53). -/
def Channel.command (c : Channel) : Output :=
  match c.cfg.role with
  | .unused => ⟨0, 0⟩
  | .light => ⟨if 0 < c.drivenLevel then 1 else 0, c.drivenLevel * 10⟩
  | _ => ⟨c.granted, 0⟩

/-- The channel state (R42). -/
def Channel.state (c : Channel) : ChannelState :=
  match c.cfg.role with
  | .unused => .off
  | .light => if 0 < c.drivenLevel then .on else .off
  | _ => if c.tripped then .tripped else if 0 < c.granted then .on else if c.minOffT.isSome then .holdOff else .off

/-- A LIGHT channel's deficit, 0 when it does not stand in the deficit set (R74). -/
def Channel.deficit (c : Channel) : Nat :=
  match c.cfg.role with
  | .light => units c.cfg.rating c.target - c.granted
  | _ => 0

/-- The steps a channel's queue entry wants (R75). -/
def Channel.wanted (c : Channel) : Nat := c.target - c.granted

/-- Whether a channel's queue entry is held: exactly while its min-off timer runs (R75). -/
def Channel.heldEntry (c : Channel) : Bool := c.minOffT.isSome

/-- Whether a start-queue entry exists for a channel (R75). -/
def Channel.wantsEntry (plant : PlantState) (c : Channel) : Bool :=
  c.cfg.role.isStep && !c.tripped && c.granted < c.target && plant == .running

/-- Whether a channel is the one a role unit means: its role and role target are the sender's (R40). -/
def Channel.boundTo (c : Channel) (role : Role) (target : Nat) : Bool :=
  c.cfg.role == role && c.cfg.roleTarget == some target

/-! ### The state's own views -/

/-- A channel of the table. -/
def State.chan (s : State) (i : Fin 128) : Channel := look s.budget.channels i

/-- A door record. -/
def State.door (s : State) (d : Fin 32) : Door := look s.dock.doors d

/-- A climate zone record. -/
def State.zone (s : State) (z : Fin 12) : Zone := look s.climate.zones z

/-- A lighting zone record. -/
def State.light (s : State) (z : Fin 24) : LightZone := look s.lighting.zones z

/-- The kind of current (1.2.4). -/
def State.kind (s : State) : PhaseKind := s.plan.current.fields.kind

/-- The allowance profile that current names (R24). -/
def State.profile (s : State) : Profile := look s.plan.profiles s.plan.current.fields.profile

/-- Whether the plant is RUNNING (R156). -/
def State.plantRunning (s : State) : Bool := s.stop.state == .running

/-! ### The figures of the arbiter -/

/-- The class of a channel is c. -/
def Channel.inClass (k : LoadClass) (c : Channel) : Bool := c.cfg.role.cls == some k

/-- The grant of a class: Σ of the non-protected grants of its channels (R70). -/
def State.classGrant (s : State) (k : LoadClass) : Nat :=
  sumTable (fun c => if c.inClass k then c.nonProtected s.stop.state else 0) s.budget.channels

/-- The pool use of a class (R71). -/
def State.poolUsed (s : State) (k : LoadClass) : Nat := s.classGrant k - s.budget.reserve.get k

/-- Σ pool_used over the four classes (R71). -/
def State.poolUse (s : State) : Nat := s.poolUsed .light + s.poolUsed .heat + s.poolUsed .air + s.poolUsed .dock

/-- The free pool; negative only while shedding is in progress (R71). -/
def State.free (s : State) : Int := (s.budget.pool : Int) - s.poolUse

/-- The tight condition, tested afresh (R72). -/
def State.isTight (s : State) : Bool := s.free * 1000 < (s.budget.pool : Int) * s.profile.tight

/-- The fair share of a class (R73). -/
def State.fair (s : State) (k : LoadClass) : Nat := s.budget.pool * s.profile.weight.get k / s.profile.weight.sum

/-- The availability of a class: its reserve part and its pool part (R73). -/
def State.avail (s : State) (k : LoadClass) : Nat :=
  (s.budget.reserve.get k - s.classGrant k)
    + (if s.isTight then min s.free.toNat (s.fair k - s.poolUsed k) else s.free.toNat)

/-- The managed draw D (R67). -/
def State.managedDraw (s : State) : Nat := sumTable Channel.draw s.budget.channels

/-- The protected total (R61). -/
def State.protectedTotal (s : State) : Nat := sumTable (Channel.protPart s.stop.state) s.budget.channels

/-- The members of the lighting deficit set, by channel number (R74). -/
def State.deficitMembers (s : State) : List (Fin 128) := (indices 128).filter fun i => 0 < (s.chan i).deficit

/-- The channels that hold a start-queue entry, by channel number (R75). -/
def State.queued (s : State) : List (Fin 128) := (indices 128).filter fun i => (s.chan i).entry.isSome

/-! ### Doors -/

/-- The shut-type states (section 6.3). -/
def DoorState.shutType : DoorState → Bool
  | .shut | .shutDocked | .unknown => true
  | _ => false

/-- The open states (section 6.3). -/
def DoorState.isOpen : DoorState → Bool
  | .openDocked | .openBare | .held => true
  | _ => false

/-- The states that hold a session (R112). -/
def DoorState.docked : DoorState → Bool
  | .shutDocked | .openDocked => true
  | _ => false

/-- The pair state of two debounced inputs (section 6.3). -/
def pairState (contactOpen present : Bool) : DoorState :=
  match contactOpen, present with
  | false, false => .shut
  | false, true => .shutDocked
  | true, true => .openDocked
  | true, false => .openBare

/-- The state factor f in quarters (R108). -/
def Door.factor (d : Door) : Nat :=
  match d.state with
  | .openDocked => 1
  | .openBare | .held => if d.curtainRunning then 2 else 4
  | _ => 0

/-- The loss rate a door's record calls for (R108). -/
def State.lossRate (s : State) (d : Door) : Nat := d.cfg.kd * look s.dock.zoneDT d.cfg.zone * d.factor / 40

/-- The dock light target a door's state and the plant-stop state call for (R99). -/
def State.lightTarget (s : State) (d : Door) : Nat := if s.plantRunning && d.state.isOpen then 1 else 0

/-- The curtain target (R99). -/
def State.curtainTarget (s : State) (d : Door) : Nat :=
  if s.plantRunning && (d.state == .openBare || d.state == .held) then 1 else 0

/-- Whether a door is under test in the contact check that runs (R104). -/
def State.underTest (s : State) (d : Fin 32) : Bool :=
  match s.dock.check with
  | some k => look k.underTest d
  | none => false

/-! ### Zones -/

/-- Whether a channel a unit's configuration names is bound to the role and role target it means (R122, R145). -/
def State.present (s : State) (named : Option (Fin 128)) (role : Role) (target : Nat) : Bool :=
  match named with
  | some i => (s.chan i).boundTo role target
  | none => false

/-- The value of a zone's or lighting zone's override, if the table holds one (R127, R147). -/
def State.overrideFor (s : State) (t : OverrideTarget) : Option Int :=
  (s.plan.overrides.find? (·.target == t)).map (·.value)

/-- The outdoor temperature To in use, and whether it is the outdoor point's (R119). -/
def State.outdoor (s : State) : Int × Bool :=
  let p := look s.climate.temps s.climate.outdoorPoint
  match p.state, p.value with
  | .good, some v => (v, true)
  | _, _ => (s.climate.designTemp, false)

/-- Kinds in which a zone is occupied (1.2.4). -/
def PhaseKind.occupied : PhaseKind → Bool
  | .setback => false
  | _ => true

end Sys2Proof.Machine
end

