-- ==== Sys2Proof/Machine/Ops.lean ====
section
/-! DEFINITION. The named operations every meaning is written over: one update for each block's state, one write of a channel, a
door and a zone, the raising of a notice (R167, R168), the sending of a reply (R164), the reports to the phase totals (R12), and
the accrual of a door's loss with the curtain-grant event (R100, R109, R110). -/

namespace Sys2Proof.Machine

/-! ### One update for each block -/

/-- Replaces the Shift Plan Unit's state. -/
def State.setPlan (s : State) (p : PlanUnit) : State := { s with plan := p }
/-- Replaces the Load Budget Unit's state. -/
def State.setBudget (s : State) (b : LoadBudget) : State := { s with budget := b }
/-- Replaces the Dock Supervisor's state. -/
def State.setDock (s : State) (d : Dock) : State := { s with dock := d }
/-- Replaces the Climate Unit's state. -/
def State.setClimate (s : State) (c : Climate) : State := { s with climate := c }
/-- Replaces the Lighting Unit's state. -/
def State.setLighting (s : State) (l : Lighting) : State := { s with lighting := l }
/-- Replaces Stop Control's state. -/
def State.setStop (s : State) (c : StopControl) : State := { s with stop := c }
/-- Replaces the Setting Store interface's state. -/
def State.setStore (s : State) (c : SettingStore) : State := { s with store := c }
/-- Replaces the Line Interface's state. -/
def State.setLine (s : State) (l : Line) : State := { s with line := l }
/-- Replaces the running-seconds count. -/
def State.setSeconds (s : State) (n : Nat) : State := { s with seconds := n }

/-- Advances the free-value counter (the model's own). -/
def State.draw (s : State) : State := { s with drawn := s.drawn + 1 }

/-- Replaces a channel, and commands the output chain as its state then calls for (R53). -/
def State.putChan (s : State) (i : Fin 128) (c : Channel) : State :=
  s.setBudget { s.budget with channels := upd s.budget.channels i { c with out := c.command } }

/-- Replaces a door record. -/
def State.putDoor (s : State) (d : Fin 32) (x : Door) : State :=
  s.setDock { s.dock with doors := upd s.dock.doors d x }

/-- Replaces a climate zone record. -/
def State.putZone (s : State) (z : Fin 12) (x : Zone) : State :=
  s.setClimate { s.climate with zones := upd s.climate.zones z x }

/-- Replaces a lighting zone record. -/
def State.putLight (s : State) (z : Fin 24) (x : LightZone) : State :=
  s.setLighting { s.lighting with zones := upd s.lighting.zones z x }

/-- Applies an operation for each item of a list, in order. -/
def forEach {α : Type} (l : List α) (f : α → State → State) (s : State) : State := l.foldl (fun t a => f a t) s

/-! ### Notices and replies -/

/-- Whether a notice level queues a class (R167). -/
def NoticeLevel.passes : NoticeLevel → NoticeClass → Bool
  | _, .alarm => true
  | .alarms, _ => false
  | .alarmsAndOperation, .operation => true
  | .alarmsAndOperation, .detail => false
  | .all, _ => true

/-- A notice joins the queue and asserts the attention output, or is lost when the queue is full (R168, R170). -/
def Line.join (l : Line) (n : Notice) : Line :=
  if l.notices.length < Config.maxNotices then { l with notices := l.notices ++ [n], attention := true }
  else { l with lost := satAdd Config.max16 l.lost 1 }

/-- A block raises a notice: it takes the present shed time and joins the queue if its class passes the level (R167). -/
def raise (kind : NoticeKind) (subject : Nat) (data : Bytes) (s : State) : State :=
  if s.line.level.passes kind.cls then s.setLine (s.line.join ⟨kind, s.plan.clock, subject, data⟩) else s

/-- The reply to a request is formed and handed to the transmitter (R164). -/
def sendReply (tag kind : Byte) (body : Bytes) (s : State) : State :=
  s.setLine { s.line with sent := s.line.sent ++ [frameBytes tag (kind + 0x80) body] }

/-! ### Reports to the phase totals (R12) -/

/-- Replaces the totals of current. -/
def State.setTotals (s : State) (t : PhaseTotals) : State := s.setPlan { s.plan with totals := t }

/-- A docked accrual report. -/
def reportDocked (energy : Nat) (s : State) : State :=
  s.setTotals { s.plan.totals with docked := satAdd Config.max32 s.plan.totals.docked energy }

/-- A bare accrual report. -/
def reportBare (energy : Nat) (s : State) : State :=
  s.setTotals { s.plan.totals with bare := satAdd Config.max32 s.plan.totals.bare energy }

/-- A cycle report. -/
def reportCycle (s : State) : State :=
  s.setTotals { s.plan.totals with cycles := satAdd Config.max16 s.plan.totals.cycles 1 }

/-- A held report. -/
def reportHeld (s : State) : State :=
  s.setTotals { s.plan.totals with held := satAdd Config.max16 s.plan.totals.held 1 }

/-- A shed report. -/
def reportShed (s : State) : State :=
  s.setTotals { s.plan.totals with shed := satAdd Config.max16 s.plan.totals.shed 1 }

/-! ### Door loss (R108 to R110) and curtain running (R100) -/

/-- The energy of an accrual: the rate over the seconds since the door's stamp (R109). -/
def State.accruedEnergy (s : State) (d : Fin 32) : Nat := (s.door d).rate * (s.seconds - (s.door d).stamp)

/-- What an accrual adds to an open session: the energy, and the elapsed seconds of an interval in OPEN_DOCKED (R109, R113). -/
def Session.accrued (x : Session) (energy elapsed : Nat) (state : DoorState) : Session :=
  { x with
    loss := satAdd Config.max32 x.loss energy
    openSeconds := if state = .openDocked then satAdd Config.max32 x.openSeconds elapsed else x.openSeconds }

/-- An accrual of a door: the interval since its stamp is counted at the rate that held, to its open session or to the bare
total; an energy of 0 sends no report (R109, R110). -/
def accrue (d : Fin 32) (s : State) : State :=
  let x := s.door d
  let elapsed := s.seconds - x.stamp
  let energy := s.accruedEnergy d
  let t := s.putDoor d { x with stamp := s.seconds, session := x.session.map fun y => y.accrued energy elapsed x.state }
  if energy = 0 then t else if x.session.isSome then reportDocked energy t else reportBare energy t

/-- The loss rate is worked out afresh (R108). -/
def refreshRate (d : Fin 32) (s : State) : State :=
  let x := s.door d
  s.putDoor d { x with rate := s.lossRate x }

/-- Curtain running takes a value: a change of it is an accrual cause (R100, R109). -/
def setCurtainRunning (d : Fin 32) (running : Bool) (s : State) : State :=
  if (s.door d).curtainRunning = running then s
  else
    let t := accrue d s
    refreshRate d (t.putDoor d { t.door d with curtainRunning := running })

/-- The curtain-grant event: the door takes it when it names the channel as its curtain channel (R100). -/
def curtainGrant (i : Fin 128) (granted : Nat) (s : State) : State :=
  match (s.chan i).cfg.role, (s.chan i).cfg.roleTarget with
  | .curtain, some n =>
    match index? 32 n with
    | some d => if (s.door d).cfg.curtain = some i then setCurtainRunning d (0 < granted) s else s
    | none => s
  | _, _ => s

/-- A channel's granted steps or granted hW change: the output chain is commanded (R53), and a CURTAIN channel's door is told
(R100). -/
def setGranted (i : Fin 128) (granted : Nat) (s : State) : State :=
  let c := s.chan i
  let t := s.putChan i { c with granted := granted }
  if c.granted = granted then t else curtainGrant i granted t

end Sys2Proof.Machine
end

