-- ==== Sys2Proof/Machine/Arbiter.lean ====
section
/-! DEFINITION. The arbiter of the Load Budget Unit: the figures of the allowance (R59 to R62), the upkeep of the start queue (R76, R77),
the walk (R79 to R81), shedding (R82 to R84), the end of an arbiter event (R72, R85) and the hand-over of figures (R63). -/

namespace Sys2Proof.Machine

/-! ### Order -/

/-- Puts an item after every item it does not precede. -/
def insertBy {α : Type} (precedes : α → α → Bool) (x : α) : List α → List α
  | [] => [x]
  | y :: ys => if precedes x y then x :: y :: ys else y :: insertBy precedes x ys

/-- The items in order; items of which neither precedes the other keep the order they came in. -/
def sortBy {α : Type} (precedes : α → α → Bool) (l : List α) : List α := l.foldl (fun acc x => insertBy precedes x acc) []

/-- The first item in order, the earlier one of two of which neither precedes the other. -/
def firstBy {α : Type} (precedes : α → α → Bool) (l : List α) : Option α :=
  l.foldl (fun best x => match best with
    | none => some x
    | some b => if precedes x b then some x else some b) none

/-- Of two deficit members, the one of higher priority comes first (R80). -/
def deficitPrecedes (s : State) (i j : Fin 128) : Bool := (s.chan j).cfg.priority < (s.chan i).cfg.priority

/-- Of two queue entries: urgent first, then higher priority, then greater age (R81). -/
def entryPrecedes (s : State) (i j : Fin 128) : Bool :=
  match (s.chan i).entry, (s.chan j).entry with
  | some a, some b =>
    if a.urgent != b.urgent then a.urgent
    else if (s.chan i).cfg.priority != (s.chan j).cfg.priority then (s.chan j).cfg.priority < (s.chan i).cfg.priority
    else b.age < a.age
  | _, _ => false

/-- Of two shedding candidates: lower priority first, then higher step-up serial (R82). -/
def shedPrecedes (s : State) (i j : Fin 128) : Bool :=
  if (s.chan i).cfg.priority != (s.chan j).cfg.priority then (s.chan i).cfg.priority < (s.chan j).cfg.priority
  else (s.chan j).serial < (s.chan i).serial

/-- The deficit members in the order the walk takes them (R80). -/
def State.deficitOrder (s : State) : List (Fin 128) := sortBy (deficitPrecedes s) s.deficitMembers

/-- The queue entries in the order the walk takes them (R81). -/
def State.queueOrder (s : State) : List (Fin 128) := sortBy (entryPrecedes s) s.queued

/-! ### The figures of the allowance -/

/-- The remaining time r of the window (R58). -/
def LoadBudget.remaining (b : LoadBudget) : Nat := b.windowLen - b.elapsed

/-- The ceiling CT (R59). -/
def LoadBudget.ceiling (b : LoadBudget) : Nat :=
  if b.energy < b.active.contract * b.windowLen then
    min b.active.feed ((b.active.contract * b.windowLen - b.energy) / max b.remaining 60)
  else 0

/-- CT and C are worked out (R59, R60). -/
def ceil (s : State) : State :=
  let ct := s.budget.ceiling
  s.setBudget { s.budget with ct := ct, managed := ct - s.budget.pu - s.budget.active.margin }

/-- P_prot is worked out (R61). -/
def protect (s : State) : State := s.setBudget { s.budget with pProt := s.protectedTotal }

/-- C′, the four reserves and the pool are worked out from C and P_prot with the profile that current names (R62). -/
def figure (s : State) : State :=
  let c' := s.budget.managed - s.budget.pProt
  let reserve := PerClass.build fun k => c' * s.profile.share.get k / 1000
  s.setBudget { s.budget with shareable := c', reserve := reserve, pool := c' - reserve.sum }

/-! ### The start queue -/

/-- The urgency time of a channel's class in the profile that current names (R77). -/
def State.urgencyTime (s : State) (c : Channel) : Nat :=
  match c.cfg.role.cls with
  | some k => s.profile.urgency.get k
  | none => 0

/-- The start queue is kept for one channel: its entry is created, kept or removed so that R75 holds. `mark` is the urgent mark
of a target change (R76, R77). -/
def keepEntry (mark : Bool) (i : Fin 128) (s : State) : State :=
  let c := s.chan i
  if c.wantsEntry s.stop.state then
    match c.entry with
    | none => s.putChan i { c with entry := some ⟨0, mark || s.urgencyTime c == 0⟩ }
    | some e => if mark && !e.urgent then s.putChan i { c with entry := some { e with urgent := true } } else s
  else if c.entry.isSome then s.putChan i { c with entry := none } else s

/-- The change of the profile in use: each entry not urgent is measured against its class's new urgency time (R77). -/
def remeasureUrgency (s : State) : State :=
  forEach (indices 128) (fun i t =>
    match (t.chan i).entry with
    | some e =>
      if !e.urgent && t.urgencyTime (t.chan i) ≤ e.age then
        t.putChan i { t.chan i with entry := some { e with urgent := true } }
      else t
    | none => t) s

/-! ### The walk -/

/-- The channel takes the next step-up serial (R38, R44). -/
def takeSerial (i : Fin 128) (s : State) : State :=
  let n := satAdd Config.max32 s.budget.lastSerial 1
  let t := s.setBudget { s.budget with lastSerial := n }
  t.putChan i { t.chan i with serial := n }

/-- A step-up of k steps (R44). -/
def stepUp (i : Fin 128) (k : Nat) (s : State) : State :=
  let c := s.chan i
  let t := s.putChan i { c with minOnT := startTimer c.cfg.minOn }
  keepEntry false i (setGranted i (c.granted + k) (takeSerial i t))

/-- The visit of a deficit member (R80). -/
def lightVisit (i : Fin 128) (s : State) : State :=
  let c := s.chan i
  let g := min c.deficit (s.avail .light)
  if g = 0 then s else takeSerial i (s.putChan i { c with granted := c.granted + g })

/-- The steps the availability of a channel's class pays for (R81). -/
def State.payable (s : State) (c : Channel) : Nat :=
  match c.cfg.role.cls with
  | some k => s.avail k / c.cfg.rating
  | none => 0

/-- The second stage of the walk: each entry is visited once, and an urgent entry that cannot be served in full stops it
(R81). -/
def visitQueue : List (Fin 128) → State → State
  | [], s => s
  | i :: rest, s =>
    let c := s.chan i
    let k := s.payable c
    match c.entry with
    | none => visitQueue rest s
    | some e =>
      if c.heldEntry then visitQueue rest s
      else if c.wanted ≤ k then visitQueue rest (stepUp i c.wanted s)
      else if e.urgent then (if 0 < k then stepUp i k s else s)
      else visitQueue rest (if 0 < k then stepUp i k s else s)

/-- The walk: the lighting deficit set, then the start queue (R79 to R81). -/
def walk (s : State) : State :=
  let t := forEach s.deficitOrder lightVisit s
  visitQueue t.queueOrder t

/-! ### The end of an arbiter event -/

/-- The shed condition is cleared when the start queue and the deficit set are both empty (R85). -/
def settleShed (s : State) : State :=
  if s.queued.isEmpty && s.deficitMembers.isEmpty then s.setBudget { s.budget with shed := false } else s

/-- The data of BUDGET_TIGHT and BUDGET_EASED (R72). -/
def State.tightData (s : State) : Bytes :=
  leInt32 s.free ++ le32 s.budget.pool ++ le8 s.plan.current.fields.profile

/-- The tight flag is compared with the condition (R72). -/
def settleTight (s : State) : State :=
  if s.isTight = s.budget.tight then s
  else
    let t := s.setBudget { s.budget with tight := s.isTight }
    raise (if s.isTight then .budgetTight else .budgetEased) 0 s.tightData t

/-- The end of an event the arbiter handles (R72, R85). -/
def endEvent (s : State) : State := settleTight (settleShed s)

/-- A walk trigger handled whole: the walk and the end of its event (R79). -/
def arbitrate (s : State) : State := endEvent (walk s)

/-! ### Shedding -/

/-- The shedding candidates: channels with a non-protected grant whose class holds more than its reserve (R82). -/
def State.shedCandidates (s : State) : List (Fin 128) :=
  let overdrawn := PerClass.build fun k => decide (s.budget.reserve.get k < s.classGrant k)
  (indices 128).filter fun i =>
    0 < (s.chan i).nonProtected s.stop.state &&
      (match (s.chan i).cfg.role.cls with
        | some k => overdrawn.get k
        | none => false)

/-- What a candidate must give up: min(excess, g_c − reserve_c) (R83). -/
def State.shedNeed (s : State) (c : Channel) : Nat :=
  match c.cfg.role.cls with
  | some k => min (s.poolUse - s.budget.pool) (s.classGrant k - s.budget.reserve.get k)
  | none => 0

/-- A candidate loses grant (R48, R83). -/
def shedOne (i : Fin 128) (s : State) : State :=
  let c := s.chan i
  let need := s.shedNeed c
  match c.cfg.role with
  | .light => setGranted i (c.granted - min need (c.nonProtected s.stop.state)) s
  | _ =>
    let t := s.putChan i { c with minOffT := startTimer c.cfg.minOff }
    keepEntry false i (setGranted i (c.granted - min (ceilDiv need c.cfg.rating) c.granted) t)

/-- The shedding loop; each pass takes at least 1 hW off the excess, so the excess bounds the passes (R82). -/
def shedLoop : Nat → State → State
  | 0, s => s
  | n + 1, s =>
    if s.poolUse ≤ s.budget.pool then s
    else
      match firstBy (shedPrecedes s) s.shedCandidates with
      | none => s
      | some i => shedLoop n (shedOne i s)

/-- The channels that hold less in t than in s (R84). -/
def shedCount (s t : State) : Nat := ((indices 128).filter fun i => (t.chan i).granted < (s.chan i).granted).length

/-- Shedding with its notice, its report and the shed condition (R82 to R84). -/
def shedding (cause : ShedCause) (s : State) : State :=
  let t := shedLoop (s.poolUse - s.budget.pool) s
  if shedCount s t = 0 then s
  else
    let u := raise .shed 0 (le8 cause.code ++ le8 (shedCount s t) ++ le32 (s.managedDraw - t.managedDraw)) t
    let v := reportShed u
    v.setBudget { v.budget with shed := true }

/-- The hand-over of figures to the arbiter: shedding if the grants exceed them, the walk, and the end of the event (R63). -/
def handOver (cause : ShedCause) (s : State) : State := arbitrate (shedding cause s)

end Sys2Proof.Machine
end

