-- ==== Sys2Proof/Machine/Targets.lean ====
section
/-! DEFINITION. What the Load Budget Unit does at a channel when a role unit, the trip input, a timer, Stop Control or a restart acts on
it: target changes (R40, R45, R47, R74, R76), the protected-minimum event (R40), releases (R45), trips (R50), the plant-stop changes
(R49, R78), the PLANT restart (R43) and the start (R43, R65), with the demand window (R58, R64, R66 to R69). -/

namespace Sys2Proof.Machine

/-! ### Releases and target changes -/

/-- A release: the steps above the target are let go, min-off starts and the arbiter walks (R45). -/
def release (i : Fin 128) (s : State) : State :=
  let c := s.chan i
  let t := s.putChan i { c with minOffT := startTimer c.cfg.minOff }
  arbitrate (keepEntry false i (setGranted i c.target t))

/-- A step channel's stored target becomes v, which differs from it (R45, R76). -/
def stepTarget (i : Fin 128) (v : Nat) (mark : Bool) (s : State) : State :=
  let c := s.chan i
  let t := keepEntry (mark && c.target < v) i (s.putChan i { c with target := v })
  if v < c.granted then (if c.minOnT = none then release i t else settleShed t)
  else if (t.chan i).entry.isSome && c.target < v then arbitrate t
  else settleShed t

/-- A LIGHT channel's stored target becomes v, which differs from it (R47, R74). -/
def lightTargetChange (i : Fin 128) (v : Nat) (s : State) : State :=
  let c := s.chan i
  let need := units c.cfg.rating v
  let keep := max need (c.protPart s.stop.state)
  let t := s.putChan i { c with target := v }
  if c.granted < need then (if units c.cfg.rating c.target < need then arbitrate t else settleShed t)
  else if v < c.target && keep < c.granted then arbitrate (setGranted i keep t)
  else if 0 < c.deficit then arbitrate t
  else settleShed t

/-- A target change sent by a role unit: taken when the named channel's role and role target are the sender's (R40). A target
equal to the stored one changes nothing. -/
def targetChange (i : Fin 128) (role : Role) (of_ value : Nat) (mark : Bool) (s : State) : State :=
  let c := s.chan i
  if !c.boundTo role of_ then s
  else
    match role with
    | .unused => s
    | .light => if value = c.target then s else lightTargetChange i value s
    | _ => if min value c.cfg.steps = c.target then s else stepTarget i (min value c.cfg.steps) mark s

/-- P_prot, C′, the reserves and the pool are worked out between samples and handed to the arbiter (R61 to R63). -/
def reprotect (s : State) : State := handOver .protected_ (figure (protect s))

/-- The protected-minimum event: taken by the LIGHT channel of the zone, whose granted hW always includes the protected part (R40, R47).
P_prot is worked out afresh at every event taken, and the figures follow and go to the arbiter where P_prot or the minimum changes (R40, R61
to R63). An event that brings the minimum held, with P_prot coming out as it stands, leaves all as it is; that a changed minimum has the
figures handed over even where P_prot comes out the same is the model's reading (DEDUCED, log entry 20). -/
def protectedMinimum (i : Fin 128) (zone value : Nat) (s : State) : State :=
  let c := s.chan i
  let n := { c with cfg := { c.cfg with protMin := value } }
  let t := s.putChan i { n with granted := max n.granted (n.protPart s.stop.state) }
  if !c.boundTo .light zone then s
  else if value = c.cfg.protMin ∧ t.protectedTotal = s.budget.pProt then s
  else reprotect t

/-! ### Timers and trips -/

/-- The min-on timer expires; it is a timer of step channels (R45, R47). -/
def minOnExpired (i : Fin 128) (s : State) : State :=
  let c := s.chan i
  let t := s.putChan i { c with minOnT := none }
  if c.cfg.role.isStep && c.target < c.granted then release i t else t

/-- The min-off timer expires: the entry is no longer held and the arbiter walks (R46). -/
def minOffExpired (i : Fin 128) (s : State) : State := arbitrate (s.putChan i { s.chan i with minOffT := none })

/-- The urgency time of an entry is reached (R77). -/
def urgencyReached (i : Fin 128) (s : State) : State :=
  match (s.chan i).entry with
  | some e =>
    if !e.urgent && s.urgencyTime (s.chan i) ≤ e.age then
      arbitrate (s.putChan i { s.chan i with entry := some { e with urgent := true } })
    else s
  | none => s

/-- The data of CHANNEL_TRIPPED: role, role target and the steps held (R50). -/
def tripData (c : Channel) (held : Nat) : Bytes := le8 c.cfg.role.code ++ leOpt8 c.cfg.roleTarget ++ le8 held

/-- A channel enters TRIPPED (R50). -/
def trip (i : Fin 128) (s : State) : State :=
  let c := s.chan i
  let t := s.putChan i { c with tripped := true, entry := none, minOnT := none, minOffT := none }
  arbitrate (raise .channelTripped i (tripData c c.granted) (setGranted i 0 t))

/-- Whether an asserted trip input trips the channel (R38, R50). -/
def Channel.tripsNow (c : Channel) : Bool := c.cfg.role.isStep && c.cfg.tripUsed && !c.tripped && c.tripIn

/-! ### Plant stop (R49, R78) -/

/-- A channel's part of the change to STOPPED: a step channel that holds steps goes to zero with min-off started and min-on
cancelled; a LIGHT channel's granted hW is raised to units(1000) (R49). -/
def stopChannel (i : Fin 128) (s : State) : State :=
  let c := s.chan i
  match c.cfg.role with
  | .unused => s
  | .light => s.putChan i { c with granted := max c.granted (c.protPart s.stop.state) }
  | _ =>
    let t :=
      if 0 < c.granted then
        setGranted i 0 (s.putChan i { c with minOnT := none, minOffT := startTimer c.cfg.minOff })
      else s
    keepEntry false i t

/-- The Load Budget Unit takes the change to STOPPED (R49, R61, R78). -/
def budgetStop (s : State) : State := reprotect (forEach (indices 128) stopChannel s)

/-- The Load Budget Unit takes RESUME: the protected parts return to units(protected minimum), entries are created for the stored
targets, and the arbiter sheds where it must and walks (R49, R61, R63, R78). -/
def budgetResume (s : State) : State := reprotect (forEach (indices 128) (keepEntry false) s)

/-! ### PLANT restart (R43) -/

/-- A channel's part of a PLANT restart (R43). -/
def restartChannel (i : Fin 128) (s : State) : State :=
  let c := s.chan i
  let t := s.putChan i { c with target := 0, minOnT := none, entry := none }
  setGranted i (c.protPart s.stop.state) t

/-- The Load Budget Unit takes a PLANT restart (R43, R72, R85). -/
def budgetRestart (s : State) : State := endEvent (forEach (indices 128) restartChannel s)

/-! ### The meter sample and the demand window -/

/-- The configured limits but W become active at a meter sample (R56). -/
def activateLimits (b : LoadBudget) : LoadBudget :=
  { b with active := { b.configured with window := b.active.window } }

/-- The configured W becomes active at a window start (R56). -/
def activateWindow (b : LoadBudget) : LoadBudget :=
  { b with active := { b.active with window := b.configured.window } }

/-- Energy is added to the window (R58, R59); an estimate marks the window estimated (R68). -/
def addEnergy (e : Nat) (estimate : Bool) (b : LoadBudget) : LoadBudget :=
  { b with energy := satAdd Config.max32 b.energy e, estimated := b.estimated || estimate }

/-- The measured energy of the pulses counted (R58, R66). -/
def LoadBudget.measured (b : LoadBudget) : Nat := b.nT * b.active.wTotal * 36

/-- PU as step 2 of a sample works it out (R58). -/
def LoadBudget.newPu (b : LoadBudget) : Nat := b.nU * b.active.wUnmanaged * 36 / 10

/-- A sample takes its energy from the estimate, and counts it (R67, R68). -/
def takeEstimate (draw : Nat) (b : LoadBudget) : LoadBudget :=
  { addEnergy ((draw + b.newPu) * Config.samplePeriod) true b with estimates := satAdd Config.max16 b.estimates 1 }

/-- Step 1 of a meter sample: the energy of the interval and the meter silence (R58, R67 to R69). -/
def sampleEnergy (s : State) : State :=
  let b := s.budget
  let draw := s.managedDraw
  if 0 < b.nT then
    let t := s.setBudget (addEnergy b.measured false { b with silence := 0, silent := false })
    if b.silent then raise .meterRestored 0 (le16 b.estimates) t else t
  else if b.silent then s.setBudget (takeEstimate draw b)
  else if 0 < draw then
    if 6 ≤ b.silence + 1 then
      raise .meterSilent 0 (le32 draw ++ le32 b.newPu)
        (s.setBudget (takeEstimate draw { b with silence := 6, silent := true, estimates := 0 }))
    else s.setBudget { b with silence := b.silence + 1 }
  else s.setBudget { b with silence := 0 }

/-- The last-window record of a window that closes (R64). -/
def LoadBudget.closing (b : LoadBudget) (byClockSet : Bool) (time : Option Nat) : LastWindow :=
  { energy := b.energy, length := b.windowLen, average := b.energy / b.windowLen, contract := b.active.contract,
    overContract := b.active.contract * b.windowLen < b.energy, estimated := b.estimated, byClockSet := byClockSet,
    closeTime := time }

/-- The close of a window: the record, E and t at 0, the configured W active (R64, R66). -/
def closeWindow (byClockSet : Bool) (time : Option Nat) (b : LoadBudget) : LoadBudget :=
  activateWindow
    { b with lastWindow := some (b.closing byClockSet time), energy := 0, elapsed := 0, estimated := false }

/-- The length of a window that starts at a boundary (R64). -/
def boundaryLength (w : Nat) : Option Nat → Nat
  | none => w
  | some now => w - now % w

/-- The length of a window that a clock-set event opens at week-second v (R66). -/
def clockSetLength (w v : Nat) : Nat :=
  let n := ceilDiv (w - v % w) 10 * 10
  if n < 60 then n + w else n

/-- Steps 2 and 3 of a meter sample: PU, the elapsed time and the close of a full window (R58, R64). -/
def sampleWindow (s : State) : State :=
  let b := { s.budget with pu := s.budget.newPu, elapsed := s.budget.elapsed + Config.samplePeriod, nT := 0, nU := 0,
                           sampleT := Config.samplePeriod, sinceSample := 0 }
  if b.windowLen ≤ b.elapsed then
    let c := closeWindow false s.plan.clock b
    s.setBudget { c with windowLen := boundaryLength c.active.window s.plan.clock }
  else s.setBudget b

/-- A meter sample (R56, R58). -/
def meterSample (s : State) : State :=
  handOver .ceiling (figure (protect (ceil (sampleWindow (sampleEnergy (s.setBudget (activateLimits s.budget)))))))

/-- The clock-set event, the clock standing at its new value v (R66). In the silent condition the closing interval counts the seconds
since the last meter sample, which the event does not reset, up to 10 (R68, log entry 19). -/
def clockSetEvent (v : Nat) (s : State) : State :=
  let b := s.budget
  let read :=
    if b.silent then addEnergy ((s.managedDraw + b.pu) * min b.sinceSample Config.samplePeriod) true b
    else addEnergy b.measured false b
  let c := closeWindow true (some v) { read with nT := 0, nU := 0 }
  let t := s.setBudget { c with windowLen := clockSetLength c.active.window v, sampleT := Config.samplePeriod - v % 10 }
  handOver .ceiling (figure (ceil t))

/-! ### Events from the Shift Plan Unit and the start -/

/-- The profile in use has changed: the figures, the urgency of the entries and the hand-over (R62, R63, R77). -/
def profileChanged (s : State) : State := handOver .profile (remeasureUrgency (figure s))

/-- A channel's start: a LIGHT channel is granted its protected part; a step channel whose trip line is used and whose trip
input is asserted starts TRIPPED (R43). -/
def startUpChannel (i : Fin 128) (s : State) : State :=
  let c := s.chan i
  if c.tripsNow then raise .channelTripped i (tripData c 0) (s.putChan i { c with tripped := true })
  else s.putChan i { c with granted := c.protPart s.stop.state }

/-- The Load Budget Unit starts: channels, the first window's ceiling and the first figures (R43, R61, R65). Of several channels that start
TRIPPED the lowest raises its notice first (DESIGN CHOICE, log entry 39). -/
def budgetStart (s : State) : State :=
  handOver .ceiling (figure (ceil (protect (forEach (indices 128) startUpChannel s))))

end Sys2Proof.Machine
end

