-- ==== Sys2Proof/Machine/DockUnit.lean ====
section
/-! DEFINITION. The Dock Supervisor: door moves (R93 to R98), dock light and curtain targets (R99, R101), sessions and the session log
(R112 to R115), the zone ΔT event (R111), the contact check (R104 to R107) and the PLANT restart of the doors (R89). -/

namespace Sys2Proof.Machine

/-! ### Sessions -/

/-- A session opens at a door (R112). -/
def openSession (d : Fin 32) (s : State) : State :=
  let n := s.dock.nextSession
  let x := s.door d
  let t := s.putDoor d
    { x with session := some { number := n, arrival := s.plan.clock, label := s.plan.current.fields.label,
                               openSeconds := 0, cycles := 0, loss := 0 } }
  t.setDock { t.dock with nextSession := if n < 65534 then n + 1 else 0 }

/-- A closed record is offered to the session log (R115). -/
def offerSession (r : SessionRecord) (s : State) : State :=
  if s.dock.log.length < Config.maxSessions then s.setDock { s.dock with log := s.dock.log ++ [r] }
  else
    let lost := satAdd Config.max16 s.dock.lost 1
    let t := s.setDock { s.dock with lost := lost, lossReported := true }
    if s.dock.lossReported then t else raise .logFull r.door (le16 r.session.number ++ le16 lost) t

/-- The close of a door's open session after its accrual; nothing when none is open (R114 steps 2 to 4). -/
def closeSession (d : Fin 32) (reason : EndReason) (s : State) : State :=
  match (s.door d).session with
  | none => s
  | some x =>
    let t := s.putDoor d { s.door d with session := none }
    offerSession { door := d, reason := reason, departure := s.plan.clock, session := x } t

/-! ### Targets (R99) -/

/-- Sends a door's dock light target to the channel it names when it differs from the last sent (R99). -/
def sendLight (d : Fin 32) (s : State) : State :=
  let x := s.door d
  let v := s.lightTarget x
  match x.cfg.light with
  | none => s
  | some i =>
    if v = x.sentLight then s
    else targetChange i .docklight d v false (s.putDoor d { x with sentLight := v })

/-- Sends a door's curtain target to the channel it names when it differs from the last sent (R99). -/
def sendCurtain (d : Fin 32) (s : State) : State :=
  let x := s.door d
  let v := s.curtainTarget x
  match x.cfg.curtain with
  | none => s
  | some i =>
    if v = x.sentCurtain then s
    else targetChange i .curtain d v false (s.putDoor d { x with sentCurtain := v })

/-- The targets of a door are worked out afresh and sent where they changed (R99); the dock light is sent before the curtain (DESIGN
CHOICE, log entry 32). -/
def sendDoorTargets (d : Fin 32) (s : State) : State := sendCurtain d (sendLight d s)

/-- The Dock Supervisor takes a change of the plant-stop state (R101); the doors send their targets lowest first (DESIGN CHOICE, log
entry 32). -/
def dockPlantChange (s : State) : State := forEach (indices 32) sendDoorTargets s

/-! ### Moves of state -/

/-- The length of a held timer started now (R95). -/
def State.heldLengthNow (s : State) (d : Fin 32) : Nat :=
  if s.kind = .changeover then 2 * (s.door d).cfg.heldTime else (s.door d).cfg.heldTime

/-- A door's state becomes `new` after its accrual: a session left behind closes with `reason`, a session entered opens, and the
held timer starts on entry to OPEN_BARE and is cancelled on any other entry (R94, R95, R112, R114). -/
def enterState (d : Fin 32) (new : DoorState) (reason : EndReason) (s : State) : State :=
  let old := (s.door d).state
  let s1 := accrue d s
  let s2 := if new.docked then s1 else closeSession d reason s1
  let length := s2.heldLengthNow d
  let x := s2.door d
  let s3 := s2.putDoor d
    { x with
      state := new
      heldT := if new = .openBare then some length else none
      heldLength := if new = .openBare then length else x.heldLength }
  let s4 := if new.docked && !old.docked then openSession d s3 else s3
  refreshRate d s4

/-- A door cycle is counted: the door's counter, the report and the session open after the move (R97). -/
def countCycle (d : Fin 32) (s : State) : State :=
  let x := s.door d
  reportCycle (s.putDoor d
    { x with
      cycles := satAdd Config.max16 x.cycles 1
      session := x.session.map fun y => { y with cycles := satAdd Config.max16 y.cycles 1 } })

/-- A move on the door's inputs: the state, and a cycle when it leaves a shut-type state for an open one (R94, R97). -/
def moveDoor (d : Fin 32) (new : DoorState) (s : State) : State :=
  let cycle := (s.door d).state.shutType && new.isOpen
  let t := enterState d new .departed s
  if cycle then countCycle d t else t

/-- The trailer notice of a change of debounced presence; `closed` is the session the departure closed (R98). -/
def trailerNotice (d : Fin 32) (arrived : Bool) (closed : Option Nat) (s : State) : State :=
  if arrived then raise .trailerArrived d (le8 (s.door d).state.code) s
  else raise .trailerDeparted d (le8 (s.door d).state.code ++ leOpt16 closed) s

/-! ### Debounce -/

/-- The door's debounced input takes the raw value and its timer stops (R92). -/
def takeRaw (d : Fin 32) (input : DoorInput) (s : State) : State :=
  let x := s.door d
  match input with
  | .contact => s.putDoor d { x with debOpen := x.rawOpen, contactT := none }
  | .presence => s.putDoor d { x with debPresent := x.rawPresent, presenceT := none }

/-- Whether a debounce expiry would change the debounced input (R92). -/
def Door.changes (x : Door) : DoorInput → Bool
  | .contact => x.debOpen != x.rawOpen
  | .presence => x.debPresent != x.rawPresent

/-- The debounce timer of an input. -/
def Door.debounceT (x : Door) : DoorInput → Timer
  | .contact => x.contactT
  | .presence => x.presenceT

/-- A debounce timer expires (R92 to R94, R98, R99). -/
def debounceExpired (d : Fin 32) (input : DoorInput) (s : State) : State :=
  let x := s.door d
  let t := takeRaw d input s
  let y := t.door d
  match x.state with
  | .unused => t
  | .unknown =>
    sendDoorTargets d (moveDoor d (if x.loop = .openLoop then .fault else pairState y.debOpen y.debPresent) t)
  | .fault =>
    if x.changes input && input = .presence then trailerNotice d y.debPresent none t else t
  | _ =>
    if !x.changes input then t
    else
      let u := moveDoor d (pairState y.debOpen y.debPresent) t
      let v := if input = .presence then trailerNotice d y.debPresent (x.session.map (·.number)) u else u
      sendDoorTargets d v

/-- The held timer expires (R96). -/
def heldExpired (d : Fin 32) (s : State) : State :=
  let s1 := enterState d .held .departed s
  let x := s1.door d
  let s2 := s1.putDoor d { x with heldEpisodes := satAdd 255 x.heldEpisodes 1 }
  let s3 := raise .heldOpen d (le16 x.heldLength ++ le8 x.cfg.zone) (reportHeld s2)
  sendDoorTargets d s3

/-- Both debounce timers start from the door's debounce time (R89, R91, R106). -/
def startDebounce (d : Fin 32) (s : State) : State :=
  let x := s.door d
  s.putDoor d { x with contactT := some x.cfg.debounce, presenceT := some x.cfg.debounce }

/-! ### The zone ΔT event (R111) -/

/-- The doors whose configured climate zone is z, lowest first. -/
def State.doorsOfZone (s : State) (z : Fin 12) : List (Fin 32) := (indices 32).filter fun d => (s.door d).cfg.zone = z

/-- A zone ΔT event: each door of the zone accrues at the old rate, the copy is replaced, and the rates follow (R111). -/
def zoneDTEvent (z : Fin 12) (dT : Nat) (s : State) : State :=
  let doors := s.doorsOfZone z
  let t := forEach doors accrue s
  forEach doors refreshRate (t.setDock { t.dock with zoneDT := upd t.dock.zoneDT z dT })

/-! ### The contact check (R104 to R107) -/

/-- The doors under test, lowest first. -/
def ContactCheck.doors (k : ContactCheck) : List (Fin 32) := (indices 32).filter fun d => look k.underTest d

/-- A mask with the bit of each listed door set. -/
def doorMask (doors : List (Fin 32)) : Nat := (doors.map fun d => 2 ^ d.val).sum

/-- The start of a contact check: the doors enabled now are under test and their debounce timers are cancelled (R104). -/
def beginCheck (s : State) : State :=
  let k : ContactCheck :=
    { remaining := Config.checkLimit, underTest := s.dock.doors.map (·.cfg.enabled), sample := Vector.replicate 32 none }
  let t := s.setDock { s.dock with check := some k }
  forEach k.doors (fun d u => u.putDoor d { u.door d with contactT := none, presenceT := none }) t

/-- The end of the check at one door (R106 steps 1 to 4). -/
def endCheckAt (k : ContactCheck) (d : Fin 32) (s : State) : State :=
  let x := s.door d
  if look k.sample d = some true then
    let t := s.putDoor d { x with loop := .connected }
    if x.state = .fault then
      let u := t.putDoor d { t.door d with debOpen := x.rawOpen, debPresent := x.rawPresent }
      sendDoorTargets d (enterState d (pairState x.rawOpen x.rawPresent) .departed u)
    else startDebounce d t
  else
    let t := s.putDoor d { x with loop := .openLoop }
    let u :=
      if x.state = .fault then t
      else sendDoorTargets d (raise .doorFault d (le8 x.state.code) (enterState d .fault .doorFault t))
    startDebounce d u

/-- The doors under test whose loop result is now OPEN_LOOP. -/
def State.openLoops (s : State) (k : ContactCheck) : List (Fin 32) := k.doors.filter fun d => (s.door d).loop = .openLoop

/-- The end of a contact check (R106). -/
def endCheck (k : ContactCheck) (ending : CheckEnding) (s : State) : State :=
  let t := forEach k.doors (endCheckAt k) (s.setDock { s.dock with check := none })
  raise .checkDone 0 (le32 (doorMask (t.openLoops k)) ++ le8 k.doors.length ++ le8 ending.code) t

/-! ### Start and restart of the doors -/

/-- A PLANT restart at one door: the accrual, the close of its session with reason RESTART, and UNKNOWN or UNUSED afresh
(R89, R109). -/
def restartDoor (d : Fin 32) (s : State) : State :=
  let t := closeSession d .restart (accrue d s)
  let x := t.door d
  refreshRate d (t.putDoor d
    { x with
      debOpen := x.rawOpen, debPresent := x.rawPresent
      contactT := if x.cfg.enabled then some x.cfg.debounce else none
      presenceT := if x.cfg.enabled then some x.cfg.debounce else none
      state := if x.cfg.enabled then .unknown else .unused
      heldT := none, curtainRunning := false, sentLight := 0, sentCurtain := 0 })

/-- The Dock Supervisor takes a PLANT restart: a check in progress is abandoned, and every door starts again (R89, R107). -/
def dockRestart (s : State) : State :=
  let t :=
    match s.dock.check with
    | none => s
    | some k =>
      raise .checkDone 0 (le32 0 ++ le8 k.doors.length ++ le8 CheckEnding.abandoned.code)
        (s.setDock { s.dock with check := none })
  forEach (indices 32) restartDoor t

/-! ### The channel-bound event (R100) -/

/-- The Dock Supervisor answers a channel-bound event for a door's curtain when the door names the channel (R100). -/
def curtainBound (i : Fin 128) (d : Fin 32) (s : State) : State :=
  let x := s.door d
  if x.cfg.curtain = some i then
    targetChange i .curtain d (s.curtainTarget x) false (s.putDoor d { x with sentCurtain := s.curtainTarget x })
  else s

/-- The Dock Supervisor answers a channel-bound event for a door's dock light when the door names the channel (R100). -/
def docklightBound (i : Fin 128) (d : Fin 32) (s : State) : State :=
  let x := s.door d
  if x.cfg.light = some i then
    targetChange i .docklight d (s.lightTarget x) false (s.putDoor d { x with sentLight := s.lightTarget x })
  else s

end Sys2Proof.Machine
end

