-- ==== Sys2Proof/Machine/ClimateUnit.lean ====
section
/-! DEFINITION. The Climate Unit: sensor points (R117, R118, R135, R136), the zone evaluation with its heating steps (R125 to R131) and
ventilation steps (R139 to R142), plant stop and RESUME (R132, R143), the PLANT restart (R124, R138) and the channel-bound event
(R133). -/

namespace Sys2Proof.Machine

/-! ### Sensor points -/

/-- A good sample: the held value, the restarted stale timer and the time of the sample; the point becomes GOOD (R117, R135). -/
def SensorPoint.takeGood (p : SensorPoint) (v : Int) (staleTime now : Nat) : SensorPoint :=
  { p with state := .good, value := some v, staleT := some staleTime, lastGood := some now }

/-- A bad sample (R117, R135). -/
def SensorPoint.takeBad (p : SensorPoint) : SensorPoint := { p with bad := satAdd 255 p.bad 1 }

/-- The reading of a sample that lies in lo–hi (R117, R135). -/
def goodReading (lo hi : Int) : SensorSample → Option Int
  | .reading v => if lo ≤ v ∧ v ≤ hi then some v else none
  | .noAnswer => none

/-- A point after a sample; an UNUSED point drops it (R117, R135). -/
def SensorPoint.take (p : SensorPoint) (lo hi : Int) (staleTime now : Nat) (x : SensorSample) : SensorPoint :=
  if p.state = .unused then p
  else match goodReading lo hi x with
    | some v => p.takeGood v staleTime now
    | none => p.takeBad

/-- The notice of a sample: POINT_RESTORED when a good one reaches a STALE point (R118, R136). -/
def sampleNotice (before after : SensorPoint) (sensor : Nat) (s : State) : State :=
  if before.state = .stale && after.state = .good then
    raise .pointRestored sensor (leInt16 (after.value.getD 0)) s
  else s

/-- A point whose stale timer expires (R118, R136). -/
def SensorPoint.goStale (p : SensorPoint) : SensorPoint := { p with state := .stale, staleT := none }

/-- The data of POINT_STALE: the held value, 0x8000 when there is none, and the bad count (R118). -/
def staleData (p : SensorPoint) : Bytes :=
  (match p.value with
    | some v => leInt16 v
    | none => le16 0x8000) ++ le8 p.bad

/-- A point as a used mask leaves it (R120, R136). -/
def SensorPoint.use (p : SensorPoint) (used : Bool) (staleTime : Nat) : SensorPoint :=
  if used = (p.state != .unused) then p else startPoint used staleTime

/-! ### The heating steps -/

/-- The climate entry of a zone in the set that current names (R23). -/
def State.currentEntry (s : State) (z : Fin 12) : ClimateEntry :=
  look (look s.plan.climateSets s.plan.current.fields.climateSet) z

/-- The list record next names (R10). -/
def State.nextRecord (s : State) : Option PhaseRec :=
  match s.plan.next with
  | none => none
  | some m => s.plan.phases.find? (·.start = m)

/-- The seconds from now to a week-second start, cyclically, 1–604 800 (R127). -/
def secondsUntil (now start : Nat) : Nat :=
  let d := (start + Config.weekSeconds - now) % Config.weekSeconds
  if d = 0 then Config.weekSeconds else d

/-- Whether a zone's heater is present (R122): the channel table as it stands, for READ ZONE and a plant stop too (DESIGN CHOICE, log
entry 34). -/
def State.heaterPresent (s : State) (z : Fin 12) : Bool := s.present (s.zone z).cfg.heater .heater z

/-- Whether a zone's fan is present (R122). -/
def State.fanPresent (s : State) (z : Fin 12) : Bool := s.present (s.zone z).cfg.fan .fan z

/-- The channel a zone names, when it is present. -/
def State.boundChannel (s : State) (named : Option (Fin 128)) (role : Role) (of_ : Nat) : Option Channel :=
  match named with
  | some i => if (s.chan i).boundTo role of_ then some (s.chan i) else none
  | none => none

/-- A zone's temperature point. -/
def State.zonePoint (s : State) (z : Fin 12) : SensorPoint := look s.climate.temps (s.zone z).cfg.tempPoint

/-- Zone ΔT as an evaluation works it out (R131). -/
def State.zoneDT (s : State) (z : Fin 12) : Nat :=
  match (s.zonePoint z).value with
  | some v => (clampInt 0 1300 (v - s.outdoor.1)).toNat
  | none => 0

/-- The lead in minutes toward next's record and this zone's entry in its set, when every condition of preconditioning before the
lead holds (R127); that READ ZONE reports a lead only then is the model's choice (DESIGN CHOICE, log entry 34). -/
def State.lead (s : State) (z : Fin 12) : Option (PhaseRec × ClimateEntry × Nat) :=
  let p := s.zonePoint z
  match s.nextRecord, p.value with
  | some r, some v =>
    let e := look (look s.plan.climateSets r.fields.climateSet) z
    if (s.overrideFor (.climate z)).isNone && s.heaterPresent z && s.plantRunning && p.state == .good
        && r.fields.precondition && (s.currentEntry z).setpoint < e.setpoint then
      some (r, e, (clampInt 0 240 (((e.setpoint - v) * (s.zone z).cfg.mz).tdiv 10)).toNat)
    else none
  | _, _ => none

/-- The entry of next's set toward which the zone preconditions (R127). -/
def State.preconditions (s : State) (z : Fin 12) : Option ClimateEntry :=
  match s.lead z, s.plan.clock with
  | some (r, e, lead), some now => if secondsUntil now (r.start * 60) ≤ lead * 60 then some e else none
  | _, _ => none

/-- The mode an evaluation sets (R126). -/
def State.modeNow (s : State) (z : Fin 12) : ZoneMode :=
  if !s.plantRunning then .stopped
  else if !s.heaterPresent z then .off
  else if (s.preconditions z).isSome then .precondition
  else if s.kind.occupied then .occupied
  else .setback

/-- The setpoint, its source and the heat stage cap of the active set (R127). -/
def State.setpoint (s : State) (z : Fin 12) : Int × SetpointSource × Nat :=
  match s.overrideFor (.climate z), s.preconditions z with
  | some v, _ => (v, .override, (s.currentEntry z).cap)
  | none, some e => (e.setpoint, .next, e.cap)
  | none, none => ((s.currentEntry z).setpoint, .current, (s.currentEntry z).cap)

/-- The condition that freezes the integral; of several that hold at once the first in the table order of R128 is reported (R128, R134;
DESIGN CHOICE, log entry 43). -/
def freezeCondition (h : Channel) (call : Nat) (e : Int) : Option FreezeCondition :=
  if h.tripped then some .tripped
  else if h.granted < h.target && 0 < e then some .heldBack
  else if call = 1000 && 0 < e then some .atTop
  else if call = 0 && e < 0 then some .atBottom
  else none

/-- The zone's loss: the loss rates of its doors and the heat its running fan steps carry out (R129). -/
def State.zoneLoss (s : State) (z : Fin 12) : Nat :=
  let fanSteps := match s.boundChannel (s.zone z).cfg.fan .fan z with
    | some c => c.granted
    | none => 0
  ((s.doorsOfZone z).map fun d => (s.door d).rate).sum + (s.zone z).cfg.kv * fanSteps * s.zoneDT z / 10

/-- The integral after an evaluation that works out the error e (R128). -/
def Zone.nextIntegral (x : Zone) (frozen : Option FreezeCondition) (e : Int) : Int :=
  if frozen.isSome then x.integral else clampInt (-x.cfg.imax) x.cfg.imax (x.integral + e)

/-- The terms of the heat call and the new integral, for a GOOD point at temperature v and a present heater h (R128, R129). -/
def State.heatTerms (s : State) (z : Fin 12) (h : Channel) (v : Int) : HeatTerms × Int :=
  let x := s.zone z
  let e := clampInt (-300) 300 ((s.setpoint z).1 - v)
  let frozen := freezeCondition h x.call e
  let i := x.nextIntegral frozen e
  let loss := s.zoneLoss z
  ({ error := e, proportional := (x.cfg.kp * e).tdiv 10, integralTerm := (x.cfg.ki * i).tdiv 10, loss := loss,
     feedforward := min 1000 (loss * x.cfg.phi / (h.cfg.steps * h.cfg.rating)), frozen := frozen }, i)

/-- The heater target from the call: a stage is added 400 ‰ past its boundary and dropped 400 ‰ below it, within N and the cap
(R130). -/
def stages (call n s cap : Nat) : Nat :=
  let up := (call * n + 400) / 1000
  let down := (call * n + 600) / 1000
  min (if s < up then up else if down < s then down else s) (min n cap)

/-- What the heating steps work out: the terms (when the error is worked out), the integral, the call, whether it is a fallback
call, and the heater target (R128 to R130). -/
structure HeatResult where
  terms : Option HeatTerms
  integral : Int
  call : Nat
  fallback : Bool
  target : Nat
  deriving DecidableEq, Repr

/-- The heating steps of an evaluation in a mode (R126 to R130). -/
def State.heating (s : State) (z : Fin 12) (mode : ZoneMode) : HeatResult :=
  let x := s.zone z
  let p := s.zonePoint z
  let cap := (s.setpoint z).2.2
  match s.boundChannel x.cfg.heater .heater z with
  | none => ⟨none, x.integral, 0, false, 0⟩
  | some h =>
    if mode = .off ∨ mode = .stopped then ⟨none, x.integral, 0, false, 0⟩
    else
      match p.state, p.value with
      | .good, some v =>
        let (t, i) := s.heatTerms z h v
        let c := (clampInt 0 1000 (t.proportional + t.integralTerm + t.feedforward)).toNat
        ⟨some t, i, c, false, stages c h.cfg.steps x.heaterTarget cap⟩
      | _, _ =>
        let c := if mode = .setback then x.cfg.setbackFallback else x.cfg.occupiedFallback
        ⟨none, x.integral, c, true, stages c h.cfg.steps x.heaterTarget cap⟩

/-- The heater target becomes `new` and is sent while the heater is present, when it differs from the last one (R130). -/
def sendHeater (z : Fin 12) (new : Nat) (s : State) : State :=
  let x := s.zone z
  if new = x.heaterTarget then s
  else
    let t := s.putZone z { x with heaterTarget := new }
    match x.cfg.heater with
    | some i => if s.heaterPresent z then targetChange i .heater z new false t else t
    | none => t

/-! ### The ventilation steps -/

/-- The exhaust reading that is available to a zone (R139). -/
def State.exhaustReading (s : State) (z : Fin 12) : Option Int :=
  match (s.zone z).cfg.exhaustPoint with
  | none => none
  | some p => if (look s.climate.exhausts p).state = .good then (look s.climate.exhausts p).value else none

/-- Whether a zone's named exhaust point is STALE (R139). -/
def State.exhaustStale (s : State) (z : Fin 12) : Bool :=
  match (s.zone z).cfg.exhaustPoint with
  | none => false
  | some p => (look s.climate.exhausts p).state == .stale

/-- The ventilation state an evaluation sets (R139). -/
def State.ventNow (s : State) (z : Fin 12) : VentState :=
  if !s.plantRunning then .stopped
  else if s.exhaustStale z then .blind
  else
    match s.exhaustReading z with
    | none => .normal
    | some x =>
      let xp : Int := (s.zone z).cfg.xp
      if (s.zone z).vent = .purge ∧ xp - 100 ≤ x then .purge
      else if xp ≤ x then .purge
      else .normal

/-- The ventilation state becomes `new`, with the notices of entry to and exit from PURGE (R139). A plant stop raises PURGE_END with the
reading as it stands at the stop (DESIGN CHOICE, log entry 40). -/
def setVent (z : Fin 12) (new : VentState) (s : State) : State :=
  let x := s.zone z
  let reading := s.exhaustReading z
  let t := s.putZone z { x with vent := new, purgeStart := if new = .purge ∧ x.vent ≠ .purge then s.seconds else x.purgeStart }
  if new = .purge ∧ x.vent ≠ .purge then
    raise .purgeStart z (leOpt8 (x.cfg.exhaustPoint.map (·.val)) ++ leInt16 (reading.getD 0) ++ le16 x.cfg.xp) t
  else if x.vent = .purge ∧ new ≠ .purge then
    raise .purgeEnd z
      (le8 new.code ++ leOpt16 (reading.map Int.toNat) ++ le16 (min Config.max16 (s.seconds - x.purgeStart))) t
  else t

/-- N of the ventilation steps: the fan channel's steps while the fan is present (R140). -/
def State.fanSteps (s : State) (z : Fin 12) : Nat :=
  match s.boundChannel (s.zone z).cfg.fan .fan z with
  | some c => c.cfg.steps
  | none => 0

/-- The ventilation minimum of an evaluation (R140). -/
def State.ventMin (s : State) (z : Fin 12) : Nat :=
  if s.kind = .setback then 0 else min (s.currentEntry z).ventMin (s.fanSteps z)

/-- The computed target of a ventilation state (R140). -/
def State.computedFan (s : State) (z : Fin 12) (v : VentState) : Nat :=
  let n := s.fanSteps z
  let minv := s.ventMin z
  let c := (s.zone z).cfg
  match v with
  | .stopped => 0
  | .purge => n
  | .blind => if s.kind.occupied then n else minv
  | .normal =>
    match s.exhaustReading z with
    | none => minv
    | some r =>
      let x := r.toNat
      if x ≤ c.x1 then minv
      else if c.x2 ≤ x then n
      else minv + ceilDiv ((x - c.x1) * (n - minv)) (c.x2 - c.x1)

/-- The new fan target and the lower candidate after it (R141). -/
def adoptFan (v : VentState) (computed f : Nat) (candidate : Option Nat) : Nat × Option Nat :=
  if v ≠ .normal then (computed, none)
  else if f < computed then (computed, none)
  else if computed = f then (f, none)
  else match candidate with
    | none => (f, some computed)
    | some k => (max computed k, none)

/-- The fan target becomes `new` and is sent while the fan is present, with the urgent mark in PURGE, when it differs (R142). -/
def sendFan (z : Fin 12) (new : Nat) (s : State) : State :=
  let x := s.zone z
  if new = x.fanTarget then s
  else
    let t := s.putZone z { x with fanTarget := new }
    match x.cfg.fan with
    | some i => if s.fanPresent z then targetChange i .fan z new (x.vent == .purge) t else t
    | none => t

/-- The ventilation steps of an evaluation (R139 to R142). -/
def ventilate (z : Fin 12) (s : State) : State :=
  let t := setVent z (s.ventNow z) s
  let x := t.zone z
  let computed := t.computedFan z x.vent
  let (f, candidate) := adoptFan x.vent computed x.fanTarget x.lowerCandidate
  let u := t.putZone z
    { x with
      lowerCandidate := candidate
      figures := { x.figures with exhaust := t.exhaustReading z, ventMin := t.ventMin z, computed := computed } }
  sendFan z f u

/-! ### The zone evaluation -/

/-- Parts 1 and 2 of an evaluation: the mode and the heating steps (R126 to R130). -/
def heat (z : Fin 12) (s : State) : State :=
  let x := s.zone z
  let mode := s.modeNow z
  let r := s.heating z mode
  let sp := s.setpoint z
  let t := s.putZone z
    { x with
      mode := mode, integral := r.integral, call := r.call
      figures :=
        { x.figures with
          evaluated := true, setpoint := sp.1, source := sp.2.1, lead := (s.lead z).map (·.2.2)
          temperature := (s.zonePoint z).value, outdoor := s.outdoor.1, terms := r.terms, integral := r.integral
          fallbackCall := r.fallback, call := r.call, target := r.target } }
  sendHeater z r.target t

/-- One evaluation of a zone, taken whole: the heating steps, the ventilation steps and the delivery of the zone ΔT, on the
readings as they stand when it is taken (R125, R131). -/
def evaluate (z : Fin 12) (s : State) : State :=
  let dT := s.zoneDT z
  let t := ventilate z (heat z s)
  (zoneDTEvent z dT (t.putZone z { t.zone z with deltaT := dT })).draw

/-- The evaluation timer's expiry: one evaluation, and the timer restarts from 60 s (R125). -/
def evaluationExpired (z : Fin 12) (s : State) : State :=
  let t := evaluate z s
  t.putZone z { t.zone z with evalT := Config.evaluationPeriod }

/-! ### Plant stop, RESUME, restart, binding -/

/-- A zone's part of the change to STOPPED (R132, R143). A zone that has had no evaluation yet becomes STOPPED as well (DESIGN CHOICE, log
entry 37). -/
def stopZone (z : Fin 12) (s : State) : State :=
  let x := s.zone z
  let t := sendHeater z 0 (s.putZone z { x with mode := .stopped, integral := 0, call := 0 })
  let u := setVent z .stopped t
  sendFan z 0 (u.putZone z { u.zone z with lowerCandidate := none })

/-- The Climate Unit takes the change to STOPPED (R132, R143); zone 0 is taken first (DESIGN CHOICE, log entry 39). -/
def climateStop (s : State) : State := forEach (indices 12) stopZone s

/-- The Climate Unit takes RESUME: one evaluation of every zone, in zone order, which leaves the timers (R132). -/
def climateResume (s : State) : State := forEach (indices 12) evaluate s

/-- A zone's part of a PLANT restart (R124, R138). -/
def restartZone (x : Zone) : Zone :=
  { x with integral := 0, call := 0, heaterTarget := 0, fanTarget := 0, lowerCandidate := none }

/-- The Climate Unit takes a PLANT restart (R124, R138). -/
def climateRestart (s : State) : State := s.setClimate { s.climate with zones := s.climate.zones.map restartZone }

/-- The Climate Unit answers a channel-bound event for a zone's heater when the zone names the channel (R133). -/
def heaterBound (i : Fin 128) (z : Fin 12) (s : State) : State :=
  if (s.zone z).cfg.heater = some i then targetChange i .heater z (s.zone z).heaterTarget false s else s

/-- The Climate Unit answers a channel-bound event for a zone's fan when the zone names the channel (R133, R77). -/
def fanBound (i : Fin 128) (z : Fin 12) (s : State) : State :=
  if (s.zone z).cfg.fan = some i then
    targetChange i .fan z (s.zone z).fanTarget ((s.zone z).vent == .purge) s
  else s

end Sys2Proof.Machine
end

