-- ==== Sys2Proof/Machine/LightingUnit.lean ====
section
/-! DEFINITION. The Lighting Unit: the choice and sending of a zone's target (R147), presence and vacancy (R148, R149), the commissioning
walk (R152 to R154), and its parts of plant stop, restart, start and channel binding (R145, R150). -/

namespace Sys2Proof.Machine

/-! ### The target -/

/-- The level of a zone in the scene that current names (R22). -/
def State.sceneLevel (s : State) (z : Fin 24) : Nat := look (look s.plan.scenes s.plan.current.fields.scene) z

/-- The line of R147 that applies: its level before the floor, and the source. -/
def State.chosenLevel (s : State) (z : Fin 24) : Nat × LightSource :=
  let x := s.light z
  if !s.plantRunning then (1000, .stopped)
  else
    match s.lighting.walk, s.overrideFor (.light z) with
    | some w, _ => (if w.visiting = z then 1000 else x.cfg.protMin, .walk)
    | none, some v => (v.toNat, .override)
    | none, none => if x.vacant then (min (s.sceneLevel z) x.cfg.setback, .vacant) else (s.sceneLevel z, .scene)

/-- A zone's target: the chosen level raised to the protected minimum (R147). -/
def State.lightLevel (s : State) (z : Fin 24) : Nat := max (s.chosenLevel z).1 (s.light z).cfg.protMin

/-- Whether a lighting zone's channel is present (R145). -/
def State.lightPresent (s : State) (z : Fin 24) : Bool := s.present (s.light z).cfg.channel .light z

/-- A zone's target is derived, and sent when it differs from the last sent and the channel is present (R147). -/
def deriveLight (z : Fin 24) (s : State) : State :=
  let x := s.light z
  let v := s.lightLevel z
  let y := { x with target := v, source := (s.chosenLevel z).2 }
  match x.cfg.channel with
  | none => s.putLight z y
  | some i =>
    if v ≠ x.lastSent ∧ s.lightPresent z then
      targetChange i .light z v false (s.putLight z { y with lastSent := v })
    else s.putLight z y

/-- Every zone's target is derived and sent, in zone order (R147, R150). -/
def deriveLights (s : State) : State := forEach (indices 24) deriveLight s

/-! ### Presence (R148, R149) -/

/-- The full hold time of a presence timer started now (R148). -/
def State.holdTime (s : State) (z : Fin 24) : Nat :=
  if s.kind = .break_ then (s.light z).cfg.breakHold else (s.light z).cfg.hold

/-- A presence pulse (R148). -/
def pulse (z : Fin 24) (s : State) : State :=
  let x := s.light z
  if !x.cfg.presence ∨ s.kind = .changeover then s
  else
    let t := s.putLight z { x with presenceT := some (s.holdTime z), vacant := false }
    if x.vacant then deriveLight z t else t

/-- The presence timer expires (R148). -/
def presenceExpired (z : Fin 24) (s : State) : State :=
  deriveLight z (s.putLight z { s.light z with presenceT := none, vacant := true })

/-- A zone's presence timer and vacancy at a turn event (R149). -/
def turnPresence (before after : PhaseKind) (hold : Nat) (x : LightZone) : LightZone :=
  if !x.cfg.presence then x
  else if after = .changeover then (if before = .changeover then x else { x with presenceT := none, vacant := false })
  else if before = .changeover then { x with presenceT := some hold, vacant := false }
  else x

/-- The Lighting Unit takes the turn event (R149). -/
def lightingTurn (s : State) : State :=
  let before := s.lighting.lastKind
  let t := forEach (indices 24) (fun z u => u.putLight z (turnPresence before u.kind (u.holdTime z) (u.light z))) s
  deriveLights (t.setLighting { t.lighting with lastKind := t.kind })

/-! ### The commissioning walk (R152 to R154) -/

/-- Of two lighting zones, the one whose channel number is lower comes first (R152). -/
def walkPrecedes (s : State) (a b : Fin 24) : Bool :=
  match (s.light a).cfg.channel, (s.light b).cfg.channel with
  | some i, some j => i < j
  | _, _ => false

/-- The walk list: the zones whose channel is present, by channel number (R152). -/
def State.walkList (s : State) : List (Fin 24) :=
  sortBy (walkPrecedes s) ((indices 24).filter fun z => s.lightPresent z)

/-- The driven level of a zone's channel (R151, R153). -/
def State.zoneDriven (s : State) (z : Fin 24) : Nat :=
  match (s.light z).cfg.channel with
  | some i => (s.chan i).drivenLevel
  | none => 0

/-- The number of zones with a recorded walk result that satisfies a test (R154). -/
def State.resultCount (s : State) (p : Nat → Bool) : Nat :=
  countTable (fun x => match x.walkResult with
    | some r => p r
    | none => false) s.lighting.zones

/-- The walk ends: it is marked not running, WALK_DONE is raised (R154). -/
def markWalkEnded (ending : WalkEnding) (s : State) : State :=
  raise .walkDone 0 (le8 ending.code ++ le8 (s.resultCount fun _ => true) ++ le8 (s.resultCount fun r => r < 1000))
    (s.setLighting { s.lighting with walk := none })

/-- The walk ends and every zone's target is derived afresh (R154). -/
def endWalk (ending : WalkEnding) (s : State) : State := deriveLights (markWalkEnded ending s)

/-- A visit begins: the visited zone goes to full and every other zone to its protected minimum, and the dwell starts (R153). -/
def beginVisit (dwell : Nat) (z : Fin 24) (rest : List (Fin 24)) (begun : Nat) (s : State) : State :=
  deriveLights (s.setLighting
    { s.lighting with walk := some { dwell := dwell, remaining := dwell, visiting := z, toVisit := rest, begun := begun } })

/-- The walk starts over its list; an empty list ends it at once (R152). -/
def startWalk (dwell : Nat) (list : List (Fin 24)) (s : State) : State :=
  let t := s.setLighting { s.lighting with zones := s.lighting.zones.map fun x => { x with walkResult := none } }
  match list with
  | [] => endWalk .complete t
  | z :: rest => beginVisit dwell z rest 1 t

/-- The dwell expires: the visited zone's result is recorded, and the next visit begins or the walk ends (R153). -/
def dwellExpired (w : LightWalk) (s : State) : State :=
  let t := s.putLight w.visiting { s.light w.visiting with walkResult := some (s.zoneDriven w.visiting) }
  match w.toVisit with
  | [] => endWalk .complete t
  | z :: rest => beginVisit w.dwell z rest (w.begun + 1) t

/-! ### Plant stop, restart, start, binding -/

/-- The Lighting Unit takes the change to STOPPED: a walk in progress ends, and every zone is derived (R150, R154). -/
def lightingStop (s : State) : State :=
  match s.lighting.walk with
  | some _ => endWalk .aborted s
  | none => deriveLights s

/-- The Lighting Unit takes a PLANT restart: a walk in progress ends, the last sent targets are 0, and every target is derived and
sent (R145, R154). -/
def lightingRestart (s : State) : State :=
  let t := match s.lighting.walk with
    | some _ => markWalkEnded .aborted s
    | none => s
  deriveLights (t.setLighting { t.lighting with zones := t.lighting.zones.map fun x => { x with lastSent := 0 } })

/-- A lighting zone sends its protected minimum to the channel it names (R145, R146). -/
def sendProtected (z : Fin 24) (s : State) : State :=
  match (s.light z).cfg.channel with
  | some i => protectedMinimum i z (s.light z).cfg.protMin s
  | none => s

/-- The presence timer of a zone as it starts (R145, R146). -/
def State.startPresence (s : State) (z : Fin 24) : Timer :=
  if (s.light z).cfg.presence ∧ s.kind ≠ .changeover then some (s.holdTime z) else none

/-- The Lighting Unit starts (R145, R149); the protected minimums are sent in zone order (DESIGN CHOICE, log entry 39). -/
def lightingStart (s : State) : State :=
  let t := forEach (indices 24) (fun z u => u.putLight z { u.light z with presenceT := u.startPresence z }) s
  deriveLights (forEach (indices 24) sendProtected (t.setLighting { t.lighting with lastKind := t.kind }))

/-- The Lighting Unit answers a channel-bound event when the zone names the channel: its protected minimum, then its present
derived target, which becomes the last sent (R150). -/
def lightBound (i : Fin 128) (z : Fin 24) (s : State) : State :=
  let x := s.light z
  if x.cfg.channel = some i then
    let t := protectedMinimum i z x.cfg.protMin (s.putLight z { x with lastSent := x.target })
    targetChange i .light z x.target false t
  else s

end Sys2Proof.Machine
end

