-- ==== Sys2Proof/Machine/PlanUnit.lean ====
section
/-! DEFINITION. The Shift Plan Unit: the governing entry and next (R11), the four kinds of turn (R14 to R18) with the turn event, the
fallback refresh (R9), the settings tables and pending edits (R27 to R29), and the end of overrides (R34, R35). -/

namespace Sys2Proof.Machine

/-! ### The phase list (R4, R11) -/

/-- The list record with a start. -/
def recordAt (l : List PhaseRec) (start : Nat) : Option PhaseRec := l.find? (·.start = start)

/-- The record inserted at the position that keeps the list in increasing order of start (R5). -/
def insertPhase (r : PhaseRec) : List PhaseRec → List PhaseRec
  | [] => [r]
  | x :: xs => if r.start < x.start then r :: x :: xs else x :: insertPhase r xs

/-- The governing entry for week-second t: the greatest start with start × 60 ≤ t, else the greatest start of the list (R11). -/
def governing (l : List PhaseRec) (t : Nat) : Option PhaseRec :=
  match (l.filter fun r => r.start * 60 ≤ t).getLast? with
  | some r => some r
  | none => l.getLast?

/-- The start of the first record after week-second t, cyclically over the week (R11). -/
def nextAfter (l : List PhaseRec) (t : Nat) : Option Nat :=
  match l.find? fun r => t < r.start * 60 with
  | some r => some r.start
  | none => (l.head?).map (·.start)

/-- The record a due timed turn is for, while the list still holds it (R14, R19). -/
def PlanUnit.dueRecord (p : PlanUnit) : Option PhaseRec :=
  match p.turnDue with
  | none => none
  | some due => p.phases.find? fun r => r.start * 60 = due

/-- Next for the present time: absent while the clock is unset or the list is empty (R11). While a timed turn is due and not yet
taken, a request is taken before the clock reaches that start (R19), so next goes on naming that record if the list holds it. -/
def PlanUnit.nextNow (p : PlanUnit) : Option Nat :=
  match p.clock, p.dueRecord with
  | none, _ => none
  | some _, some r => some r.start
  | some t, none => nextAfter p.phases t

/-- Next is recomputed (R11); a turn that was due for a record no longer held is due no more (R19). -/
def recomputeNext (s : State) : State :=
  s.setPlan { s.plan with next := s.plan.nextNow, turnDue := if s.plan.dueRecord.isSome then s.plan.turnDue else none }

/-- The plan digest is recomputed (R20, R21). -/
def recomputeDigest (s : State) : State := s.setPlan { s.plan with digest := s.plan.digestNow }

/-- Whether a timed turn is due: the clock has reached the start of the record next still names (R14). -/
def PlanUnit.timedTurnDue (p : PlanUnit) : Bool :=
  match p.turnDue, p.next with
  | some due, some m => due == m * 60
  | _, _ => false

/-! ### The turn event and the other events of the unit -/

/-- The turn event: the Lighting Unit, the Load Budget Unit and the Dock Supervisor each take it; the last changes nothing (R14,
R62, R101, R149). -/
def turnEvent (s : State) : State := profileChanged (lightingTurn s)

/-! ### The settings tables (R27 to R29) -/

/-- The table entry an edit is for: table and index (R28). -/
def PendingEdit.key : PendingEdit → Nat × Nat
  | .scene i _ => (0, i.val)
  | .climateSet i _ => (1, i.val)
  | .profile i _ => (2, i.val)

/-- An edit replaces its table entry (R27, R29). -/
def PlanUnit.apply (p : PlanUnit) : PendingEdit → PlanUnit
  | .scene i c => { p with scenes := upd p.scenes i c }
  | .climateSet i c => { p with climateSets := upd p.climateSets i c }
  | .profile i c => { p with profiles := upd p.profiles i c }

/-- The pending-edit list with an edit placed: in the position of the edit for the same entry, else at the end (R28). -/
def placeEdit (e : PendingEdit) : List PendingEdit → List PendingEdit
  | [] => [e]
  | x :: xs => if x.key = e.key then e :: xs else x :: placeEdit e xs

/-- The position an edit for an entry has in the pending-edit list. -/
def editPosition (key : Nat × Nat) (l : List PendingEdit) : Nat := l.findIdx (·.key = key)

/-- Step 4 of a turn: the pending edits are applied in list order, the list is emptied, and the digest is recomputed if at least one
was applied (R29). -/
def applyEdits (s : State) : State :=
  if s.plan.edits.isEmpty then s
  else recomputeDigest (s.setPlan { s.plan.edits.foldl PlanUnit.apply s.plan with edits := [] })

/-- A NOW edit: the entry is replaced, the digest recomputed, and the unit that uses the entry is told when current names it
(R27). -/
def editNow (e : PendingEdit) (s : State) : State :=
  let t := recomputeDigest (s.setPlan (s.plan.apply e))
  match e with
  | .scene i _ => if s.plan.current.fields.scene = i then deriveLights t else t
  | .climateSet _ _ => t
  | .profile i _ => if s.plan.current.fields.profile = i then profileChanged t else t

/-! ### Overrides (R34, R35) -/

/-- The override-changed event: the Lighting Unit derives the zone; a climate override sends none (R34). -/
def overrideChanged (t : OverrideTarget) (s : State) : State :=
  match t with
  | .climate _ => s
  | .light z => deriveLight z s

/-- The data of OVERRIDE_ENDED: target kind, cause and value (R35). -/
def endedData (o : Override) (cause : EndCause) : Bytes :=
  le8 (targetKindCode o.target) ++ le8 cause.code ++ leInt16 o.value

/-- The override of a target leaves the table, with its OVERRIDE_ENDED notice and, for a lighting record, the override-changed event
(R35). -/
def endOverride (o : Override) (cause : EndCause) (s : State) : State :=
  let t := s.setPlan { s.plan with overrides := s.plan.overrides.filter (·.target ≠ o.target) }
  overrideChanged o.target (raise .overrideEnded (targetZone o.target) (endedData o cause) t)

/-- Step 5 of a turn: every UNTIL_TURN record ends, in table order (R35). -/
def endTurnOverrides (s : State) : State :=
  forEach (s.plan.overrides.filter (·.remaining.isNone)) (fun o t => endOverride o .turn t) s

/-! ### Turns (R14 to R18) -/

/-- A loss total in kWh, saturating at 65 535 (R15). -/
def kwh (energy : Nat) : Nat := min Config.max16 (energy / 36000)

/-- The data of the TURN notice (R15). -/
def turnData (p : PlanUnit) (cause : TurnCause) : Bytes :=
  le8 cause.code ++ le8 p.current.fields.label ++ le16 (kwh p.totals.docked) ++ le16 (kwh p.totals.bare)
    ++ le16 p.totals.cycles ++ le8 (min 255 p.totals.held) ++ le8 (min 255 p.totals.shed) ++ le16 p.digest.toNat

/-- Steps 1 and 2 of a turn: the TURN notice, and current moves into previous (R14). -/
def leaveCurrent (cause : TurnCause) (s : State) : State :=
  let t := raise .turn 0 (turnData s.plan cause) s
  t.setPlan { t.plan with previous := some t.plan.current }

/-- Step 3 of a turn: current takes a copy, with totals of zero (R14). -/
def enterPhase (c : PhaseCopy) (s : State) : State :=
  s.setPlan { s.plan with current := c, totals := {}, turnDue := none }

/-- A copy of a list record (R14). -/
def copyOf (r : PhaseRec) : PhaseCopy := ⟨some r.start, r.fields⟩

/-- Steps 3 to 6 of a turn and the turn event (R14). -/
def takePhase (c : PhaseCopy) (s : State) : State :=
  turnEvent (recomputeNext (endTurnOverrides (applyEdits (enterPhase c s))))

/-- A timed turn (R14). -/
def timedTurn (s : State) : State :=
  match s.nextRecord with
  | some r => takePhase (copyOf r) (leaveCurrent .timed s)
  | none => s

/-- A jump turn to the governing entry (R16). -/
def jumpTurn (r : PhaseRec) (s : State) : State := takePhase (copyOf r) (leaveCurrent .jump s)

/-- An entry turn: steps 3 to 6, with the governing entry for the present clock value (R17). -/
def entryTurn (s : State) : State :=
  match s.plan.clock with
  | none => s
  | some t =>
    match governing s.plan.phases t with
    | some r => takePhase (copyOf r) s
    | none => s

/-- An emptying turn to the fallback phase (R18). -/
def emptyingTurn (s : State) : State := takePhase ⟨none, s.plan.fallback⟩ (leaveCurrent .emptied s)

/-- The fallback refresh: current's copy of the fallback phase takes its new fields and the turn event is sent (R9). -/
def fallbackRefresh (s : State) : State :=
  turnEvent (s.setPlan { s.plan with current := ⟨none, s.plan.fallback⟩ })

/-- The clock takes a value by SET CLOCK: the turn it causes, or the recomputed next (R2). -/
def setClockTo (v : Nat) (s : State) : State :=
  let was := s.plan.clock
  let t := s.setPlan { s.plan with clock := some v, turnDue := none }
  match governing s.plan.phases v with
  | none => t
  | some r =>
    if was = none then entryTurn t
    else if s.plan.current.source = some r.start then recomputeNext t
    else jumpTurn r t

end Sys2Proof.Machine
end

