-- ==== Sys2Proof/Machine/StartUp.lean ====
section
/-! DEFINITION. What reaches every unit at once: the plant-stop change (R156, R157), start-up (R158), the PLANT and FULL restarts (R159),
the snapshot of a SAVE (R160) and one second of the oscillator (R1, R109 and every timer). -/

namespace Sys2Proof.Machine

/-! ### Plant stop (R156, R157) -/

/-- The change from RUNNING to STOPPED reaches the four units (R156). -/
def plantStopped (s : State) : State := lightingStop (dockPlantChange (climateStop (budgetStop s)))

/-- The change to RUNNING reaches the four units (R157). -/
def plantResumed (s : State) : State := deriveLights (dockPlantChange (climateResume (budgetResume s)))

/-- The fire-panel input becomes asserted (R156). -/
def fireAsserted (s : State) : State :=
  let was := s.stop.state
  if was = .stopped then s.setStop { s.stop with fire := true }
  else
    let t := raise .plantStop 0 (le8 was.code)
      (s.setStop { state := .stopped, fire := true, stopStamp := s.seconds })
    if was = .running then plantStopped t else t

/-- The fire-panel input becomes clear (R156). -/
def fireCleared (s : State) : State :=
  if s.stop.state = .stopped then
    raise .plantReleased 0 (le16 (min Config.max16 (s.seconds - s.stop.stopStamp)))
      (s.setStop { s.stop with state := .released, fire := false })
  else s.setStop { s.stop with fire := false }

/-- An accepted RESUME (R157). -/
def resumePlant (s : State) : State :=
  plantResumed (raise .plantResumed 0 [] (s.setStop { s.stop with state := .running }))

/-! ### Start-up (R158) -/

/-- A state with the given configuration afresh, the inputs as they stand, and what lies outside the discarded state kept: the
external store, the frames already handed to the transmitter, the waiting commands and the free-value counter. -/
def State.afresh (s : State) (stage : Stage) (c : Snapshot) (store : SettingStore) : State :=
  State.fresh stage c (fun i => (s.chan i).tripIn) (fun d => (s.door d).rawOpen) (fun d => (s.door d).rawPresent)
    s.stop.fire store s.line.sent s.pending s.drawn

/-- The whole state is discarded and the load of the setting store starts; frames are received at once (R158, R159). -/
def startLoading (s : State) (image : StoreImage) : State :=
  s.afresh .loading factorySnapshot { image := image, source := .defaults, saving := none, lastSave := .none }

/-- The image the store holds when power comes back: that of a save the power loss cut short, if one ran (R158, log entry 25). -/
def SettingStore.imageAtPowerOn (x : SettingStore) : StoreImage :=
  match x.saving with
  | some (content, _) => content.cutShort
  | none => x.image

/-- The release of power-on reset (R158). -/
def powerUp (s : State) : State := startLoading s s.store.imageAtPowerOn

/-- The image as the load accepts it, or the reason for its rejection: the store must answer and the CRC-16 must verify (R158). -/
def loadImage (answers : Bool) (image : StoreImage) : Except StoreReason Snapshot :=
  if !answers then .error .noAnswer
  else
    match image.verified with
    | some c => .ok c
    | none => .error .checkFailed

/-- The configuration a load installs: the stored one, or the factory defaults (R158). -/
def loadedSnapshot : Except StoreReason Snapshot → Snapshot
  | .ok c => c
  | .error _ => factorySnapshot

/-- The start-up notices of the Line Interface (R158). -/
def startUpNotices (r : Except StoreReason Snapshot) (s : State) : State :=
  let t := match r with
    | .ok _ => s
    | .error reason => raise .storeInvalid 0 (le8 reason.code) s
  let u := raise .clockNeeded 0 [] t
  if s.stop.state = .stopped then raise .plantStop 0 (le8 PlantState.running.code) u else u

/-- The end of the setting store load: the configuration in force, the running state started, the start-up notices, and the start of
the units (R158). Where the state starts STOPPED the stop stamp is the running-seconds count, 0 (R156); that it is 0 as well where the
state starts RUNNING is a DESIGN CHOICE (log entry 1). -/
def finishLoading (answers : Bool) (s : State) : State :=
  let r := loadImage answers s.store.image
  let c := loadedSnapshot r
  let t := s.afresh .running c
    { s.store with source := match r with
        | .ok _ => .store
        | .error _ => .defaults }
  let u := (t.setLine { s.line with level := c.level }).setStop
    { state := if s.stop.fire then .stopped else .running, fire := s.stop.fire, stopStamp := 0 }
  lightingStart (budgetStart (startUpNotices r u))

/-! ### Restarts (R159) -/

/-- A PLANT restart, unit by unit (R159, in the order of log entry 6). The override table is emptied first, no override-changed event is sent
for a lighting record it held, and the lights are derived once, at the end (DESIGN CHOICE, log entry 38). -/
def plantRestart (s : State) : State :=
  lightingRestart (climateRestart (dockRestart (budgetRestart (s.setPlan { s.plan with overrides := [] }))))

/-! ### The snapshot (R160) -/

/-- The point configuration as it stands (R120). -/
def Climate.pointConfig (c : Climate) : PointConfig :=
  { tempUsed := c.temps.map fun p => p.state != .unused
    exhaustUsed := c.exhausts.map fun p => p.state != .unused
    outdoorPoint := c.outdoorPoint, designTemp := c.designTemp }

/-- The snapshot a SAVE takes now (R160). -/
def State.snapshot (s : State) : Snapshot :=
  { channels := s.budget.channels.map (·.cfg)
    doors := s.dock.doors.map (·.cfg)
    zones := s.climate.zones.map (·.cfg)
    lights := s.lighting.zones.map (·.cfg)
    points := s.climate.pointConfig
    scenes := s.plan.scenes, climateSets := s.plan.climateSets, profiles := s.plan.profiles
    phases := s.plan.phases, fallback := s.plan.fallback, limits := s.budget.configured, level := s.line.level }

/-! ### One second of the oscillator -/

/-- The week-second after t (R1). -/
def nextSecond (t : Nat) : Nat := if t + 1 < Config.weekSeconds then t + 1 else 0

/-- The Shift Plan Unit over one second: the clock, the comparison with next's start, and the overrides' remaining time (R1, R14,
R32). -/
def PlanUnit.tick (p : PlanUnit) : PlanUnit :=
  let clock := p.clock.map nextSecond
  let due := match p.turnDue, clock, p.next with
    | some d, _, _ => some d
    | none, some t, some m => if t = m * 60 then some t else none
    | none, _, _ => none
  { p with clock := clock, turnDue := due,
           overrides := p.overrides.map fun o => { o with remaining := tickTimer o.remaining } }

/-- A channel over one second: its timers and the age of its entry (R44 to R46, R75). -/
def Channel.tick (c : Channel) : Channel :=
  { c with minOnT := tickTimer c.minOnT, minOffT := tickTimer c.minOffT,
           entry := c.entry.map fun e => { e with age := satAdd Config.max32 e.age 1 } }

/-- The Load Budget Unit over one second (R57, R68). -/
def LoadBudget.tick (b : LoadBudget) : LoadBudget :=
  { b with channels := b.channels.map Channel.tick, sampleT := b.sampleT - 1, sinceSample := b.sinceSample + 1 }

/-- A door over one second (R92, R95). -/
def Door.tick (d : Door) : Door :=
  { d with contactT := tickTimer d.contactT, presenceT := tickTimer d.presenceT, heldT := tickTimer d.heldT }

/-- The Dock Supervisor over one second (R104). -/
def Dock.tick (d : Dock) : Dock :=
  { d with doors := d.doors.map Door.tick, check := d.check.map fun k => { k with remaining := k.remaining - 1 } }

/-- A sensor point over one second (R117, R135). -/
def SensorPoint.tick (p : SensorPoint) : SensorPoint := { p with staleT := tickTimer p.staleT }

/-- The Climate Unit over one second (R125). -/
def Climate.tick (c : Climate) : Climate :=
  { c with zones := c.zones.map fun z => { z with evalT := z.evalT - 1 }
           temps := c.temps.map SensorPoint.tick, exhausts := c.exhausts.map SensorPoint.tick }

/-- The Lighting Unit over one second (R148, R153). -/
def Lighting.tick (l : Lighting) : Lighting :=
  { l with zones := l.zones.map fun z => { z with presenceT := tickTimer z.presenceT }
           walk := l.walk.map fun w => { w with remaining := w.remaining - 1 } }

/-- One second of the oscillator in the running state (R1, R109): the running-seconds count, the shed clock and every running timer
advance; a timer that reaches its end is due, and its expiry is a command of its own. -/
def State.tick (s : State) : State :=
  { s with seconds := s.seconds + 1, plan := s.plan.tick, budget := s.budget.tick, dock := s.dock.tick,
           climate := s.climate.tick, lighting := s.lighting.tick }

end Sys2Proof.Machine
end

