-- ==== Sys2Proof/Machine/Operands.lean ====
section
/-! DEFINITION. The operand forms: the taking of a request and its reply (R163, R164), the statuses (R165), and the reading and treatment of
the fields of each request body (12.5 and the owning rules). -/

namespace Sys2Proof.Machine

/-- What exec answers. -/
abbrev Result := Host.Outcome State Fault Refusal

/-! ### Statuses (R165) -/

abbrev stOk : Bytes := [0x00]
abbrev stClamped : Bytes := [0x01]
abbrev stUnknownKind : Bytes := [0x10]
abbrev stBadLength : Bytes := [0x11]
abbrev stOutOfRange : Bytes := [0x12]
abbrev stNotFound : Bytes := [0x13]
abbrev stDuplicate : Bytes := [0x14]
abbrev stTableFull : Bytes := [0x15]
abbrev stBusy : Bytes := [0x16]
abbrev stWrongState : Bytes := [0x17]
abbrev stInputActive : Bytes := [0x18]
abbrev stDoorsOpen : Bytes := [0x19]
abbrev stNoClock : Bytes := [0x1A]
abbrev stNotRunning : Bytes := [0x1B]
abbrev stStopActive : Bytes := [0x1C]

/-- CLAMPED when a value was changed by treatment, OK otherwise (R165). -/
def stTreated (changed : Bool) : Bytes := if changed then stClamped else stOk

/-! ### The taking of a request (R163, R164) -/

/-- What a request does to the state, with its reply body (the status, then the fields). -/
abbrev Service := State → State × Bytes

/-- The Line Interface takes a frame: the oldest of the request buffer; on an empty buffer a frame completed in the same step
(log entry 3). Absent when the frame is not the next to be taken. -/
def takeFrame (f : Frame) (s : State) : Option State :=
  match s.line.buffer with
  | [] => some s
  | g :: rest => if g = f then some (s.setLine { s.line with buffer := rest }) else none

/-- A request of a kind is taken, checked for its body length, carried out, and answered (R164). Requests are taken only in the running
state (R158), and only when their frame is next. -/
def request (kind : Byte) (tag : Byte) (body : Bytes) (service : Service) (s : State) : Result :=
  if s.stage ≠ .running then .next s
  else
    match takeFrame ⟨tag, kind, body⟩ s with
    | none => .next s
    | some t =>
      match bodyRule? kind with
      | none => .next (sendReply tag kind stUnknownKind t)
      | some rule =>
        if rule.admits body.length then
          let r := service t
          .next (sendReply tag kind r.2 r.1)
        else .next (sendReply tag kind stBadLength t)

/-- An event acts in the running state only; before the end of the load it does nothing (R158). -/
def whenRunning (f : State → State) (s : State) : Result := if s.stage = .running then .next (f s) else .next s

/-! ### Phase records (R4, R5) -/

/-- The flag bit of a received phase record (R4). -/
def preconditionBit (b : Bytes) : Bool := u8 b 7 % 2 == 1

/-- The fields of a phase record body but its start, when every one is in range (R5 check 1, the label apart). -/
def phaseFields? (b : Bytes) : Option PhaseFields := do
  let kind ← phaseKind? (u8 b 2)
  let scene ← index? 16 (u8 b 3)
  let set ← index? 8 (u8 b 4)
  let profile ← index? 4 (u8 b 5)
  return { kind := kind, scene := scene, climateSet := set, profile := profile, label := u8 b 6,
           precondition := preconditionBit b }

/-- The fields of a list record body: as above, and the label is not 255 (R5 check 1). -/
def listFields? (b : Bytes) : Option PhaseFields :=
  match phaseFields? b with
  | some f => if f.label = 255 then none else some f
  | none => none

/-! ### Table edits (R25) -/

/-- The treatment of a scene level (R25). -/
def treatLevel (v : Nat) : Nat := min v 1000

/-- The treatment of a setpoint (R25). -/
def treatSetpoint (v : Int) : Int := clampInt (-100) 300 v

/-- A scene body's levels as sent (12.5). -/
def sceneSent (b : Bytes) : Scene := Vector.ofFn fun z => u16 b (2 + 2 * z.val)

/-- A scene after treatment (R25). -/
def treatScene (s : Scene) : Scene := s.map treatLevel

/-- A climate set body's values as sent (12.5). -/
def climateSetSent (b : Bytes) : ClimateSet :=
  Vector.ofFn fun z => ⟨i16 b (2 + 4 * z.val), u8 b (4 + 4 * z.val), u8 b (5 + 4 * z.val)⟩

/-- A climate set after treatment (R25). -/
def treatClimateSet (s : ClimateSet) : ClimateSet :=
  s.map fun e => ⟨treatSetpoint e.setpoint, min e.cap 8, min e.ventMin 6⟩

/-- A profile body's values as sent, in the digest layout (12.5, R20). -/
def profileSent (b : Bytes) : Profile :=
  { share := ⟨u16 b 2, u16 b 4, u16 b 6, u16 b 8⟩
    weight := ⟨u8 b 10, u8 b 11, u8 b 12, u8 b 13⟩
    tight := u16 b 14
    urgency := ⟨u16 b 16, u16 b 18, u16 b 20, u16 b 22⟩ }

/-- The same treatment for each class. -/
def PerClass.map (f : Nat → Nat) (p : PerClass Nat) : PerClass Nat := ⟨f p.light, f p.heat, f p.air, f p.dock⟩

/-- The treatment of the four shares: each at most 1000, then scaled when they sum to more than 1000 (R25). -/
def treatShares (p : PerClass Nat) : PerClass Nat :=
  let q := p.map (min · 1000)
  if 1000 < q.sum then q.map fun v => v * 1000 / q.sum else q

/-- A profile after treatment (R25). -/
def treatProfile (p : Profile) : Profile :=
  { share := treatShares p.share
    weight := p.weight.map (greatestNotAbove 0 [1, 2, 4, 8])
    tight := greatestNotAbove 250 [500, 750, 1000] p.tight
    urgency := p.urgency.map (min · 3600) }

/-- The timing field: NOW or AT_TURN; `some true` is AT_TURN. -/
def timing? : Nat → Option Bool
  | 0 => some false
  | 1 => some true
  | _ => none

/-! ### Overrides (R33) -/

/-- An override target from its kind and zone (R33 check 1). -/
def overrideTarget? (kind zone : Nat) : Option OverrideTarget :=
  match kind with
  | 0 => (index? 12 zone).map .climate
  | 1 => (index? 24 zone).map .light
  | _ => none

/-- The value of a SET OVERRIDE as sent: a signed setpoint, or a level (R33). -/
def overrideSent (t : OverrideTarget) (b : Bytes) : Int :=
  match t with
  | .climate _ => i16 b 2
  | .light _ => u16 b 2

/-- The value after treatment (R33). -/
def treatOverride (t : OverrideTarget) (v : Int) : Int :=
  match t with
  | .climate _ => treatSetpoint v
  | .light _ => min v 1000

/-! ### CONFIG CHANNEL (R39) -/

/-- A role target of a role from its byte, out of range when the role does not reach it (R38). UNUSED has none, and the manual gives
'none' no code: any byte is taken and ignored (DESIGN CHOICE, log entry 30). -/
def roleTarget? (r : Role) (n : Nat) : Option (Option Nat) :=
  match r with
  | .unused => some none
  | .heater | .fan => if n < 12 then some (some n) else none
  | .light => if n < 24 then some (some n) else none
  | .curtain | .docklight => if n < 32 then some (some n) else none

/-- The treatment of the steps field; it is ignored for LIGHT and UNUSED (R39). -/
def treatSteps (r : Role) (n : Nat) : Nat :=
  match r with
  | .heater => clampNat 1 8 n
  | .fan => clampNat 1 6 n
  | .curtain | .docklight => 1
  | .light | .unused => Config.ignoredSteps n

/-- The configuration of a CONFIG CHANNEL body after treatment (R39). -/
def channelTreated (r : Role) (target : Option Nat) (b : Bytes) : ChannelConfig :=
  { role := r, roleTarget := target, steps := treatSteps r (u8 b 3), rating := clampNat 1 2000 (u16 b 4)
    priority := min (u8 b 6) 7, minOn := min (u16 b 7) 900, minOff := min (u16 b 9) 900
    tripUsed := uFlag b 11 && r != .light
    protMin := if r = .light then min (u16 b 12) 1000 else 0 }

/-- Whether the treatment changed a value; an ignored steps field does not count (R39). -/
def channelClamped (b : Bytes) (c : ChannelConfig) : Bool :=
  (c.role.isStep && c.steps != u8 b 3) || c.rating != u16 b 4 || c.priority != u8 b 6 || c.minOn != u16 b 7
    || c.minOff != u16 b 9 || c.tripUsed != uFlag b 11 || c.protMin != u16 b 12

/-! ### SET LIMITS (R55) -/

/-- The six limits of a SET LIMITS body as sent. -/
def limitsSent (b : Bytes) : Limits := ⟨u16 b 0, u16 b 2, u16 b 4, u16 b 6, u16 b 8, u16 b 10⟩

/-- The limits after treatment (R55). -/
def treatLimits (l : Limits) : Limits :=
  { contract := clampNat 100 60000 l.contract, feed := clampNat 100 65000 l.feed, margin := min l.margin 5000
    window := greatestNotAbove 300 [600, 900, 1200, 1800, 3600] l.window
    wTotal := clampNat 1 1000 l.wTotal, wUnmanaged := clampNat 1 1000 l.wUnmanaged }

/-! ### Channel fields -/

/-- A channel field: 0–127, or 0xFF for none; anything else is out of range (R90, R123, R146). -/
def channelField? (n : Nat) : Option (Option (Fin 128)) :=
  if n = 0xFF then some none else (index? 128 n).map some

/-! ### CONFIG DOOR (R90) -/

/-- The configuration of a CONFIG DOOR body as sent, when its indexes are in range (R90 check 1). -/
def doorSent? (b : Bytes) : Option DoorConfig := do
  let zone ← index? 12 (u8 b 2)
  let curtain ← channelField? (u8 b 7)
  let light ← channelField? (u8 b 8)
  return { enabled := uFlag b 1, zone := zone, kd := u8 b 3, heldTime := u16 b 4, debounce := u8 b 6, curtain := curtain,
           light := light }

/-- A door configuration after treatment (R90). -/
def treatDoor (c : DoorConfig) : DoorConfig :=
  { c with kd := min c.kd 100, heldTime := clampNat 30 3600 c.heldTime, debounce := clampNat 1 10 c.debounce }

/-- Two channel fields that name the same channel (R90, R123). -/
def sameChannel (a b : Option (Fin 128)) : Bool := a.isSome && a == b

/-! ### CONFIG ZONE (R123) -/

/-- The exhaust point field: 0–11, or 0xFF for none (R123). -/
def exhaustField? (n : Nat) : Option (Option (Fin 12)) := if n = 0xFF then some none else (index? 12 n).map some

/-- The configuration of a CONFIG ZONE body as sent, when its indexes are in range (R123 check 1). -/
def zoneSent? (b : Bytes) : Option ZoneConfig := do
  let heater ← channelField? (u8 b 1)
  let fan ← channelField? (u8 b 2)
  let tp ← index? 32 (u8 b 3)
  let xp ← exhaustField? (u8 b 4)
  return { heater := heater, fan := fan, tempPoint := tp, exhaustPoint := xp, kp := u16 b 5, ki := u8 b 7,
           imax := u16 b 8, phi := u16 b 10, kv := u8 b 12, mz := u8 b 13, occupiedFallback := u16 b 14,
           setbackFallback := u16 b 16, x1 := u16 b 18, x2 := u16 b 20, xp := u16 b 22 }

/-- A zone configuration after treatment: each quantity above its range becomes the top (R122, R123). -/
def treatZone (c : ZoneConfig) : ZoneConfig :=
  { c with kp := min c.kp 500, ki := min c.ki 200, imax := min c.imax 3000, phi := min c.phi 1000, kv := min c.kv 50
           mz := min c.mz 60, occupiedFallback := min c.occupiedFallback 1000
           setbackFallback := min c.setbackFallback 1000, x1 := min c.x1 2000, x2 := min c.x2 2000, xp := min c.xp 2000 }

/-! ### CONFIG LIGHT ZONE (R146) -/

/-- The configuration of a CONFIG LIGHT ZONE body as sent, when its channel field is in range (R146 check 1). -/
def lightSent? (b : Bytes) : Option LightConfig := do
  let ch ← channelField? (u8 b 1)
  return { channel := ch, presence := uFlag b 2, hold := u16 b 3, breakHold := u16 b 5, setback := u16 b 7,
           protMin := u16 b 9 }

/-- A lighting zone configuration after treatment (R146). -/
def treatLight (c : LightConfig) : LightConfig :=
  { c with hold := clampNat 30 3600 c.hold, breakHold := clampNat 30 3600 c.breakHold, setback := min c.setback 1000
           protMin := min c.protMin 1000 }

/-! ### CONFIG POINT (R120) -/

/-- Bit p of a mask. -/
def maskBit (mask p : Nat) : Bool := mask.testBit p

/-- The masks and the design temperature of a CONFIG POINT body with its outdoor point in range, and treated (R120). -/
def pointsTreated? (b : Bytes) : Option PointConfig := do
  let outdoor ← index? 32 (u8 b 6)
  return { tempUsed := Vector.ofFn fun p => maskBit (u32 b 0) p.val
           exhaustUsed := Vector.ofFn fun p => maskBit (u16 b 4) p.val
           outdoorPoint := outdoor, designTemp := clampInt (-500) 200 (i16 b 7) }

end Sys2Proof.Machine
end

