-- ==== Sys2Proof/Machine/ChannelCommands.lean ====
section
/-! DEFINITION. The commands of the Load Budget Unit: channels (R38 to R53), limits (R54 to R56), the meters and the sample (R57, R58), the
reading of the figures and the queue (R86, R87), and its timer and trip events. -/

namespace Sys2Proof.Machine

/-! ### Channel fields on the line -/

/-- A class on the line; that of an UNUSED channel is open (R38). -/
def classByte (r : Role) : Bytes :=
  match r.cls with
  | some k => le8 k.code
  | none => [Config.noClassByte]

/-- A role target on the line; that of an UNUSED channel is open (R38). -/
def roleTargetByte : Option Nat → Bytes
  | some n => le8 n
  | none => [Config.noRoleTargetByte]

/-- A channel state on the line: its code, then the step count (12.4); that of a LIGHT channel, which the manual leaves open, is 0
(DESIGN CHOICE, log entry 31). -/
def channelStateBytes (c : Channel) : Bytes := le8 c.state.code ++ le8 c.drivenSteps

/-- A channel's configuration on the line, in the order of CONFIG CHANNEL, with the derived class (R41); that the class stands behind
the protected minimum is the model's choice (PRESUMED, log entry 8). -/
def channelConfigBytes (c : ChannelConfig) : Bytes :=
  le8 c.role.code ++ roleTargetByte c.roleTarget ++ le8 c.steps ++ le16 c.rating ++ le8 c.priority ++ le16 c.minOn
    ++ le16 c.minOff ++ leFlag c.tripUsed ++ le16 c.protMin ++ classByte c.role

/-! ### CONFIG CHANNEL (R39, R40, R52) -/

/-- Whether another channel than i holds a role and role target (R40). -/
def State.boundElsewhere (s : State) (i : Fin 128) (r : Role) (target : Option Nat) : Bool :=
  r != .unused && (indices 128).any fun j => j != i && (s.chan j).cfg.role == r && (s.chan j).cfg.roleTarget == target

/-- Step 1 of R52: the channel is brought to zero and the arbiter's records are cleared of it. -/
def bringToZero (i : Fin 128) (s : State) : State :=
  setGranted i 0 (s.putChan i { s.chan i with entry := none, minOnT := none })

/-- Whether a channel keeps its trip condition under a new configuration (R52). -/
def Channel.staysTripped (c : Channel) (n : ChannelConfig) : Bool := c.tripped && n.role.isStep && n.tripUsed

/-- Min-off after step 3 of R52, from the channel as it stood before step 1 and the new configuration. -/
def Channel.settledMinOff (c : Channel) (n : ChannelConfig) : Timer :=
  if !n.role.isStep then none
  else if (c.cfg.role.isStep && 0 < c.granted) || (c.tripped && !c.staysTripped n) then startTimer n.minOff
  else
    match c.minOffT with
    | some r => if n.minOff = 0 then none else some (min r n.minOff)
    | none => none

/-- Steps 2 to 4 of R52 at the channel: the new configuration, the timers and state, the restarted target, and a LIGHT channel's
protected part. `was` is the channel before step 1. -/
def applyConfig (i : Fin 128) (was : Channel) (n : ChannelConfig) (s : State) : State :=
  let c := { s.chan i with
    cfg := n, minOffT := was.settledMinOff n, tripped := was.staysTripped n
    target := if n.role = Role.light then n.protMin else 0 }
  s.putChan i { c with granted := c.protPart s.stop.state }

/-- The channel-bound event: the role unit that owns the role target answers with its present target (R52 step 4, R100, R133,
R150). -/
def channelBound (i : Fin 128) (s : State) : State :=
  match (s.chan i).cfg.role, (s.chan i).cfg.roleTarget with
  | .heater, some n => match index? 12 n with
    | some z => heaterBound i z s
    | none => s
  | .fan, some n => match index? 12 n with
    | some z => fanBound i z s
    | none => s
  | .light, some n => match index? 24 n with
    | some z => lightBound i z s
    | none => s
  | .curtain, some n => match index? 32 n with
    | some d => curtainBound i d s
    | none => s
  | .docklight, some n => match index? 32 n with
    | some d => docklightBound i d s
    | none => s
  | _, _ => s

/-- The end of a CONFIG CHANNEL: a channel whose used trip line stands asserted trips (R52). -/
def tripIfAsserted (i : Fin 128) (s : State) : State := if (s.chan i).tripsNow then trip i s else s

/-- An accepted CONFIG CHANNEL (R52). The role unit's answer is a walk trigger of its own: at its end, before the recomputation, the
tight flag is compared and the shed condition settled (DEDUCED, log entry 21). A lighting zone's answer begins with its protected-minimum
event, which works P_prot out afresh before the target is taken (R61, R150). -/
def reconfigure (i : Fin 128) (n : ChannelConfig) (s : State) : State :=
  tripIfAsserted i (reprotect (channelBound i (applyConfig i (s.chan i) n (bringToZero i s))))

/-- CONFIG CHANNEL (R39, R52). -/
def execConfigChannel (tag : Byte) (body : Bytes) (s : State) : Result :=
  request 0x28 tag body
    (fun t =>
      match index? 128 (u8 body 0), role? (u8 body 1) with
      | some i, some r =>
        match roleTarget? r (u8 body 2) with
        | none => (t, stOutOfRange)
        | some target =>
          if t.boundElsewhere i r target then (t, stDuplicate)
          else
            let n := channelTreated r target body
            let u := reconfigure i n t
            (u, stTreated (channelClamped body n) ++ le8 i ++ classByte r ++ channelStateBytes (u.chan i))
      | _, _ => (t, stOutOfRange)) s

/-- READ CHANNEL (R41); the target, the granted and the driven take two bytes each and the serial four (PRESUMED, log entry 8). -/
def execReadChannel (tag : Byte) (body : Bytes) (s : State) : Result :=
  request 0x29 tag body
    (fun t =>
      match index? 128 (u8 body 0) with
      | none => (t, stOutOfRange)
      | some i =>
        let c := t.chan i
        (t, stOk ++ channelConfigBytes c.cfg ++ channelStateBytes c ++ le16 c.target ++ le16 c.granted
              ++ le16 (if c.cfg.role = .light then c.drivenLevel else c.drivenSteps) ++ leTime c.minOnT ++ leTime c.minOffT
              ++ le32 c.serial ++ leFlag c.tripIn)) s

/-- An accepted ACK TRIP: min-off starts, the stored target counts again, and the arbiter walks (R51). -/
def acknowledge (i : Fin 128) (s : State) : State :=
  let c := s.chan i
  arbitrate (keepEntry false i (s.putChan i { c with tripped := false, minOffT := startTimer c.cfg.minOff }))

/-- ACK TRIP (R51). -/
def execAckTrip (tag : Byte) (body : Bytes) (s : State) : Result :=
  request 0x2A tag body
    (fun t =>
      match index? 128 (u8 body 0) with
      | none => (t, stOutOfRange)
      | some i =>
        if (t.chan i).state ≠ .tripped then (t, stWrongState ++ channelStateBytes (t.chan i))
        else if (t.chan i).tripIn then (t, stInputActive ++ channelStateBytes (t.chan i))
        else
          let u := acknowledge i t
          (u, stOk ++ channelStateBytes (u.chan i))) s

/-! ### Limits and figures -/

/-- SET LIMITS (R55). -/
def execSetLimits (tag : Byte) (body : Bytes) (s : State) : Result :=
  request 0x30 tag body
    (fun t =>
      let l := treatLimits (limitsSent body)
      let u := t.setBudget { t.budget with configured := l }
      (u, stTreated (l != limitsSent body) ++ limitsBytes l ++ limitsBytes u.budget.active
            ++ leFlag (l.window != u.budget.active.window))) s

/-- The figures of one class in READ BUDGET (R86). -/
def State.classFigures (s : State) (k : LoadClass) : Bytes :=
  le32 (s.budget.reserve.get k) ++ le32 (s.classGrant k) ++ le32 (s.poolUsed k) ++ le32 (s.fair k) ++ le32 (s.avail k)

/-- The last-window group of READ BUDGET: the over-contract flag is bit 0, the estimated flag bit 1, and bit 2 is set for the end
CLOCK_SET (R64, R86; the bits are PRESUMED, log entry 8; the bytes of an empty record are open, log entry 16). -/
def lastWindowBytes : Option LastWindow → Bytes
  | some w =>
    le32 w.energy ++ le16 w.length ++ le32 w.average ++ le16 w.contract
      ++ le8 ((if w.overContract then 1 else 0) + (if w.estimated then 2 else 0) + (if w.byClockSet then 4 else 0))
      ++ leTime w.closeTime
  | none =>
    (List.range 4).map Config.emptyWindowByte ++ le16 0 ++ (List.range 7).map (fun n => Config.emptyWindowByte (4 + n))
      ++ leTime none

/-- The fields of the READ BUDGET reply (R86). -/
def State.budgetFields (s : State) : Bytes :=
  let b := s.budget
  let urgent := s.queued.filter fun i => match (s.chan i).entry with
    | some e => e.urgent
    | none => false
  let held := s.queued.filter fun i => (s.chan i).heldEntry
  le32 b.energy ++ le16 b.elapsed ++ le16 b.windowLen ++ le16 b.remaining ++ le8 b.silence ++ leFlag b.silent
    ++ le32 b.pu ++ le32 b.ct ++ le32 b.managed ++ le32 b.pProt ++ le32 b.shareable ++ le8 s.plan.current.fields.profile
    ++ s.classFigures .light ++ s.classFigures .heat ++ s.classFigures .air ++ s.classFigures .dock
    ++ le32 b.pool ++ leInt32 s.free
    ++ leFlag b.tight ++ leFlag s.isTight ++ leFlag b.shed ++ le8 s.queued.length ++ le8 urgent.length ++ le8 held.length
    ++ le8 s.deficitMembers.length ++ le32 (sumTable Channel.deficit b.channels)
    ++ lastWindowBytes b.lastWindow

/-- READ BUDGET (R86). -/
def execReadBudget (tag : Byte) (body : Bytes) (s : State) : Result :=
  request 0x31 tag body (fun t => (t, stOk ++ t.budgetFields)) s

/-- A start-queue record on the line: the flags byte holds urgent in bit 0 and held in bit 1 (R87; the bits are PRESUMED, log entry 8). -/
def State.entryBytes (s : State) (i : Fin 128) : Bytes :=
  let c := s.chan i
  match c.entry with
  | some e =>
    le8 i ++ classByte c.cfg.role ++ le8 c.cfg.priority ++ le8 c.wanted ++ le32 e.age
      ++ le8 ((if e.urgent then 1 else 0) + (if c.heldEntry then 2 else 0))
  | none => []

/-- A deficit record on the line (R87). -/
def State.deficitBytes (s : State) (i : Fin 128) : Bytes :=
  let c := s.chan i
  le8 i ++ le8 c.cfg.priority ++ le16 c.target ++ le16 c.granted ++ le16 c.deficit

/-- READ QUEUE (R87); the total, the position and the number of records take one byte each (PRESUMED, log entry 8). -/
def execReadQueue (tag : Byte) (body : Bytes) (s : State) : Result :=
  request 0x32 tag body
    (fun t =>
      let pos := u8 body 1
      let reply (all : List (Fin 128)) (enc : Fin 128 → Bytes) : Bytes :=
        let out := (all.drop pos).take 24
        stOk ++ le8 (u8 body 0) ++ le8 all.length ++ le8 pos ++ le8 out.length ++ out.flatMap enc
      if 127 < pos then (t, stOutOfRange)
      else
        match u8 body 0 with
        | 0 => (t, reply t.queueOrder t.entryBytes)
        | 1 => (t, reply t.deficitOrder t.deficitBytes)
        | _ => (t, stOutOfRange)) s

/-! ### Events -/

/-- A pulse on a meter input (R57). -/
def countPulse (m : Meter) (b : LoadBudget) : LoadBudget :=
  match m with
  | .total => { b with nT := satAdd Config.max16 b.nT 1 }
  | .unmanaged => { b with nU := satAdd Config.max16 b.nU 1 }

/-- METER_PULSE (R57). -/
def execMeterPulse (m : Meter) (s : State) : Result := whenRunning (fun t => t.setBudget (countPulse m t.budget)) s

/-- METER_SAMPLE: the sample, when the sampler's interval has run out (R57, R58). -/
def execMeterSample (s : State) : Result := whenRunning (fun t => if t.budget.sampleT = 0 then meterSample t else t) s

/-- MIN_ON_EXPIRY (R45). -/
def execMinOnExpiry (i : Fin 128) (s : State) : Result :=
  whenRunning (fun t => if (t.chan i).minOnT = some 0 then minOnExpired i t else t) s

/-- MIN_OFF_EXPIRY (R46). -/
def execMinOffExpiry (i : Fin 128) (s : State) : Result :=
  whenRunning (fun t => if (t.chan i).minOffT = some 0 then minOffExpired i t else t) s

/-- URGENCY_EXPIRY (R77). -/
def execUrgencyExpiry (i : Fin 128) (s : State) : Result := whenRunning (urgencyReached i) s

/-- A trip sample is recorded, and an asserted one trips a channel whose trip line is used (R38, R50). -/
def tripSampled (i : Fin 128) (asserted : Bool) (s : State) : State :=
  tripIfAsserted i (s.putChan i { s.chan i with tripIn := asserted })

/-- TRIP_SAMPLE: before the running state the level is recorded and no more (R43, R50). -/
def execTripSample (i : Fin 128) (asserted : Bool) (s : State) : Result :=
  if s.stage = .running then .next (tripSampled i asserted s)
  else .next (s.putChan i { s.chan i with tripIn := asserted })

end Sys2Proof.Machine
end

