-- ==== Sys2Proof/Machine/ClimateCommands.lean ====
section
/-! DEFINITION. The commands of the Climate Unit: points (R117 to R121, R135 to R137), zones (R122 to R134, R144), and its sample, stale-timer
and evaluation events. -/

namespace Sys2Proof.Machine

/-! ### CONFIG ZONE (R123) -/

/-- Step 1 of R123: a changed heater channel. -/
def changeHeater (z : Fin 12) (new : Option (Fin 128)) (s : State) : State :=
  let old := (s.zone z).cfg.heater
  if old = new then s
  else
    let t := match old with
      | some i => targetChange i .heater z 0 false s
      | none => s
    t.putZone z { t.zone z with heaterTarget := 0, integral := 0, call := 0 }

/-- Step 2 of R123: a changed fan channel (R138). -/
def changeFan (z : Fin 12) (new : Option (Fin 128)) (s : State) : State :=
  let old := (s.zone z).cfg.fan
  if old = new then s
  else
    let t := match old with
      | some i => targetChange i .fan z 0 false s
      | none => s
    t.putZone z { t.zone z with fanTarget := 0, lowerCandidate := none }

/-- An accepted CONFIG ZONE (R123). -/
def configureZone (z : Fin 12) (n : ZoneConfig) (s : State) : State :=
  let t := changeFan z n.fan (changeHeater z n.heater s)
  let x := t.zone z
  t.putZone z { x with cfg := n, integral := clampInt (-n.imax) n.imax x.integral }

/-- CONFIG ZONE (R123). -/
def execConfigZone (tag : Byte) (body : Bytes) (s : State) : Result :=
  request 0x40 tag body
    (fun t =>
      match index? 12 (u8 body 0), zoneSent? body with
      | some z, some sent =>
        if sameChannel sent.heater sent.fan then (t, stDuplicate)
        else
          let u := configureZone z (treatZone sent) t
          (u, stTreated (treatZone sent != sent) ++ le8 z ++ le8 (u.zone z).mode.code ++ leFlag (u.heaterPresent z)
                ++ leFlag (u.fanPresent z))
      | _, _ => (t, stOutOfRange)) s

/-! ### READ ZONE (R134, R144) -/

/-- A figure on the line: two bytes, open when the last evaluation did not work it out (log entry 15). -/
def openInt16 (field zone drawn : Nat) : Option Int → Bytes
  | some v => leInt16 v
  | none => [(Config.openFigure field zone drawn).1, (Config.openFigure field zone drawn).2]

/-- The granted steps of the channel a zone names, as they stand (R134, R144); open when it names none (log entry 15), and 0 when it names a
LIGHT channel, which has no granted steps (DESIGN CHOICE, log entry 41). -/
def State.namedSteps (s : State) (field zone : Nat) : Option (Fin 128) → Bytes
  | some i => le8 (s.chan i).drivenSteps
  | none => [(Config.openFigure field zone s.drawn).1]

/-- The freeze flag and the condition that froze the integral (R134). -/
def freezeBytes : Option FreezeCondition → Bytes
  | some c => leFlag true ++ le8 c.code
  | none => leFlag false ++ [Config.noFreezeByte]

/-- The figures e, P, I, Iterm, F and the loss, and the freeze, of a zone's last evaluation (R134). An Iterm that two bytes cannot
carry sends its low 16 bits (DESIGN CHOICE, log entry 33); the loss takes four bytes (PRESUMED, log entry 8). After an
evaluation that did not work out the integral the frozen flag is clear, whatever rows of R128 hold (DESIGN CHOICE, log entry 44). -/
def State.termBytes (s : State) (z : Fin 12) : Bytes :=
  let x := s.zone z
  let term (field : Nat) (g : HeatTerms → Int) : Bytes := openInt16 field z s.drawn (x.figures.terms.map g)
  term 1 (·.error) ++ term 2 (·.proportional) ++ leInt16 x.figures.integral ++ term 3 (·.integralTerm)
    ++ term 4 (fun t => (t.feedforward : Int))
    ++ (match x.figures.terms with
        | some t => le32 t.loss
        | none => openInt16 5 z s.drawn none ++ openInt16 6 z s.drawn none)
    ++ (if x.figures.evaluated then
          (match x.figures.terms with
            | some t => freezeBytes t.frozen
            | none => freezeBytes none)
        else [0, 0])

/-- The heating fields of the READ ZONE reply (R134). The seconds to the next evaluation and the heater channel's granted steps take one
byte, the zone ΔT two (PRESUMED, log entry 8). -/
def State.heatingFields (s : State) (z : Fin 12) : Bytes :=
  let x := s.zone z
  let f := x.figures
  zoneConfigBytes x.cfg ++ leFlag (s.heaterPresent z) ++ leFlag (s.fanPresent z) ++ le8 x.mode.code ++ le8 x.evalT
    ++ leInt16 f.setpoint ++ le8 f.source.code ++ leOpt16 f.lead ++ openInt16 0 z s.drawn f.temperature ++ leInt16 f.outdoor
    ++ s.termBytes z ++ leFlag f.fallbackCall ++ le16 f.call ++ le8 f.target ++ s.namedSteps 7 z x.cfg.heater
    ++ le16 x.deltaT

/-- The ventilation fields of the READ ZONE reply (R144). -/
def State.ventFields (s : State) (z : Fin 12) : Bytes :=
  let x := s.zone z
  le8 x.vent.code ++ leFlag (s.fanPresent z) ++ le8 (s.fanSteps z) ++ leOpt16 (x.figures.exhaust.map Int.toNat)
    ++ le8 x.figures.ventMin ++ le8 x.figures.computed ++ le8 x.fanTarget ++ leOpt8 x.lowerCandidate
    ++ s.namedSteps 8 z x.cfg.fan
    ++ (if x.vent = .purge then le16 (min Config.max16 (s.seconds - x.purgeStart)) else le16 0xFFFF)

/-- READ ZONE (R134, R144). -/
def execReadZone (tag : Byte) (body : Bytes) (s : State) : Result :=
  request 0x41 tag body
    (fun t =>
      match index? 12 (u8 body 0) with
      | none => (t, stOutOfRange)
      | some z => (t, stOk ++ t.heatingFields z ++ t.ventFields z)) s

/-! ### Points -/

/-- An accepted CONFIG POINT (R120, R136). -/
def configurePoints (n : PointConfig) (s : State) : State :=
  s.setClimate
    { s.climate with
      temps := Vector.ofFn fun p => (look s.climate.temps p).use (look n.tempUsed p) Config.tempStale
      exhausts := Vector.ofFn fun p => (look s.climate.exhausts p).use (look n.exhaustUsed p) Config.exhaustStale
      outdoorPoint := n.outdoorPoint, designTemp := n.designTemp }

/-- CONFIG POINT (R120). -/
def execConfigPoint (tag : Byte) (body : Bytes) (s : State) : Result :=
  request 0x42 tag body
    (fun t =>
      match pointsTreated? body with
      | none => (t, stOutOfRange)
      | some n =>
        (configurePoints n t,
          stTreated (n.designTemp != i16 body 7) ++ le32 (maskOf n.tempUsed) ++ le16 (maskOf n.exhaustUsed)
            ++ le8 n.outdoorPoint ++ leInt16 n.designTemp)) s

/-- The seconds since a point's last good sample on the line (R121, R137). -/
def sinceGood (seconds : Nat) : Option Nat → Bytes
  | some t => le16 (min 65534 (seconds - t))
  | none => le16 0xFFFF

/-- A point's record on the line, with the marking for no held value (R121, R137). -/
def pointBytes (seconds noValue : Nat) (p : SensorPoint) : Bytes :=
  le8 p.state.code
    ++ (match p.value with
        | some v => leInt16 v
        | none => le16 noValue)
    ++ le8 p.bad ++ sinceGood seconds p.lastGood

/-- The bad count set to 0 (R121, R137). -/
def SensorPoint.clearBad (p : SensorPoint) : SensorPoint := { p with bad := 0 }

/-- READ POINTS (R121, R137). -/
def execReadPoints (tag : Byte) (body : Bytes) (s : State) : Result :=
  request 0x43 tag body
    (fun t =>
      match u8 body 0 with
      | 0 =>
        (t.setClimate { t.climate with temps := t.climate.temps.map SensorPoint.clearBad },
          stOk ++ le8 t.climate.outdoorPoint ++ leInt16 t.climate.designTemp ++ leInt16 t.outdoor.1
            ++ le8 (if t.outdoor.2 then 0 else 1) ++ t.climate.temps.toList.flatMap (pointBytes t.seconds 0x8000))
      | 1 =>
        (t.setClimate { t.climate with exhausts := t.climate.exhausts.map SensorPoint.clearBad },
          stOk ++ t.climate.exhausts.toList.flatMap (pointBytes t.seconds 0xFFFF))
      | _ => (t, stOutOfRange)) s

/-! ### Events -/

/-- TEMP_POINT_SAMPLE: a reading in −500 to +800 is good (R117, R118). -/
def execTempPointSample (p : Fin 32) (x : SensorSample) (s : State) : Result :=
  whenRunning
    (fun t =>
      let a := look t.climate.temps p
      let b := a.take (-500) 800 Config.tempStale t.seconds x
      sampleNotice a b p (t.setClimate { t.climate with temps := upd t.climate.temps p b })) s

/-- TEMP_POINT_STALE_EXPIRY (R118). -/
def execTempPointStaleExpiry (p : Fin 32) (s : State) : Result :=
  whenRunning
    (fun t =>
      let a := look t.climate.temps p
      if a.staleT = some 0 then
        raise .pointStale p (staleData a) (t.setClimate { t.climate with temps := upd t.climate.temps p a.goStale })
      else t) s

/-- EXHAUST_POINT_SAMPLE: a reading in 0–2000 ‰ is good; the sensor number is 32 + e (R135, R136). -/
def execExhaustPointSample (p : Fin 12) (x : SensorSample) (s : State) : Result :=
  whenRunning
    (fun t =>
      let a := look t.climate.exhausts p
      let b := a.take 0 2000 Config.exhaustStale t.seconds x
      sampleNotice a b (32 + p) (t.setClimate { t.climate with exhausts := upd t.climate.exhausts p b })) s

/-- EXHAUST_POINT_STALE_EXPIRY (R136). -/
def execExhaustPointStaleExpiry (p : Fin 12) (s : State) : Result :=
  whenRunning
    (fun t =>
      let a := look t.climate.exhausts p
      if a.staleT = some 0 then
        raise .pointStale (32 + p) (staleData a)
          (t.setClimate { t.climate with exhausts := upd t.climate.exhausts p a.goStale })
      else t) s

/-- ZONE_EVALUATION (R125). -/
def execZoneEvaluation (z : Fin 12) (s : State) : Result :=
  whenRunning (fun t => if (t.zone z).evalT = 0 then evaluationExpired z t else t) s

end Sys2Proof.Machine
end

