-- ==== Sys2Proof/Machine/DockCommands.lean ====
section
/-! DEFINITION. The commands of the Dock Supervisor: doors (R88 to R103), the contact check (R104 to R107), the session log (R116), and its
input, timer and loop events. -/

namespace Sys2Proof.Machine

/-! ### CONFIG DOOR (R90, R91) -/

/-- Step 3 of R91: what the door does when its enabling changes. -/
def enablingChange (d : Fin 32) (was now : Bool) (s : State) : State :=
  match was, now with
  | false, true =>
    let x := s.door d
    startDebounce d (s.putDoor d { x with debOpen := x.rawOpen, debPresent := x.rawPresent, state := .unknown })
  | true, false =>
    let t := closeSession d .disabled s
    t.putDoor d { t.door d with state := .unused, contactT := none, presenceT := none, heldT := none }
  | _, _ => s

/-- The steps the channel a door names as its curtain holds (R91), whatever the channel's role (DEDUCED, log entry 22). -/
def State.curtainSteps (s : State) (d : Fin 32) : Nat :=
  match (s.door d).cfg.curtain with
  | some i => (s.chan i).drivenSteps
  | none => 0

/-- Target 0 to a door's old channel (R91 step 4). -/
def releaseOld (old : Option (Fin 128)) (role : Role) (d : Fin 32) (s : State) : State :=
  match old with
  | some i => targetChange i role d 0 false s
  | none => s

/-- The present curtain target to the door's curtain channel, if there is one (R91 step 4). -/
def offerCurtain (d : Fin 32) (s : State) : State :=
  let x := s.door d
  match x.cfg.curtain with
  | some i => targetChange i .curtain d (s.curtainTarget x) false (s.putDoor d { x with sentCurtain := s.curtainTarget x })
  | none => s.putDoor d { x with sentCurtain := 0 }

/-- The present dock light target to the door's dock light channel, if there is one (R91 step 4). -/
def offerLight (d : Fin 32) (s : State) : State :=
  let x := s.door d
  match x.cfg.light with
  | some i => targetChange i .docklight d (s.lightTarget x) false (s.putDoor d { x with sentLight := s.lightTarget x })
  | none => s.putDoor d { x with sentLight := 0 }

/-- Step 4 of R91 for the curtain channel. -/
def changeCurtain (d : Fin 32) (old : Option (Fin 128)) (s : State) : State :=
  if (s.door d).cfg.curtain = old then s
  else
    let t := offerCurtain d (releaseOld old .curtain d s)
    setCurtainRunning d (0 < t.curtainSteps d) t

/-- Step 4 of R91 for the dock light channel. -/
def changeLight (d : Fin 32) (old : Option (Fin 128)) (s : State) : State :=
  if (s.door d).cfg.light = old then s else offerLight d (releaseOld old .docklight d s)

/-- An accepted CONFIG DOOR (R91). -/
def configureDoor (d : Fin 32) (n : DoorConfig) (s : State) : State :=
  let old := (s.door d).cfg
  let t := accrue d s
  let u := enablingChange d old.enabled n.enabled (t.putDoor d { t.door d with cfg := n })
  refreshRate d (sendDoorTargets d (changeLight d old.light (changeCurtain d old.curtain u)))

/-- CONFIG DOOR (R90). -/
def execConfigDoor (tag : Byte) (body : Bytes) (s : State) : Result :=
  request 0x38 tag body
    (fun t =>
      match index? 32 (u8 body 0), doorSent? body with
      | some d, some sent =>
        if sameChannel sent.curtain sent.light then (t, stDuplicate)
        else if t.dock.check.isSome then (t, stBusy)
        else
          let u := configureDoor d (treatDoor sent) t
          (u, stTreated (treatDoor sent != sent) ++ le8 d ++ le8 (u.door d).state.code ++ le8 (u.door d).loop.code)
      | _, _ => (t, stOutOfRange)) s

/-! ### Reading doors (R102, R103) -/

/-- The fields of the READ DOOR reply (R103); the forms that the manual leaves open are PRESUMED (log entry 8). -/
def State.doorFields (s : State) (x : Door) : Bytes :=
  doorConfigBytes x.cfg ++ leFlag x.rawOpen ++ leFlag x.rawPresent ++ leFlag x.debOpen ++ leFlag x.debPresent
    ++ leOpt16 x.contactT ++ leOpt16 x.presenceT ++ leOpt16 x.heldT ++ le8 x.state.code ++ le8 x.loop.code
    ++ le8 x.sentLight ++ le8 x.sentCurtain ++ leFlag x.curtainRunning ++ le16 x.rate ++ le16 x.cycles ++ le8 x.heldEpisodes
    ++ leOpt16 (x.session.map (·.number)) ++ leFlag s.dock.check.isSome ++ leOpt8 (s.dock.check.map (·.remaining))

/-- READ DOOR (R103). -/
def execReadDoor (tag : Byte) (body : Bytes) (s : State) : Result :=
  request 0x39 tag body
    (fun t =>
      match index? 32 (u8 body 0) with
      | none => (t, stOutOfRange)
      | some d => (t, stOk ++ t.doorFields (t.door d))) s

/-- A door's two counters set to 0 (R102). -/
def clearCounters (d : Fin 32) (s : State) : State := s.putDoor d { s.door d with cycles := 0, heldEpisodes := 0 }

/-- READ DOOR COUNTERS (R102); the number of doors returned takes one byte (PRESUMED, log entry 8). -/
def execReadDoorCounters (tag : Byte) (body : Bytes) (s : State) : Result :=
  request 0x3D tag body
    (fun t =>
      let doors := (indices 32).filter fun d => maskBit (u32 body 0) d.val
      (forEach doors clearCounters t,
        stOk ++ le8 doors.length
          ++ doors.flatMap fun (d : Fin 32) => le8 d ++ le16 (t.door d).cycles ++ le8 (t.door d).heldEpisodes)) s

/-! ### The contact check -/

/-- The enabled doors that stand open (R104). -/
def State.openDoors (s : State) : List (Fin 32) :=
  (indices 32).filter fun d => (s.door d).cfg.enabled && (s.door d).state.isOpen

/-- CHECK BEGIN (R104); the mask takes four bytes and the number of doors one (PRESUMED, log entry 8). -/
def execCheckBegin (tag : Byte) (body : Bytes) (s : State) : Result :=
  request 0x3A tag body
    (fun t =>
      if t.dock.check.isSome then (t, stBusy)
      else if !t.openDoors.isEmpty then (t, stDoorsOpen ++ le32 (doorMask t.openDoors))
      else (beginCheck t, stOk ++ le8 ((indices 32).filter fun d => (t.door d).cfg.enabled).length)) s

/-- CHECK END (R106); the number of doors tested takes one byte (PRESUMED, log entry 8). -/
def execCheckEnd (tag : Byte) (body : Bytes) (s : State) : Result :=
  request 0x3B tag body
    (fun t =>
      match t.dock.check with
      | none => (t, stNotRunning)
      | some k =>
        let u := endCheck k .ended t
        (u, stOk ++ le32 (doorMask (u.openLoops k)) ++ le8 k.doors.length)) s

/-! ### The session log -/

/-- READ SESSIONS (R116); the two counts take one byte each (PRESUMED, log entry 8). -/
def execReadSessions (tag : Byte) (body : Bytes) (s : State) : Result :=
  request 0x3C tag body
    (fun t =>
      let out := t.dock.log.take Config.readSessionCount
      let left := t.dock.log.drop Config.readSessionCount
      (t.setDock { t.dock with log := left, lossReported := t.dock.lossReported && out.isEmpty },
        stOk ++ le8 out.length ++ le8 left.length ++ le16 t.dock.lost ++ out.flatMap sessionBytes)) s

/-! ### Events -/

/-- A raw input takes a value (R92). -/
def recordRaw (d : Fin 32) (input : DoorInput) (active : Bool) (s : State) : State :=
  match input with
  | .contact => s.putDoor d { s.door d with rawOpen := active }
  | .presence => s.putDoor d { s.door d with rawPresent := active }

/-- An input's debounce timer starts from the door's debounce time (R92). -/
def restartDebounce (d : Fin 32) (input : DoorInput) (s : State) : State :=
  match input with
  | .contact => s.putDoor d { s.door d with contactT := some (s.door d).cfg.debounce }
  | .presence => s.putDoor d { s.door d with presenceT := some (s.door d).cfg.debounce }

/-- DOOR_INPUT_SAMPLE: the raw value is recorded, and outside UNUSED and a contact check the input's debounce timer starts; before
the running state the level is recorded and no more (R89, R92). `active` is contact open, or presence present. -/
def execDoorInputSample (d : Fin 32) (input : DoorInput) (active : Bool) (s : State) : Result :=
  let t := recordRaw d input active s
  if s.stage = .running ∧ (s.door d).state ≠ .unused ∧ s.dock.check = none then .next (restartDebounce d input t)
  else .next t

/-- DEBOUNCE_EXPIRY (R92 to R94). -/
def execDebounceExpiry (d : Fin 32) (input : DoorInput) (s : State) : Result :=
  whenRunning (fun t => if (t.door d).debounceT input = some 0 then debounceExpired d input t else t) s

/-- HELD_TIMER_EXPIRY (R96). -/
def execHeldTimerExpiry (d : Fin 32) (s : State) : Result :=
  whenRunning (fun t => if (t.door d).heldT = some 0 then heldExpired d t else t) s

/-- LOOP_SAMPLE: the last loop sample of a door under test is kept (R105). -/
def execLoopSample (d : Fin 32) (flows : Bool) (s : State) : Result :=
  whenRunning
    (fun t =>
      match t.dock.check with
      | some k =>
        if look k.underTest d then
          t.setDock { t.dock with check := some { k with sample := upd k.sample d (some flows) } }
        else t
      | none => t) s

/-- CHECK_LIMIT_EXPIRY (R106). -/
def execCheckLimitExpiry (s : State) : Result :=
  whenRunning
    (fun t =>
      match t.dock.check with
      | some k => if k.remaining = 0 then endCheck k .expired t else t
      | none => t) s

end Sys2Proof.Machine
end

