-- ==== Sys2Proof/Machine/LightingCommands.lean ====
section
/-! DEFINITION. The commands of the Lighting Unit: zones (R145 to R147, R155), the commissioning walk (R152 to R154), and its presence and
dwell events. -/

namespace Sys2Proof.Machine

/-! ### CONFIG LIGHT ZONE (R146) -/

/-- Step 1 of R146: target 0 and protected minimum 0 to a channel the zone no longer names. -/
def releaseLight (z : Fin 24) (new : Option (Fin 128)) (s : State) : State :=
  match (s.light z).cfg.channel with
  | some i => if some i = new then s else protectedMinimum i z 0 (targetChange i .light z 0 false s)
  | none => s

/-- Steps 2 and 4 of R146 and the last sent target of step 5 at the zone record. `timer` is the presence timer as it would
start now. -/
def LightZone.configured (x : LightZone) (n : LightConfig) (timer : Timer) : LightZone :=
  { x with
    cfg := n
    presenceT := if n.presence = x.cfg.presence then x.presenceT else if n.presence then timer else none
    vacant := x.vacant && n.presence = x.cfg.presence
    lastSent := if n.channel = x.cfg.channel then x.lastSent else 0 }

/-- The presence timer of a configuration as it would start now (R146, R148). -/
def State.presenceFrom (s : State) (n : LightConfig) : Timer :=
  if s.kind = .changeover then none else some (if s.kind = .break_ then n.breakHold else n.hold)

/-- An accepted CONFIG LIGHT ZONE (R146). -/
def configureLight (z : Fin 24) (n : LightConfig) (s : State) : State :=
  let t := releaseLight z n.channel s
  deriveLight z (sendProtected z (t.putLight z ((t.light z).configured n (t.presenceFrom n))))

/-- CONFIG LIGHT ZONE (R146); the target of its reply takes two bytes (PRESUMED, log entry 8). -/
def execConfigLightZone (tag : Byte) (body : Bytes) (s : State) : Result :=
  request 0x48 tag body
    (fun t =>
      match index? 24 (u8 body 0), lightSent? body with
      | some z, some sent =>
        if t.lighting.walk.isSome then (t, stBusy)
        else
          let u := configureLight z (treatLight sent) t
          (u, stTreated (treatLight sent != sent) ++ le8 z ++ leFlag (u.lightPresent z) ++ le16 (u.light z).target)
      | _, _ => (t, stOutOfRange)) s

/-! ### READ LIGHT ZONE (R155) -/

/-- The driven level, the granted hW and the dimmed flag of a zone, 0 when its channel is not present (R151, R155); that the dimmed
flag is then clear, even where the channel stands in the deficit set for another zone, is a DESIGN CHOICE (log entry 42). -/
def State.lightFigures (s : State) (z : Fin 24) : Bytes :=
  match s.boundChannel (s.light z).cfg.channel .light z with
  | some c => le16 c.drivenLevel ++ le16 c.granted ++ leFlag (0 < c.deficit)
  | none => le16 0 ++ le16 0 ++ leFlag false

/-- The fields of the READ LIGHT ZONE reply (R155); the widths that the manual leaves open are PRESUMED (log entry 8). -/
def State.lightFields (s : State) (z : Fin 24) : Bytes :=
  let x := s.light z
  lightConfigBytes x.cfg ++ leFlag (s.lightPresent z) ++ leFlag x.vacant ++ leOpt16 x.presenceT ++ le16 x.target
    ++ le8 x.source.code ++ le16 x.lastSent ++ s.lightFigures z ++ leOpt16 x.walkResult
    ++ (match s.lighting.walk with
        | some w => leFlag true ++ le8 w.visiting ++ le8 w.remaining
        | none => leFlag false ++ le8 0xFF ++ le8 0xFF)

/-- READ LIGHT ZONE (R155). -/
def execReadLightZone (tag : Byte) (body : Bytes) (s : State) : Result :=
  request 0x49 tag body
    (fun t =>
      match index? 24 (u8 body 0) with
      | none => (t, stOutOfRange)
      | some z => (t, stOk ++ t.lightFields z)) s

/-! ### The commissioning walk -/

/-- WALK START (R152); the dwell and the number of zones take one byte each (PRESUMED, log entry 8). -/
def execWalkStart (tag : Byte) (body : Bytes) (s : State) : Result :=
  request 0x4A tag body
    (fun t =>
      if !t.plantRunning then (t, stStopActive)
      else if t.lighting.walk.isSome then (t, stBusy)
      else
        let dwell := clampNat 5 60 (u8 body 0)
        (startWalk dwell t.walkList t, stTreated (dwell != u8 body 0) ++ le8 dwell ++ le8 t.walkList.length)) s

/-- WALK STOP (R154); the zones visited are the visits begun, the current one included (DEDUCED, log entry 28), in one byte (PRESUMED, log
entry 8). -/
def execWalkStop (tag : Byte) (body : Bytes) (s : State) : Result :=
  request 0x4B tag body
    (fun t =>
      match t.lighting.walk with
      | none => (t, stNotRunning)
      | some w => (endWalk .stopped t, stOk ++ le8 w.begun)) s

/-! ### Events -/

/-- PRESENCE_PULSE (R148). -/
def execPresencePulse (z : Fin 24) (s : State) : Result := whenRunning (pulse z) s

/-- PRESENCE_TIMER_EXPIRY (R148). -/
def execPresenceTimerExpiry (z : Fin 24) (s : State) : Result :=
  whenRunning (fun t => if (t.light z).presenceT = some 0 then presenceExpired z t else t) s

/-- DWELL_EXPIRY (R153). -/
def execDwellExpiry (s : State) : Result :=
  whenRunning
    (fun t =>
      match t.lighting.walk with
      | some w => if w.remaining = 0 then dwellExpired w t else t
      | none => t) s

end Sys2Proof.Machine
end

