-- ==== Sys2Proof/Machine/LineUnit.lean ====
section
/-! DEFINITION. The receiver of the Line Interface (R162) and the request buffer's side of a completed frame (R163). -/

namespace Sys2Proof.Machine

/-- What the bytes received after a SYNC amount to: a frame still being collected, a failed frame, or a good one with the count
of its bytes after the SYNC (R162). -/
inductive Collected where
  | incomplete
  | failed
  | good (f : Frame) (length : Nat)
  deriving DecidableEq, Repr

/-- The frame whose counted bytes (TAG, KIND, BODY) these are. -/
def frame? : Bytes → Option Frame
  | tag :: kind :: body => some ⟨tag, kind, body⟩
  | _ => none

/-- The collecting of a frame: LEN in 2–242, LEN bytes, and two CRC bytes taken little-endian over LEN through BODY (R162). -/
def collect : Bytes → Collected
  | [] => .incomplete
  | len :: rest =>
    if len.toNat < 2 ∨ 242 < len.toNat then .failed
    else if rest.length < len.toNat + 2 then .incomplete
    else if (crc16 (len :: rest.take len.toNat)).toNat ≠ u16 rest len.toNat then .failed
    else
      match frame? (rest.take len.toNat) with
      | some f => .good f (len.toNat + 3)
      | none => .failed

/-- The bad-frame counter rises by 1, stopping at 255 (R162). -/
def Line.countBad (l : Line) : Line := { l with badFrames := satAdd 255 l.badFrames 1 }

/-- A good frame is offered to the request buffer: it joins, or is dropped as an overrun (R163). -/
def Line.offer (l : Line) (f : Frame) : Line :=
  if l.buffer.length < Config.maxFrames then { l with buffer := l.buffer ++ [f] }
  else { l with overruns := satAdd 255 l.overruns 1 }

/-- The receiver over a byte sequence: while hunting, a byte other than 0xC3 is discarded and 0xC3 begins a frame; a failed frame
is counted and hunted again from the byte after its SYNC; a frame still incomplete at the end is kept, or fails when the 20 ms
have run out. `skip` counts the bytes of a good frame still to pass over (R162). -/
def scan (timeUp : Bool) : Nat → Bytes → Line → Line
  | _, [], l => { l with rx := [] }
  | skip + 1, _ :: rest, l => scan timeUp skip rest l
  | 0, b :: rest, l =>
    if b ≠ 0xC3#8 then scan timeUp 0 rest l
    else
      match collect rest with
      | .incomplete => if timeUp then scan timeUp 0 rest l.countBad else { l with rx := b :: rest }
      | .failed => scan timeUp 0 rest l.countBad
      | .good f n => scan timeUp n rest (l.offer f)

/-- Bytes arrive on the host line within 20 ms of one another and of the byte before them (R162). -/
def Line.receive (l : Line) (bytes : Bytes) : Line := scan false 0 (l.rx ++ bytes) l

/-- More than 20 ms pass after the last byte of a frame being collected (R162). -/
def Line.gap (l : Line) : Line := scan true 0 l.rx l

/-- The arrival of bytes: received from the release of power-on reset, in the load as in the running state (R158, R162). -/
def receiveBytes (bytes : Bytes) (s : State) : State :=
  if s.stage = .inReset then s else s.setLine (s.line.receive bytes)

end Sys2Proof.Machine
end

