-- ==== Sys2Proof/Machine/LineCommands.lean ====
section
/-! DEFINITION. The commands of the Line Interface: the byte events of the receiver (R162, R163), the unknown kind (R164), and PING, STATUS,
SET NOTICE LEVEL (R166) and FETCH NOTICES (R169). -/

namespace Sys2Proof.Machine

/-- FRAME_COMPLETE: the bytes up to the last CRC byte of a frame arrive (R162, R163). -/
def execFrameComplete (bytes : Bytes) (s : State) : Result := .next (receiveBytes bytes s)

/-- SYNC_RECEIVED: a byte arrives; while the receiver hunts, 0xC3 begins a frame and any other byte is discarded (R162). -/
def execSyncReceived (byte : Byte) (s : State) : Result := .next (receiveBytes [byte] s)

/-- LEN_OUT_OF_RANGE: the byte after a SYNC arrives; a LEN outside 2–242 fails the frame at once (R162). -/
def execLenOutOfRange (len : Byte) (s : State) : Result := .next (receiveBytes [len] s)

/-- FRAME_GAP_EXPIRY: the 20 ms run out after the last byte of a frame being collected (R162). -/
def execFrameGapExpiry (s : State) : Result := .next (s.setLine s.line.gap)

/-- UNKNOWN_KIND_REQUEST: a taken request whose KIND is not in the table is answered UNKNOWN_KIND and changes nothing else (R164). A
kind of the table is not this command's. -/
def execUnknownKindRequest (tag kind : Byte) (body : Bytes) (s : State) : Result :=
  match bodyRule? kind with
  | none => request kind tag body (fun t => (t, stUnknownKind)) s
  | some _ => .next s

/-- PING: OK and its own body (R166). -/
def execPing (tag : Byte) (body : Bytes) (s : State) : Result :=
  request 0x01 tag body (fun t => (t, stOk ++ body)) s

/-- The fields of the STATUS reply (R166). -/
def State.statusFields (s : State) : Bytes :=
  leFlag s.plan.clock.isSome ++ leTime s.plan.clock ++ le8 s.plan.current.fields.label ++ leStart s.plan.next
    ++ le16 s.plan.digest.toNat ++ le8 s.stop.state.code
    ++ le8 s.store.source.code ++ leFlag s.store.saving.isSome ++ le8 s.store.lastSave.code
    ++ leFlag s.budget.tight ++ leFlag s.budget.shed ++ le8 s.line.level.code
    ++ le8 s.line.notices.length ++ le16 s.line.lost ++ le8 s.line.badFrames ++ le8 s.line.overruns
    ++ le8 s.line.buffer.length

/-- The line counters cleared (R166). -/
def Line.clearCounters (l : Line) : Line := { l with badFrames := 0, overruns := 0 }

/-- STATUS: the fields as they stand, then the line counters are cleared if the flag asks (R166). -/
def execStatus (tag : Byte) (body : Bytes) (s : State) : Result :=
  request 0x02 tag body
    (fun t => (if uFlag body 0 then t.setLine t.line.clearCounters else t, stOk ++ t.statusFields)) s

/-- The removal of the oldest notices: the attention output follows the queue (R169, R170). -/
def Line.dropNotices (l : Line) (n : Nat) : Line :=
  { l with notices := l.notices.drop n, attention := !(l.notices.drop n).isEmpty }

/-- The NOTICES_LOST notice, appended when at least one notice was removed and some were lost (R169). -/
def fetchNotices (s : State) : State :=
  let n := min s.line.notices.length Config.fetchCount
  let t := s.setLine (s.line.dropNotices n)
  if 0 < n ∧ 0 < s.line.lost then
    t.setLine { t.line.join { kind := .noticesLost, time := s.plan.clock, subject := 0, data := le16 s.line.lost } with lost := 0 }
  else t

/-- FETCH NOTICES (R169); the two counts take one byte each (PRESUMED, log entry 8). -/
def execFetchNotices (tag : Byte) (body : Bytes) (s : State) : Result :=
  request 0x58 tag body
    (fun t =>
      let u := fetchNotices t
      let out := t.line.notices.take Config.fetchCount
      (u, stOk ++ le8 out.length ++ le8 u.line.notices.length ++ out.flatMap noticeBytes)) s

/-- SET NOTICE LEVEL (R166). -/
def execSetNoticeLevel (tag : Byte) (body : Bytes) (s : State) : Result :=
  request 0x59 tag body
    (fun t =>
      match noticeLevel? (u8 body 0) with
      | none => (t, stOutOfRange)
      | some l => (t.setLine { t.line with level := l }, stOk ++ le8 l.code)) s

end Sys2Proof.Machine
end

