-- ==== Sys2Proof/Machine/PlanCommands.lean ====
section
/-! DEFINITION. The commands of the Shift Plan Unit: clock (R1 to R3), phase list (R4 to R9), context (R13), settings tables (R25 to R31),
overrides (R33 to R37), and its events: the oscillator's second, the timed turn and the override expiry. -/

namespace Sys2Proof.Machine

/-! ### Clock -/

/-- SET CLOCK: the clock, the turn it causes, and the clock-set event (R2, R66). -/
def execSetClock (tag : Byte) (body : Bytes) (s : State) : Result :=
  request 0x03 tag body
    (fun t =>
      let v := u32 body 0
      if v < Config.weekSeconds then
        let u := clockSetEvent v (setClockTo v t)
        (u, stOk ++ le32 v ++ le8 u.plan.current.fields.label ++ leStart u.plan.next)
      else (t, stOutOfRange)) s

/-- READ CLOCK (R3). -/
def execReadClock (tag : Byte) (body : Bytes) (s : State) : Result :=
  request 0x04 tag body (fun t => (t, stOk ++ leFlag t.plan.clock.isSome ++ leTime t.plan.clock)) s

/-! ### Phase list -/

/-- The reply fields of ADD PHASE, DROP PHASE and EDIT PHASE (R5). -/
def State.listReply (s : State) : Bytes :=
  stOk ++ le8 s.plan.phases.length ++ leStart s.plan.next ++ le16 s.plan.digest.toNat

/-- An accepted ADD PHASE: the insertion, the digest, and the entry turn or next (R5). -/
def addRecord (r : PhaseRec) (s : State) : State :=
  let t := recomputeDigest (s.setPlan { s.plan with phases := insertPhase r s.plan.phases })
  if s.plan.clock.isSome && s.plan.phases.isEmpty then entryTurn t else recomputeNext t

/-- ADD PHASE (R5). -/
def execAddPhase (tag : Byte) (body : Bytes) (s : State) : Result :=
  request 0x10 tag body
    (fun t =>
      let start := u16 body 0
      match listFields? body with
      | none => (t, stOutOfRange)
      | some f =>
        if Config.weekMinutes ≤ start then (t, stOutOfRange)
        else if (recordAt t.plan.phases start).isSome then (t, stDuplicate)
        else if Config.maxPhases ≤ t.plan.phases.length then (t, stTableFull)
        else
          let u := addRecord ⟨start, f⟩ t
          (u, u.listReply)) s

/-- An accepted DROP PHASE: the removal, the digest, and next or the emptying turn (R6). -/
def dropRecord (start : Nat) (s : State) : State :=
  let t := recomputeDigest (s.setPlan { s.plan with phases := s.plan.phases.filter (·.start ≠ start) })
  if t.plan.phases.isEmpty then (if s.plan.clock.isSome then emptyingTurn t else t) else recomputeNext t

/-- DROP PHASE (R6). -/
def execDropPhase (tag : Byte) (body : Bytes) (s : State) : Result :=
  request 0x11 tag body
    (fun t =>
      let start := u16 body 0
      if Config.weekMinutes ≤ start then (t, stOutOfRange)
      else if (recordAt t.plan.phases start).isNone then (t, stNotFound)
      else
        let u := dropRecord start t
        (u, u.listReply)) s

/-- An accepted edit of the fallback phase: label 255, precondition clear, and the fallback refresh while current is a copy of it
(R7, R9). -/
def editFallback (f : PhaseFields) (s : State) : State :=
  let t := recomputeDigest (s.setPlan { s.plan with fallback := { f with label := 255, precondition := false } })
  if s.plan.current.source = none then fallbackRefresh t else t

/-- An accepted edit of a list record (R7). -/
def editRecord (r : PhaseRec) (s : State) : State :=
  recomputeNext (recomputeDigest
    (s.setPlan { s.plan with phases := s.plan.phases.map fun x => if x.start = r.start then r else x }))

/-- EDIT PHASE (R7). -/
def execEditPhase (tag : Byte) (body : Bytes) (s : State) : Result :=
  request 0x12 tag body
    (fun t =>
      let start := u16 body 0
      if start = 0xFFFF then
        match phaseFields? body with
        | none => (t, stOutOfRange)
        | some f =>
          let u := editFallback f t
          (u, u.listReply)
      else if Config.weekMinutes ≤ start then (t, stOutOfRange)
      else if (recordAt t.plan.phases start).isNone then (t, stNotFound)
      else
        match listFields? body with
        | none => (t, stOutOfRange)
        | some f =>
          let u := editRecord ⟨start, f⟩ t
          (u, u.listReply)) s

/-- READ PHASES (R8); the two counts take one byte each (PRESUMED, log entry 8). -/
def execReadPhases (tag : Byte) (body : Bytes) (s : State) : Result :=
  request 0x13 tag body
    (fun t =>
      let pos := u8 body 0
      if 47 < pos then (t, stOutOfRange)
      else
        let out := (t.plan.phases.drop pos).take 27
        (t, stOk ++ le8 t.plan.phases.length ++ phaseBytes none t.plan.fallback ++ le8 out.length
              ++ out.flatMap fun r => phaseBytes (some r.start) r.fields)) s

/-- The fields of the READ CONTEXT reply (R13). -/
def State.contextFields (s : State) : Bytes :=
  leFlag s.plan.clock.isSome ++ leTime s.plan.clock
    ++ (match s.plan.previous with
        | some p => leFlag true ++ phaseBytes p.source p.fields
        | none => leFlag false ++ List.replicate 8 0xFF)
    ++ phaseBytes s.plan.current.source s.plan.current.fields ++ leStart s.plan.next
    ++ le32 s.plan.totals.docked ++ le32 s.plan.totals.bare ++ le16 s.plan.totals.cycles ++ le16 s.plan.totals.held
    ++ le16 s.plan.totals.shed ++ le16 s.plan.digest.toNat

/-- READ CONTEXT: NO_CLOCK while the clock is unset, with every field (R13). -/
def execReadContext (tag : Byte) (body : Bytes) (s : State) : Result :=
  request 0x14 tag body (fun t => (t, (if t.plan.clock.isSome then stOk else stNoClock) ++ t.contextFields)) s

/-! ### Settings tables -/

/-- An accepted table edit, NOW or AT_TURN, with its reply (R26 to R28). The edit's position and the number of edits take one byte each
(PRESUMED, log entry 8). -/
def takeEdit (atTurn clamped : Bool) (e : PendingEdit) (s : State) : State × Bytes :=
  let u := if atTurn then s.setPlan { s.plan with edits := placeEdit e s.plan.edits } else editNow e s
  (u, stTreated clamped ++ leFlag atTurn ++ (if atTurn then le8 (editPosition e.key u.plan.edits) else le8 0xFF)
        ++ le8 u.plan.edits.length ++ le16 u.plan.digest.toNat)

/-- SET SCENE (R25). -/
def execSetScene (tag : Byte) (body : Bytes) (s : State) : Result :=
  request 0x18 tag body
    (fun t =>
      match index? 16 (u8 body 0), timing? (u8 body 1) with
      | some i, some atTurn =>
        takeEdit atTurn (treatScene (sceneSent body) != sceneSent body) (.scene i (treatScene (sceneSent body))) t
      | _, _ => (t, stOutOfRange)) s

/-- SET CLIMATE SET (R25). -/
def execSetClimateSet (tag : Byte) (body : Bytes) (s : State) : Result :=
  request 0x19 tag body
    (fun t =>
      match index? 8 (u8 body 0), timing? (u8 body 1) with
      | some i, some atTurn =>
        takeEdit atTurn (treatClimateSet (climateSetSent body) != climateSetSent body)
          (.climateSet i (treatClimateSet (climateSetSent body))) t
      | _, _ => (t, stOutOfRange)) s

/-- SET PROFILE (R25). -/
def execSetProfile (tag : Byte) (body : Bytes) (s : State) : Result :=
  request 0x1A tag body
    (fun t =>
      match index? 4 (u8 body 0), timing? (u8 body 1) with
      | some i, some atTurn =>
        takeEdit atTurn (treatProfile (profileSent body) != profileSent body)
          (.profile i (treatProfile (profileSent body))) t
      | _, _ => (t, stOutOfRange)) s

/-- The stored entry of a table and index in its digest layout (R20, R31). -/
def PlanUnit.entryBytes (p : PlanUnit) (table index : Nat) : Option Bytes :=
  match table with
  | 0 => (index? 16 index).map fun i => sceneBytes (look p.scenes i)
  | 1 => (index? 8 index).map fun i => climateSetBytes (look p.climateSets i)
  | 2 => (index? 4 index).map fun i => profileBytes (look p.profiles i)
  | _ => none

/-- READ TABLE (R31). -/
def execReadTable (tag : Byte) (body : Bytes) (s : State) : Result :=
  request 0x1B tag body
    (fun t =>
      match t.plan.entryBytes (u8 body 0) (u8 body 1) with
      | none => (t, stOutOfRange)
      | some b =>
        (t, stOk ++ le8 (u8 body 0) ++ le8 (u8 body 1)
              ++ leFlag (t.plan.edits.any fun e => e.key == (u8 body 0, u8 body 1)) ++ b)) s

/-- READ PENDING (R30); the number of edits takes one byte (PRESUMED, log entry 8). -/
def execReadPending (tag : Byte) (body : Bytes) (s : State) : Result :=
  request 0x1C tag body
    (fun t => (t, stOk ++ le8 t.plan.edits.length ++ t.plan.edits.flatMap fun e => le8 e.key.1 ++ le8 e.key.2)) s

/-- CANCEL PENDING (R30); the number of edits removed takes one byte (PRESUMED, log entry 8). -/
def execCancelPending (tag : Byte) (body : Bytes) (s : State) : Result :=
  request 0x1D tag body (fun t => (t.setPlan { t.plan with edits := [] }, stOk ++ le8 t.plan.edits.length)) s

/-! ### Overrides -/

/-- The override table with a record placed: in the position of the target's record, else at the end (R33). -/
def placeOverride (o : Override) : List Override → List Override
  | [] => [o]
  | x :: xs => if x.target = o.target then o :: xs else x :: placeOverride o xs

/-- The position of a target's record. -/
def overridePosition (t : OverrideTarget) (l : List Override) : Nat := l.findIdx (·.target = t)

/-- An accepted SET OVERRIDE (R33, R34). -/
def setOverride (o : Override) (s : State) : State :=
  overrideChanged o.target (s.setPlan { s.plan with overrides := placeOverride o s.plan.overrides })

/-- The record a SET OVERRIDE creates, with whether treatment changed a value (R33). -/
def overrideOf (target : OverrideTarget) (timed : Bool) (body : Bytes) (now : Option Nat) : Override × Bool :=
  let sent := overrideSent target body
  let duration := clampNat 60 Config.weekSeconds (u32 body 5)
  ({ target := target, value := treatOverride target sent, remaining := if timed then some duration else none, setAt := now },
   treatOverride target sent != sent || (timed && duration != u32 body 5))

/-- The end field of SET OVERRIDE: TIMED or UNTIL_TURN; `some true` is TIMED (R32). -/
def timed? : Nat → Option Bool
  | 0 => some true
  | 1 => some false
  | _ => none

/-- SET OVERRIDE (R33); the number of records and the record's position take one byte each (PRESUMED, log entry 8). -/
def execSetOverride (tag : Byte) (body : Bytes) (s : State) : Result :=
  request 0x20 tag body
    (fun t =>
      match overrideTarget? (u8 body 0) (u8 body 1), timed? (u8 body 4) with
      | some target, some timed =>
        if (t.overrideFor target).isNone && decide (Config.maxOverrides ≤ t.plan.overrides.length) then (t, stTableFull)
        else
          let o := overrideOf target timed body t.plan.clock
          let u := setOverride o.1 t
          (u, stTreated o.2 ++ le8 u.plan.overrides.length ++ le8 (overridePosition target u.plan.overrides)
                ++ leTime o.1.remaining)
      | _, _ => (t, stOutOfRange)) s

/-- CLEAR OVERRIDE (R35); the number of records left takes one byte (PRESUMED, log entry 8). -/
def execClearOverride (tag : Byte) (body : Bytes) (s : State) : Result :=
  request 0x21 tag body
    (fun t =>
      match overrideTarget? (u8 body 0) (u8 body 1) with
      | none => (t, stOutOfRange)
      | some target =>
        match t.plan.overrides.find? (·.target = target) with
        | none => (t, stNotFound)
        | some o =>
          let u := endOverride o .cleared t
          (u, stOk ++ le8 u.plan.overrides.length)) s

/-- An override record on the line (R37). -/
def overrideBytes (o : Override) : Bytes :=
  le8 (targetKindCode o.target) ++ le8 (targetZone o.target) ++ leInt16 o.value ++ le8 (if o.remaining.isSome then 0 else 1)
    ++ leTime o.remaining ++ leTime o.setAt

/-- READ OVERRIDES (R37); the number of records takes one byte (PRESUMED, log entry 8). -/
def execReadOverrides (tag : Byte) (body : Bytes) (s : State) : Result :=
  request 0x22 tag body
    (fun t => (t, stOk ++ le8 t.plan.overrides.length ++ t.plan.overrides.flatMap overrideBytes)) s

/-! ### Events -/

/-- CLOCK_ADVANCE: one second of the oscillator (R1, R109). -/
def execClockAdvance (s : State) : Result := whenRunning State.tick s

/-- TIMED_TURN: the timed turn, when one is due (R14). -/
def execTimedTurn (s : State) : Result := whenRunning (fun t => if t.plan.timedTurnDue then timedTurn t else t) s

/-- OVERRIDE_EXPIRY: the record of the target ends when its remaining time has reached 0 (R35). -/
def execOverrideExpiry (target : OverrideTarget) (s : State) : Result :=
  whenRunning
    (fun t =>
      match t.plan.overrides.find? (·.target = target) with
      | some o => if o.remaining = some 0 then endOverride o .expired t else t
      | none => t) s

end Sys2Proof.Machine
end

