-- ==== Sys2Proof/Machine/SystemCommands.lean ====
section
/-! DEFINITION. The commands that reach every unit or the store: power-on and the end of the load (R158), the fire-panel input and RESUME
(R156, R157), RESTART (R159), SAVE and the end of a save (R160, R161). -/

namespace Sys2Proof.Machine

/-- POWER_ON: the release of power-on reset (R158). -/
def execPowerOn (s : State) : Result := .next (powerUp s)

/-- STORE_LOAD_COMPLETE: the end of the setting store load (R158); nothing when no load runs (log entry 35). -/
def execStoreLoadComplete (answers : Bool) (s : State) : Result :=
  if s.stage = .loading then .next (finishLoading answers s) else .next s

/-- FIRE_PANEL_SAMPLE: before the running state the level is recorded and is no event (R156). -/
def execFirePanelSample (asserted : Bool) (s : State) : Result :=
  if s.stage = .running then .next (if asserted then fireAsserted s else fireCleared s)
  else .next (s.setStop { s.stop with fire := asserted })

/-- RESUME (R157). -/
def execResume (tag : Byte) (body : Bytes) (s : State) : Result :=
  request 0x50 tag body
    (fun t =>
      match t.stop.state with
      | .stopped => (t, stStopActive ++ le8 PlantState.stopped.code)
      | .running => (t, stWrongState ++ le8 PlantState.running.code)
      | .released =>
        let u := resumePlant t
        (u, stOk ++ le8 u.stop.state.code)) s

/-- What RESTART does for the mode it carries (R159). -/
def restart (body : Bytes) : Service := fun t =>
  match u8 body 0 with
  | 0 => (plantRestart t, stOk)
  | 1 => if t.store.saving.isSome then (t, stBusy) else (startLoading t t.store.image, stOk)
  | _ => (t, stOutOfRange)

/-- RESTART with mode PLANT, and with a mode that is none of the two (R159). -/
def execRestartPlant (tag : Byte) (body : Bytes) (s : State) : Result := request 0x51 tag body (restart body) s

/-- RESTART with mode FULL (R159). -/
def execRestartFull (tag : Byte) (body : Bytes) (s : State) : Result := request 0x51 tag body (restart body) s

/-- SAVE (R160). -/
def execSave (tag : Byte) (body : Bytes) (s : State) : Result :=
  request 0x52 tag body
    (fun t =>
      if t.store.saving.isSome then (t, stBusy)
      else
        (t.setStore { t.store with saving := some (t.snapshot, t.plan.digest) },
          stOk ++ le16 t.plan.digest.toNat ++ le8 t.store.source.code ++ leFlag true ++ le8 t.store.lastSave.code)) s

/-- The image a failed save leaves (R161, log entry 12). -/
def failedImage (old : StoreImage) (content : Snapshot) : Config.FailedImage → StoreImage
  | .previous => old
  | .written => content.written
  | .failing => content.cutShort

/-- A save that fails (R161). -/
def saveFailed (reason : StoreReason) (content : Snapshot) (s : State) : State :=
  raise .saveFailed 0 (le8 reason.code)
    (s.setStore { s.store with image := failedImage s.store.image content (Config.failedSaveImage s.drawn), saving := none,
                               lastSave := .failed }).draw

/-- The end of the write and read-back (R161). -/
def saveEnded (result : SaveResult) (content : Snapshot) (digest : Crc16) (s : State) : State :=
  match result with
  | .compared =>
    raise .saveDone 0 (le16 digest.toNat)
      (s.setStore { s.store with image := content.written, saving := none, lastSave := .done })
  | .compareFailed => saveFailed .compareFailed content s
  | .noAnswer => saveFailed .noAnswer content s

/-- SAVE_COMPLETE: the end of the save in progress (R161); nothing when none runs (log entry 35). -/
def execSaveComplete (result : SaveResult) (s : State) : Result :=
  whenRunning
    (fun t =>
      match t.store.saving with
      | some (content, digest) => saveEnded result content digest t
      | none => t) s

end Sys2Proof.Machine
end

