-- ==== Sys2Proof/Machine/Dispatch.lean ====
section
/-! DEFINITION. One arm for each command: a direct call of its meaning. -/

namespace Sys2Proof.Machine

/-- The effect of a command on everything but the queue of waiting commands. -/
def exec (i : Instr) (s : State) : Host.Outcome State Fault Refusal :=
  match i with
  | .powerOn => Sys2Proof.Machine.execPowerOn s
  | .storeLoadComplete answers => Sys2Proof.Machine.execStoreLoadComplete answers s
  | .frameComplete bytes => Sys2Proof.Machine.execFrameComplete bytes s
  | .frameGapExpiry => Sys2Proof.Machine.execFrameGapExpiry s
  | .unknownKindRequest tag kind body => Sys2Proof.Machine.execUnknownKindRequest tag kind body s
  | .ping tag body => Sys2Proof.Machine.execPing tag body s
  | .status tag body => Sys2Proof.Machine.execStatus tag body s
  | .setClock tag body => Sys2Proof.Machine.execSetClock tag body s
  | .readClock tag body => Sys2Proof.Machine.execReadClock tag body s
  | .addPhase tag body => Sys2Proof.Machine.execAddPhase tag body s
  | .dropPhase tag body => Sys2Proof.Machine.execDropPhase tag body s
  | .editPhase tag body => Sys2Proof.Machine.execEditPhase tag body s
  | .readPhases tag body => Sys2Proof.Machine.execReadPhases tag body s
  | .readContext tag body => Sys2Proof.Machine.execReadContext tag body s
  | .setScene tag body => Sys2Proof.Machine.execSetScene tag body s
  | .setClimateSet tag body => Sys2Proof.Machine.execSetClimateSet tag body s
  | .setProfile tag body => Sys2Proof.Machine.execSetProfile tag body s
  | .readTable tag body => Sys2Proof.Machine.execReadTable tag body s
  | .readPending tag body => Sys2Proof.Machine.execReadPending tag body s
  | .cancelPending tag body => Sys2Proof.Machine.execCancelPending tag body s
  | .setOverride tag body => Sys2Proof.Machine.execSetOverride tag body s
  | .clearOverride tag body => Sys2Proof.Machine.execClearOverride tag body s
  | .readOverrides tag body => Sys2Proof.Machine.execReadOverrides tag body s
  | .configChannel tag body => Sys2Proof.Machine.execConfigChannel tag body s
  | .readChannel tag body => Sys2Proof.Machine.execReadChannel tag body s
  | .ackTrip tag body => Sys2Proof.Machine.execAckTrip tag body s
  | .setLimits tag body => Sys2Proof.Machine.execSetLimits tag body s
  | .readBudget tag body => Sys2Proof.Machine.execReadBudget tag body s
  | .readQueue tag body => Sys2Proof.Machine.execReadQueue tag body s
  | .configDoor tag body => Sys2Proof.Machine.execConfigDoor tag body s
  | .readDoor tag body => Sys2Proof.Machine.execReadDoor tag body s
  | .checkBegin tag body => Sys2Proof.Machine.execCheckBegin tag body s
  | .checkEnd tag body => Sys2Proof.Machine.execCheckEnd tag body s
  | .readSessions tag body => Sys2Proof.Machine.execReadSessions tag body s
  | .readDoorCounters tag body => Sys2Proof.Machine.execReadDoorCounters tag body s
  | .configZone tag body => Sys2Proof.Machine.execConfigZone tag body s
  | .readZone tag body => Sys2Proof.Machine.execReadZone tag body s
  | .configPoint tag body => Sys2Proof.Machine.execConfigPoint tag body s
  | .readPoints tag body => Sys2Proof.Machine.execReadPoints tag body s
  | .configLightZone tag body => Sys2Proof.Machine.execConfigLightZone tag body s
  | .readLightZone tag body => Sys2Proof.Machine.execReadLightZone tag body s
  | .walkStart tag body => Sys2Proof.Machine.execWalkStart tag body s
  | .walkStop tag body => Sys2Proof.Machine.execWalkStop tag body s
  | .resume tag body => Sys2Proof.Machine.execResume tag body s
  | .restartPlant tag body => Sys2Proof.Machine.execRestartPlant tag body s
  | .restartFull tag body => Sys2Proof.Machine.execRestartFull tag body s
  | .save tag body => Sys2Proof.Machine.execSave tag body s
  | .fetchNotices tag body => Sys2Proof.Machine.execFetchNotices tag body s
  | .setNoticeLevel tag body => Sys2Proof.Machine.execSetNoticeLevel tag body s
  | .clockAdvance => Sys2Proof.Machine.execClockAdvance s
  | .timedTurn => Sys2Proof.Machine.execTimedTurn s
  | .overrideExpiry target => Sys2Proof.Machine.execOverrideExpiry target s
  | .meterPulse meter => Sys2Proof.Machine.execMeterPulse meter s
  | .meterSample => Sys2Proof.Machine.execMeterSample s
  | .minOnExpiry ch => Sys2Proof.Machine.execMinOnExpiry ch s
  | .minOffExpiry ch => Sys2Proof.Machine.execMinOffExpiry ch s
  | .urgencyExpiry ch => Sys2Proof.Machine.execUrgencyExpiry ch s
  | .tripSample ch asserted => Sys2Proof.Machine.execTripSample ch asserted s
  | .doorInputSample door input active => Sys2Proof.Machine.execDoorInputSample door input active s
  | .debounceExpiry door input => Sys2Proof.Machine.execDebounceExpiry door input s
  | .heldTimerExpiry door => Sys2Proof.Machine.execHeldTimerExpiry door s
  | .loopSample door flows => Sys2Proof.Machine.execLoopSample door flows s
  | .checkLimitExpiry => Sys2Proof.Machine.execCheckLimitExpiry s
  | .tempPointSample point sample => Sys2Proof.Machine.execTempPointSample point sample s
  | .tempPointStaleExpiry point => Sys2Proof.Machine.execTempPointStaleExpiry point s
  | .exhaustPointSample point sample => Sys2Proof.Machine.execExhaustPointSample point sample s
  | .exhaustPointStaleExpiry point => Sys2Proof.Machine.execExhaustPointStaleExpiry point s
  | .zoneEvaluation zone => Sys2Proof.Machine.execZoneEvaluation zone s
  | .presencePulse zone => Sys2Proof.Machine.execPresencePulse zone s
  | .presenceTimerExpiry zone => Sys2Proof.Machine.execPresenceTimerExpiry zone s
  | .dwellExpiry => Sys2Proof.Machine.execDwellExpiry s
  | .firePanelSample asserted => Sys2Proof.Machine.execFirePanelSample asserted s
  | .saveComplete result => Sys2Proof.Machine.execSaveComplete result s
  | .syncReceived byte => Sys2Proof.Machine.execSyncReceived byte s
  | .lenOutOfRange len => Sys2Proof.Machine.execLenOutOfRange len s

end Sys2Proof.Machine
end

