-- ==== Sys2Proof/Safety.lean ====
section
/-! DEFINITION. What counts as a sound state of the part, block by block, and the views of a state that leave one block out: two states with
the same view differ in that block at most; and, in the words of the rules, what a turn, an override, a meter sample and a start leave. The
claims are stated in these terms. -/

namespace Sys2Proof

/-! ### Families of commands -/

/-- The events of the Load Budget Unit. -/
def Instr.isArbiterEvent : Instr → Bool
  | .meterPulse _ | .meterSample | .minOnExpiry _ | .minOffExpiry _ | .urgencyExpiry _ | .tripSample _ _ => true
  | _ => false

/-- The requests that the Load Budget Unit carries out alone. -/
def Instr.isArbiterRequest : Instr → Bool
  | .readChannel _ _ | .ackTrip _ _ | .setLimits _ _ | .readBudget _ _ | .readQueue _ _ => true
  | _ => false

/-- The commands of the Dock Supervisor. -/
def Instr.isDock : Instr → Bool
  | .configDoor _ _ | .readDoor _ _ | .checkBegin _ _ | .checkEnd _ _ | .readSessions _ _ | .readDoorCounters _ _
  | .doorInputSample _ _ _ | .debounceExpiry _ _ | .heldTimerExpiry _ | .loopSample _ _ | .checkLimitExpiry => true
  | _ => false

/-- The commands of the Climate Unit. -/
def Instr.isClimate : Instr → Bool
  | .configZone _ _ | .readZone _ _ | .configPoint _ _ | .readPoints _ _ | .tempPointSample _ _ | .tempPointStaleExpiry _
  | .exhaustPointSample _ _ | .exhaustPointStaleExpiry _ | .zoneEvaluation _ => true
  | _ => false

/-- The commands of the Lighting Unit. -/
def Instr.isLighting : Instr → Bool
  | .configLightZone _ _ | .readLightZone _ _ | .walkStart _ _ | .walkStop _ _ | .presencePulse _ | .presenceTimerExpiry _
  | .dwellExpiry => true
  | _ => false

/-- The commands of the Shift Plan Unit but the oscillator's second, which reaches every timer. -/
def Instr.isPlan : Instr → Bool
  | .readClock _ _ | .addPhase _ _ | .dropPhase _ _ | .editPhase _ _ | .readPhases _ _ | .readContext _ _ | .setScene _ _
  | .setClimateSet _ _ | .setProfile _ _ | .readTable _ _ | .readPending _ _ | .cancelPending _ _ | .setOverride _ _
  | .clearOverride _ _ | .readOverrides _ _ | .setClock _ _ | .timedTurn | .overrideExpiry _ => true
  | _ => false

end Sys2Proof

namespace Sys2Proof.Machine

/-! ### Views: what a block's events leave alone -/

/-- The notice queue with its lost count and the attention output blotted out. -/
def Line.forgetNotices (l : Line) : Line := { l with notices := [], lost := 0, attention := false }

/-- The phase totals blotted out. -/
def PlanUnit.forgetTotals (p : PlanUnit) : PlanUnit := { p with totals := {} }

/-- A door but for what loss accrual and the curtain-grant event write: its curtain-running flag, loss rate and stamp, and its
session's open seconds and loss. -/
def Door.forgetLoss (d : Door) : Door :=
  { d with curtainRunning := false, rate := 0, stamp := 0,
           session := d.session.map fun x => { x with openSeconds := 0, loss := 0 } }

/-- The Dock Supervisor but for what loss accrual writes. -/
def Dock.forgetLoss (k : Dock) : Dock := { k with doors := k.doors.map Door.forgetLoss }

/-- A fixed Load Budget Unit, put in place of one that is left out. -/
def blankBudget : LoadBudget := startBudget factorySnapshot fun _ => false

/-- Everything but the Load Budget Unit and what its events reach elsewhere: the phase totals, the notice queue, and the loss and
curtain fields of the doors. -/
def State.outsideBudget (s : State) : State :=
  { s with budget := blankBudget, plan := s.plan.forgetTotals, dock := s.dock.forgetLoss, line := s.line.forgetNotices }

/-- Everything but the Dock Supervisor, the Load Budget Unit, the phase totals and the notice queue. -/
def State.outsideDock (s : State) : State :=
  { s.outsideBudget with dock := startDock factorySnapshot (fun _ => false) fun _ => false }

/-- Everything but the Climate Unit, the Load Budget Unit, the zone ΔT copies and loss fields of the Dock Supervisor, the phase
totals, the notice queue and the free-value counter. -/
def State.outsideClimate (s : State) : State :=
  { s.outsideBudget with climate := startClimate factorySnapshot, drawn := 0
                         dock := { s.outsideBudget.dock with zoneDT := Vector.replicate 12 0 } }

/-- Everything but the Lighting Unit, the Load Budget Unit, the loss fields of the doors, the phase totals and the notice queue. -/
def State.outsideLighting (s : State) : State := { s.outsideBudget with lighting := startLighting factorySnapshot }

/-- What a channel is asked for and how it is wired: its configuration, target, trip input and trip condition. The arbiter writes
none of them. -/
def Channel.asked (c : Channel) : ChannelConfig × Nat × Bool × Bool := (c.cfg, c.target, c.tripIn, c.tripped)

/-- The state with a request frame taken and answered, and nothing else changed: `rest` is the request buffer after the taking. -/
def State.answered (s : State) (rest : List Frame) (tag kind : Byte) (reply : Bytes) : State :=
  { s with line := { s.line with buffer := rest, sent := s.line.sent ++ [frameBytes tag (kind + 0x80) reply] } }

/-- The part is running and a request's frame is the next one to be taken: the oldest of the request buffer with `rest` behind it (R158,
R163, R164), or a frame completed and taken at once while the buffer is empty, which is the model's choice (log entry 3, unsafe:
such a request did not pass through the receiver). -/
abbrev State.takes (s : State) (f : Frame) (rest : List Frame) : Prop :=
  s.stage = .running ∧ (s.line.buffer = f :: rest ∨ (s.line.buffer = [] ∧ rest = []))

/-- The state with a request frame taken: `rest` is left in the request buffer (R163, R164). -/
def State.taken (s : State) (rest : List Frame) : State := s.setLine { s.line with buffer := rest }

/-- The frames handed to the transmitter in t are those of s and one more: the reply to a request with this tag and kind (R164). -/
def State.replied (s t : State) (tag kind : Byte) (reply : Bytes) : Prop :=
  t.line.sent = s.line.sent ++ [frameBytes tag (kind + 0x80) reply]

/-- A notice of this kind raised now joins the queue: its class passes the level and the queue has room (R167, R168). -/
abbrev State.admits (s : State) (kind : NoticeKind) : Prop :=
  s.line.level.passes kind.cls = true ∧ s.line.notices.length < Config.maxNotices

/-- The first notice to join the queue between s and t is this one. -/
def State.raised (s t : State) (n : Notice) : Prop := s.line.notices ++ [n] <+: t.line.notices

/-- The notices that joined the queue between s and t. -/
def State.joined (s t : State) : List Notice := t.line.notices.drop s.line.notices.length

/-- This notice was raised between s and t: it joined the queue, unless its class does not pass the level or the queue of t is full
(R167, R168). -/
def State.reports (s t : State) (n : Notice) : Prop :=
  t.line.level.passes n.kind.cls = true → t.line.notices.length < Config.maxNotices → n ∈ s.joined t

/-- This notice was the last one raised between s and t (R167, R168). -/
def State.reportsLast (s t : State) (n : Notice) : Prop :=
  t.line.level.passes n.kind.cls = true → t.line.notices.length < Config.maxNotices → (s.joined t).getLast? = some n

/-- The state with the part's answer to a request put aside: the request buffer and the frames sent are those of t. -/
def State.traffic (s t : State) : State := s.setLine { s.line with buffer := t.line.buffer, sent := t.line.sent }

/-! ### Lighting targets and overrides, in the words of the rules -/

/-- The channel of a lighting zone, while it is bound to the zone (R145). -/
def State.lightBinding (s : State) (z : Fin 24) : Option (Fin 128) :=
  (s.light z).cfg.channel.filter fun i => (s.chan i).cfg.role == .light && (s.chan i).cfg.roleTarget == some z.val

/-- The first line of the table of R147 that applies to a zone: its level, before it is raised to the protected minimum, and its source. -/
def State.tableLine (s : State) (z : Fin 24) : Nat × LightSource :=
  let x := s.light z
  let scene := look (look s.plan.scenes s.plan.current.fields.scene) z
  if s.stop.state ≠ .running then (1000, .stopped)
  else
    match s.lighting.walk, s.plan.overrides.find? (fun o => o.target = .light z) with
    | some w, _ => (if w.visiting = z then 1000 else x.cfg.protMin, .walk)
    | none, some o => (o.value.toNat, .override)
    | none, none => if x.vacant then (min scene x.cfg.setback, .vacant) else (scene, .scene)

/-- Between s and t a lighting zone's target was derived afresh (R147): in t it is the level of the table, raised to the protected minimum,
with its source; a channel bound to the zone was sent it where it differs from the last sent target, and it is the last sent target now;
without one the last sent target stands. -/
def State.derives (s t : State) (z : Fin 24) : Prop :=
  (t.light z).target = max (t.tableLine z).1 (t.light z).cfg.protMin ∧ (t.light z).source = (t.tableLine z).2
    ∧ match s.lightBinding z with
      | some i =>
        (t.light z).lastSent = (t.light z).target
          ∧ ((t.light z).target ≠ (s.light z).lastSent → (t.chan i).target = (t.light z).target)
      | none => (t.light z).lastSent = (s.light z).lastSent

/-- A walk list: every lighting zone whose channel is present stands in it, no other zone does, and the channel numbers rise strictly along
it (R152). -/
def State.ListsWalk (s : State) (l : List (Fin 24)) : Prop :=
  (∀ z, z ∈ l ↔ (s.lightBinding z).isSome = true)
    ∧ l.Pairwise fun a b => ∃ i j, s.lightBinding a = some i ∧ s.lightBinding b = some j ∧ i < j

/-- A lighting zone's configuration, presence and walk result are those it had. -/
def State.keepsZone (s t : State) (z : Fin 24) : Prop :=
  (t.light z).cfg = (s.light z).cfg ∧ (t.light z).vacant = (s.light z).vacant ∧ (t.light z).presenceT = (s.light z).presenceT
    ∧ (t.light z).walkResult = (s.light z).walkResult

/-- A channel is asked for another target by a lighting zone bound to it, between s and t. -/
def State.lightAsks (s t : State) (i : Fin 128) : Prop :=
  ∃ z, s.lightBinding z = some i ∧ (t.light z).target ≠ (s.light z).lastSent

/-- What the units do at once when an override of a target is created, replaced or ended (R34). For a lighting zone its target is derived
afresh, no other lighting zone changes, and no channel is asked for anything but that target. For a climate zone nothing is done: it
acts at its next evaluation. -/
def State.takesOverride (s t : State) : OverrideTarget → Prop
  | .climate _ => t.lighting = s.lighting ∧ t.budget = s.budget ∧ t.climate = s.climate
  | .light z =>
    s.derives t z ∧ s.keepsZone t z ∧ (∀ y, y ≠ z → t.light y = s.light y) ∧ t.lighting.walk = s.lighting.walk
      ∧ ∀ i, s.lightBinding z ≠ some i ∨ (t.light z).target = (s.light z).lastSent → (t.chan i).asked = (s.chan i).asked

/-- Between s and t the protected total, the shareable allowance, the reserves and the pool were worked out afresh, with the managed
allowance of s (R61, R62). -/
def State.reprotects (s t : State) : Prop :=
  t.budget.pProt = t.protectedTotal ∧ t.budget.shareable = s.budget.managed - t.budget.pProt
    ∧ (∀ k, t.budget.reserve.get k = t.budget.shareable * s.profile.share.get k / 1000)
    ∧ t.budget.pool = t.budget.shareable - t.budget.reserve.sum

/-- The OVERRIDE_ENDED notice of a record: its zone, and as data the target kind, the cause and the value it held (R35). -/
def overrideEndedNotice (time : Option Nat) (cause : Byte) (o : Override) : Notice :=
  match o.target with
  | .climate z => ⟨.overrideEnded, time, z, [0x00, cause] ++ leInt16 o.value⟩
  | .light z => ⟨.overrideEnded, time, z, [0x01, cause] ++ leInt16 o.value⟩

/-- Step 5 of a turn between s and t: the OVERRIDE_ENDED notices raised are one for each UNTIL_TURN record, in table order, with cause TURN
(R35), while their class passes the level and the queue has room for all of them. -/
def State.endsTurnOverrides (s t : State) : Prop :=
  t.line.level.passes NoticeKind.overrideEnded.cls = true → t.line.notices.length < Config.maxNotices →
    (s.joined t).filter (fun n => n.kind = .overrideEnded)
      = (s.plan.overrides.filter (·.remaining = none)).map (overrideEndedNotice t.plan.clock 0x01)

/-- The totals of t are those of a phase entered between s and t: cycles and held episodes zero, at most `sheds` shed episodes, counted by
the hand-overs that follow the turn, and no door loss where no door names a curtain channel, since no grant of those hand-overs then makes
an accrual (R12, R14 step 3, R84, R100, R109). -/
def State.startsTotals (s t : State) (sheds : Nat) : Prop :=
  t.plan.totals.cycles = 0 ∧ t.plan.totals.held = 0 ∧ t.plan.totals.shed ≤ sheds
    ∧ ((∀ d, (s.door d).cfg.curtain = none) → t.plan.totals.docked = 0 ∧ t.plan.totals.bare = 0)

/-- The totals of t are those of s, as an event that takes no turn and hands figures to the arbiter once leaves them: one shed episode may
have been counted, and door loss only where a door names a curtain channel (R12, R84, R100, R109). -/
def State.keepsTotals (s t : State) : Prop :=
  t.plan.totals.cycles = s.plan.totals.cycles ∧ t.plan.totals.held = s.plan.totals.held
    ∧ (t.plan.totals.shed = s.plan.totals.shed ∨ t.plan.totals.shed = min 65535 (s.plan.totals.shed + 1))
    ∧ ((∀ d, (s.door d).cfg.curtain = none) →
        t.plan.totals.docked = s.plan.totals.docked ∧ t.plan.totals.bare = s.plan.totals.bare)

/-- Everything but the Shift Plan Unit, the Lighting Unit, the Load Budget Unit, the loss fields of the doors and the notice
queue. -/
def State.outsidePlan (s : State) : State := { s.outsideLighting with plan := startPlan factorySnapshot }

/-! ### The meter sample, in the words of the rules -/

/-- Between s and t the ceiling and every figure that follows from it were worked out afresh, from the window, the limits and PU as they
stand in t (R59 to R62). -/
def State.refigures (s t : State) : Prop :=
  t.budget.ct
      = (if t.budget.active.contract * t.budget.windowLen ≤ t.budget.energy then 0
         else
          min t.budget.active.feed
            ((t.budget.active.contract * t.budget.windowLen - t.budget.energy)
              / max (t.budget.windowLen - t.budget.elapsed) 60))
    ∧ t.budget.managed = t.budget.ct - t.budget.pu - t.budget.active.margin
    ∧ t.budget.pProt = t.protectedTotal ∧ t.budget.shareable = t.budget.managed - t.budget.pProt
    ∧ (∀ k, t.budget.reserve.get k = t.budget.shareable * s.profile.share.get k / 1000)
    ∧ t.budget.pool = t.budget.shareable - t.budget.reserve.sum

/-- What every meter sample leaves, whatever the pulses and the window: PU from the chargers' pulses, both counters clear, the next sample
10 s away, and the figures worked out afresh (R57, R58). -/
def State.samples (s t : State) : Prop :=
  t.budget.pu = s.budget.nU * s.budget.configured.wUnmanaged * 36 / 10
    ∧ t.budget.nT = 0 ∧ t.budget.nU = 0 ∧ t.budget.sampleT = 10 ∧ t.budget.sinceSample = 0
    ∧ t.budget.configured = s.budget.configured ∧ s.refigures t

/-- A meter sample that leaves the window open: the configured limits but W become active, E and the estimated flag take their new values, t
rises by 10 s, and the window goes on (R56, R58). -/
def State.samplesOn (s t : State) (energy : Nat) (estimated : Bool) : Prop :=
  s.samples t ∧ t.budget.active = { s.budget.configured with window := s.budget.active.window }
    ∧ t.budget.energy = energy ∧ t.budget.estimated = estimated ∧ t.budget.elapsed = s.budget.elapsed + 10
    ∧ t.budget.windowLen = s.budget.windowLen ∧ t.budget.lastWindow = s.budget.lastWindow

/-- A meter sample that fills the window: the window closes with its energy, its estimated flag and the present shed time, E and t start
again from 0 with every configured limit active, and the new window runs to the next multiple of W, or W while the clock is unset (R56,
R64). -/
def State.samplesFull (s t : State) (energy : Nat) (estimated : Bool) : Prop :=
  s.samples t
    ∧ t.budget.lastWindow
      = some
        { energy := energy, length := s.budget.windowLen, average := energy / s.budget.windowLen
          contract := s.budget.configured.contract
          overContract := decide (s.budget.configured.contract * s.budget.windowLen < energy)
          estimated := estimated, byClockSet := false, closeTime := s.plan.clock }
    ∧ t.budget.active = s.budget.configured ∧ t.budget.energy = 0 ∧ t.budget.elapsed = 0 ∧ t.budget.estimated = false
    ∧ t.budget.windowLen
      = match s.plan.clock with
        | none => s.budget.configured.window
        | some now => s.budget.configured.window - now % s.budget.configured.window

/-! ### What a start leaves, in the words of the rules -/

/-- What the start leaves standing beside the external store is the same in s and u: every input as last sampled (log entry 9), the frames
handed to the transmitter, the waiting commands and the model's free-value counter. -/
def State.sameOutside (s u : State) : Prop :=
  s.stop.fire = u.stop.fire ∧ (∀ i, (s.chan i).tripIn = (u.chan i).tripIn)
    ∧ (∀ d, (s.door d).rawOpen = (u.door d).rawOpen ∧ (s.door d).rawPresent = (u.door d).rawPresent)
    ∧ s.line.sent = u.line.sent ∧ s.pending = u.pending ∧ s.drawn = u.drawn

/-- The Shift Plan Unit as it starts with configuration c: the clock unset, the fallback phase current, previous and next absent, totals of
zero but for shed episodes, no pending edit and no override, and the digest of the plan (R1, R10, R12, R20, R29, R32). -/
def PlanUnit.startsFrom (p : PlanUnit) (c : Snapshot) : Prop :=
  p = { clock := none, turnDue := none, phases := c.phases, fallback := c.fallback, previous := none
        current := ⟨none, c.fallback⟩, next := none, totals := { shed := p.totals.shed }
        scenes := c.scenes, climateSets := c.climateSets, profiles := c.profiles, edits := [], overrides := []
        digest := p.digestNow }

/-- The demand window, the meter sampler, the silence state and the limits as they start with configuration c (R54, R57, R58, R64, R65,
R67). -/
def LoadBudget.startsFrom (b : LoadBudget) (c : Snapshot) : Prop :=
  b = { b with
        configured := c.limits, active := c.limits, nT := 0, nU := 0, sampleT := 10, sinceSample := 0, energy := 0
        elapsed := 0, windowLen := c.limits.window, estimated := false, pu := 0, silence := 0, silent := false
        estimates := 0, lastWindow := none }

/-- A channel as it starts: its configuration (but for the protected minimum, which a bound lighting zone sends), the trip input as sampled,
TRIPPED where a used trip line is asserted, no timer and no entry, and, but for a LIGHT channel, nothing asked for and nothing granted
(R43, R145). -/
def Channel.startsFrom (x : Channel) (cfg : ChannelConfig) (tripIn : Bool) : Prop :=
  { x.cfg with protMin := cfg.protMin } = cfg ∧ x.tripIn = tripIn ∧ x.tripped = (cfg.role.isStep && cfg.tripUsed && tripIn)
    ∧ x.minOnT = none ∧ x.minOffT = none ∧ x.entry = none
    ∧ (cfg.role ≠ .light → x.cfg = cfg ∧ x.target = 0 ∧ x.granted = 0 ∧ x.serial = 0)

/-- A door as it starts, its raw inputs as sampled: UNKNOWN with both debounce timers started, or UNUSED, every counter, target, rate and
stamp 0, the loop UNTESTED and no session (R89, R108, R109, R112; the 0 of the held length is log entry 1's). -/
def Door.startsFrom (x : Door) (cfg : DoorConfig) (rawOpen rawPresent : Bool) : Prop :=
  let debounce := if cfg.enabled then some cfg.debounce else none
  x = { cfg := cfg, rawOpen := rawOpen, rawPresent := rawPresent, debOpen := rawOpen, debPresent := rawPresent
        contactT := debounce, presenceT := debounce, state := if cfg.enabled then .unknown else .unused
        heldT := none, heldLength := 0, loop := .untested, curtainRunning := false, sentLight := 0, sentCurtain := 0
        cycles := 0, heldEpisodes := 0, rate := 0, stamp := 0, session := none }

/-- A climate zone as it starts: no integral, call, target, ΔT or lower candidate, ventilation NORMAL, and its first evaluation 5 s after
that of the zone before (R124, R125, R138; that no evaluation is reported yet is log entry 1's). -/
def Zone.startsFrom (x : Zone) (z : Fin 12) (cfg : ZoneConfig) : Prop :=
  x.figures.evaluated = false
    ∧ x = { x with
            cfg := cfg, integral := 0, call := 0, heaterTarget := 0, deltaT := 0, evalT := 5 * z.val, vent := .normal
            fanTarget := 0, lowerCandidate := none }

/-- A sensor point as it starts: STARTING with its stale timer running, or UNUSED, with no held value and bad count 0 (R117, R135). -/
def SensorPoint.startsFrom (p : SensorPoint) (used : Bool) (stale : Nat) : Prop :=
  p = if used then ⟨.starting, none, 0, some stale, none⟩ else ⟨.unused, none, 0, none, none⟩

/-- A lighting zone as it starts in a phase of a kind: OCCUPIED, no walk result, and its presence timer started where presence is enabled and
the kind is not CHANGEOVER (R145). -/
def LightZone.startsFrom (x : LightZone) (cfg : LightConfig) (kind : PhaseKind) : Prop :=
  x.cfg = cfg ∧ x.vacant = false ∧ x.walkResult = none
    ∧ x.presenceT
      = if cfg.presence = true ∧ kind ≠ .changeover then some (if kind = .break_ then cfg.breakHold else cfg.hold) else none

/-- The state t starts with configuration c in every unit, and of s only the inputs, the frames handed to the transmitter, the waiting
commands and the free-value counter are left (R158, with the rules named at each part). -/
def State.startsFrom (s t : State) (c : Snapshot) : Prop :=
  t.seconds = 0 ∧ t.plan.startsFrom c ∧ t.budget.startsFrom c
    ∧ (∀ i, (t.chan i).startsFrom (look c.channels i) (s.chan i).tripIn)
    ∧ t.dock = ⟨t.dock.doors, Vector.replicate 12 0, none, [], 0, false, 0⟩
    ∧ (∀ d, (t.door d).startsFrom (look c.doors d) (s.door d).rawOpen (s.door d).rawPresent)
    ∧ (∀ z, (t.zone z).startsFrom z (look c.zones z))
    ∧ (∀ p, (look t.climate.temps p).startsFrom (look c.points.tempUsed p) 300)
    ∧ (∀ p, (look t.climate.exhausts p).startsFrom (look c.points.exhaustUsed p) 120)
    ∧ t.climate.outdoorPoint = c.points.outdoorPoint ∧ t.climate.designTemp = c.points.designTemp
    ∧ t.lighting.walk = none ∧ t.lighting.lastKind = c.fallback.kind
    ∧ (∀ z, (t.light z).startsFrom (look c.lights z) c.fallback.kind)
    ∧ t.stop.fire = s.stop.fire ∧ t.stop.stopStamp = 0
    ∧ t.line.sent = s.line.sent ∧ t.pending = s.pending ∧ t.drawn = s.drawn

/-! ### Load Budget Unit -/

/-- The grants stay within the allowance: the pool use of the four classes is at most the pool (R71). -/
abbrev State.PoolSafe (s : State) : Prop := s.poolUse ≤ s.budget.pool

/-- The tight flag records the tight condition as it stands (R72). -/
abbrev State.TightCurrent (s : State) : Prop := s.budget.tight = s.isTight

/-- The shed condition is set only while the start queue or the lighting deficit set holds something (R85). -/
abbrev State.ShedWaits (s : State) : Prop :=
  s.budget.shed = true → ∃ i, (s.chan i).entry.isSome = true ∨ 0 < (s.chan i).deficit

/-- A start-queue entry exists exactly for the channels that R75 names. -/
abbrev State.QueueExact (s : State) : Prop := ∀ i, (s.chan i).entry.isSome = (s.chan i).wantsEntry s.stop.state

/-- Every channel position is commanded as its channel's state calls for (R53). -/
abbrev State.OutputsFollow (s : State) : Prop := ∀ i, (s.chan i).out = (s.chan i).command

/-- A step channel holds and is asked for at most its N steps (R38, R44, R53). -/
abbrev State.StepsBounded (s : State) : Prop :=
  ∀ i, (s.chan i).cfg.role.isStep → (s.chan i).target ≤ (s.chan i).cfg.steps ∧ (s.chan i).granted ≤ (s.chan i).cfg.steps

/-- The protected minimums of a configuration are at most 1000 ‰ (R38, R145). -/
abbrev Snapshot.MinimumsFit (c : Snapshot) : Prop :=
  (∀ i, (look c.channels i).protMin ≤ 1000) ∧ ∀ z, (look c.lights z).protMin ≤ 1000

/-- The protected minimums of a store image are at most 1000 ‰. -/
abbrev StoreImage.MinimumsFit : StoreImage → Prop
  | .blank => True
  | .written c _ => c.MinimumsFit

/-- A LIGHT channel's granted hW includes its protected part (R47), and every protected minimum held or stored is at most
1000 ‰. -/
abbrev State.LightProtected (s : State) : Prop :=
  (∀ i, (s.chan i).protPart s.stop.state ≤ (s.chan i).granted ∨ (s.chan i).cfg.role ≠ .light)
    ∧ (∀ i, (s.chan i).cfg.protMin ≤ 1000) ∧ (∀ z, (s.light z).cfg.protMin ≤ 1000)
    ∧ s.store.image.MinimumsFit ∧ ∀ x ∈ s.store.saving, x.1.MinimumsFit

/-! ### Dock Supervisor -/

/-- A session is open exactly at the docked doors (R112); a disabled door is UNUSED (R89, R91); the held timer runs in OPEN_BARE
alone (R95); the doors under test are enabled (R104). -/
abbrev State.DoorsSound (s : State) : Prop :=
  (∀ d, (s.door d).session.isSome = (s.door d).state.docked)
    ∧ (∀ d, (s.door d).cfg.enabled = false → (s.door d).state = .unused)
    ∧ (∀ d, (s.door d).heldT.isSome → (s.door d).state = .openBare)
    ∧ ∀ d, s.underTest d → (s.door d).cfg.enabled = true

/-- A session's number is one of 0 to 65 534 (R112), and its open seconds, cycles and loss keep their bounds (R113). -/
abbrev Session.Sound (x : Session) : Prop :=
  x.number ≤ 65534 ∧ x.openSeconds ≤ Config.max32 ∧ x.cycles ≤ Config.max16 ∧ x.loss ≤ Config.max32

/-- The session log keeps its capacity, the lost count its bound, every session number issued is one of 0 to 65 534, and every
session, open or in the log, is sound (R112, R113, R115). -/
abbrev Dock.SessionsSound (k : Dock) : Prop :=
  k.log.length ≤ Config.maxSessions ∧ k.lost ≤ Config.max16 ∧ k.nextSession ≤ 65534
    ∧ (∀ r ∈ k.log, r.session.Sound) ∧ ∀ d, ∀ x ∈ (look k.doors d).session, x.Sound

/-- Every door's loss rate is the one its record calls for, and its stamp is not ahead of the running-seconds count (R108, R109). -/
abbrev State.RatesCurrent (s : State) : Prop :=
  ∀ d, (s.door d).rate = s.lossRate (s.door d) ∧ (s.door d).stamp ≤ s.seconds

/-! ### Shift Plan Unit -/

/-- A phase list: at most 48 records in strictly increasing order of start, each start a week-minute (R4). -/
abbrev PhasesSound (l : List PhaseRec) : Prop :=
  l.length ≤ Config.maxPhases ∧ l.Pairwise (fun a b => a.start < b.start) ∧ ∀ r ∈ l, r.start < Config.weekMinutes

/-- Next is what R11 says for the present time, or names the record whose timed turn is due (R14). -/
abbrev PlanUnit.NextSound (p : PlanUnit) : Prop :=
  match p.clock, p.turnDue with
  | none, due => p.next = none ∧ due = none
  | some t, none => p.next = nextAfter p.phases t
  | some _, some due => ∃ r ∈ p.phases, r.start * 60 = due ∧ p.next = some r.start

/-- The plan is sound: the list (R4), the clock's range (R1), next (R11), the digest (R20), and the list of every image the
store holds or a save writes. -/
abbrev State.PlanSound (s : State) : Prop :=
  PhasesSound s.plan.phases ∧ (∀ t ∈ s.plan.clock, t < Config.weekSeconds) ∧ s.plan.NextSound
    ∧ (∀ c crc, s.store.image = .written c crc → PhasesSound c.phases) ∧ ∀ x ∈ s.store.saving, PhasesSound x.1.phases

/-- The plan digest is that of the plan as it stands (R20, R21). -/
abbrev State.DigestCurrent (s : State) : Prop := s.plan.digest = s.plan.digestNow

/-- The collections of the plan keep their keys apart: one pending edit for a table entry (R28), one override for a target, and at
most 16 overrides (R32). -/
abbrev PlanUnit.KeysSound (p : PlanUnit) : Prop :=
  (p.edits.map PendingEdit.key).Nodup ∧ (p.overrides.map Override.target).Nodup
    ∧ p.overrides.length ≤ Config.maxOverrides

/-! ### Climate Unit -/

/-- A sensor point: an UNUSED one holds nothing, a GOOD one holds a value, the value and the time of the last good sample are present
together, and the bad count keeps its bound (R117, R135). -/
abbrev SensorPoint.Sound (p : SensorPoint) : Prop :=
  (p.state = .unused → p.value = none ∧ p.staleT = none ∧ p.bad = 0) ∧ (p.state = .good → p.value.isSome)
    ∧ p.value.isSome = p.lastGood.isSome ∧ p.bad ≤ 255

/-- Every point is sound, and every zone's integral lies within its bound (R122, R128). -/
abbrev Climate.Sound (c : Climate) : Prop :=
  (∀ p, (look c.temps p).Sound) ∧ (∀ p, (look c.exhausts p).Sound)
    ∧ ∀ z, -((look c.zones z).cfg.imax : Int) ≤ (look c.zones z).integral
        ∧ (look c.zones z).integral ≤ (look c.zones z).cfg.imax

/-! ### Lighting Unit -/

/-- A lighting zone's target is at or above its protected minimum (R147), only a zone with presence enabled is VACANT or runs its
presence timer (R146, R148), and a walk runs only while the plant is RUNNING (R152, R154). -/
abbrev State.LightsSound (s : State) : Prop :=
  (∀ z, (s.light z).cfg.protMin ≤ (s.light z).target)
    ∧ (∀ z, (s.light z).vacant ∨ (s.light z).presenceT.isSome → (s.light z).cfg.presence = true)
    ∧ (s.lighting.walk.isSome → s.stop.state = .running)

/-! ### Line Interface -/

/-- The notice queue and the request buffer keep their capacities, the counters their bounds, and the attention output is
asserted exactly while the queue is not empty (R162, R163, R168, R170). -/
abbrev Line.Sound (l : Line) : Prop :=
  l.notices.length ≤ Config.maxNotices ∧ l.buffer.length ≤ Config.maxFrames ∧ l.lost ≤ Config.max16 ∧ l.badFrames ≤ 255
    ∧ l.overruns ≤ 255 ∧ l.attention = !l.notices.isEmpty

end Sys2Proof.Machine
end

