-- ==== Sys2Proof/WellFormed.lean ====
section
/-! DEFINITION. Which terms of Instr are requests, with the KIND their frame carries (12.5), and which terms are commands the
surroundings of the part can send. exec is total on the others too; the statements that need one of these checks name it. -/

namespace Sys2Proof

/-- A request's TAG, KIND and BODY; none for an event. -/
def Instr.request? : Instr → Option (Byte × Byte × Bytes)
  | .unknownKindRequest tag kind body => some (tag, kind, body)
  | .ping tag body => some (tag, 0x01, body)
  | .status tag body => some (tag, 0x02, body)
  | .setClock tag body => some (tag, 0x03, body)
  | .readClock tag body => some (tag, 0x04, body)
  | .addPhase tag body => some (tag, 0x10, body)
  | .dropPhase tag body => some (tag, 0x11, body)
  | .editPhase tag body => some (tag, 0x12, body)
  | .readPhases tag body => some (tag, 0x13, body)
  | .readContext tag body => some (tag, 0x14, body)
  | .setScene tag body => some (tag, 0x18, body)
  | .setClimateSet tag body => some (tag, 0x19, body)
  | .setProfile tag body => some (tag, 0x1A, body)
  | .readTable tag body => some (tag, 0x1B, body)
  | .readPending tag body => some (tag, 0x1C, body)
  | .cancelPending tag body => some (tag, 0x1D, body)
  | .setOverride tag body => some (tag, 0x20, body)
  | .clearOverride tag body => some (tag, 0x21, body)
  | .readOverrides tag body => some (tag, 0x22, body)
  | .configChannel tag body => some (tag, 0x28, body)
  | .readChannel tag body => some (tag, 0x29, body)
  | .ackTrip tag body => some (tag, 0x2A, body)
  | .setLimits tag body => some (tag, 0x30, body)
  | .readBudget tag body => some (tag, 0x31, body)
  | .readQueue tag body => some (tag, 0x32, body)
  | .configDoor tag body => some (tag, 0x38, body)
  | .readDoor tag body => some (tag, 0x39, body)
  | .checkBegin tag body => some (tag, 0x3A, body)
  | .checkEnd tag body => some (tag, 0x3B, body)
  | .readSessions tag body => some (tag, 0x3C, body)
  | .readDoorCounters tag body => some (tag, 0x3D, body)
  | .configZone tag body => some (tag, 0x40, body)
  | .readZone tag body => some (tag, 0x41, body)
  | .configPoint tag body => some (tag, 0x42, body)
  | .readPoints tag body => some (tag, 0x43, body)
  | .configLightZone tag body => some (tag, 0x48, body)
  | .readLightZone tag body => some (tag, 0x49, body)
  | .walkStart tag body => some (tag, 0x4A, body)
  | .walkStop tag body => some (tag, 0x4B, body)
  | .resume tag body => some (tag, 0x50, body)
  | .restartPlant tag body => some (tag, 0x51, body)
  | .restartFull tag body => some (tag, 0x51, body)
  | .save tag body => some (tag, 0x52, body)
  | .fetchNotices tag body => some (tag, 0x58, body)
  | .setNoticeLevel tag body => some (tag, 0x59, body)
  | .powerOn | .storeLoadComplete _ | .frameComplete _ | .frameGapExpiry | .clockAdvance | .timedTurn
  | .overrideExpiry _ | .meterPulse _ | .meterSample | .minOnExpiry _ | .minOffExpiry _ | .urgencyExpiry _
  | .tripSample _ _ | .doorInputSample _ _ _ | .debounceExpiry _ _ | .heldTimerExpiry _ | .loopSample _ _
  | .checkLimitExpiry | .tempPointSample _ _ | .tempPointStaleExpiry _ | .exhaustPointSample _ _
  | .exhaustPointStaleExpiry _ | .zoneEvaluation _ | .presencePulse _ | .presenceTimerExpiry _ | .dwellExpiry
  | .firePanelSample _ | .saveComplete _ | .syncReceived _ | .lenOutOfRange _ => none

/-- A request body fits a frame: LEN is at most 242 and counts TAG and KIND (12.6). -/
def bodyFits (body : Bytes) : Bool := body.length ≤ 240

/-- What an event must meet to be one the surroundings can deliver. -/
def Instr.eventFits : Instr → Bool
  | .frameComplete bytes => !bytes.isEmpty
  | .exhaustPointSample _ (.reading v) => 0 ≤ v
  | .lenOutOfRange len => len.toNat < 2 || 242 < len.toNat
  | _ => true

/-- What a command must meet to be one the surroundings can send. -/
def Instr.wellFormed (i : Instr) : Bool :=
  match i with
  | .unknownKindRequest _ kind body => bodyFits body && (Machine.bodyRule? kind).isNone
  | .restartPlant _ body => bodyFits body && body != [1]
  | .restartFull _ body => body == [1]
  | _ =>
    match i.request? with
    | some (_, _, body) => bodyFits body
    | none => i.eventFits

end Sys2Proof
end

