-- ==== Sys2Proof/Certificates/Slice0/Obligations.lean ====
section
/-! DEFINITION. The statements for the provers: what the commands of the part do and what every step keeps. Each cites the rules it formalises; a
clause that rests on a choice of the model names its log entry. -/

open Sys2Proof Sys2Proof.Machine

/-! ### The machine -/

/-- A step carries out the command at the front of the queue, on the state with the queue's rest; an empty queue leaves the part as
it stands (the model's choice, log entry 4). -/
def Obligations.StepRunsTheFrontCommand : Prop :=
  (∀ (s : State) (c : Instr) (rest : List Instr), s.pending = c :: rest → step s = exec c (s.setPending rest))
    ∧ ∀ s : State, s.pending = [] → step s = .next s

/-- Every command answers a next state, and leaves the queue of waiting commands alone. -/
def Obligations.EveryCommandCompletes : Prop :=
  ∀ (c : Instr) (s : State), ∃ t, exec c s = .next t ∧ t.pending = s.pending

/-- The sound states hold at reset: every invariant below starts true. The values of reset that the manual does not give are the model's
choice (log entries 1 and 2). -/
def Obligations.InvariantsHoldAtReset : Prop :=
  State.reset.line.Sound ∧ State.reset.PlanSound ∧ State.reset.DigestCurrent ∧ State.reset.plan.KeysSound
    ∧ State.reset.PoolSafe ∧ State.reset.QueueExact ∧ State.reset.OutputsFollow ∧ State.reset.StepsBounded
    ∧ State.reset.LightProtected ∧ State.reset.DoorsSound ∧ State.reset.dock.SessionsSound ∧ State.reset.RatesCurrent
    ∧ State.reset.climate.Sound ∧ State.reset.LightsSound ∧ State.reset.TightCurrent ∧ State.reset.ShedWaits

/-! ### The host line (chapter The Host Line) -/

/-- A good frame that arrives while the receiver hunts is offered to the request buffer whole, and the receiver hunts again (R162,
R163); every TAG, KIND and BODY that a frame can carry is read back as it was sent. -/
def Obligations.GoodFrameIsReceived : Prop :=
  ∀ (s : State) (tag kind : Byte) (body : Bytes),
    s.stage ≠ .inReset → s.line.rx = [] → body.length ≤ 240 →
      exec (.frameComplete (frameBytes tag kind body)) s
        = .next (s.setLine
            (if s.line.buffer.length < 4 then { s.line with buffer := s.line.buffer ++ [⟨tag, kind, body⟩] }
             else { s.line with overruns := min 255 (s.line.overruns + 1) }))

/-- The receiver works byte by byte: it does not matter in how many pieces the bytes of the line are handed to it (R162). -/
def Obligations.ReceptionIgnoresGrouping : Prop :=
  ∀ (l : Line) (a b : Bytes), (l.receive a).receive b = l.receive (a ++ b)

/-- A hunting receiver discards every byte but 0xC3, which begins a frame; a LEN outside 2–242, a wrong CRC and the end of the 20 ms
each fail the frame begun, which is counted and hunted again (R162; a byte string that holds no second 0xC3 begins no other). -/
def Obligations.ReceiverHuntsAndFails : Prop :=
  (∀ (s : State) (b : Byte), s.stage ≠ .inReset → s.line.rx = [] →
      exec (.syncReceived b) s = .next (if b = 0xC3 then s.setLine { s.line with rx := [0xC3] } else s))
    ∧ (∀ (s : State) (len : Byte), s.stage ≠ .inReset → s.line.rx = [0xC3] → len.toNat < 2 ∨ 242 < len.toNat →
        exec (.lenOutOfRange len) s
          = .next (s.setLine { s.line with rx := [], badFrames := min 255 (s.line.badFrames + 1) }))
    ∧ (∀ (s : State) (rest : Bytes), s.stage ≠ .inReset → s.line.rx = [] → collect rest = .failed → 0xC3#8 ∉ rest →
        exec (.frameComplete (0xC3 :: rest)) s
          = .next (s.setLine { s.line with badFrames := min 255 (s.line.badFrames + 1) }))
    ∧ ∀ (s : State) (rest : Bytes), s.line.rx = 0xC3 :: rest → collect rest = .incomplete → 0xC3#8 ∉ rest →
        exec .frameGapExpiry s
          = .next (s.setLine { s.line with rx := [], badFrames := min 255 (s.line.badFrames + 1) })

/-- The notice queue, the request buffer and the line counters keep their bounds, and the attention output follows the queue, at
every step (R162, R163, R168, R170). -/
def Obligations.LineStaysSound : Prop :=
  ∀ s t : State, s.line.Sound → step s = .next t → t.line.Sound

/-- No request is carried out before the end of the load (R158), nor one whose frame is not the oldest of the request buffer (R164, and the
model's choice, log entry 3): it waits and changes nothing. A KIND that is not in the table is answered UNKNOWN_KIND, and a BODY of
another length than the table gives is answered BAD_LENGTH, whatever the kind; neither changes anything but the buffer and the reply
(R164). -/
def Obligations.RequestsWaitAndAreChecked : Prop :=
  (∀ (c : Instr) (s : State) (tag kind : Byte) (body : Bytes),
     c.request? = some (tag, kind, body) →
       s.stage ≠ .running ∨ (∃ f rest, s.line.buffer = f :: rest ∧ f ≠ ⟨tag, kind, body⟩) → exec c s = .next s)
    ∧ ((∀ (s : State) (tag kind : Byte) (body : Bytes) (rest : List Frame), bodyRule? kind = none →
           s.takes ⟨tag, kind, body⟩ rest →
             exec (.unknownKindRequest tag kind body) s = .next (s.answered rest tag kind [0x10]))
         ∧ ∀ (c : Instr) (s : State) (tag kind : Byte) (body : Bytes) (rest : List Frame) (rule : BodyRule),
             c.request? = some (tag, kind, body) → c ≠ .unknownKindRequest tag kind body → bodyRule? kind = some rule →
               rule.admits body.length = false → s.takes ⟨tag, kind, body⟩ rest →
                 exec c s = .next (s.answered rest tag kind [0x11]))

/-- A taken request leaves the buffer, the others keep their order behind it, and exactly one reply frame with its TAG and KIND + 0x80
is handed to the transmitter; RESTART, which may discard the buffer, is set apart (R163, R164). -/
def Obligations.OneReplyForEachRequest : Prop :=
  ∀ (c : Instr) (s : State) (tag kind : Byte) (body : Bytes) (rest : List Frame),
    c.wellFormed = true → c.request? = some (tag, kind, body) → kind ≠ 0x51 → s.takes ⟨tag, kind, body⟩ rest →
      ∃ t reply, exec c s = .next t ∧ s.replied t tag kind reply ∧ t.line.buffer = rest

/-- PING returns its own body; STATUS reports its fields as they stand and then clears the line counters if its flag asks; SET NOTICE
LEVEL replaces the level, and refuses a code that is none of the three (R166). -/
def Obligations.LineInterfaceAnswers : Prop :=
  (∀ (s : State) (tag : Byte) (body : Bytes) (rest : List Frame), body.length ≤ 239 → s.takes ⟨tag, 0x01, body⟩ rest →
      exec (.ping tag body) s = .next (s.answered rest tag 0x01 (0x00 :: body)))
    ∧ (∀ (s : State) (tag flag : Byte) (rest : List Frame), s.takes ⟨tag, 0x02, [flag]⟩ rest →
        let t := s.taken rest
        exec (.status tag [flag]) s
          = .next (sendReply tag 0x02
              (0x00 :: ((match s.plan.clock with
                  | some v => 0x01 :: le32 v
                  | none => [0x00, 0xFF, 0xFF, 0xFF, 0xFF])
                ++ le8 s.plan.current.fields.label
                ++ (match s.plan.next with
                  | some m => le16 m
                  | none => [0xFF, 0xFF])
                ++ le16 s.plan.digest.toNat ++ le8 s.stop.state.code
                ++ [if s.store.source = .store then 0x00 else 0x01, if s.store.saving.isSome then 0x01 else 0x00]
                ++ le8 s.store.lastSave.code ++ [if s.budget.tight then 0x01 else 0x00, if s.budget.shed then 0x01 else 0x00]
                ++ le8 s.line.level.code ++ le8 s.line.notices.length ++ le16 s.line.lost ++ le8 s.line.badFrames
                ++ le8 s.line.overruns ++ le8 rest.length))
              (if flag = 0 then t else t.setLine { t.line with badFrames := 0, overruns := 0 })))
    ∧ ∀ (s : State) (tag code : Byte) (rest : List Frame), s.takes ⟨tag, 0x59, [code]⟩ rest →
        exec (.setNoticeLevel tag [code]) s
          = .next (match noticeLevel? code.toNat with
              | some level => sendReply tag 0x59 [0x00, code] ((s.taken rest).setLine { (s.taken rest).line with level := level })
              | none => s.answered rest tag 0x59 [0x12])

/-- FETCH NOTICES removes the 8 oldest notices and returns them; a NOTICES_LOST that carries the lost count joins the queue behind the
rest when at least one was removed and the count is not 0, and the count returns to 0 (R169). The two one-byte counts are log entry 8's. -/
def Obligations.FetchNoticesReturnsTheOldest : Prop :=
  ∀ (s : State) (tag : Byte) (rest : List Frame), s.line.Sound → s.takes ⟨tag, 0x58, []⟩ rest →
    let queue := s.line.notices
    let report : List Notice :=
      if queue ≠ [] ∧ 0 < s.line.lost then [⟨.noticesLost, s.plan.clock, 0, le16 s.line.lost⟩] else []
    let left := queue.drop 8 ++ report
    exec (.fetchNotices tag []) s
      = .next (sendReply tag 0x58
          (0x00 :: (le8 (min queue.length 8) ++ le8 left.length ++ (queue.take 8).flatMap noticeBytes))
          ((s.taken rest).setLine
            { (s.taken rest).line with
              notices := left, attention := !left.isEmpty, lost := if queue ≠ [] then 0 else s.line.lost }))

/-- Notices leave the queue only by FETCH NOTICES, power-on and a FULL restart: over any other command the queue keeps what it holds,
in its order, and new notices stand behind it (R168). -/
def Obligations.NoticesLeaveOnlyByFetch : Prop :=
  ∀ (c : Instr) (s t : State), c.wellFormed = true → c ≠ .powerOn → (∀ tag body, c ≠ .restartFull tag body) →
    (∀ tag body, c ≠ .fetchNotices tag body) → exec c s = .next t → s.line.notices <+: t.line.notices

/-! ### Shift clock and week plan (chapters Shift Clock and Week Plan; Scenes, Climate Sets, Allowance Profiles and Overrides) -/

/-- READ CLOCK returns whether the clock is set and, when it is, the present week-second; while it is unset the week-second field carries
0xFFFFFFFF. Its status is OK in both cases, and it changes nothing (R3). -/
def Obligations.ClockIsRead : Prop :=
  ∀ (s : State) (tag : Byte) (rest : List Frame), s.takes ⟨tag, 0x04, []⟩ rest →
    exec (.readClock tag []) s
      = .next (s.answered rest tag 0x04
          (match s.plan.clock with
            | some t => [0x00, 0x01] ++ le32 t
            | none => [0x00, 0x00, 0xFF, 0xFF, 0xFF, 0xFF]))

/-- READ PHASES returns the fallback phase and up to 27 records from its position on, and refuses a position above 47 (R8; the one-byte
counts are log entry 8's). READ CONTEXT returns the whole context, with NO_CLOCK while the clock is unset (R13). Neither changes anything. -/
def Obligations.PlanReadsAnswerInFull : Prop :=
  (∀ (s : State) (tag pos : Byte) (rest : List Frame), s.takes ⟨tag, 0x13, [pos]⟩ rest →
         exec (.readPhases tag [pos]) s
           = .next (s.answered rest tag 0x13
               (if pos.toNat ≤ 47 then
                 let out := (s.plan.phases.drop pos.toNat).take 27
                 [0x00] ++ le8 s.plan.phases.length ++ phaseBytes none s.plan.fallback ++ le8 out.length
                   ++ out.flatMap fun r => phaseBytes (some r.start) r.fields
                else [0x12])))
    ∧ ∀ (s : State) (tag : Byte) (rest : List Frame), s.takes ⟨tag, 0x14, []⟩ rest →
        let totals := s.plan.totals
        exec (.readContext tag []) s
          = .next (s.answered rest tag 0x14
              ((match s.plan.clock with
                  | some v => [0x00, 0x01] ++ le32 v
                  | none => [0x1A, 0x00, 0xFF, 0xFF, 0xFF, 0xFF])
                ++ (match s.plan.previous with
                  | some p => 0x01 :: phaseBytes p.source p.fields
                  | none => 0x00 :: List.replicate 8 0xFF)
                ++ phaseBytes s.plan.current.source s.plan.current.fields
                ++ (match s.plan.next with
                  | some m => le16 m
                  | none => [0xFF, 0xFF])
                ++ le32 totals.docked ++ le32 totals.bare ++ le16 totals.cycles ++ le16 totals.held ++ le16 totals.shed
                ++ le16 s.plan.digest.toNat))

/-- SET CLOCK to v: the clock takes v; with a phase list, the governing entry for v becomes current unless the clock was set and current
already is a copy of it, next is the record that follows v, and previous takes the phase a jump turn leaves, which the TURN notice
reports with cause JUMP; a jump or entry turn sets the totals to zero, to which the turn event and the clock-set event then add what they
shed, one episode each at most, and the loss of a door whose curtain they grant or take; it applies the pending edits and ends the
UNTIL_TURN overrides with their notices; no other SET CLOCK touches those, each keeps the totals but for what its clock-set event adds, and
none but a jump turn raises TURN; with an empty list the context stays. The pulses counted so far go to the window that ends; in the silent
condition the estimate for the seconds since the last sample does, with the managed draw as the turn leaves it, which is that of s where
none is taken, and with the PU that stands; the last-window record takes it with end CLOCK_SET and the new clock value as its close time
(the model's reading, log entry 19); E and t start from 0, the silence state stays, the configured W becomes active, and the new window
runs to the first multiple of W after v, in whole 10 s, or to the next one when less than 60 s are left. A value above 604 799 is refused
(R2, R11, R12, R14 to R17, R29, R35, R66, R68). -/
def Obligations.SetClockTakesTheClock : Prop :=
  (∀ (s : State) (tag : Byte) (v : Nat) (rest : List Frame), v < 604800 → s.takes ⟨tag, 0x03, le32 v⟩ rest →
      let stays : PhaseRec → Prop := fun r => s.plan.clock.isSome = true ∧ s.plan.current.source = some r.start
      ∃ t, exec (.setClock tag (le32 v)) s = .next t
        ∧ s.replied t tag 0x03 (0x00 :: (le32 v ++ le8 t.plan.current.fields.label ++ leStart t.plan.next))
        ∧ t.plan.clock = some v ∧ t.plan.phases = s.plan.phases ∧ t.plan.fallback = s.plan.fallback
        ∧ (match governing s.plan.phases v with
            | none =>
              t.plan.current = s.plan.current ∧ t.plan.previous = s.plan.previous ∧ t.plan.next = s.plan.next
                ∧ t.plan.edits = s.plan.edits ∧ t.plan.overrides = s.plan.overrides ∧ s.keepsTotals t
            | some r =>
              (stays r → t.plan.current = s.plan.current ∧ t.plan.previous = s.plan.previous ∧ t.plan.edits = s.plan.edits
                  ∧ t.plan.overrides = s.plan.overrides ∧ s.keepsTotals t)
                ∧ (¬stays r → t.plan.current = ⟨some r.start, r.fields⟩
                    ∧ t.plan.previous = (if s.plan.clock = none then s.plan.previous else some s.plan.current)
                    ∧ s.startsTotals t 2 ∧ t.plan.edits = []
                    ∧ t.plan.scenes = (s.plan.edits.foldl PlanUnit.apply s.plan).scenes
                    ∧ t.plan.climateSets = (s.plan.edits.foldl PlanUnit.apply s.plan).climateSets
                    ∧ t.plan.profiles = (s.plan.edits.foldl PlanUnit.apply s.plan).profiles
                    ∧ ((s.plan.overrides.map Override.target).Nodup →
                        t.plan.overrides = s.plan.overrides.filter (·.remaining.isSome))
                    ∧ s.endsTurnOverrides t)
                ∧ t.plan.next = nextAfter s.plan.phases v)
        ∧ (∀ r, governing s.plan.phases v = some r → s.plan.clock.isSome = true → ¬stays r → s.admits .turn →
            s.raised t ⟨.turn, some v, 0,
              [0x01] ++ le8 s.plan.current.fields.label ++ le16 (min 65535 (s.plan.totals.docked / 36000))
                ++ le16 (min 65535 (s.plan.totals.bare / 36000)) ++ le16 s.plan.totals.cycles
                ++ le8 (min 255 s.plan.totals.held) ++ le8 (min 255 s.plan.totals.shed) ++ le16 s.plan.digest.toNat⟩)
        ∧ ((s.plan.clock = none ∨ ∀ r, governing s.plan.phases v = some r → stays r) → ∀ n ∈ s.joined t, n.kind ≠ .turn))
    ∧ (∀ (s : State) (tag : Byte) (v : Nat) (rest : List Frame), v < 604800 → s.takes ⟨tag, 0x03, le32 v⟩ rest →
        let estimate : Nat → Nat := fun draw =>
          min 4294967295 (s.budget.energy + (draw + s.budget.pu) * min s.budget.sinceSample 10)
        ∃ t w, exec (.setClock tag (le32 v)) s = .next t ∧ t.budget.lastWindow = some w
          ∧ w.byClockSet = true ∧ w.closeTime = some v ∧ w.length = s.budget.windowLen
          ∧ (s.budget.silent = false →
              w.energy = min 4294967295 (s.budget.energy + s.budget.nT * s.budget.active.wTotal * 36)
                ∧ w.estimated = s.budget.estimated)
          ∧ (s.budget.silent = true →
              w.estimated = true ∧ w.energy = estimate (setClockTo v (s.taken rest)).managedDraw
                ∧ ((∀ r, governing s.plan.phases v = some r →
                      s.plan.clock.isSome = true ∧ s.plan.current.source = some r.start) →
                    w.energy = estimate s.managedDraw))
          ∧ w.average = w.energy / w.length ∧ w.contract = s.budget.active.contract
          ∧ (w.overContract = true ↔ w.contract * w.length < w.energy)
          ∧ t.budget.pu = s.budget.pu ∧ t.budget.silent = s.budget.silent ∧ t.budget.silence = s.budget.silence
          ∧ t.budget.estimates = s.budget.estimates
          ∧ t.budget.energy = 0 ∧ t.budget.elapsed = 0 ∧ t.budget.nT = 0 ∧ t.budget.nU = 0
          ∧ t.budget.active.window = s.budget.configured.window
          ∧ t.budget.windowLen
              = (let w := s.budget.configured.window
                 let boundary := v - v % w + w
                 let n := (boundary - v + 9) / 10 * 10
                 if n < 60 then n + w else n))
    ∧ ∀ (s : State) (tag : Byte) (v : Nat) (rest : List Frame), 604800 ≤ v → v < 4294967296 →
        s.takes ⟨tag, 0x03, le32 v⟩ rest → exec (.setClock tag (le32 v)) s = .next (s.answered rest tag 0x03 [0x12])

/-- One second of the oscillator: the running-seconds count rises by 1, a set clock advances and returns from 604 799 to 0, the running
timers of channels, doors, points, zones, overrides, the contact check, the walk and the meter sampler lose one second, the seconds since
the last meter sample and the ages of the queue entries gain one, and a timed turn becomes due when the clock reaches next's start (R1, R14,
R32, R57, R68, R75, R109). Nothing else of any unit changes. That a timer which has run out stays due at 0, and that the due turn is
remembered, are the model's reading (log entries 5 and 7). -/
def Obligations.SecondAdvancesEveryTimer : Prop :=
  ∀ s : State, s.stage = .running →
    let down : Timer → Timer := fun timer => timer.map (· - 1)
    ∃ t, exec .clockAdvance s = .next t
      ∧ (∀ v, s.plan.clock = some v → v < 604800 → t.plan.clock = some ((v + 1) % 604800))
      ∧ (s.plan.clock = none → t.plan.clock = none)
      ∧ (∀ v m, s.plan.clock = some v → v < 604800 → s.plan.next = some m → s.plan.turnDue = none →
          t.plan.turnDue = if (v + 1) % 604800 = m * 60 then some (m * 60) else none)
      ∧ (s.plan.clock = none ∨ s.plan.next = none ∨ s.plan.turnDue.isSome → t.plan.turnDue = s.plan.turnDue)
      ∧ (∀ i, t.chan i
          = { s.chan i with
              minOnT := down (s.chan i).minOnT, minOffT := down (s.chan i).minOffT
              entry := (s.chan i).entry.map fun e => ⟨min 4294967295 (e.age + 1), e.urgent⟩ })
      ∧ (∀ d, t.door d
          = { s.door d with
              contactT := down (s.door d).contactT, presenceT := down (s.door d).presenceT, heldT := down (s.door d).heldT })
      ∧ (∀ z, t.zone z = { s.zone z with evalT := (s.zone z).evalT - 1 })
      ∧ (∀ z, t.light z = { s.light z with presenceT := down (s.light z).presenceT })
      ∧ (∀ p, look t.climate.temps p
          = { look s.climate.temps p with staleT := down (look s.climate.temps p).staleT })
      ∧ (∀ p, look t.climate.exhausts p
          = { look s.climate.exhausts p with staleT := down (look s.climate.exhausts p).staleT })
      ∧ t = { s with
          seconds := s.seconds + 1
          plan :=
            { s.plan with
              clock := t.plan.clock, turnDue := t.plan.turnDue
              overrides := s.plan.overrides.map fun o => { o with remaining := down o.remaining } }
          budget :=
            { s.budget with
              channels := t.budget.channels, sampleT := s.budget.sampleT - 1, sinceSample := s.budget.sinceSample + 1 }
          dock :=
            { s.dock with
              doors := t.dock.doors, check := s.dock.check.map fun k => { k with remaining := k.remaining - 1 } }
          climate := { s.climate with zones := t.climate.zones, temps := t.climate.temps, exhausts := t.climate.exhausts }
          lighting :=
            { s.lighting with
              zones := t.lighting.zones, walk := s.lighting.walk.map fun w => { w with remaining := w.remaining - 1 } } }

/-- A timed turn that is due: the TURN notice is raised first and reports the phase that ends, current moves into previous, the record
next names is copied into current with totals of zero, to which the turn event then adds one shed episode at most and the loss of a door
whose curtain it grants or takes, the pending edits are applied in order and leave the list, the digest follows them, every UNTIL_TURN
override ends, each with OVERRIDE_ENDED and cause TURN, in table order, and the TIMED ones stay, and next is recomputed; the clock, the
phase list and the fallback phase stay (R12, R14, R15, R29, R35). That a turn waits until it is taken, and one that is not due does
nothing, is the model's reading (log entries 5 and 7). -/
def Obligations.TimedTurnEntersNext : Prop :=
  (∀ (s : State) (r : PhaseRec) (now : Nat), s.stage = .running → s.plan.timedTurnDue = true → s.nextRecord = some r →
      s.plan.clock = some now → (s.plan.overrides.map Override.target).Nodup →
      ∃ t, exec .timedTurn s = .next t
        ∧ t.plan.previous = some s.plan.current ∧ t.plan.current = ⟨some r.start, r.fields⟩
        ∧ t.plan.next = nextAfter s.plan.phases now ∧ t.plan.edits = []
        ∧ t.plan.scenes = (s.plan.edits.foldl PlanUnit.apply s.plan).scenes
        ∧ t.plan.climateSets = (s.plan.edits.foldl PlanUnit.apply s.plan).climateSets
        ∧ t.plan.profiles = (s.plan.edits.foldl PlanUnit.apply s.plan).profiles
        ∧ t.plan.overrides = s.plan.overrides.filter (·.remaining.isSome) ∧ s.endsTurnOverrides t
        ∧ s.startsTotals t 1 ∧ t.plan.clock = some now ∧ t.plan.phases = s.plan.phases ∧ t.plan.fallback = s.plan.fallback
        ∧ t.plan.digest = (if s.plan.edits = [] then s.plan.digest else t.plan.digestNow)
        ∧ (s.admits .turn →
            s.raised t ⟨.turn, some now, 0,
              [0x00] ++ le8 s.plan.current.fields.label ++ le16 (min 65535 (s.plan.totals.docked / 36000))
                ++ le16 (min 65535 (s.plan.totals.bare / 36000)) ++ le16 s.plan.totals.cycles
                ++ le8 (min 255 s.plan.totals.held) ++ le8 (min 255 s.plan.totals.shed) ++ le16 s.plan.digest.toNat⟩))
    ∧ ∀ s : State, s.stage = .running → s.plan.timedTurnDue = false → exec .timedTurn s = .next s

/-- An accepted ADD PHASE inserts its record and no other, in the place that keeps the list rising; the first record of an empty list,
with the clock set, is entered at once: it becomes current with totals of zero, previous stays, the pending edits are applied, the
UNTIL_TURN overrides end with their notices, and no TURN is raised (R17). An accepted DROP PHASE removes the record with its start and no
other; when that empties the list with the clock set, the TURN notice reports the phase that ends with cause EMPTIED, current moves into
previous and takes a copy of the fallback phase with totals of zero, next is absent, and edits and overrides go as at any turn (R18). To
the totals of zero the turn event adds one shed episode at most, and the loss of a door whose curtain it grants or takes. An accepted EDIT
PHASE replaces the fields of its record, or those of the fallback phase with label 255 and the precondition flag clear. A request that
takes no turn keeps the totals, but for what the turn event of a fallback refresh adds. Each answers the record count, next and the digest
as they then stand (R5, R6, R7, R9, R12, R14, R15, R21, R29, R35). -/
def Obligations.PhaseListEditsAccepted : Prop :=
  (∀ (s : State) (tag : Byte) (body : Bytes) (rest : List Frame) (f : PhaseFields),
      body.length = 8 → listFields? body = some f → u16 body 0 < 10080 → recordAt s.plan.phases (u16 body 0) = none →
        s.plan.phases.length < 48 → PhasesSound s.plan.phases → s.takes ⟨tag, 0x10, body⟩ rest →
          ∃ t, exec (.addPhase tag body) s = .next t ∧ s.replied t tag 0x10 t.listReply
            ∧ t.plan.phases.Perm (⟨u16 body 0, f⟩ :: s.plan.phases) ∧ PhasesSound t.plan.phases
            ∧ t.plan.digest = t.plan.digestNow ∧ t.plan.fallback = s.plan.fallback
            ∧ (s.plan.phases ≠ [] ∨ s.plan.clock = none →
                t.plan.current = s.plan.current ∧ t.plan.previous = s.plan.previous ∧ t.plan.edits = s.plan.edits
                  ∧ t.plan.overrides = s.plan.overrides ∧ t.plan.totals = s.plan.totals)
            ∧ (s.plan.phases = [] → s.plan.clock.isSome = true →
                t.plan.current = ⟨some (u16 body 0), f⟩ ∧ t.plan.previous = s.plan.previous
                  ∧ t.plan.next = some (u16 body 0) ∧ s.startsTotals t 1 ∧ t.plan.edits = []
                  ∧ t.plan.scenes = (s.plan.edits.foldl PlanUnit.apply s.plan).scenes
                  ∧ t.plan.climateSets = (s.plan.edits.foldl PlanUnit.apply s.plan).climateSets
                  ∧ t.plan.profiles = (s.plan.edits.foldl PlanUnit.apply s.plan).profiles
                  ∧ ((s.plan.overrides.map Override.target).Nodup →
                      t.plan.overrides = s.plan.overrides.filter (·.remaining.isSome))
                  ∧ s.endsTurnOverrides t ∧ ∀ n ∈ s.joined t, n.kind ≠ .turn))
    ∧ (∀ (s : State) (tag : Byte) (body : Bytes) (rest : List Frame),
        body.length = 2 → u16 body 0 < 10080 → (recordAt s.plan.phases (u16 body 0)).isSome →
          s.takes ⟨tag, 0x11, body⟩ rest →
            ∃ t, exec (.dropPhase tag body) s = .next t ∧ s.replied t tag 0x11 t.listReply
              ∧ t.plan.phases = s.plan.phases.filter (fun r => r.start ≠ u16 body 0)
              ∧ t.plan.digest = t.plan.digestNow ∧ t.plan.fallback = s.plan.fallback
              ∧ (t.plan.phases ≠ [] ∨ s.plan.clock = none →
                  t.plan.current = s.plan.current ∧ t.plan.previous = s.plan.previous ∧ t.plan.edits = s.plan.edits
                    ∧ t.plan.overrides = s.plan.overrides ∧ t.plan.totals = s.plan.totals)
              ∧ ∀ now, t.plan.phases = [] → s.plan.clock = some now →
                  t.plan.current = ⟨none, s.plan.fallback⟩ ∧ t.plan.previous = some s.plan.current ∧ t.plan.next = none
                    ∧ s.startsTotals t 1 ∧ t.plan.edits = []
                    ∧ t.plan.scenes = (s.plan.edits.foldl PlanUnit.apply s.plan).scenes
                    ∧ t.plan.climateSets = (s.plan.edits.foldl PlanUnit.apply s.plan).climateSets
                    ∧ t.plan.profiles = (s.plan.edits.foldl PlanUnit.apply s.plan).profiles
                    ∧ ((s.plan.overrides.map Override.target).Nodup →
                        t.plan.overrides = s.plan.overrides.filter (·.remaining.isSome))
                    ∧ s.endsTurnOverrides t
                    ∧ (s.admits .turn →
                        s.raised t ⟨.turn, some now, 0,
                          [0x02] ++ le8 s.plan.current.fields.label ++ le16 (min 65535 (s.plan.totals.docked / 36000))
                            ++ le16 (min 65535 (s.plan.totals.bare / 36000)) ++ le16 s.plan.totals.cycles
                            ++ le8 (min 255 s.plan.totals.held) ++ le8 (min 255 s.plan.totals.shed)
                            ++ le16 ({ s.plan with phases := [] } : PlanUnit).digestNow.toNat⟩))
    ∧ (∀ (s : State) (tag : Byte) (body : Bytes) (rest : List Frame) (f : PhaseFields),
        body.length = 8 → listFields? body = some f → u16 body 0 < 10080 →
          (recordAt s.plan.phases (u16 body 0)).isSome → s.takes ⟨tag, 0x12, body⟩ rest →
            ∃ t, exec (.editPhase tag body) s = .next t ∧ s.replied t tag 0x12 t.listReply
              ∧ t.plan.phases = s.plan.phases.map (fun r => if r.start = u16 body 0 then ⟨r.start, f⟩ else r)
              ∧ t.plan.digest = t.plan.digestNow ∧ t.plan.fallback = s.plan.fallback ∧ t.plan.current = s.plan.current
              ∧ t.plan.previous = s.plan.previous ∧ t.plan.edits = s.plan.edits ∧ t.plan.overrides = s.plan.overrides
              ∧ t.plan.totals = s.plan.totals)
    ∧ ∀ (s : State) (tag : Byte) (body : Bytes) (rest : List Frame) (f : PhaseFields),
        body.length = 8 → phaseFields? body = some f → u16 body 0 = 65535 → s.takes ⟨tag, 0x12, body⟩ rest →
          ∃ t, exec (.editPhase tag body) s = .next t ∧ s.replied t tag 0x12 t.listReply
            ∧ t.plan.phases = s.plan.phases ∧ t.plan.fallback = { f with label := 255, precondition := false }
            ∧ t.plan.digest = t.plan.digestNow
            ∧ t.plan.current = (if s.plan.current.source = none then ⟨none, t.plan.fallback⟩ else s.plan.current)
            ∧ t.plan.previous = s.plan.previous ∧ t.plan.edits = s.plan.edits ∧ t.plan.overrides = s.plan.overrides
            ∧ s.keepsTotals t ∧ (s.plan.current.source ≠ none → t.plan.totals = s.plan.totals)

/-- The phase list, the clock and next stay sound at every step (R1, R4, R11, R14); that next names the record of a turn that is due until
the turn is taken is the model's reading (log entry 7). The plan digest is the CRC of the plan as it stands, after every step (R20, R21).
At every step the pending-edit list holds one edit for a table entry at most (R28), and the override table one record for a target and at
most 16 (R32). -/
def Obligations.PlanAndKeysStaySound : Prop :=
  (∀ s t : State, s.PlanSound → step s = .next t → t.PlanSound)
    ∧ (∀ s t : State, s.DigestCurrent → step s = .next t → t.DigestCurrent)
    ∧ (∀ s t : State, s.plan.KeysSound → step s = .next t → t.plan.KeysSound)

/-- SET SCENE, SET CLIMATE SET and SET PROFILE with AT_TURN: the treated content goes into the pending-edit list, in the place of the edit
for the same entry or at the end, and nothing else of the part changes (R25, R26, R28); the reply carries the edit's position and
the number of edits in one byte each, which is log entry 8's. -/
def Obligations.TableEditAtTurnWaits : Prop :=
  (∀ (s : State) (tag : Byte) (body : Bytes) (rest : List Frame) (i : Fin 16), body.length = 50 → u8 body 0 = i →
      u8 body 1 = 1 → s.takes ⟨tag, 0x18, body⟩ rest →
        let e := PendingEdit.scene i (treatScene (sceneSent body))
        exec (.setScene tag body) s
          = .next (sendReply tag 0x18
              ([if treatScene (sceneSent body) = sceneSent body then 0x00 else 0x01, 0x01]
                ++ le8 (editPosition e.key (placeEdit e s.plan.edits)) ++ le8 (placeEdit e s.plan.edits).length
                ++ le16 s.plan.digest.toNat)
              ((s.taken rest).setPlan { s.plan with edits := placeEdit e s.plan.edits })))
    ∧ (∀ (s : State) (tag : Byte) (body : Bytes) (rest : List Frame) (i : Fin 8), body.length = 50 → u8 body 0 = i →
        u8 body 1 = 1 → s.takes ⟨tag, 0x19, body⟩ rest →
          let e := PendingEdit.climateSet i (treatClimateSet (climateSetSent body))
          exec (.setClimateSet tag body) s
            = .next (sendReply tag 0x19
                ([if treatClimateSet (climateSetSent body) = climateSetSent body then 0x00 else 0x01, 0x01]
                  ++ le8 (editPosition e.key (placeEdit e s.plan.edits)) ++ le8 (placeEdit e s.plan.edits).length
                  ++ le16 s.plan.digest.toNat)
                ((s.taken rest).setPlan { s.plan with edits := placeEdit e s.plan.edits })))
    ∧ ∀ (s : State) (tag : Byte) (body : Bytes) (rest : List Frame) (i : Fin 4), body.length = 24 → u8 body 0 = i →
        u8 body 1 = 1 → s.takes ⟨tag, 0x1A, body⟩ rest →
          let e := PendingEdit.profile i (treatProfile (profileSent body))
          exec (.setProfile tag body) s
            = .next (sendReply tag 0x1A
                ([if treatProfile (profileSent body) = profileSent body then 0x00 else 0x01, 0x01]
                  ++ le8 (editPosition e.key (placeEdit e s.plan.edits)) ++ le8 (placeEdit e s.plan.edits).length
                  ++ le16 s.plan.digest.toNat)
                ((s.taken rest).setPlan { s.plan with edits := placeEdit e s.plan.edits }))

/-- SET SCENE, SET CLIMATE SET and SET PROFILE with NOW: the entry takes the treated content, every other entry of the three tables and the
pending-edit list stay, and the digest is recomputed (R25, R27). The reply says whether the treatment changed a value, NOW, no position,
the number of edits held (one byte each, log entry 8) and the digest (R26). A scene that current names reaches every lighting zone, whose
target is derived afresh and sent where it differs from the last sent; another scene, a climate set, and a profile that current does not
name reach no unit (R27, R147). The treatment: a level is at most 1000 ‰; a setpoint lies in −100 to 300,
a cap is at most 8 and a ventilation minimum at most 6; a share is at most 1000 ‰, and four shares whose sum is above 1000 are each scaled
by 1000 ÷ sum, so treated shares sum to at most 1000 ‰; a weight becomes the greatest of 0, 1, 2, 4, 8 that is not above it, a tight level
250 or the greatest of 250, 500, 750, 1000 that is not above it, and an urgency time is at most 3600 s (R25). -/
def Obligations.TableEditNowIsStored : Prop :=
  (∀ body : Bytes,
      let sent : Nat → Nat := fun k => min (u16 body (2 + 2 * k)) 1000
      let sum := sent 0 + sent 1 + sent 2 + sent 3
      let share : Nat → Nat := fun k => if 1000 < sum then sent k * 1000 / sum else sent k
      let weight : Nat → Nat := fun k =>
        let w := u8 body (10 + k)
        if w = 0 then 0 else if w = 1 then 1 else if w < 4 then 2 else if w < 8 then 4 else 8
      let tight := u16 body 14
      let urgency : Nat → Nat := fun k => min (u16 body (16 + 2 * k)) 3600
      treatProfile (profileSent body)
          = ⟨⟨share 0, share 1, share 2, share 3⟩, ⟨weight 0, weight 1, weight 2, weight 3⟩,
              if tight < 500 then 250 else if tight < 750 then 500 else if tight < 1000 then 750 else 1000,
              ⟨urgency 0, urgency 1, urgency 2, urgency 3⟩⟩
        ∧ treatScene (sceneSent body) = (Vector.ofFn fun z => min (u16 body (2 + 2 * z.val)) 1000)
        ∧ treatClimateSet (climateSetSent body)
          = (Vector.ofFn fun z =>
              ⟨max (-100) (min 300 (i16 body (2 + 4 * z.val))), min (u8 body (4 + 4 * z.val)) 8,
                min (u8 body (5 + 4 * z.val)) 6⟩))
    ∧ (∀ (s : State) (tag : Byte) (body : Bytes) (rest : List Frame) (i : Fin 16), body.length = 50 → u8 body 0 = i →
      u8 body 1 = 0 → s.takes ⟨tag, 0x18, body⟩ rest →
        ∃ t, exec (.setScene tag body) s = .next t
          ∧ t.plan.scenes = upd s.plan.scenes i (treatScene (sceneSent body))
          ∧ t.plan.climateSets = s.plan.climateSets ∧ t.plan.profiles = s.plan.profiles ∧ t.plan.edits = s.plan.edits
          ∧ t.plan.digest = t.plan.digestNow ∧ t.plan.current = s.plan.current
          ∧ s.replied t tag 0x18
              ([if treatScene (sceneSent body) = sceneSent body then 0x00 else 0x01, 0x00, 0xFF] ++ le8 s.plan.edits.length
                ++ le16 t.plan.digest.toNat)
          ∧ (s.plan.current.fields.scene = i →
              (∀ z, s.derives t z ∧ s.keepsZone t z) ∧ t.lighting.walk = s.lighting.walk
                ∧ ∀ j, ¬s.lightAsks t j → (t.chan j).asked = (s.chan j).asked)
          ∧ (s.plan.current.fields.scene ≠ i → t.lighting = s.lighting ∧ t.budget = s.budget))
    ∧ (∀ (s : State) (tag : Byte) (body : Bytes) (rest : List Frame) (i : Fin 8), body.length = 50 → u8 body 0 = i →
        u8 body 1 = 0 → s.takes ⟨tag, 0x19, body⟩ rest →
          ∃ t, exec (.setClimateSet tag body) s = .next t
            ∧ t.plan.climateSets
                = upd s.plan.climateSets i (treatClimateSet (climateSetSent body))
            ∧ t.plan.scenes = s.plan.scenes ∧ t.plan.profiles = s.plan.profiles ∧ t.plan.edits = s.plan.edits
            ∧ t.plan.digest = t.plan.digestNow ∧ t.plan.current = s.plan.current ∧ t.budget = s.budget
            ∧ t.lighting = s.lighting
            ∧ s.replied t tag 0x19
                ([if treatClimateSet (climateSetSent body) = climateSetSent body then 0x00 else 0x01, 0x00, 0xFF]
                  ++ le8 s.plan.edits.length ++ le16 t.plan.digest.toNat))
    ∧ ∀ (s : State) (tag : Byte) (body : Bytes) (rest : List Frame) (i : Fin 4), body.length = 24 → u8 body 0 = i →
        u8 body 1 = 0 → s.takes ⟨tag, 0x1A, body⟩ rest →
          ∃ t, exec (.setProfile tag body) s = .next t
            ∧ t.plan.profiles = upd s.plan.profiles i (treatProfile (profileSent body))
            ∧ (look t.plan.profiles i).share.sum ≤ 1000
            ∧ t.plan.scenes = s.plan.scenes ∧ t.plan.climateSets = s.plan.climateSets ∧ t.plan.edits = s.plan.edits
            ∧ t.plan.digest = t.plan.digestNow ∧ t.plan.current = s.plan.current
            ∧ s.replied t tag 0x1A
                ([if treatProfile (profileSent body) = profileSent body then 0x00 else 0x01, 0x00, 0xFF]
                  ++ le8 s.plan.edits.length ++ le16 t.plan.digest.toNat)
            ∧ t.lighting = s.lighting ∧ (∀ j, (t.chan j).asked = (s.chan j).asked)
            ∧ (s.plan.current.fields.profile ≠ i → t.budget = s.budget)

/-- The refusals of the Shift Plan Unit, each of which changes nothing: ADD PHASE of a field out of range (OUT_OF_RANGE), of a start that
is held (DUPLICATE) and to a full list (TABLE_FULL), in this order; DROP PHASE and EDIT PHASE of a start above 10 079 (OUT_OF_RANGE) or
that no record holds (NOT_FOUND), and EDIT PHASE of a field out of range (that it is checked last is the model's choice, log entry 18);
SET SCENE, SET CLIMATE SET and SET PROFILE with an index or timing out of range; SET OVERRIDE and CLEAR OVERRIDE of a target out of range,
and CLEAR OVERRIDE of a target without a record (R5, R6, R7, R25, R33, R35). -/
def Obligations.PlanRequestsRefused : Prop :=
  (∀ (s : State) (tag : Byte) (body : Bytes) (rest : List Frame), body.length = 8 → s.takes ⟨tag, 0x10, body⟩ rest →
      (listFields? body = none ∨ 10080 ≤ u16 body 0 → exec (.addPhase tag body) s = .next (s.answered rest tag 0x10 [0x12]))
        ∧ ((listFields? body).isSome → u16 body 0 < 10080 → (recordAt s.plan.phases (u16 body 0)).isSome →
            exec (.addPhase tag body) s = .next (s.answered rest tag 0x10 [0x14]))
        ∧ ((listFields? body).isSome → u16 body 0 < 10080 → recordAt s.plan.phases (u16 body 0) = none →
            48 ≤ s.plan.phases.length → exec (.addPhase tag body) s = .next (s.answered rest tag 0x10 [0x15])))
    ∧ (∀ (s : State) (tag : Byte) (body : Bytes) (rest : List Frame), body.length = 2 → s.takes ⟨tag, 0x11, body⟩ rest →
        (10080 ≤ u16 body 0 → exec (.dropPhase tag body) s = .next (s.answered rest tag 0x11 [0x12]))
          ∧ (u16 body 0 < 10080 → recordAt s.plan.phases (u16 body 0) = none →
              exec (.dropPhase tag body) s = .next (s.answered rest tag 0x11 [0x13])))
    ∧ (∀ (s : State) (tag : Byte) (body : Bytes) (rest : List Frame), body.length = 8 → s.takes ⟨tag, 0x12, body⟩ rest →
        (10080 ≤ u16 body 0 → u16 body 0 ≠ 65535 →
          exec (.editPhase tag body) s = .next (s.answered rest tag 0x12 [0x12]))
          ∧ (u16 body 0 < 10080 → recordAt s.plan.phases (u16 body 0) = none →
              exec (.editPhase tag body) s = .next (s.answered rest tag 0x12 [0x13]))
          ∧ ((recordAt s.plan.phases (u16 body 0)).isSome → u16 body 0 < 10080 → listFields? body = none →
              exec (.editPhase tag body) s = .next (s.answered rest tag 0x12 [0x12]))
          ∧ (u16 body 0 = 65535 → phaseFields? body = none →
              exec (.editPhase tag body) s = .next (s.answered rest tag 0x12 [0x12])))
    ∧ (∀ (s : State) (tag : Byte) (body : Bytes) (rest : List Frame), body.length = 50 →
        (s.takes ⟨tag, 0x18, body⟩ rest → 16 ≤ u8 body 0 ∨ 2 ≤ u8 body 1 →
          exec (.setScene tag body) s = .next (s.answered rest tag 0x18 [0x12]))
          ∧ (s.takes ⟨tag, 0x19, body⟩ rest → 8 ≤ u8 body 0 ∨ 2 ≤ u8 body 1 →
              exec (.setClimateSet tag body) s = .next (s.answered rest tag 0x19 [0x12])))
    ∧ (∀ (s : State) (tag : Byte) (body : Bytes) (rest : List Frame), body.length = 24 → s.takes ⟨tag, 0x1A, body⟩ rest →
        4 ≤ u8 body 0 ∨ 2 ≤ u8 body 1 → exec (.setProfile tag body) s = .next (s.answered rest tag 0x1A [0x12]))
    ∧ (∀ (s : State) (tag : Byte) (body : Bytes) (rest : List Frame), body.length = 9 → s.takes ⟨tag, 0x20, body⟩ rest →
        overrideTarget? (u8 body 0) (u8 body 1) = none ∨ 2 ≤ u8 body 4 →
          exec (.setOverride tag body) s = .next (s.answered rest tag 0x20 [0x12]))
    ∧ ∀ (s : State) (tag kind zone : Byte) (rest : List Frame), s.takes ⟨tag, 0x21, [kind, zone]⟩ rest →
        (overrideTarget? kind.toNat zone.toNat = none →
          exec (.clearOverride tag [kind, zone]) s = .next (s.answered rest tag 0x21 [0x12]))
          ∧ ∀ target, overrideTarget? kind.toNat zone.toNat = some target →
              (∀ o ∈ s.plan.overrides, o.target ≠ target) →
                exec (.clearOverride tag [kind, zone]) s = .next (s.answered rest tag 0x21 [0x13])

/-- READ TABLE returns the stored entry in its digest layout, behind its table and index and a flag that the pending-edit list holds an edit
for it, and changes nothing; an unknown table, or an index out of range, is refused with OUT_OF_RANGE (R31). -/
def Obligations.StoredEntriesAreRead : Prop :=
  (∀ (s : State) (tag table index : Byte) (rest : List Frame) (entry : Bytes), s.takes ⟨tag, 0x1B, [table, index]⟩ rest →
      (table = 0 ∧ ∃ i : Fin 16, index.toNat = i ∧ entry = (look s.plan.scenes i).toList.flatMap le16)
        ∨ (table = 1 ∧ ∃ i : Fin 8, index.toNat = i
            ∧ entry = (look s.plan.climateSets i).toList.flatMap fun e => leInt16 e.setpoint ++ le8 e.cap ++ le8 e.ventMin)
        ∨ (table = 2 ∧ ∃ i : Fin 4, index.toNat = i
            ∧ entry
              = (let p := look s.plan.profiles i
                 le16 p.share.light ++ le16 p.share.heat ++ le16 p.share.air ++ le16 p.share.dock
                   ++ le8 p.weight.light ++ le8 p.weight.heat ++ le8 p.weight.air ++ le8 p.weight.dock ++ le16 p.tight
                   ++ le16 p.urgency.light ++ le16 p.urgency.heat ++ le16 p.urgency.air ++ le16 p.urgency.dock)) →
      exec (.readTable tag [table, index]) s
        = .next (s.answered rest tag 0x1B
            ([0x00, table, index]
              ++ [if ∃ e ∈ s.plan.edits, e.key = (table.toNat, index.toNat) then 0x01 else 0x00] ++ entry)))
    ∧ ∀ (s : State) (tag table index : Byte) (rest : List Frame), s.takes ⟨tag, 0x1B, [table, index]⟩ rest →
        ¬((table = 0 ∧ index.toNat < 16) ∨ (table = 1 ∧ index.toNat < 8) ∨ (table = 2 ∧ index.toNat < 4)) →
          exec (.readTable tag [table, index]) s = .next (s.answered rest tag 0x1B [0x12])

/-- CANCEL PENDING empties the pending-edit list and answers the number of edits removed, with the
tables and the digest left; READ PENDING returns the table and index of each edit in order and changes nothing (R30). READ OVERRIDES
returns the override table in order, and changes nothing (R37). The one-byte counts of the three replies are log entry 8's. -/
def Obligations.EditsAndOverridesAreReported : Prop :=
  ((∀ (s : State) (tag : Byte) (rest : List Frame), s.takes ⟨tag, 0x1D, []⟩ rest →
           exec (.cancelPending tag []) s
             = .next (sendReply tag 0x1D (0x00 :: le8 s.plan.edits.length) ((s.taken rest).setPlan { s.plan with edits := [] })))
         ∧ ∀ (s : State) (tag : Byte) (rest : List Frame), s.takes ⟨tag, 0x1C, []⟩ rest →
             exec (.readPending tag []) s
               = .next (s.answered rest tag 0x1C
                   (0x00 :: (le8 s.plan.edits.length ++ s.plan.edits.flatMap fun e => le8 e.key.1 ++ le8 e.key.2))))
    ∧ (∀ (s : State) (tag : Byte) (rest : List Frame), s.takes ⟨tag, 0x22, []⟩ rest →
         exec (.readOverrides tag []) s
           = .next (s.answered rest tag 0x22
               (0x00 :: (le8 s.plan.overrides.length
                 ++ s.plan.overrides.flatMap fun o =>
                     (match o.target with
                       | .climate z => le8 0 ++ le8 z
                       | .light z => le8 1 ++ le8 z)
                     ++ leInt16 o.value
                     ++ (match o.remaining with
                       | some n => le8 0 ++ le32 n
                       | none => le8 1 ++ le32 0xFFFFFFFF)
                     ++ leTime o.setAt))))

/-- An accepted SET OVERRIDE stores one record for its target, in the place of the old one or at the end, with the treated value (a setpoint
within −100 to 300, a level at most 1000 ‰), the treated duration (60 s to 604 800 s, none for UNTIL_TURN) and the present shed time; the
reply carries CLAMPED where the value or a TIMED duration was changed, the number of records, the record's position and its remaining time.
A target without a record is refused with TABLE_FULL while 16 are held; an accepted CLEAR OVERRIDE and the expiry of a TIMED record each
remove the record of the target, with one OVERRIDE_ENDED (R32, R33, R35). Each of the three reaches the zone of a lighting target at once,
whose target is derived afresh and sent where it differs from the last sent, and no other zone; one of a climate target reaches no unit
(R34, R147). The one-byte counts and position of the replies are log entry 8's. -/
def Obligations.OverridesBeginAndEnd : Prop :=
  (∀ (s : State) (tag : Byte) (body : Bytes) (rest : List Frame) (target : OverrideTarget) (timed : Bool), body.length = 9 →
      overrideTarget? (u8 body 0) (u8 body 1) = some target → timed? (u8 body 4) = some timed →
        (∃ o ∈ s.plan.overrides, o.target = target) ∨ s.plan.overrides.length < 16 → s.takes ⟨tag, 0x20, body⟩ rest →
          let sent : Int := match target with
            | .climate _ => i16 body 2
            | .light _ => u16 body 2
          let value : Int := match target with
            | .climate _ => max (-100) (min 300 (i16 body 2))
            | .light _ => min (u16 body 2) 1000
          let duration := max 60 (min 604800 (u32 body 5))
          let table :=
            placeOverride ⟨target, value, if timed then some duration else none, s.plan.clock⟩ s.plan.overrides
          ∃ t, exec (.setOverride tag body) s = .next t
            ∧ t.plan.overrides = table ∧ t.plan.digest = s.plan.digest
            ∧ s.replied t tag 0x20
                ([if value = sent ∧ (timed = true → duration = u32 body 5) then 0x00 else 0x01] ++ le8 table.length
                  ++ le8 (table.findIdx fun o => o.target = target) ++ le32 (if timed then duration else 0xFFFFFFFF))
            ∧ (∀ n ∈ s.joined t, n.kind ≠ .overrideEnded) ∧ s.takesOverride t target)
    ∧ (∀ (s : State) (tag : Byte) (body : Bytes) (rest : List Frame) (target : OverrideTarget) (timed : Bool), body.length = 9 →
        overrideTarget? (u8 body 0) (u8 body 1) = some target → timed? (u8 body 4) = some timed →
          (∀ o ∈ s.plan.overrides, o.target ≠ target) → 16 ≤ s.plan.overrides.length → s.takes ⟨tag, 0x20, body⟩ rest →
            exec (.setOverride tag body) s = .next (s.answered rest tag 0x20 [0x15]))
    ∧ (∀ (s : State) (tag kind zone : Byte) (rest : List Frame) (o : Override),
        overrideTarget? kind.toNat zone.toNat = some o.target →
          s.plan.overrides.find? (fun x => x.target = o.target) = some o → s.takes ⟨tag, 0x21, [kind, zone]⟩ rest →
            ∃ t, exec (.clearOverride tag [kind, zone]) s = .next t
              ∧ t.plan.overrides = s.plan.overrides.filter (fun x => x.target ≠ o.target)
              ∧ s.replied t tag 0x21 (0x00 :: le8 t.plan.overrides.length)
              ∧ (s.admits .overrideEnded → s.raised t (overrideEndedNotice s.plan.clock 0x02 o))
              ∧ s.takesOverride t o.target)
    ∧ ∀ (s : State) (o : Override), s.stage = .running → o.remaining = some 0 →
        s.plan.overrides.find? (fun x => x.target = o.target) = some o →
          ∃ t, exec (.overrideExpiry o.target) s = .next t
            ∧ t.plan.overrides = s.plan.overrides.filter (fun x => x.target ≠ o.target)
            ∧ (s.admits .overrideEnded → s.raised t (overrideEndedNotice s.plan.clock 0x00 o))
            ∧ s.takesOverride t o.target

/-! ### Channels, allowance and arbiter (chapters Load Channels; The Demand Window and the Allowance; Grants, the Start Queue and Shedding) -/

/-- After every step the pool use of the four classes together is at most the pool: the grants stay within the allowance (R71).
After every step a start-queue entry exists exactly for the step channels that are not TRIPPED and want more steps than they hold, while
the plant is RUNNING (R75). -/
def Obligations.GrantsAndQueueStayExact : Prop :=
  (∀ s t : State, s.PoolSafe → step s = .next t → t.PoolSafe)
    ∧ (∀ s t : State, s.QueueExact → step s = .next t → t.QueueExact)

/-- After every step each channel position is commanded as its channel stands: the granted steps, or the dimming voltage of the driven level
with its contactor (R42, R47, R53). After every step a step channel holds and is asked for at most its N steps (R38, R44, R53). -/
def Obligations.OutputsAndStepsStaySound : Prop :=
  (∀ s t : State, s.OutputsFollow → step s = .next t → t.OutputsFollow)
    ∧ (∀ s t : State, s.StepsBounded → step s = .next t → t.StepsBounded)

/-- After every step a LIGHT channel's granted hW includes its protected part, whatever the allowance (R47). -/
def Obligations.LightsKeepTheirProtectedPart : Prop :=
  ∀ s t : State, s.LightProtected → step s = .next t → t.LightProtected

/-- CONFIG CHANNEL. A channel or role out of range, or a role target the role does not reach, is refused with OUT_OF_RANGE; a role and role
target that another channel holds with DUPLICATE (R38 to R40). Otherwise the channel takes the configuration, each field treated
as R39 says; that an UNUSED role takes any role target byte and an ignored steps field is free is the model's (log entries 30, 14). A
channel that held steps is brought to zero with min-on cancelled, and min-off starts from the new time; a running min-off is cut to the
new time; a time of 0 starts none, and cuts to none (log entry 21); LIGHT and UNUSED cancel it. A channel is TRIPPED afterwards when its
role is a step role, its trip line is used, and it was TRIPPED or its trip input is asserted, the last with CHANNEL_TRIPPED; one that
leaves TRIPPED starts min-off. The target is 0, or a LIGHT channel's protected minimum, until the role unit that names the channel answers
with its present target, which it then has sent (R40, R99, R100, R133, R150). A LIGHT channel holds its protected part. A queue entry is
new; no other channel is reconfigured or asked for anything else, and the plan, the Climate Unit, Stop Control and the store stay (R52). The
protected total, the shareable allowance, the reserves and the pool are worked out afresh (R52 step 5, R61, R62; that they are so where no
LIGHT channel is concerned either is log entry 21's). -/
def Obligations.ConfigChannelTakesEffect : Prop :=
  (∀ (s : State) (tag : Byte) (body : Bytes) (rest : List Frame), body.length = 14 →
      (128 ≤ u8 body 0 ∨ 6 ≤ u8 body 1 ∨ ∃ r, role? (u8 body 1) = some r ∧ roleTarget? r (u8 body 2) = none) →
        s.takes ⟨tag, 0x28, body⟩ rest → exec (.configChannel tag body) s = .next (s.answered rest tag 0x28 [0x12]))
    ∧ (∀ (s : State) (tag : Byte) (body : Bytes) (rest : List Frame) (i j : Fin 128) (r : Role) (n : Nat), body.length = 14 →
        u8 body 0 = i → role? (u8 body 1) = some r → r ≠ .unused → roleTarget? r (u8 body 2) = some (some n) → j ≠ i →
          (s.chan j).cfg.role = r → (s.chan j).cfg.roleTarget = some n → s.takes ⟨tag, 0x28, body⟩ rest →
            exec (.configChannel tag body) s = .next (s.answered rest tag 0x28 [0x14]))
    ∧ ∀ (s : State) (tag : Byte) (body : Bytes) (rest : List Frame) (i : Fin 128) (r : Role) (target : Option Nat),
        body.length = 14 → u8 body 0 = i → role? (u8 body 1) = some r → roleTarget? r (u8 body 2) = some target →
          s.boundElsewhere i r target = false → s.takes ⟨tag, 0x28, body⟩ rest →
            let c := s.chan i
            let used := u8 body 11 ≠ 0 ∧ r ≠ .light
            let minOff := min (u16 body 9) 900
            let steps := match r with
              | .heater => max 1 (min 8 (u8 body 3))
              | .fan => max 1 (min 6 (u8 body 3))
              | .curtain | .docklight => 1
              | .light | .unused => Config.ignoredSteps (u8 body 3)
            let sentMin := min (u16 body 12) 1000
            let running := s.stop.state = .running
            ∃ t, exec (.configChannel tag body) s = .next t
              ∧ { (t.chan i).cfg with protMin := 0 }
                = { role := r, roleTarget := target, steps := steps, rating := max 1 (min 2000 (u16 body 4))
                    priority := min (u8 body 6) 7, minOn := min (u16 body 7) 900, minOff := minOff, tripUsed := used, protMin := 0 }
              ∧ (r ≠ .light → (t.chan i).cfg.protMin = 0)
              ∧ ((t.chan i).tripped = true ↔ r.isStep = true ∧ used ∧ (c.tripped = true ∨ c.tripIn = true))
              ∧ (r.isStep = true → used → c.tripped = false → c.tripIn = true → ∃ held,
                  s.reports t ⟨.channelTripped, s.plan.clock, i, le8 r.code ++ leOpt8 target ++ le8 held⟩)
              ∧ ((r = .unused ∨ (t.chan i).tripped = true) →
                  (t.chan i).granted = 0 ∧ (t.chan i).entry = none ∧ (t.chan i).minOnT = none)
              ∧ ((r = .unused ∨ r = .light ∨ minOff = 0) → (t.chan i).minOffT = none)
              ∧ (r.isStep = true → (t.chan i).tripped = false → 0 < minOff →
                  ((c.cfg.role.isStep = true ∧ 0 < c.granted) ∨ c.tripped = true →
                      (t.chan i).minOffT = some minOff ∧ (t.chan i).granted = 0 ∧ (t.chan i).minOnT = none)
                    ∧ (¬(c.cfg.role.isStep = true ∧ 0 < c.granted) → c.tripped = false → ∀ m, c.minOffT = some m →
                        (t.chan i).minOffT = some (min m minOff) ∧ (t.chan i).granted = 0 ∧ (t.chan i).minOnT = none))
              ∧ (r = .light →
                  units (t.chan i).cfg.rating (if running then (t.chan i).cfg.protMin else 1000) ≤ (t.chan i).granted
                    ∧ (t.chan i).entry = none ∧ (t.chan i).minOnT = none)
              ∧ (∀ e, (t.chan i).entry = some e → e.age = 0)
              ∧ (r = .unused → (t.chan i).target = 0)
              ∧ (∀ z : Fin 12, target = some z.val →
                  (r = .heater →
                      (t.chan i).target = (if (s.zone z).cfg.heater = some i then min (s.zone z).heaterTarget steps else 0))
                    ∧ (r = .fan →
                        (t.chan i).target = (if (s.zone z).cfg.fan = some i then min (s.zone z).fanTarget steps else 0)))
              ∧ (∀ z : Fin 24, target = some z.val → r = .light →
                  ((s.light z).cfg.channel = some i →
                      (t.chan i).cfg.protMin = (s.light z).cfg.protMin ∧ (t.chan i).target = (s.light z).target
                        ∧ (t.light z).lastSent = (s.light z).target)
                    ∧ ((s.light z).cfg.channel ≠ some i → (t.chan i).cfg.protMin = sentMin ∧ (t.chan i).target = sentMin))
              ∧ (∀ d : Fin 32, target = some d.val →
                  let x := s.door d
                  let ask := fun (states : List DoorState) => if running ∧ x.state ∈ states then 1 else 0
                  (r = .curtain →
                      (x.cfg.curtain = some i →
                          (t.chan i).target = ask [.openBare, .held] ∧ (t.door d).sentCurtain = ask [.openBare, .held])
                        ∧ (x.cfg.curtain ≠ some i → (t.chan i).target = 0))
                    ∧ (r = .docklight →
                        (x.cfg.light = some i →
                            (t.chan i).target = ask [.openDocked, .openBare, .held]
                              ∧ (t.door d).sentLight = ask [.openDocked, .openBare, .held])
                          ∧ (x.cfg.light ≠ some i → (t.chan i).target = 0)))
              ∧ (∀ j, j ≠ i → (t.chan j).asked = (s.chan j).asked)
              ∧ t.climate = s.climate ∧ t.stop = s.stop ∧ t.store = s.store
              ∧ t.plan.forgetTotals = s.plan.forgetTotals ∧ s.reprotects t

/-- READ CHANNEL, READ BUDGET and READ QUEUE report the channel, the figures and the queue or deficit set as they stand, and change
nothing; a channel above 127, an unknown selector or a position above 127 is refused with OUT_OF_RANGE (R41, R86, R87). The place of the
derived class, the bits of the two flag bytes and the widths that R41 and R87 do not give are log entry 8's; the bytes for what the manual
does not give are free: the role target and class of an UNUSED channel and its steps (log entries 13 and 14) and an empty last-window
record (log entry 16); the step count byte of a LIGHT channel is log entry 31's. -/
def Obligations.BudgetReadsAnswer : Prop :=
  (∀ (s : State) (tag n : Byte) (rest : List Frame), s.takes ⟨tag, 0x29, [n]⟩ rest →
      (∀ i : Fin 128, n.toNat = i →
        let c := s.chan i
        let level := if units c.cfg.rating c.target ≤ c.granted then c.target else c.granted * 1000 / c.cfg.rating
        exec (.readChannel tag [n]) s
          = .next (s.answered rest tag 0x29
              (([0x00] : Bytes) ++ le8 c.cfg.role.code
                ++ (match c.cfg.roleTarget with
                  | some m => le8 m
                  | none => [Config.noRoleTargetByte])
                ++ le8 c.cfg.steps ++ le16 c.cfg.rating ++ le8 c.cfg.priority ++ le16 c.cfg.minOn ++ le16 c.cfg.minOff
                ++ leFlag c.cfg.tripUsed ++ le16 c.cfg.protMin
                ++ (match c.cfg.role with
                  | .light => [0x00]
                  | .heater => [0x01]
                  | .fan => [0x02]
                  | .curtain | .docklight => [0x03]
                  | .unused => [Config.noClassByte])
                ++ (match c.cfg.role with
                  | .unused => [0x00, 0x00]
                  | .light => [if 0 < level then 0x01 else 0x00, 0x00]
                  | _ =>
                    (if c.tripped then 0x03 else if 0 < c.granted then 0x01 else if c.minOffT.isSome then 0x02 else 0x00)
                      :: le8 c.granted)
                ++ le16 c.target ++ le16 c.granted
                ++ le16 (match c.cfg.role with
                  | .unused => 0
                  | .light => level
                  | _ => c.granted)
                ++ leTime c.minOnT ++ leTime c.minOffT ++ le32 c.serial ++ leFlag c.tripIn)))
        ∧ (128 ≤ n.toNat → exec (.readChannel tag [n]) s = .next (s.answered rest tag 0x29 [0x12])))
    ∧ (∀ (s : State) (tag : Byte) (rest : List Frame), s.takes ⟨tag, 0x31, []⟩ rest →
        let b := s.budget
        let used := fun k => s.classGrant k - b.reserve.get k
        let figures := fun k =>
          le32 (b.reserve.get k) ++ le32 (s.classGrant k) ++ le32 (used k)
            ++ le32 (b.pool * s.profile.weight.get k / s.profile.weight.sum) ++ le32 (s.avail k)
        let free : Int := b.pool - (used .light + used .heat + used .air + used .dock : Nat)
        let entries := (indices 128).filter fun i => (s.chan i).entry.isSome
        exec (.readBudget tag []) s
          = .next (s.answered rest tag 0x31
              ([0x00] ++ le32 b.energy ++ le16 b.elapsed ++ le16 b.windowLen ++ le16 (b.windowLen - b.elapsed)
                ++ le8 b.silence ++ leFlag b.silent
                ++ le32 b.pu ++ le32 b.ct ++ le32 b.managed ++ le32 b.pProt ++ le32 b.shareable
                ++ le8 s.plan.current.fields.profile
                ++ figures .light ++ figures .heat ++ figures .air ++ figures .dock
                ++ le32 b.pool ++ leInt32 free
                ++ leFlag b.tight ++ leFlag (free * 1000 < b.pool * s.profile.tight) ++ leFlag b.shed
                ++ le8 entries.length
                ++ le8 (entries.filter fun i => (s.chan i).entry.any (·.urgent)).length
                ++ le8 (entries.filter fun i => (s.chan i).minOffT.isSome).length
                ++ le8 ((indices 128).filter fun i => 0 < (s.chan i).deficit).length
                ++ le32 ((indices 128).map fun i => (s.chan i).deficit).sum
                ++ (match b.lastWindow with
                  | some w =>
                    le32 w.energy ++ le16 w.length ++ le32 w.average ++ le16 w.contract
                      ++ le8 ((if w.overContract then 1 else 0) + (if w.estimated then 2 else 0)
                          + (if w.byClockSet then 4 else 0))
                      ++ leTime w.closeTime
                  | none =>
                    [Config.emptyWindowByte 0, Config.emptyWindowByte 1, Config.emptyWindowByte 2, Config.emptyWindowByte 3,
                      0x00, 0x00, Config.emptyWindowByte 4, Config.emptyWindowByte 5, Config.emptyWindowByte 6,
                      Config.emptyWindowByte 7, Config.emptyWindowByte 8, Config.emptyWindowByte 9, Config.emptyWindowByte 10,
                      0xFF, 0xFF, 0xFF, 0xFF]))))
    ∧ ∀ (s : State) (tag selector pos : Byte) (rest : List Frame), s.takes ⟨tag, 0x32, [selector, pos]⟩ rest →
        let reply := fun (all : List (Fin 128)) (record : Fin 128 → Bytes) =>
          [0x00, selector] ++ le8 all.length ++ [pos] ++ le8 ((all.drop pos.toNat).take 24).length
            ++ ((all.drop pos.toNat).take 24).flatMap record
        exec (.readQueue tag [selector, pos]) s
          = .next (s.answered rest tag 0x32
              (if 127 < pos.toNat ∨ 1 < selector.toNat then [0x12]
               else if selector = 0 then
                reply s.queueOrder fun i =>
                  let c := s.chan i
                  match c.entry with
                  | some e =>
                    le8 i
                      ++ (match c.cfg.role with
                        | .light => [0x00]
                        | .heater => [0x01]
                        | .fan => [0x02]
                        | .curtain | .docklight => [0x03]
                        | .unused => [Config.noClassByte])
                      ++ le8 c.cfg.priority ++ le8 (c.target - c.granted) ++ le32 e.age
                      ++ le8 ((if e.urgent then 1 else 0) + (if c.minOffT.isSome then 2 else 0))
                  | none => []
               else
                reply s.deficitOrder fun i =>
                  let c := s.chan i
                  le8 i ++ le8 c.cfg.priority ++ le16 c.target ++ le16 c.granted ++ le16 c.deficit))

/-- The walk serves the lighting deficit set, then the start queue. The order of the set is priority, highest first, then channel number;
that of the queue is urgent, then priority, then age, then channel number (R80, R81). What a class may take is the unused part of its
reserve and a part of the free pool, while the pool is tight no more of it than its fair share leaves (R70 to R73). A deficit member is
granted what is available of its deficit, takes the next serial and drives the lesser of its target and what its grant carries, or is
passed over; a held entry is passed over; an entry whose steps wanted are all available is granted them as one step-up; one that is not
urgent is granted the steps available, if any, and the walk goes on; an urgent one likewise, and the walk stops (R44, R80, R81). A min-off
that runs out and an entry that becomes urgent each call such a walk (R46, R77, R79); that an expiry is due at 0 is the model's reading
(log entry 5). -/
def Obligations.WalkServesInOrder : Prop :=
  (∀ s : State,
      s.queueOrder.Perm ((indices 128).filter fun i => (s.chan i).entry.isSome)
        ∧ s.queueOrder.Pairwise (fun i j => ∀ a b, (s.chan i).entry = some a → (s.chan j).entry = some b →
            (a.urgent = true ∧ b.urgent = false)
              ∨ (a.urgent = b.urgent
                  ∧ ((s.chan j).cfg.priority < (s.chan i).cfg.priority
                      ∨ ((s.chan j).cfg.priority = (s.chan i).cfg.priority
                          ∧ (b.age < a.age ∨ (b.age = a.age ∧ i < j))))))
        ∧ s.deficitOrder.Perm
            ((indices 128).filter fun i =>
              (s.chan i).cfg.role = .light ∧ (s.chan i).granted < units (s.chan i).cfg.rating (s.chan i).target)
        ∧ s.deficitOrder.Pairwise (fun i j =>
            (s.chan j).cfg.priority < (s.chan i).cfg.priority
              ∨ ((s.chan j).cfg.priority = (s.chan i).cfg.priority ∧ i < j)))
    ∧ (∀ (s : State) (k : LoadClass),
        let used := fun m => s.classGrant m - s.budget.reserve.get m
        let use := used .light + used .heat + used .air + used .dock
        let free := s.budget.pool - use
        let w := s.profile.weight
        let fair := s.budget.pool * w.get k / (w.light + w.heat + w.air + w.dock)
        s.classGrant k
            = ((indices 128).map fun i =>
                let c := s.chan i
                if c.cfg.role.cls = some k then
                  (if c.cfg.role = .light then c.granted - c.protPart s.stop.state else c.granted * c.cfg.rating)
                else 0).sum
          ∧ s.avail k
            = s.budget.reserve.get k - s.classGrant k
                + (if s.budget.pool * 1000 < s.budget.pool * s.profile.tight + use * 1000 then min free (fair - used k)
                   else free))
    ∧ (∀ (s : State) (i : Fin 128), (s.chan i).cfg.role = .light →
        let c := s.chan i
        let g := min (units c.cfg.rating c.target - c.granted) (s.avail .light)
        let n := min 4294967295 (s.budget.lastSerial + 1)
        lightVisit i s
            = (if g = 0 then s
               else (s.setBudget { s.budget with lastSerial := n }).putChan i { c with granted := c.granted + g, serial := n })
          ∧ (0 < c.cfg.rating → c.drivenLevel = min c.target (c.granted * 1000 / c.cfg.rating)))
    ∧ (∀ (s : State) (i : Fin 128) (rest : List (Fin 128)) (e : QueueEntry) (k : LoadClass), (s.chan i).entry = some e →
        (s.chan i).cfg.role.cls = some k →
          let wanted := (s.chan i).target - (s.chan i).granted
          let steps := s.avail k / (s.chan i).cfg.rating
          ((s.chan i).minOffT.isSome → visitQueue (i :: rest) s = visitQueue rest s)
            ∧ ((s.chan i).minOffT = none →
                (wanted ≤ steps → visitQueue (i :: rest) s = visitQueue rest (stepUp i wanted s))
                  ∧ (e.urgent = false → 1 ≤ steps → steps < wanted →
                      visitQueue (i :: rest) s = visitQueue rest (stepUp i steps s))
                  ∧ (e.urgent = false → steps = 0 → 0 < wanted → visitQueue (i :: rest) s = visitQueue rest s)
                  ∧ (e.urgent = true → 1 ≤ steps → steps < wanted → visitQueue (i :: rest) s = stepUp i steps s)
                  ∧ (e.urgent = true → steps = 0 → 0 < wanted → visitQueue (i :: rest) s = s)))
    ∧ (∀ (s : State) (i : Fin 128) (k : Nat) (e : QueueEntry), (s.chan i).cfg.role.isStep = true → (s.chan i).entry = some e →
        let c := s.chan i
        let t := stepUp i k s
        let n := min 4294967295 (s.budget.lastSerial + 1)
        (t.chan i).granted = c.granted + k ∧ (t.chan i).out = ⟨c.granted + k, 0⟩ ∧ (t.chan i).serial = n
          ∧ t.budget.lastSerial = n ∧ (t.chan i).minOnT = (if c.cfg.minOn = 0 then none else some c.cfg.minOn)
          ∧ (t.chan i).minOffT = c.minOffT ∧ (t.chan i).asked = c.asked
          ∧ (t.chan i).entry
              = (if s.stop.state = .running ∧ c.tripped = false ∧ c.granted + k < c.target then some e else none)
          ∧ ∀ j, j ≠ i → t.chan j = s.chan j)
    ∧ (∀ s : State,
        let t := s.deficitOrder.foldl (fun u i => lightVisit i u) s
        walk s = visitQueue t.queueOrder t ∧ visitQueue [] s = s)
    ∧ (∀ (s : State) (i : Fin 128), s.stage = .running → (s.chan i).minOffT = some 0 →
        ∃ t, exec (.minOffExpiry i) s = .next t
          ∧ ∀ j, t.chan j = (walk (s.putChan i { s.chan i with minOffT := none })).chan j)
    ∧ ∀ (s : State) (i : Fin 128) (e : QueueEntry), s.stage = .running → (s.chan i).entry = some e → e.urgent = false →
        s.urgencyTime (s.chan i) ≤ e.age →
          ∃ t, exec (.urgencyExpiry i) s = .next t
            ∧ ∀ j, t.chan j = (walk (s.putChan i { s.chan i with entry := some { e with urgent := true } })).chan j

/-- SET LIMITS is never refused: the configured limits take the treated values, the active limits and the figures stay until the next
sample, and the reply carries both sets with the window-pending flag (R55, R56). -/
def Obligations.SetLimitsStoresTreatedValues : Prop :=
  ∀ (s : State) (tag : Byte) (body : Bytes) (rest : List Frame), body.length = 12 → s.takes ⟨tag, 0x30, body⟩ rest →
    let l := treatLimits (limitsSent body)
    exec (.setLimits tag body) s
        = .next (sendReply tag 0x30
            ([if l = limitsSent body then 0x00 else 0x01] ++ limitsBytes l ++ limitsBytes s.budget.active
              ++ [if l.window = s.budget.active.window then 0x00 else 0x01])
            ((s.taken rest).setBudget { s.budget with configured := l }))
      ∧ l.contract = max 100 (min 60000 (u16 body 0)) ∧ l.feed = max 100 (min 65000 (u16 body 2))
      ∧ l.margin = min 5000 (u16 body 4) ∧ l.wTotal = max 1 (min 1000 (u16 body 8))
      ∧ l.wUnmanaged = max 1 (min 1000 (u16 body 10)) ∧ l.window ∈ [300, 600, 900, 1200, 1800, 3600]
      ∧ (u16 body 6 < 300 → l.window = 300)
      ∧ (300 ≤ u16 body 6 →
          l.window ≤ u16 body 6 ∧ ∀ w ∈ [300, 600, 900, 1200, 1800, 3600], w ≤ u16 body 6 → w ≤ l.window)

/-- A pulse counts once on its own meter, up to 65 535, and does nothing else (R57). A meter sample that is due, with pulses counted: the
configured limits but W become active, E takes the measured energy, PU the chargers' mean demand, t rises by 10 s, both counters are
cleared, and CT, C, P_prot, C′, the reserves and the pool are the figures of R59 to R62 (R56, R58). One that fills the window closes it: the
last-window record takes the energy, length, average and close time, E and t start again from 0, the configured W becomes active, and the
new window runs to the next multiple of W, or W while the clock is unset (R56, R58, R64). A sample with pulses clears the silence count and
the silent condition and keeps the estimate count; where it ends a silence it raises METER_RESTORED with the number of samples the estimate
took, and no other raises it (R67, R69). That a sample which is not due does nothing is the model's reading (log entry 5). -/
def Obligations.MetersAreSampled : Prop :=
  (∀ s : State, s.stage = .running →
     exec (.meterPulse .total) s = .next (s.setBudget { s.budget with nT := min 65535 (s.budget.nT + 1) })
       ∧ exec (.meterPulse .unmanaged) s = .next (s.setBudget { s.budget with nU := min 65535 (s.budget.nU + 1) }))
    ∧ (∀ s : State, s.stage = .running → s.budget.sampleT = 0 → 0 < s.budget.nT →
        let energy := min 4294967295 (s.budget.energy + s.budget.nT * s.budget.configured.wTotal * 36)
        ∃ t, exec .meterSample s = .next t
          ∧ (if s.budget.elapsed + 10 < s.budget.windowLen then s.samplesOn t energy s.budget.estimated
             else s.samplesFull t energy s.budget.estimated)
          ∧ t.budget.silence = 0 ∧ t.budget.silent = false ∧ t.budget.estimates = s.budget.estimates
          ∧ (s.budget.silent = true → s.admits .meterRestored →
              s.raised t ⟨.meterRestored, s.plan.clock, 0, le16 s.budget.estimates⟩)
          ∧ (s.budget.silent = false → ∀ n ∈ s.joined t, n.kind ≠ .meterRestored)
          ∧ ∀ n ∈ s.joined t, n.kind ≠ .meterSilent)
    ∧ ∀ s : State, s.stage = .running → s.budget.sampleT ≠ 0 → exec .meterSample s = .next s

/-- A due sample without a pulse. In the silent condition, or when the silence count reaches 6 with it, E takes the estimate, the managed
draw and PU over 10 s, and the window is marked estimated; otherwise E stays. In the silent condition that condition and the count stay and
the estimate count rises by 1; with no managed draw the silence count returns to 0; otherwise it rises by 1, and at 6 the meter is silent,
the estimate count becomes 1, and METER_SILENT is raised, as by no other sample (R67, R68; that the PU of the notice is the one step 2 works
out is the model's choice, log entry 17). None ends a silence. Whatever becomes of E, PU, t and the figures follow as at a sample with
pulses; one that fills the window closes it with its energy and its estimated flag, and the silence state goes on into the next window
(R56, R58, R64, R67). -/
def Obligations.MeterSilenceIsEstimated : Prop :=
  ∀ s : State, s.stage = .running → s.budget.sampleT = 0 → s.budget.nT = 0 →
    let draw := s.managedDraw
    let pu := s.budget.nU * s.budget.configured.wUnmanaged * 36 / 10
    let falls := s.budget.silent = false ∧ 0 < draw ∧ 5 ≤ s.budget.silence
    let taken := s.budget.silent = true ∨ falls
    ∃ (t : State) (energy : Nat) (estimated : Bool), exec .meterSample s = .next t
      ∧ (taken → energy = min 4294967295 (s.budget.energy + (draw + pu) * 10) ∧ estimated = true)
      ∧ (¬taken → energy = s.budget.energy ∧ estimated = s.budget.estimated)
      ∧ (if s.budget.elapsed + 10 < s.budget.windowLen then s.samplesOn t energy estimated else s.samplesFull t energy estimated)
      ∧ (s.budget.silent = true →
          t.budget.silent = true ∧ t.budget.silence = s.budget.silence
            ∧ t.budget.estimates = min 65535 (s.budget.estimates + 1))
      ∧ (s.budget.silent = false → ¬falls →
          t.budget.silent = false ∧ t.budget.silence = (if draw = 0 then 0 else s.budget.silence + 1)
            ∧ t.budget.estimates = s.budget.estimates)
      ∧ (falls → t.budget.silent = true ∧ t.budget.silence = 6 ∧ t.budget.estimates = 1
          ∧ (s.admits .meterSilent → s.raised t ⟨.meterSilent, s.plan.clock, 0, le32 draw ++ le32 pu⟩))
      ∧ (¬falls → ∀ n ∈ s.joined t, n.kind ≠ .meterSilent) ∧ ∀ n ∈ s.joined t, n.kind ≠ .meterRestored

/-- Shedding. Nothing is shed while the pool use of the classes is at most the pool. Otherwise passes follow one another until it is: each
takes from the candidate of lowest priority, then of highest step-up serial, then of lowest channel number, among the channels with a
non-protected grant whose class holds more than its reserve (R71, R82). A step channel loses the steps that cover the need, at most those
it holds, with min-off started and its min-on, target and serial kept, and waits in the queue; a LIGHT channel loses the need, at most its
non-protected grant (R48, R75, R83). The event then raises one SHED with the cause, the channels that lost and the hW shed, counts one
shed episode, and sets the shed condition (R84, R85). A meter sample sheds with cause CEILING and a NOW edit of the profile in use with
cause PROFILE, each on the figures as worked out afresh, with its SHED before the walk and before the flags are compared (R63, R82). -/
def Obligations.SheddingTakesTheLatestFirst : Prop :=
  let shedNotice : Byte → State → State → Notice := fun code s t =>
    let lost := (indices 128).filter fun i => (t.chan i).granted < (s.chan i).granted
    let shed := ((indices 128).map fun i =>
      ((s.chan i).granted - (t.chan i).granted) * (if (s.chan i).cfg.role = .light then 1 else (s.chan i).cfg.rating)).sum
    ⟨.shed, s.plan.clock, 0, code :: (le8 lost.length ++ le32 shed)⟩
  (∀ (s : State) (n : Nat), s.poolUse ≤ s.budget.pool → shedLoop n s = s)
    ∧ (∀ (s : State) (i : Fin 128),
        let candidate : Fin 128 → Prop := fun j =>
          0 < (s.chan j).nonProtected s.stop.state
            ∧ ∃ k, (s.chan j).cfg.role.cls = some k ∧ s.budget.reserve.get k < s.classGrant k
        s.budget.pool < s.poolUse → candidate i →
          (∀ j, candidate j → j ≠ i →
            (s.chan i).cfg.priority < (s.chan j).cfg.priority
              ∨ ((s.chan i).cfg.priority = (s.chan j).cfg.priority
                  ∧ ((s.chan j).serial < (s.chan i).serial ∨ ((s.chan j).serial = (s.chan i).serial ∧ i < j)))) →
            ∀ n, shedLoop (n + 1) s = shedLoop n (shedOne i s))
    ∧ (∀ (s : State) (i : Fin 128) (k : LoadClass), (s.chan i).cfg.role.cls = some k →
        let c := s.chan i
        let use := (s.classGrant .light - s.budget.reserve.light) + (s.classGrant .heat - s.budget.reserve.heat)
          + (s.classGrant .air - s.budget.reserve.air) + (s.classGrant .dock - s.budget.reserve.dock)
        let need := min (use - s.budget.pool) (s.classGrant k - s.budget.reserve.get k)
        let t := shedOne i s
        (t.chan i).asked = c.asked ∧ (t.chan i).serial = c.serial ∧ (t.chan i).minOnT = c.minOnT
          ∧ (c.cfg.role ≠ .light →
              let left := c.granted - min ((need + c.cfg.rating - 1) / c.cfg.rating) c.granted
              (t.chan i).granted = left ∧ (t.chan i).minOffT = (if c.cfg.minOff = 0 then none else some c.cfg.minOff)
                ∧ ((t.chan i).entry.isSome ↔ left < c.target ∧ c.tripped = false ∧ s.stop.state = .running))
          ∧ (c.cfg.role = .light →
              (t.chan i).granted = c.granted - min need (c.granted - c.protPart s.stop.state))
          ∧ ∀ j, j ≠ i → t.chan j = s.chan j)
    ∧ (∀ (s : State) (cause : ShedCause),
        let t := shedding cause s
        let code := match cause with
          | .ceiling => 0x00#8
          | .profile => 0x01#8
          | .protected_ => 0x02#8
        (s.poolUse ≤ s.budget.pool → t = s)
          ∧ (s.budget.pool < s.poolUse →
              (∀ i, t.chan i = (shedLoop (s.poolUse - s.budget.pool) s).chan i)
                ∧ t.poolUse ≤ t.budget.pool ∧ t.budget.pool = s.budget.pool ∧ t.budget.reserve = s.budget.reserve
                ∧ t.budget.shed = true ∧ t.plan.totals.shed = min 65535 (s.plan.totals.shed + 1)
                ∧ (s.admits .shed → t.line.notices = s.line.notices ++ [shedNotice code s t])))
    ∧ (∀ s : State, s.stage = .running → s.budget.sampleT = 0 →
        ∃ t u, exec .meterSample s = .next t ∧ u.plan = s.plan ∧ u.stop = s.stop ∧ (∀ i, u.chan i = s.chan i)
          ∧ u.budget.reserve = t.budget.reserve ∧ u.budget.pool = t.budget.pool ∧ s.line.notices <+: u.line.notices
          ∧ (∀ n ∈ s.joined u, n.kind = .meterSilent ∨ n.kind = .meterRestored)
          ∧ t = settleTight (settleShed (walk (shedding .ceiling u)))
          ∧ (u.budget.pool < u.poolUse → u.admits .shed → u.raised t (shedNotice 0x00 u (shedding .ceiling u))))
    ∧ ∀ (s : State) (tag : Byte) (body : Bytes) (rest : List Frame) (p : Fin 4), body.length = 24 → u8 body 0 = p →
        u8 body 1 = 0 → s.plan.current.fields.profile = p → s.takes ⟨tag, 0x1A, body⟩ rest →
          ∃ t u, exec (.setProfile tag body) s = .next t ∧ u.plan.profiles = t.plan.profiles ∧ u.stop = s.stop
            ∧ (∀ i, (u.chan i).granted = (s.chan i).granted ∧ (u.chan i).asked = (s.chan i).asked)
            ∧ u.budget.shareable = s.budget.managed - s.budget.pProt
            ∧ (∀ k, u.budget.reserve.get k
                = u.budget.shareable * (treatProfile (profileSent body)).share.get k / 1000)
            ∧ u.budget.pool = u.budget.shareable - u.budget.reserve.sum ∧ u.line = (s.taken rest).line
            ∧ { t with line := { t.line with sent := s.line.sent } } = settleTight (settleShed (walk (shedding .profile u)))
            ∧ (u.budget.pool < u.poolUse → u.admits .shed → u.raised t (shedNotice 0x01 u (shedding .profile u)))

/-- The channel timers. Min-on that runs out with the target at or above the granted steps only stops; with a target below, the channel
releases to its target and min-off starts from its full time. Min-off that runs out stops. An entry whose age has reached its class's
urgency time is urgent from then on (R45, R46, R77). That an expiry which is not due does nothing is the model's reading (log entry 5). -/
def Obligations.ChannelTimersExpire : Prop :=
  (∀ (s : State) (i : Fin 128), s.stage = .running → (s.chan i).minOnT = some 0 → (s.chan i).granted ≤ (s.chan i).target →
      exec (.minOnExpiry i) s = .next (s.putChan i { s.chan i with minOnT := none }))
    ∧ (∀ (s : State) (i : Fin 128), s.stage = .running → (s.chan i).minOnT = some 0 → (s.chan i).target < (s.chan i).granted →
        (s.chan i).cfg.role.isStep = true →
          ∃ t, exec (.minOnExpiry i) s = .next t ∧ (t.chan i).granted = (s.chan i).target ∧ (t.chan i).minOnT = none
            ∧ (t.chan i).minOffT = (if (s.chan i).cfg.minOff = 0 then none else some (s.chan i).cfg.minOff))
    ∧ (∀ (s : State) (i : Fin 128), s.stage = .running → (s.chan i).minOffT = some 0 →
        ∃ t, exec (.minOffExpiry i) s = .next t ∧ (t.chan i).minOffT = none ∧ (s.chan i).granted ≤ (t.chan i).granted)
    ∧ (∀ (s : State) (i : Fin 128) (e : QueueEntry), s.stage = .running → (s.chan i).entry = some e → e.urgent = false →
        s.urgencyTime (s.chan i) ≤ e.age →
          ∃ t, exec (.urgencyExpiry i) s = .next t ∧ ∀ e', (t.chan i).entry = some e' → e'.urgent = true)
    ∧ ∀ (s : State) (i : Fin 128), s.stage = .running →
        ((s.chan i).minOnT ≠ some 0 → exec (.minOnExpiry i) s = .next s)
          ∧ ((s.chan i).minOffT ≠ some 0 → exec (.minOffExpiry i) s = .next s)
          ∧ ((∀ e, (s.chan i).entry = some e → e.urgent = true ∨ e.age < s.urgencyTime (s.chan i)) →
              exec (.urgencyExpiry i) s = .next s)

/-- An asserted trip sample trips a channel whose trip line is used and which is not TRIPPED: it holds no steps and no queue entry, its
timers are cancelled and CHANNEL_TRIPPED carries what it held, the first notice of the event (log entry 11); any other sample is only
recorded, that of an UNUSED or LIGHT channel too (R50; the last is log entry 23's). ACK TRIP. A channel not TRIPPED
is refused with WRONG_STATE and one whose trip input is asserted with INPUT_ACTIVE, each with its state, and a channel above 127 with
OUT_OF_RANGE; otherwise the channel leaves TRIPPED, min-off runs from its full time and holds it at no steps, and its stored target
counts again; a min-off time of 0 s starts no timer (R45, R51; the step count byte beside the state is log entry 8's and 31's). -/
def Obligations.TripsAndAcknowledgement : Prop :=
  ((∀ (s : State) (i : Fin 128), s.stage = .running → (s.chan i).cfg.role.isStep = true → (s.chan i).cfg.tripUsed = true →
       (s.chan i).tripped = false →
         ∃ t, exec (.tripSample i true) s = .next t ∧ (t.chan i).state = .tripped ∧ (t.chan i).granted = 0
           ∧ (t.chan i).entry = none ∧ (t.chan i).minOnT = none ∧ (t.chan i).minOffT = none ∧ (t.chan i).tripIn = true
           ∧ (t.chan i).target = (s.chan i).target
           ∧ (s.admits .channelTripped →
               s.raised t ⟨.channelTripped, s.plan.clock, i, tripData (s.chan i) (s.chan i).granted⟩))
     ∧ ∀ (s : State) (i : Fin 128) (level : Bool), s.stage = .running →
         (level = false ∨ (s.chan i).tripped = true ∨ (s.chan i).cfg.tripUsed = false ∨ (s.chan i).cfg.role.isStep = false) →
           exec (.tripSample i level) s = .next (s.putChan i { s.chan i with tripIn := level }))
    ∧ ((∀ (s : State) (tag n : Byte) (rest : List Frame) (i : Fin 128), n.toNat = i → s.takes ⟨tag, 0x2A, [n]⟩ rest →
           (s.chan i).state ≠ .tripped →
             exec (.ackTrip tag [n]) s = .next (s.answered rest tag 0x2A (0x17 :: channelStateBytes (s.chan i))))
         ∧ (∀ (s : State) (tag n : Byte) (rest : List Frame) (i : Fin 128), n.toNat = i → s.takes ⟨tag, 0x2A, [n]⟩ rest →
             (s.chan i).state = .tripped → (s.chan i).tripIn = true →
               exec (.ackTrip tag [n]) s = .next (s.answered rest tag 0x2A (0x18 :: channelStateBytes (s.chan i))))
         ∧ (∀ (s : State) (tag n : Byte) (rest : List Frame) (i : Fin 128), n.toNat = i → s.takes ⟨tag, 0x2A, [n]⟩ rest →
             (s.chan i).state = .tripped → (s.chan i).tripIn = false → (s.chan i).granted = 0 →
               ∃ t, exec (.ackTrip tag [n]) s = .next t ∧ s.replied t tag 0x2A (0x00 :: channelStateBytes (t.chan i))
                 ∧ (t.chan i).tripped = false ∧ (t.chan i).target = (s.chan i).target
                 ∧ (t.chan i).minOffT = (if (s.chan i).cfg.minOff = 0 then none else some (s.chan i).cfg.minOff)
                 ∧ ((s.chan i).cfg.minOff ≠ 0 →
                     (t.chan i).granted = 0
                       ∧ ((t.chan i).entry.isSome ↔ 0 < (s.chan i).target ∧ s.stop.state = .running)))
         ∧ ∀ (s : State) (tag n : Byte) (rest : List Frame), 128 ≤ n.toNat → s.takes ⟨tag, 0x2A, [n]⟩ rest →
             exec (.ackTrip tag [n]) s = .next (s.answered rest tag 0x2A [0x12]))

/-! ### Doors, sessions and loss (chapters Dock Doors; Docking Sessions and Door Heat Loss) -/

/-- After every step a session is open exactly at the doors in SHUT_DOCKED or OPEN_DOCKED (R112), a disabled door is UNUSED (R89, R91), the
held timer runs in OPEN_BARE alone (R95) and the doors under test are enabled (R104). After every step the session log keeps its
capacity, the lost count its bound, no session carries the number 0xFFFF, and the open seconds, cycles and loss of every session keep
their bounds (R112, R113, R115). -/
def Obligations.DoorsAndSessionsStaySound : Prop :=
  (∀ s t : State, s.DoorsSound → step s = .next t → t.DoorsSound)
    ∧ (∀ s t : State, s.dock.SessionsSound → step s = .next t → t.dock.SessionsSound)

/-- After every step each door's loss rate is the one of its state, curtain, coefficient and zone ΔT as they stand (R108, R109). -/
def Obligations.LossRatesStayCurrent : Prop :=
  ∀ s t : State, s.RatesCurrent → step s = .next t → t.RatesCurrent

/-- An accrual adds rate × seconds since the stamp to the open session of the door, or to the bare total where none is open, and moves the
stamp to the present second (R109, R110, R113). -/
def Obligations.AccrualCountsTheInterval : Prop :=
  ∀ (s : State) (d : Fin 32),
    let energy := (s.door d).rate * (s.seconds - (s.door d).stamp)
    let t := accrue d s
    (t.door d).stamp = s.seconds
      ∧ (∀ x, (s.door d).session = some x →
          (t.door d).session.map (·.loss) = some (min 4294967295 (x.loss + energy))
            ∧ t.plan.totals.bare = s.plan.totals.bare
            ∧ (energy ≠ 0 → t.plan.totals.docked = min 4294967295 (s.plan.totals.docked + energy)))
      ∧ ((s.door d).session = none → t.plan.totals.docked = s.plan.totals.docked
          ∧ (energy ≠ 0 → t.plan.totals.bare = min 4294967295 (s.plan.totals.bare + energy)))
      ∧ ∀ e, e ≠ d → t.door e = s.door e

/-- A sample of a door input is recorded as the raw value; it starts the input's debounce timer from the debounce time unless the
door is UNUSED or a contact check runs (R92). A debounce timer that runs out gives the input its raw value. A door in UNKNOWN moves to
FAULT when its loop is OPEN_LOOP and to the pair state of its inputs otherwise; a door in a pair state or HELD whose input changes moves to
the new pair state; no other changes (R92 to R94). A move out of SHUT, SHUT_DOCKED or UNKNOWN into an open state counts a cycle at the
door, in the totals and in the session then open (R97). A move to a docked state opens a session where none is open, else keeps it, with
open seconds within the bound that every step keeps (R113, Dock.SessionsSound); any
other closes it, after its accrual, into the log with DEPARTED, or into the lost count with LOG_FULL for the first loss (R112 to R115). The
held timer starts on entry to OPEN_BARE, doubled in CHANGEOVER, and stops on any other entry (R95). The targets that follow from the state
and the plant are sent where the last sent differ, and the channel bound takes them (R40, R99). A change of presence, but in UNKNOWN, raises
its trailer notice with the state and the session closed (R98). A held timer that runs out moves its door to HELD, counts the held episode,
and raises HELD_OPEN with the length the timer ran and the door's zone (R96). A door that moves keeps its configuration, its raw inputs, its
loop result, the held episodes that no held timer counts, and the last sent target of a channel it does not name; every other door keeps its
record but for loss and curtain running; curtain running still says whether the curtain channel bound to the door holds a step, where it did
(R100); the contact check, the ΔT copies and, but as said, the session log stay. That an expiry which is not due does nothing is the model's
reading (log entry 5). -/
def Obligations.DoorInputsMoveTheDoor : Prop :=
  let keeps : State → State → Fin 32 → Prop := fun s t d =>
    let x := s.door d
    (t.door d).cfg = x.cfg ∧ (t.door d).rawOpen = x.rawOpen ∧ (t.door d).rawPresent = x.rawPresent ∧ (t.door d).loop = x.loop
      ∧ (x.cfg.light = none → (t.door d).sentLight = x.sentLight)
      ∧ (x.cfg.curtain = none → (t.door d).sentCurtain = x.sentCurtain ∧ (t.door d).curtainRunning = x.curtainRunning)
      ∧ (∀ (e : Fin 32) (i : Fin 128), (s.door e).cfg.curtain = some i → (s.chan i).cfg.role = .curtain →
          (s.chan i).cfg.roleTarget = some e.val → ((s.door e).curtainRunning = true ↔ 0 < (s.chan i).granted) →
            ((t.door e).curtainRunning = true ↔ 0 < (t.chan i).granted))
      ∧ (∀ e, e ≠ d → (t.door e).forgetLoss = (s.door e).forgetLoss)
      ∧ { t.dock with
          doors := s.dock.doors, log := s.dock.log, lost := s.dock.lost, lossReported := s.dock.lossReported
          nextSession := s.dock.nextSession } = s.dock
  let episodes : State → State → Fin 32 → Prop := fun s t d =>
    (t.door d).heldEpisodes = (s.door d).heldEpisodes ∧ t.plan.totals.held = s.plan.totals.held
  let moves : State → State → Fin 32 → DoorState → Prop := fun s t d new =>
    let x := s.door d
    let docked := new = .shutDocked ∨ new = .openDocked
    let opens := docked ∧ x.state ≠ .shutDocked ∧ x.state ≠ .openDocked
    let cycle :=
      (x.state = .shut ∨ x.state = .shutDocked ∨ x.state = .unknown) ∧ (new = .openDocked ∨ new = .openBare ∨ new = .held)
    let counted := fun n => if cycle then min 65535 (n + 1) else n
    let elapsed := s.seconds - x.stamp
    let accrued : Session → Session := fun y =>
      { y with
        loss := min 4294967295 (y.loss + x.rate * elapsed)
        openSeconds := if x.state = .openDocked then min 4294967295 (y.openSeconds + elapsed) else y.openSeconds }
    let held := if s.plan.current.fields.kind = .changeover then 2 * x.cfg.heldTime else x.cfg.heldTime
    let light := if s.stop.state = .running ∧ (new = .openDocked ∨ new = .openBare ∨ new = .held) then 1 else 0
    let curtain := if s.stop.state = .running ∧ (new = .openBare ∨ new = .held) then 1 else 0
    let bound : Fin 128 → Role → Prop := fun i role =>
      (s.chan i).cfg.role = role ∧ (s.chan i).cfg.roleTarget = some d.val
    (t.door d).state = new ∧ (t.door d).stamp = s.seconds
      ∧ (t.door d).cycles = counted x.cycles ∧ t.plan.totals.cycles = counted s.plan.totals.cycles
      ∧ (opens →
          (t.door d).session
              = some ⟨s.dock.nextSession, s.plan.clock, s.plan.current.fields.label, 0, counted 0, 0⟩
            ∧ t.dock.nextSession = if s.dock.nextSession < 65534 then s.dock.nextSession + 1 else 0)
      ∧ (docked → ¬opens → (∀ y ∈ x.session, y.openSeconds ≤ 4294967295) →
          (t.door d).session = x.session.map fun y => { accrued y with cycles := counted y.cycles })
      ∧ (¬docked → (t.door d).session = none)
      ∧ (¬opens → t.dock.nextSession = s.dock.nextSession)
      ∧ (∀ y, ¬docked → x.session = some y →
          (s.dock.log.length < 128 →
              t.dock.log = s.dock.log ++ [⟨d, .departed, s.plan.clock, accrued y⟩] ∧ t.dock.lost = s.dock.lost
                ∧ t.dock.lossReported = s.dock.lossReported)
            ∧ (128 ≤ s.dock.log.length →
                t.dock.log = s.dock.log ∧ t.dock.lost = min 65535 (s.dock.lost + 1) ∧ t.dock.lossReported = true
                  ∧ (s.dock.lossReported = false →
                      s.reports t ⟨.logFull, s.plan.clock, d, le16 y.number ++ le16 t.dock.lost⟩)))
      ∧ (docked ∨ x.session = none →
          t.dock.log = s.dock.log ∧ t.dock.lost = s.dock.lost ∧ t.dock.lossReported = s.dock.lossReported)
      ∧ (t.door d).heldT = (if new = .openBare then some held else none)
      ∧ (t.door d).heldLength = (if new = .openBare then held else x.heldLength)
      ∧ (∀ i, x.cfg.light = some i → (t.door d).sentLight = light
          ∧ (bound i .docklight →
              (t.chan i).target = if light = x.sentLight then (s.chan i).target else min light (s.chan i).cfg.steps))
      ∧ (∀ i, x.cfg.curtain = some i → (t.door d).sentCurtain = curtain
          ∧ (bound i .curtain →
              (t.chan i).target = if curtain = x.sentCurtain then (s.chan i).target else min curtain (s.chan i).cfg.steps))
      ∧ (∀ i, ¬(x.cfg.light = some i ∧ bound i .docklight) → ¬(x.cfg.curtain = some i ∧ bound i .curtain) →
          (t.chan i).asked = (s.chan i).asked)
  let trailer : State → State → Fin 32 → Prop := fun s t d =>
    s.reports t
      (if (s.door d).rawPresent = true then ⟨.trailerArrived, s.plan.clock, d, le8 (t.door d).state.code⟩
       else
        ⟨.trailerDeparted, s.plan.clock, d,
          le8 (t.door d).state.code
            ++ (match (s.door d).session, (s.door d).state with
              | some y, .shutDocked | some y, .openDocked => le16 y.number
              | _, _ => [0xFF, 0xFF])⟩)
  let silent : State → State → Prop := fun s t => ∀ n ∈ s.joined t, n.kind ≠ .trailerArrived ∧ n.kind ≠ .trailerDeparted
  ((∀ (s : State) (d : Fin 32) (level : Bool), s.stage = .running → (s.door d).state ≠ .unused → s.dock.check = none →
       exec (.doorInputSample d .contact level) s
           = .next (s.putDoor d { s.door d with rawOpen := level, contactT := some (s.door d).cfg.debounce })
         ∧ exec (.doorInputSample d .presence level) s
             = .next (s.putDoor d { s.door d with rawPresent := level, presenceT := some (s.door d).cfg.debounce }))
     ∧ ∀ (s : State) (d : Fin 32) (level : Bool), s.stage = .running →
         ((s.door d).state = .unused ∨ s.dock.check ≠ none) →
           exec (.doorInputSample d .contact level) s = .next (s.putDoor d { s.door d with rawOpen := level })
             ∧ exec (.doorInputSample d .presence level) s = .next (s.putDoor d { s.door d with rawPresent := level }))
    ∧ ((∀ (s : State) (d : Fin 32), s.stage = .running → (s.door d).contactT = some 0 →
           let x := s.door d
           let stays := x.state = .unused ∨ x.state = .fault ∨ (x.state ≠ .unknown ∧ x.debOpen = x.rawOpen)
           (stays → exec (.debounceExpiry d .contact) s = .next (s.putDoor d { x with debOpen := x.rawOpen, contactT := none }))
             ∧ (¬stays → ∃ t, exec (.debounceExpiry d .contact) s = .next t ∧ (t.door d).contactT = none
                 ∧ (t.door d).debOpen = x.rawOpen ∧ (t.door d).debPresent = x.debPresent ∧ (t.door d).presenceT = x.presenceT
                 ∧ keeps s t d ∧ episodes s t d
                 ∧ moves s t d
                     (if x.state = .unknown ∧ x.loop = .openLoop then .fault else pairState x.rawOpen x.debPresent)
                 ∧ silent s t))
         ∧ (∀ (s : State) (d : Fin 32), s.stage = .running → (s.door d).presenceT = some 0 →
             let x := s.door d
             let taken := s.putDoor d { x with debPresent := x.rawPresent, presenceT := none }
             let changes := x.debPresent ≠ x.rawPresent
             let stays := x.state = .unused ∨ x.state = .fault ∨ (x.state ≠ .unknown ∧ ¬changes)
             (stays → ∃ t, exec (.debounceExpiry d .presence) s = .next t ∧ t.setLine s.line = taken
                 ∧ (x.state = .fault ∧ changes → trailer s t d) ∧ (¬(x.state = .fault ∧ changes) → t.line = s.line))
               ∧ (¬stays → ∃ t, exec (.debounceExpiry d .presence) s = .next t ∧ (t.door d).presenceT = none
                   ∧ (t.door d).debPresent = x.rawPresent ∧ (t.door d).debOpen = x.debOpen
                   ∧ (t.door d).contactT = x.contactT ∧ keeps s t d ∧ episodes s t d
                   ∧ moves s t d
                       (if x.state = .unknown ∧ x.loop = .openLoop then .fault else pairState x.debOpen x.rawPresent)
                   ∧ (x.state = .unknown → silent s t)
                   ∧ (x.state ≠ .unknown → (∀ y ∈ x.session, x.state = .shutDocked ∨ x.state = .openDocked) → trailer s t d)))
         ∧ ∀ (s : State) (d : Fin 32) (input : DoorInput), s.stage = .running → (s.door d).debounceT input ≠ some 0 →
             exec (.debounceExpiry d input) s = .next s)
    ∧ (∀ (s : State) (d : Fin 32), s.stage = .running → (s.door d).heldT = some 0 →
        ∃ t, exec (.heldTimerExpiry d) s = .next t ∧ (t.door d).state = .held ∧ (t.door d).heldT = none
          ∧ (t.door d).heldEpisodes = min 255 ((s.door d).heldEpisodes + 1)
          ∧ t.plan.totals.held = min 65535 (s.plan.totals.held + 1)
          ∧ (t.door d).debOpen = (s.door d).debOpen ∧ (t.door d).debPresent = (s.door d).debPresent
          ∧ (t.door d).contactT = (s.door d).contactT ∧ (t.door d).presenceT = (s.door d).presenceT ∧ keeps s t d
          ∧ ((s.door d).session = none → s.admits .heldOpen →
              s.raised t ⟨.heldOpen, s.plan.clock, d, le16 (s.door d).heldLength ++ le8 (s.door d).cfg.zone⟩)
          ∧ ((s.door d).state = .openBare → moves s t d .held ∧ silent s t))
    ∧ ∀ (s : State) (d : Fin 32), s.stage = .running → (s.door d).heldT ≠ some 0 → exec (.heldTimerExpiry d) s = .next s

/-- The tight flag and the shed condition. At the end of every step the flag records the condition free × 1000 < pool × tight level as it
stands, and the shed condition is set only while the queue or the deficit set holds something (R72, R85). At the end of an event the flag is
set with BUDGET_TIGHT, or cleared with BUDGET_EASED, each carrying free, the pool and the profile in use, exactly when it differs from the
condition (R72), and the shed condition is cleared when queue and deficit set are empty (R85). So ends the walk of a min-off expiry; and no
event of the Load Budget Unit raises either notice but as its last, over a change of the flag (R72, R79). -/
def Obligations.ArbiterFlagsFollow : Prop :=
  (∀ s t : State, s.TightCurrent → step s = .next t → t.TightCurrent)
    ∧ (∀ s t : State, s.ShedWaits → step s = .next t → t.ShedWaits)
    ∧ (∀ s : State, s.TightCurrent ↔
        (s.budget.tight = true
          ↔ ((s.budget.pool : Int) - s.poolUse) * 1000 < (s.budget.pool * s.profile.tight : Nat)))
    ∧ (∀ s : State,
        let notice : NoticeKind → Notice := fun kind =>
          ⟨kind, s.plan.clock, 0,
            leInt32 ((s.budget.pool : Int) - s.poolUse) ++ le32 s.budget.pool ++ le8 s.plan.current.fields.profile⟩
        let tightNow := s.budget.pool * 1000 < s.budget.pool * s.profile.tight + s.poolUse * 1000
        (tightNow → s.budget.tight = true → settleTight s = s)
          ∧ (¬tightNow → s.budget.tight = false → settleTight s = s)
          ∧ (tightNow → s.budget.tight = false →
              (settleTight s).budget = { s.budget with tight := true }
                ∧ (s.admits .budgetTight → (settleTight s).line.notices = s.line.notices ++ [notice .budgetTight]))
          ∧ (¬tightNow → s.budget.tight = true →
              (settleTight s).budget = { s.budget with tight := false }
                ∧ (s.admits .budgetEased → (settleTight s).line.notices = s.line.notices ++ [notice .budgetEased]))
          ∧ ((∃ i, (s.chan i).entry.isSome = true ∨ 0 < (s.chan i).deficit) → settleShed s = s)
          ∧ ((∀ i, (s.chan i).entry = none ∧ (s.chan i).deficit = 0) →
              settleShed s = s.setBudget { s.budget with shed := false }))
    ∧ (∀ (s : State) (i : Fin 128), s.stage = .running → (s.chan i).minOffT = some 0 →
        exec (.minOffExpiry i) s
          = .next (settleTight (settleShed (walk (s.putChan i { s.chan i with minOffT := none })))))
    ∧ ∀ (c : Instr) (s t : State), c.isArbiterEvent = true → s.TightCurrent → exec c s = .next t →
        (t.budget.tight ≠ s.budget.tight →
          s.reportsLast t
            ⟨if t.budget.tight then .budgetTight else .budgetEased, t.plan.clock, 0,
              leInt32 ((t.budget.pool : Int) - t.poolUse) ++ le32 t.budget.pool ++ le8 t.plan.current.fields.profile⟩)
          ∧ (t.budget.tight = s.budget.tight → ∀ n ∈ s.joined t, n.kind ≠ .budgetTight ∧ n.kind ≠ .budgetEased)

/-- CHECK BEGIN is refused with BUSY while a check runs and with DOORS_OPEN and their mask while an enabled door stands open; otherwise the
check runs with 30 s left, the enabled doors are under test and their debounce timers are cancelled; a loop sample of a door under test
is kept, and one of another door, or with no check running, does nothing (R104, R105). A contact check ends at CHECK END, or at its limit.
Each door under test takes the loop result of its last sample. Where the loop did not flow, a door not in FAULT enters it with no session
and DOOR_FAULT carries the state it left, and both debounce timers start; where it flowed, a door in FAULT takes its raw inputs and their
pair state, with the session and held timer of that state and no cycle, and any other door keeps its state while both debounce timers
start; every other door keeps its record but for loss and curtain running; CHECK_DONE comes last, with the mask of the open loops, the
number of doors tested and the ending (R106). CHECK END with no check running is refused with NOT_RUNNING (R106); that a limit not yet run
out does nothing is the model's reading (log entry 5), and the widths of the mask and the count in the replies are log entry 8's. -/
def Obligations.ContactCheckBeginsAndEnds : Prop :=
  let ended : State → State → ContactCheck → Byte → Prop := fun s t k ending =>
    t.dock.check = none
      ∧ (∀ d, look k.underTest d = true → look k.sample d = some true →
          (t.door d).loop = .connected
            ∧ ((s.door d).state = .fault →
                (t.door d).state = pairState (s.door d).rawOpen (s.door d).rawPresent
                  ∧ (t.door d).debOpen = (s.door d).rawOpen ∧ (t.door d).debPresent = (s.door d).rawPresent
                  ∧ (t.door d).session.isSome = (s.door d).rawPresent ∧ (t.door d).cycles = (s.door d).cycles
                  ∧ (t.door d).heldT
                      = (if (s.door d).rawOpen = true ∧ (s.door d).rawPresent = false then
                          some (if s.plan.current.fields.kind = .changeover then 2 * (s.door d).cfg.heldTime
                                else (s.door d).cfg.heldTime)
                         else none))
            ∧ ((s.door d).state ≠ .fault →
                (t.door d).forgetLoss
                  = { (s.door d).forgetLoss with
                      loop := .connected, contactT := some (s.door d).cfg.debounce
                      presenceT := some (s.door d).cfg.debounce }))
      ∧ (∀ d, look k.underTest d = true → look k.sample d ≠ some true →
          (t.door d).loop = .openLoop ∧ (t.door d).state = .fault
            ∧ (t.door d).contactT = some (s.door d).cfg.debounce ∧ (t.door d).presenceT = some (s.door d).cfg.debounce
            ∧ ((s.door d).state ≠ .fault →
                (t.door d).session = none ∧ s.reports t ⟨.doorFault, s.plan.clock, d, le8 (s.door d).state.code⟩))
      ∧ (∀ d, look k.underTest d = false → (t.door d).forgetLoss = (s.door d).forgetLoss)
      ∧ s.reportsLast t
          ⟨.checkDone, s.plan.clock, 0,
            le32 ((indices 32).map fun d =>
                if look k.underTest d = true ∧ look k.sample d ≠ some true then 2 ^ d.val else 0).sum
              ++ le8 ((indices 32).filter fun d => look k.underTest d).length ++ [ending]⟩
  ((∀ (s : State) (tag : Byte) (rest : List Frame), s.takes ⟨tag, 0x3A, []⟩ rest → s.dock.check.isSome = true →
       exec (.checkBegin tag []) s = .next (s.answered rest tag 0x3A [0x16]))
     ∧ (∀ (s : State) (tag : Byte) (rest : List Frame), s.takes ⟨tag, 0x3A, []⟩ rest → s.dock.check = none → s.openDoors ≠ [] →
         exec (.checkBegin tag []) s = .next (s.answered rest tag 0x3A (0x19 :: le32 (doorMask s.openDoors))))
     ∧ (∀ (s : State) (tag : Byte) (rest : List Frame), s.takes ⟨tag, 0x3A, []⟩ rest → s.dock.check = none → s.openDoors = [] →
         ∃ t k, exec (.checkBegin tag []) s = .next t ∧ t.dock.check = some k ∧ k.remaining = 30
           ∧ (∀ d, look k.underTest d = (s.door d).cfg.enabled ∧ look k.sample d = none)
           ∧ ∀ d, t.door d
               = (if (s.door d).cfg.enabled then { s.door d with contactT := none, presenceT := none } else s.door d))
     ∧ ∀ (s : State) (d : Fin 32) (flows : Bool), s.stage = .running →
         exec (.loopSample d flows) s
           = .next (match s.dock.check with
               | some k =>
                 if look k.underTest d = true then
                   s.setDock { s.dock with check := some { k with sample := upd k.sample d (some flows) } }
                 else s
               | none => s))
    ∧ ((∀ (s : State) (tag : Byte) (rest : List Frame), s.takes ⟨tag, 0x3B, []⟩ rest → s.dock.check = none →
           exec (.checkEnd tag []) s = .next (s.answered rest tag 0x3B [0x1B]))
         ∧ (∀ (s : State) (tag : Byte) (rest : List Frame) (k : ContactCheck), s.takes ⟨tag, 0x3B, []⟩ rest → s.dock.check = some k →
             ∃ t, exec (.checkEnd tag []) s = .next t ∧ ended s t k 0x00
               ∧ s.replied t tag 0x3B (0x00 :: (le32 (doorMask (t.openLoops k)) ++ le8 k.doors.length)))
         ∧ (∀ (s : State) (k : ContactCheck), s.stage = .running → s.dock.check = some k → k.remaining = 0 →
             ∃ t, exec .checkLimitExpiry s = .next t ∧ ended s t k 0x01)
         ∧ ∀ s : State, s.stage = .running → (∀ k, s.dock.check = some k → k.remaining ≠ 0) → exec .checkLimitExpiry s = .next s)

/-- CONFIG DOOR. An index out of range is refused with OUT_OF_RANGE, a curtain and a dock light that name one channel with DUPLICATE, and
any while a check runs with BUSY (R90). Otherwise the configuration is stored, with the loss coefficient at most 100, the held-open time
within 30 to 3600 s and the debounce time within 1 to 10 s (R88, R90), after an accrual. A door newly enabled is UNKNOWN with both
debounce timers running; one disabled is UNUSED with no timer, and its session closes into the log with DISABLED, or into the lost count
with LOG_FULL for the first loss (R115); another keeps its state, inputs, timers and session. A curtain or dock light channel that is
replaced takes target 0 and the new one the present target; one that is kept takes it where it differs from the last sent, if the channel is
bound to the door in that role (R40, R99). With a new curtain channel, curtain running is whether it holds steps, and with none it is no
(R91, R100); a channel not bound as the door's curtain counts with the steps it holds at the request, or that the walk then begun may
grant a queued one (log entry 22). No other channel is asked for anything else, and every other door keeps its record but for loss and
curtain running. -/
def Obligations.ConfigDoorTakesEffect : Prop :=
  (∀ (s : State) (tag : Byte) (body : Bytes) (rest : List Frame), body.length = 9 → s.takes ⟨tag, 0x38, body⟩ rest →
      (32 ≤ u8 body 0 ∨ doorSent? body = none) → exec (.configDoor tag body) s = .next (s.answered rest tag 0x38 [0x12]))
    ∧ (∀ (s : State) (tag : Byte) (body : Bytes) (rest : List Frame) (n : DoorConfig), body.length = 9 →
        s.takes ⟨tag, 0x38, body⟩ rest → u8 body 0 < 32 → doorSent? body = some n →
          (n.curtain.isSome ∧ n.curtain = n.light →
              exec (.configDoor tag body) s = .next (s.answered rest tag 0x38 [0x14]))
            ∧ (¬(n.curtain.isSome ∧ n.curtain = n.light) → s.dock.check.isSome →
                exec (.configDoor tag body) s = .next (s.answered rest tag 0x38 [0x16])))
    ∧ ∀ (s : State) (tag : Byte) (body : Bytes) (rest : List Frame) (d : Fin 32) (n : DoorConfig), body.length = 9 →
        s.takes ⟨tag, 0x38, body⟩ rest → u8 body 0 = d → doorSent? body = some n →
          ¬(n.curtain.isSome ∧ n.curtain = n.light) → s.dock.check = none →
            let x := s.door d
            let debounce := max 1 (min 10 (u8 body 6))
            let new := if n.enabled = x.cfg.enabled then x.state else if n.enabled then .unknown else .unused
            let light := if s.stop.state = .running ∧ (new = .openDocked ∨ new = .openBare ∨ new = .held) then 1 else 0
            let curtain := if s.stop.state = .running ∧ (new = .openBare ∨ new = .held) then 1 else 0
            let bound : Fin 128 → Role → Prop := fun i role =>
              (s.chan i).cfg.role = role ∧ (s.chan i).cfg.roleTarget = some d.val
            let elapsed := s.seconds - x.stamp
            let accrued : Session → Session := fun y =>
              { y with
                loss := min 4294967295 (y.loss + x.rate * elapsed)
                openSeconds := if x.state = .openDocked then min 4294967295 (y.openSeconds + elapsed) else y.openSeconds }
            ∃ t, exec (.configDoor tag body) s = .next t
              ∧ (t.door d).cfg
                = { n with kd := min (u8 body 3) 100, heldTime := max 30 (min 3600 (u16 body 4)), debounce := debounce }
              ∧ (n.enabled = true ↔ u8 body 1 ≠ 0) ∧ n.zone.val = u8 body 2
              ∧ (∀ i : Fin 128, n.curtain = some i ↔ u8 body 7 = i) ∧ (∀ i : Fin 128, n.light = some i ↔ u8 body 8 = i)
              ∧ (t.door d).state = new ∧ (t.door d).stamp = s.seconds
              ∧ (x.cfg.enabled = true → n.enabled = false →
                  (t.door d).session = none ∧ (t.door d).contactT = none ∧ (t.door d).presenceT = none
                    ∧ (t.door d).heldT = none
                    ∧ ∀ y, x.session = some y →
                        (s.dock.log.length < 128 →
                            t.dock.log = s.dock.log ++ [⟨d, .disabled, s.plan.clock, accrued y⟩] ∧ t.dock.lost = s.dock.lost)
                          ∧ (128 ≤ s.dock.log.length →
                              t.dock.log = s.dock.log ∧ t.dock.lost = min 65535 (s.dock.lost + 1) ∧ t.dock.lossReported = true
                                ∧ (s.dock.lossReported = false →
                                    s.reports t ⟨.logFull, s.plan.clock, d, le16 y.number ++ le16 t.dock.lost⟩)))
              ∧ (x.cfg.enabled = false ∨ n.enabled = true ∨ x.session = none →
                  t.dock.log = s.dock.log ∧ t.dock.lost = s.dock.lost)
              ∧ (x.cfg.enabled = false → n.enabled = true →
                  (t.door d).contactT = some debounce ∧ (t.door d).presenceT = some debounce
                    ∧ (t.door d).debOpen = x.rawOpen ∧ (t.door d).debPresent = x.rawPresent)
              ∧ (n.enabled = x.cfg.enabled →
                  (t.door d).contactT = x.contactT ∧ (t.door d).presenceT = x.presenceT ∧ (t.door d).heldT = x.heldT
                    ∧ (t.door d).debOpen = x.debOpen ∧ (t.door d).debPresent = x.debPresent
                    ∧ (t.door d).session = x.session.map accrued)
              ∧ (∀ j, x.cfg.curtain = some j → n.curtain ≠ some j → bound j .curtain → (t.chan j).target = 0)
              ∧ (∀ j, x.cfg.light = some j → n.light ≠ some j → bound j .docklight → (t.chan j).target = 0)
              ∧ (∀ i, n.curtain = some i → (t.door d).sentCurtain = curtain
                  ∧ (bound i .curtain →
                      (t.chan i).target
                        = if x.cfg.curtain = some i ∧ curtain = x.sentCurtain then (s.chan i).target
                          else min curtain (s.chan i).cfg.steps))
              ∧ (∀ i, n.light = some i → (t.door d).sentLight = light
                  ∧ (bound i .docklight →
                      (t.chan i).target
                        = if x.cfg.light = some i ∧ light = x.sentLight then (s.chan i).target
                          else min light (s.chan i).cfg.steps))
              ∧ (n.curtain ≠ x.cfg.curtain →
                  (n.curtain = none → (t.door d).curtainRunning = false)
                    ∧ ∀ i, n.curtain = some i →
                        (bound i .curtain → ((t.door d).curtainRunning = true ↔ 0 < (t.chan i).granted))
                          ∧ (¬bound i .curtain → (s.chan i).cfg.role.isStep = false → (t.door d).curtainRunning = false)
                          ∧ (¬bound i .curtain → (s.chan i).cfg.role.isStep = true →
                              (0 < (s.chan i).granted → (t.door d).curtainRunning = true)
                                ∧ ((s.chan i).granted = 0 → (s.chan i).entry = none → (t.door d).curtainRunning = false)))
              ∧ (n.curtain = x.cfg.curtain →
                  ∀ i, n.curtain = some i → bound i .curtain → (x.curtainRunning = true ↔ 0 < (s.chan i).granted) →
                    ((t.door d).curtainRunning = true ↔ 0 < (t.chan i).granted))
              ∧ (∀ i, ¬(bound i .curtain ∧ (x.cfg.curtain = some i ∨ n.curtain = some i)) →
                  ¬(bound i .docklight ∧ (x.cfg.light = some i ∨ n.light = some i)) → (t.chan i).asked = (s.chan i).asked)
              ∧ ∀ e, e ≠ d → (t.door e).forgetLoss = (s.door e).forgetLoss

/-- READ DOOR reports a door's record and refuses a number above 31, and changes nothing (R103; the one-byte and two-byte forms its rule
does not give are log entry 8's). READ DOOR COUNTERS returns the number of doors in one byte (log entry 8), then the number and the two
counters of each door of its mask, lowest first, and sets both counters of those doors, and no others, to 0 (R102). READ SESSIONS removes
the 6 oldest records of the session log and returns them, oldest first, with the number returned and the number left in one byte each
(log entry 8) and the lost count; a removal clears the loss-reported flag (R116). -/
def Obligations.DoorReadsAnswerInFull : Prop :=
  (∀ (s : State) (tag n : Byte) (rest : List Frame), s.takes ⟨tag, 0x39, [n]⟩ rest →
      (∀ d : Fin 32, n.toNat = d →
        let x := s.door d
        exec (.readDoor tag [n]) s
          = .next (s.answered rest tag 0x39
              ([0x00] ++ leFlag x.cfg.enabled ++ le8 x.cfg.zone ++ le8 x.cfg.kd ++ le16 x.cfg.heldTime ++ le8 x.cfg.debounce
                ++ leOpt8 (x.cfg.curtain.map (·.val)) ++ leOpt8 (x.cfg.light.map (·.val))
                ++ leFlag x.rawOpen ++ leFlag x.rawPresent ++ leFlag x.debOpen ++ leFlag x.debPresent
                ++ leOpt16 x.contactT ++ leOpt16 x.presenceT ++ leOpt16 x.heldT ++ le8 x.state.code ++ le8 x.loop.code
                ++ le8 x.sentLight ++ le8 x.sentCurtain ++ leFlag x.curtainRunning ++ le16 x.rate
                ++ le16 x.cycles ++ le8 x.heldEpisodes
                ++ (match x.session with
                  | some y => le16 y.number
                  | none => [0xFF, 0xFF])
                ++ (match s.dock.check with
                  | some k => 0x01 :: le8 k.remaining
                  | none => [0x00, 0xFF]))))
        ∧ (32 ≤ n.toNat → exec (.readDoor tag [n]) s = .next (s.answered rest tag 0x39 [0x12])))
    ∧ (∀ (s : State) (tag : Byte) (mask : Nat) (rest : List Frame), mask < 4294967296 → s.takes ⟨tag, 0x3D, le32 mask⟩ rest →
         let doors := (indices 32).filter fun d => mask.testBit d.val
         exec (.readDoorCounters tag (le32 mask)) s
           = .next (sendReply tag 0x3D
               (0x00 :: (le8 doors.length
                 ++ doors.flatMap fun (d : Fin 32) => le8 d ++ le16 (s.door d).cycles ++ le8 (s.door d).heldEpisodes))
               ((s.taken rest).setDock
                 { s.dock with
                   doors := Vector.ofFn fun d : Fin 32 =>
                     if mask.testBit d.val then { s.door d with cycles := 0, heldEpisodes := 0 } else s.door d })))
    ∧ (∀ (s : State) (tag : Byte) (rest : List Frame), s.takes ⟨tag, 0x3C, []⟩ rest →
         exec (.readSessions tag []) s
           = .next (sendReply tag 0x3C
               (0x00 :: (le8 (min s.dock.log.length 6) ++ le8 (s.dock.log.length - 6) ++ le16 s.dock.lost
                 ++ (s.dock.log.take 6).flatMap sessionBytes))
               ((s.taken rest).setDock
                 { s.dock with
                   log := s.dock.log.drop 6, lossReported := if s.dock.log = [] then s.dock.lossReported else false })))

/-! ### Zones and points (chapters Zone Heating; Ventilation) -/

/-- After every step every sensor point is sound, and every zone's integral lies within its bound (R117, R128, R135). -/
def Obligations.ClimateStaysSound : Prop :=
  ∀ s t : State, s.climate.Sound → step s = .next t → t.climate.Sound

/-- A sample of a point that is not UNUSED: a reading in the point's range is held, restarts the stale timer and makes the point GOOD; any
other raises its bad count by 1 up to 255; an UNUSED point drops every sample; a point restored from STALE raises POINT_RESTORED. A stale
timer that runs out makes the point STALE and raises POINT_STALE (R117, R118, R135, R136). That a stale timer which is not due does
nothing is the model's reading (log entry 5); a negative exhaust reading is left out (log entry 29). -/
def Obligations.PointSamplesAreTaken : Prop :=
  (∀ (s : State) (x : SensorSample), s.stage = .running →
      (∀ p : Fin 32, (look s.climate.temps p).state = .unused → exec (.tempPointSample p x) s = .next s)
        ∧ ∀ p : Fin 12, (look s.climate.exhausts p).state = .unused → exec (.exhaustPointSample p x) s = .next s)
    ∧ (∀ (s : State) (p : Fin 32) (v : Int), s.stage = .running → (look s.climate.temps p).state ≠ .unused → -500 ≤ v → v ≤ 800 →
      ∃ t, exec (.tempPointSample p (.reading v)) s = .next t
        ∧ t.climate.temps
            = upd s.climate.temps p ⟨.good, some v, (look s.climate.temps p).bad, some 300, some s.seconds⟩
        ∧ ((look s.climate.temps p).state = .stale → s.admits .pointRestored →
            s.raised t ⟨.pointRestored, s.plan.clock, p, leInt16 v⟩)
        ∧ ((look s.climate.temps p).state ≠ .stale → t.line = s.line))
    ∧ (∀ (s : State) (p : Fin 32) (x : SensorSample), s.stage = .running →
        (x = .noAnswer ∨ ∃ v, x = .reading v ∧ (v < -500 ∨ 800 < v)) →
          ∃ t, exec (.tempPointSample p x) s = .next t ∧ t.line = s.line
            ∧ t.climate.temps
                = upd s.climate.temps p
                    (if (look s.climate.temps p).state = .unused then look s.climate.temps p
                     else { look s.climate.temps p with bad := min 255 ((look s.climate.temps p).bad + 1) }))
    ∧ (∀ (s : State) (p : Fin 12) (v : Int), s.stage = .running → (look s.climate.exhausts p).state ≠ .unused → 0 ≤ v →
        v ≤ 2000 →
          ∃ t, exec (.exhaustPointSample p (.reading v)) s = .next t
            ∧ t.climate.exhausts
                = upd s.climate.exhausts p ⟨.good, some v, (look s.climate.exhausts p).bad, some 120, some s.seconds⟩
            ∧ ((look s.climate.exhausts p).state = .stale → s.admits .pointRestored →
                s.raised t ⟨.pointRestored, s.plan.clock, 32 + p, leInt16 v⟩))
    ∧ (∀ (s : State) (p : Fin 12) (x : SensorSample), s.stage = .running →
        (x = .noAnswer ∨ ∃ v, x = .reading v ∧ 2000 < v) →
          ∃ t, exec (.exhaustPointSample p x) s = .next t ∧ t.line = s.line
            ∧ t.climate.exhausts
                = upd s.climate.exhausts p
                    (if (look s.climate.exhausts p).state = .unused then look s.climate.exhausts p
                     else { look s.climate.exhausts p with bad := min 255 ((look s.climate.exhausts p).bad + 1) }))
    ∧ (∀ (s : State) (p : Fin 32), s.stage = .running →
        ((look s.climate.temps p).staleT = some 0 →
          ∃ t, exec (.tempPointStaleExpiry p) s = .next t
            ∧ t.climate.temps = upd s.climate.temps p { look s.climate.temps p with state := .stale, staleT := none }
            ∧ (s.admits .pointStale →
                s.raised t ⟨.pointStale, s.plan.clock, p, staleData (look s.climate.temps p)⟩))
          ∧ ((look s.climate.temps p).staleT ≠ some 0 → exec (.tempPointStaleExpiry p) s = .next s))
    ∧ ∀ (s : State) (p : Fin 12), s.stage = .running →
        ((look s.climate.exhausts p).staleT = some 0 →
          ∃ t, exec (.exhaustPointStaleExpiry p) s = .next t
            ∧ t.climate.exhausts
                = upd s.climate.exhausts p { look s.climate.exhausts p with state := .stale, staleT := none }
            ∧ (s.admits .pointStale →
                s.raised t ⟨.pointStale, s.plan.clock, 32 + p, staleData (look s.climate.exhausts p)⟩))
          ∧ ((look s.climate.exhausts p).staleT ≠ some 0 → exec (.exhaustPointStaleExpiry p) s = .next s)

/-- CONFIG POINT: an outdoor point above 31 is refused with OUT_OF_RANGE; otherwise a point whose use changes becomes STARTING with its
stale timer running, or UNUSED, every other point stays as it stands, and the outdoor point and treated design temperature are stored
(R120, R136). READ POINTS returns the records of one kind and sets their bad counts to 0; an unknown selector is refused (R121, R137). -/
def Obligations.PointRequestsAnswer : Prop :=
  (∀ (s : State) (tag : Byte) (body : Bytes) (rest : List Frame), body.length = 9 → s.takes ⟨tag, 0x42, body⟩ rest →
      32 ≤ u8 body 6 → exec (.configPoint tag body) s = .next (s.answered rest tag 0x42 [0x12]))
    ∧ (∀ (s : State) (tag : Byte) (body : Bytes) (rest : List Frame) (o : Fin 32), body.length = 9 →
        s.takes ⟨tag, 0x42, body⟩ rest → u8 body 6 = o →
          ∃ t, exec (.configPoint tag body) s = .next t ∧ t.climate.outdoorPoint = o
            ∧ t.climate.designTemp = clampInt (-500) 200 (i16 body 7) ∧ t.climate.zones = s.climate.zones
            ∧ (∀ p, look t.climate.temps p
                = (if (u32 body 0).testBit p.val then
                    (if (look s.climate.temps p).state = .unused then ⟨.starting, none, 0, some 300, none⟩
                     else look s.climate.temps p)
                   else if (look s.climate.temps p).state = .unused then look s.climate.temps p
                   else ⟨.unused, none, 0, none, none⟩))
            ∧ ∀ p, look t.climate.exhausts p
                = (if (u16 body 4).testBit p.val then
                    (if (look s.climate.exhausts p).state = .unused then ⟨.starting, none, 0, some 120, none⟩
                     else look s.climate.exhausts p)
                   else if (look s.climate.exhausts p).state = .unused then look s.climate.exhausts p
                   else ⟨.unused, none, 0, none, none⟩))
    ∧ (∀ (s : State) (tag : Byte) (rest : List Frame), s.takes ⟨tag, 0x43, [0x00]⟩ rest →
        exec (.readPoints tag [0x00]) s
          = .next (sendReply tag 0x43
              ([0x00] ++ le8 s.climate.outdoorPoint ++ leInt16 s.climate.designTemp ++ leInt16 s.outdoor.1
                ++ [if s.outdoor.2 then 0x00 else 0x01] ++ s.climate.temps.toList.flatMap (pointBytes s.seconds 0x8000))
              ((s.taken rest).setClimate
                { s.climate with temps := s.climate.temps.map fun p => { p with bad := 0 } })))
    ∧ (∀ (s : State) (tag : Byte) (rest : List Frame), s.takes ⟨tag, 0x43, [0x01]⟩ rest →
        exec (.readPoints tag [0x01]) s
          = .next (sendReply tag 0x43
              ([0x00] ++ s.climate.exhausts.toList.flatMap (pointBytes s.seconds 0xFFFF))
              ((s.taken rest).setClimate
                { s.climate with exhausts := s.climate.exhausts.map fun p => { p with bad := 0 } })))
    ∧ ∀ (s : State) (tag n : Byte) (rest : List Frame), s.takes ⟨tag, 0x43, [n]⟩ rest → 1 < n.toNat →
        exec (.readPoints tag [n]) s = .next (s.answered rest tag 0x43 [0x12])

/-- CONFIG ZONE: an index out of range is refused with OUT_OF_RANGE and one channel named twice with DUPLICATE; otherwise the zone takes the
configuration, each quantity above its range at the top of it (R122), and its integral is brought within the new bound. A changed heater
clears the integral, the call and the heater target, a changed fan the fan target and the lower candidate, and each channel so replaced, while
it is bound to the zone, is sent target 0; no other channel is asked for anything and no other zone changes. The reply carries CLAMPED where
the treatment changed a value, the zone, its mode and the presence of heater and fan (R122, R123, R138). READ ZONE reports the zone
and changes nothing (R134, R144): the configuration, presence, mode, seconds to the next evaluation, the figures of the last evaluation,
the granted steps as they stand, the zone ΔT, and the ventilation fields. The widths R134 does not give are log entry 8's; a figure that
the last evaluation did not work out is free (log entry 15), and the frozen flag is then clear (log entry 44); an Iterm that two bytes do not
carry sends its low 16 bits (log entry 33). The presence flags read the channel table as it stands, and a lead is reported past the
conditions that the model chose (log entry 34); the granted steps of a LIGHT channel are 0 (log entry 41). -/
def Obligations.ZoneRequestsAnswer : Prop :=
  let present : State → Fin 12 → Role → Option (Fin 128) → Bool := fun s z role named =>
    match named with
    | some i => (s.chan i).cfg.role == role && (s.chan i).cfg.roleTarget == some z.val
    | none => false
  let replaced : State → Fin 12 → Role → Option (Fin 128) → Option (Fin 128) → Fin 128 → Prop := fun s z role old new i =>
    old = some i ∧ new ≠ some i ∧ present s z role (some i) = true
  (∀ (s : State) (tag : Byte) (body : Bytes) (rest : List Frame), body.length = 24 → s.takes ⟨tag, 0x40, body⟩ rest →
      (12 ≤ u8 body 0 ∨ zoneSent? body = none) → exec (.configZone tag body) s = .next (s.answered rest tag 0x40 [0x12]))
    ∧ (∀ (s : State) (tag : Byte) (body : Bytes) (rest : List Frame) (n : ZoneConfig), body.length = 24 →
        s.takes ⟨tag, 0x40, body⟩ rest → u8 body 0 < 12 → zoneSent? body = some n → n.heater.isSome → n.heater = n.fan →
          exec (.configZone tag body) s = .next (s.answered rest tag 0x40 [0x14]))
    ∧ (∀ (s : State) (tag : Byte) (body : Bytes) (rest : List Frame) (z : Fin 12) (n : ZoneConfig), body.length = 24 →
        s.takes ⟨tag, 0x40, body⟩ rest → u8 body 0 = z → zoneSent? body = some n →
          ¬(n.heater.isSome ∧ n.heater = n.fan) →
            let imax := min (u16 body 8) 3000
            ∃ t, exec (.configZone tag body) s = .next t
              ∧ (t.zone z).cfg
                = { n with
                    kp := min (u16 body 5) 500, ki := min (u8 body 7) 200, imax := imax, phi := min (u16 body 10) 1000
                    kv := min (u8 body 12) 50, mz := min (u8 body 13) 60, occupiedFallback := min (u16 body 14) 1000
                    setbackFallback := min (u16 body 16) 1000, x1 := min (u16 body 18) 2000, x2 := min (u16 body 20) 2000
                    xp := min (u16 body 22) 2000 }
              ∧ (∀ i : Fin 128, n.heater = some i ↔ u8 body 1 = i) ∧ (∀ i : Fin 128, n.fan = some i ↔ u8 body 2 = i)
              ∧ n.tempPoint.val = u8 body 3 ∧ (∀ p : Fin 12, n.exhaustPoint = some p ↔ u8 body 4 = p)
              ∧ ((s.zone z).cfg.heater = n.heater →
                  (t.zone z).integral = max (-(imax : Int)) (min imax (s.zone z).integral)
                    ∧ (t.zone z).call = (s.zone z).call ∧ (t.zone z).heaterTarget = (s.zone z).heaterTarget)
              ∧ ((s.zone z).cfg.heater ≠ n.heater →
                  (t.zone z).integral = 0 ∧ (t.zone z).call = 0 ∧ (t.zone z).heaterTarget = 0)
              ∧ ((s.zone z).cfg.fan = n.fan →
                  (t.zone z).fanTarget = (s.zone z).fanTarget ∧ (t.zone z).lowerCandidate = (s.zone z).lowerCandidate)
              ∧ ((s.zone z).cfg.fan ≠ n.fan → (t.zone z).fanTarget = 0 ∧ (t.zone z).lowerCandidate = none)
              ∧ (∀ i, replaced s z .heater (s.zone z).cfg.heater n.heater i ∨ replaced s z .fan (s.zone z).cfg.fan n.fan i →
                  (t.chan i).target = 0)
              ∧ (∀ i, ¬replaced s z .heater (s.zone z).cfg.heater n.heater i → ¬replaced s z .fan (s.zone z).cfg.fan n.fan i →
                  (t.chan i).asked = (s.chan i).asked)
              ∧ (t.zone z).evalT = (s.zone z).evalT ∧ (t.zone z).mode = (s.zone z).mode ∧ (t.zone z).vent = (s.zone z).vent
              ∧ (t.zone z).figures = (s.zone z).figures ∧ (t.zone z).deltaT = (s.zone z).deltaT
              ∧ (t.zone z).purgeStart = (s.zone z).purgeStart
              ∧ s.replied t tag 0x40
                  ([if (t.zone z).cfg = n then 0x00 else 0x01] ++ le8 z ++ le8 (s.zone z).mode.code
                    ++ leFlag (present s z .heater n.heater) ++ leFlag (present s z .fan n.fan))
              ∧ ∀ y, y ≠ z → t.zone y = s.zone y)
    ∧ (∀ (s : State) (tag n : Byte) (rest : List Frame) (z : Fin 12), n.toNat = z → s.takes ⟨tag, 0x41, [n]⟩ rest →
        let x := s.zone z
        let f := x.figures
        let open2 : Nat → Bytes := fun field =>
          [(Config.openFigure field z s.drawn).1, (Config.openFigure field z s.drawn).2]
        let figure : Nat → Option Int → Bytes := fun field v =>
          match v with
          | some m => leInt16 m
          | none => open2 field
        let bound := present s z
        let held : Nat → Option (Fin 128) → Bytes := fun field named =>
          match named with
          | some i => le8 (if (s.chan i).cfg.role.isStep then (s.chan i).granted else 0)
          | none => [(Config.openFigure field z s.drawn).1]
        exec (.readZone tag [n]) s
          = .next (s.answered rest tag 0x41
              (([0x00] : Bytes) ++ leOpt8 (x.cfg.heater.map (·.val)) ++ leOpt8 (x.cfg.fan.map (·.val)) ++ le8 x.cfg.tempPoint
                ++ leOpt8 (x.cfg.exhaustPoint.map (·.val)) ++ le16 x.cfg.kp ++ le8 x.cfg.ki ++ le16 x.cfg.imax
                ++ le16 x.cfg.phi ++ le8 x.cfg.kv ++ le8 x.cfg.mz ++ le16 x.cfg.occupiedFallback
                ++ le16 x.cfg.setbackFallback ++ le16 x.cfg.x1 ++ le16 x.cfg.x2 ++ le16 x.cfg.xp
                ++ leFlag (bound .heater x.cfg.heater) ++ leFlag (bound .fan x.cfg.fan) ++ le8 x.mode.code ++ le8 x.evalT
                ++ leInt16 f.setpoint ++ le8 f.source.code ++ leOpt16 f.lead ++ figure 0 f.temperature ++ leInt16 f.outdoor
                ++ figure 1 (f.terms.map (·.error)) ++ figure 2 (f.terms.map (·.proportional)) ++ leInt16 f.integral
                ++ figure 3 (f.terms.map (·.integralTerm)) ++ figure 4 (f.terms.map fun m => (m.feedforward : Int))
                ++ (match f.terms with
                  | some m => le32 m.loss
                  | none => open2 5 ++ open2 6)
                ++ (match f.evaluated, f.terms.bind (·.frozen) with
                  | false, _ => [0x00, 0x00]
                  | true, some c => 0x01 :: le8 c.code
                  | true, none => [0x00, Config.noFreezeByte])
                ++ leFlag f.fallbackCall ++ le16 f.call ++ le8 f.target ++ held 7 x.cfg.heater ++ le16 x.deltaT
                ++ le8 x.vent.code ++ leFlag (bound .fan x.cfg.fan)
                ++ le8 (match x.cfg.fan with
                  | some i => if bound .fan (some i) then (s.chan i).cfg.steps else 0
                  | none => 0)
                ++ leOpt16 (f.exhaust.map Int.toNat) ++ le8 f.ventMin ++ le8 f.computed ++ le8 x.fanTarget
                ++ leOpt8 x.lowerCandidate ++ held 8 x.cfg.fan
                ++ le16 (if x.vent = .purge then min 65535 (s.seconds - x.purgeStart) else 0xFFFF))))
    ∧ ∀ (s : State) (tag n : Byte) (rest : List Frame), 12 ≤ n.toNat → s.takes ⟨tag, 0x41, [n]⟩ rest →
        exec (.readZone tag [n]) s = .next (s.answered rest tag 0x41 [0x12])

/-- A zone evaluation that is due works out, on the readings as they stand: the outdoor temperature and the zone ΔT (R119, R131); the lead
and whether the zone preconditions; the mode of the first line of R126 that applies; the setpoint, the override before next's set before
current's, and the cap of that set (R127). With a GOOD point and a heater present in RUNNING it works out the error, held to ±300, and the
integral, which is frozen where a row of R128 applies, of several the first reported (log entry 43), and bounded otherwise; the two terms,
truncated toward zero; the loss of the doors and of the running fan, the feedforward, and the call, held to 0 to 1000 (R128, R129).
Without a GOOD point the call is the fallback call of the mode, and without a heater, or stopped, it is 0. The target is staged with 400 ‰
of hysteresis within N and the cap (R130). Then come the ventilation state of R139 with PURGE_START and PURGE_END, the computed target of
R140, and the fan target and lower candidate of R141. A changed heater or fan target is sent to the channel while it is present, a fan's
with the urgent mark in PURGE, and no other channel is asked for anything else (R130, R142). The figures are kept, the lead as log entry
34 chooses; the ΔT goes to the Dock Supervisor, the timer restarts from 60 s, and no other zone changes (R125, R131). That an evaluation
which is not due does nothing is the model's reading (log entry 5). -/
def Obligations.ZoneEvaluationIsTakenWhole : Prop :=
  (∀ (s : State) (z : Fin 12), s.stage = .running → (s.zone z).evalT = 0 →
      let x := s.zone z
      let running := s.stop.state = .running
      let kind := s.plan.current.fields.kind
      let fan := x.cfg.fan.filter fun i => (s.chan i).cfg.role == .fan && (s.chan i).cfg.roleTarget == some z.val
      let heater := x.cfg.heater.filter fun i => (s.chan i).cfg.role == .heater && (s.chan i).cfg.roleTarget == some z.val
      let inside := look s.climate.temps x.cfg.tempPoint
      let temperature := if inside.state = .good then inside.value else none
      let yard := look s.climate.temps s.climate.outdoorPoint
      let outdoor := (if yard.state = .good then yard.value else none).getD s.climate.designTemp
      let deltaT := match inside.value with
        | some v => (max 0 (min 1300 (v - outdoor))).toNat
        | none => 0
      let active := look (look s.plan.climateSets s.plan.current.fields.climateSet) z
      let override := (s.plan.overrides.find? (fun o => o.target = .climate z)).map (·.value)
      let toward : Option (Nat × ClimateEntry × Nat) :=
        match s.plan.next.bind (fun m => s.plan.phases.find? (·.start = m)), temperature with
        | some r, some v =>
          let e := look (look s.plan.climateSets r.fields.climateSet) z
          if override = none ∧ heater.isSome ∧ running ∧ r.fields.precondition = true ∧ active.setpoint < e.setpoint then
            some (r.start, e, (max 0 (min 240 (((e.setpoint - v) * x.cfg.mz).tdiv 10))).toNat)
          else none
        | _, _ => none
      let warm : Option ClimateEntry :=
        match toward, s.plan.clock with
        | some (start, e, lead), some now =>
          let left := (start * 60 + 604800 - now) % 604800
          if (if left = 0 then 604800 else left) ≤ lead * 60 then some e else none
        | _, _ => none
      let mode : ZoneMode :=
        if ¬running then .stopped
        else if heater = none then .off
        else if warm.isSome then .precondition
        else if kind = .setback then .setback
        else .occupied
      let setpoint := override.getD (warm.getD active).setpoint
      let cap := if override.isSome then active.cap else (warm.getD active).cap
      let steps := match heater with
        | some i => (s.chan i).cfg.steps
        | none => 0
      let terms : Option HeatTerms :=
        match heater, temperature with
        | some i, some v =>
          let h := s.chan i
          let e := max (-300) (min 300 (setpoint - v))
          let frozen : Option FreezeCondition :=
            if h.tripped = true then some .tripped
            else if h.granted < h.target ∧ 0 < e then some .heldBack
            else if x.call = 1000 ∧ 0 < e then some .atTop
            else if x.call = 0 ∧ e < 0 then some .atBottom
            else none
          let integral := if frozen.isSome then x.integral else max (-(x.cfg.imax : Int)) (min x.cfg.imax (x.integral + e))
          let fanSteps := match fan with
            | some j => (s.chan j).granted
            | none => 0
          let doors := ((indices 32).map fun d => if (s.door d).cfg.zone = z then (s.door d).rate else 0).sum
          let loss := doors + x.cfg.kv * fanSteps * deltaT / 10
          if running then
            some ⟨e, (x.cfg.kp * e).tdiv 10, (x.cfg.ki * integral).tdiv 10, loss,
              min 1000 (loss * x.cfg.phi / (h.cfg.steps * h.cfg.rating)), frozen⟩
          else none
        | _, _ => none
      let integral := match terms with
        | some m =>
          if m.frozen.isSome then x.integral else max (-(x.cfg.imax : Int)) (min x.cfg.imax (x.integral + m.error))
        | none => x.integral
      let fallback := running ∧ heater ≠ none ∧ temperature = none
      let call := match terms with
        | some m => (max 0 (min 1000 (m.proportional + m.integralTerm + m.feedforward))).toNat
        | none =>
          if fallback then (if mode = .setback then x.cfg.setbackFallback else x.cfg.occupiedFallback) else 0
      let up := (call * steps + 400) / 1000
      let down := (call * steps + 600) / 1000
      let staged := if x.heaterTarget < up then up else if down < x.heaterTarget then down else x.heaterTarget
      let target := if running ∧ heater ≠ none then min staged (min steps cap) else 0
      let point := x.cfg.exhaustPoint.map (look s.climate.exhausts ·)
      let reading := point.bind fun p => if p.state = .good then p.value else none
      let vent : VentState :=
        if ¬running then .stopped
        else if point.map (·.state) = some .stale then .blind
        else
          match reading with
          | none => .normal
          | some v => if (x.vent = .purge ∧ (x.cfg.xp : Int) - 100 ≤ v) ∨ x.cfg.xp ≤ v then .purge else .normal
      let n := match fan with
        | some i => (s.chan i).cfg.steps
        | none => 0
      let least := if kind = .setback then 0 else min active.ventMin n
      let computed := match vent with
        | .stopped => 0
        | .purge => n
        | .blind => if kind = .setback then least else n
        | .normal =>
          match reading with
          | none => least
          | some v =>
            if v.toNat ≤ x.cfg.x1 then least
            else if x.cfg.x2 ≤ v.toNat then n
            else least + ((v.toNat - x.cfg.x1) * (n - least) + (x.cfg.x2 - x.cfg.x1) - 1) / (x.cfg.x2 - x.cfg.x1)
      let falls := vent = .normal ∧ computed < x.fanTarget
      let fanTarget := if falls then (x.lowerCandidate.map (max computed ·)).getD x.fanTarget else computed
      ∃ t, exec (.zoneEvaluation z) s = .next t ∧ (t.zone z).evalT = 60 ∧ (t.zone z).cfg = x.cfg
        ∧ (t.zone z).mode = mode
        ∧ (t.zone z).integral = integral ∧ (t.zone z).call = call ∧ (t.zone z).heaterTarget = target
        ∧ (t.zone z).figures
          = { evaluated := true, setpoint := setpoint
              source := if override.isSome then .override else if warm.isSome then .next else .current
              lead := toward.map (·.2.2), temperature := inside.value, outdoor := outdoor, terms := terms
              integral := integral, fallbackCall := fallback, call := call, target := target
              exhaust := reading, ventMin := least, computed := computed }
        ∧ (t.zone z).vent = vent ∧ (t.zone z).fanTarget = fanTarget
        ∧ (t.zone z).lowerCandidate = (if falls ∧ x.lowerCandidate = none then some computed else none)
        ∧ (∀ i, heater = some i →
            (t.chan i).target = if target = x.heaterTarget then (s.chan i).target else min target (s.chan i).cfg.steps)
        ∧ (∀ i, fan = some i →
            ((t.chan i).target = if fanTarget = x.fanTarget then (s.chan i).target else min fanTarget n)
              ∧ (vent = .purge → fanTarget ≠ x.fanTarget → (s.chan i).target < min fanTarget n →
                  ∀ e, (t.chan i).entry = some e → e.urgent = true))
        ∧ (∀ i, heater ≠ some i → fan ≠ some i → (t.chan i).asked = (s.chan i).asked)
        ∧ (vent = .purge → x.vent ≠ .purge →
            (t.zone z).purgeStart = s.seconds
              ∧ s.reports t ⟨.purgeStart, s.plan.clock, z,
                  leOpt8 (x.cfg.exhaustPoint.map (·.val)) ++ leInt16 (reading.getD 0) ++ le16 x.cfg.xp⟩)
        ∧ (x.vent = .purge → vent ≠ .purge →
            s.reports t ⟨.purgeEnd, s.plan.clock, z,
              le8 vent.code
                ++ (match reading with
                  | some v => le16 v.toNat
                  | none => [0xFF, 0xFF])
                ++ le16 (min 65535 (s.seconds - x.purgeStart))⟩)
        ∧ (t.zone z).deltaT = deltaT ∧ t.dock.zoneDT = upd s.dock.zoneDT z deltaT
        ∧ ∀ y, y ≠ z → t.zone y = s.zone y)
    ∧ ∀ (s : State) (z : Fin 12), s.stage = .running → (s.zone z).evalT ≠ 0 → exec (.zoneEvaluation z) s = .next s

/-! ### Lighting (chapter Lighting) -/

/-- After every step every lighting zone's target is at or above its protected minimum (R147), only a zone with presence enabled is VACANT
or times its presence (R146, R148), and no walk runs but in RUNNING (R152, R154). -/
def Obligations.LightsStaySound : Prop :=
  ∀ s t : State, s.LightsSound → step s = .next t → t.LightsSound

/-- CONFIG LIGHT ZONE: an index out of range is refused with OUT_OF_RANGE and any while a walk runs with BUSY; otherwise the zone takes the
configuration, with both hold times within 30 to 3600 s and both levels at most 1000 ‰ (R145). A channel bound to the zone that it no longer
names is sent target 0 and protected minimum 0; one that it names now is sent the protected minimum, holds its protected part where that
changed it, and takes the derived target where it differs from the last sent, which is 0 for a changed channel; the protected total is worked
out afresh whenever such a channel is sent a protected minimum, the same one or another, and stands otherwise, and where it or a protected
minimum changes the shareable allowance, the reserves and the pool follow; no other channel is asked for anything. A change of presence enabled makes the zone OCCUPIED and
starts or cancels its timer. The reply carries CLAMPED where the treatment changed a value, the zone, the presence of its channel and the
target; no other zone changes (R40, R47, R61, R146, R147). READ LIGHT ZONE reports the zone and changes nothing (R155): the configuration,
presence of the channel, vacancy and timer, target and source, last sent target, the channel's driven level and granted hW with the dimmed
flag, the walk result, and the walk's zone under visit and seconds left. The widths R146 and R155 do not give are log entry 8's, the clear
dimmed flag of a zone whose channel is not present is log entry 42's, and that the figures follow a changed protected minimum even where the
protected total comes out the same log entry 20's. -/
def Obligations.LightZoneRequestsAnswer : Prop :=
  (∀ (s : State) (tag : Byte) (body : Bytes) (rest : List Frame), body.length = 11 → s.takes ⟨tag, 0x48, body⟩ rest →
      (24 ≤ u8 body 0 ∨ lightSent? body = none) → exec (.configLightZone tag body) s = .next (s.answered rest tag 0x48 [0x12]))
    ∧ (∀ (s : State) (tag : Byte) (body : Bytes) (rest : List Frame), body.length = 11 → s.takes ⟨tag, 0x48, body⟩ rest →
        u8 body 0 < 24 → (lightSent? body).isSome → s.lighting.walk.isSome →
          exec (.configLightZone tag body) s = .next (s.answered rest tag 0x48 [0x16]))
    ∧ (∀ (s : State) (tag : Byte) (body : Bytes) (rest : List Frame) (z : Fin 24) (n : LightConfig), body.length = 11 →
        s.takes ⟨tag, 0x48, body⟩ rest → u8 body 0 = z → lightSent? body = some n → s.lighting.walk = none →
          let protMin := min (u16 body 9) 1000
          let bound : Fin 128 → Prop := fun i => (s.chan i).cfg.role = .light ∧ (s.chan i).cfg.roleTarget = some z.val
          let replaced : Fin 128 → Prop := fun i => (s.light z).cfg.channel = some i ∧ n.channel ≠ some i ∧ bound i
          let new : Fin 128 → Prop := fun i => n.channel = some i ∧ bound i
          let before := if n.channel = (s.light z).cfg.channel then (s.light z).lastSent else 0
          ∃ t, exec (.configLightZone tag body) s = .next t
            ∧ (t.light z).cfg
              = { n with
                  hold := max 30 (min 3600 (u16 body 3)), breakHold := max 30 (min 3600 (u16 body 5))
                  setback := min (u16 body 7) 1000, protMin := protMin }
            ∧ (∀ i : Fin 128, n.channel = some i ↔ u8 body 1 = i) ∧ (n.presence = true ↔ u8 body 2 ≠ 0)
            ∧ (t.light z).target = max (t.tableLine z).1 (t.light z).cfg.protMin ∧ (t.light z).source = (t.tableLine z).2
            ∧ (∀ i, replaced i → (t.chan i).target = 0 ∧ (t.chan i).cfg = { (s.chan i).cfg with protMin := 0 })
            ∧ (∀ i, new i →
                (t.chan i).cfg = { (s.chan i).cfg with protMin := protMin }
                  ∧ (t.chan i).target
                    = (if (t.light z).target = before then (s.chan i).target else (t.light z).target)
                  ∧ (t.light z).lastSent = (t.light z).target
                  ∧ ((s.chan i).cfg.protMin ≠ protMin →
                      units (s.chan i).cfg.rating (if s.stop.state = .running then protMin else 1000) ≤ (t.chan i).granted))
            ∧ ((∀ i, ¬new i) → (t.light z).lastSent = before)
            ∧ (∀ i, replaced i ∨ new i → t.budget.pProt = t.protectedTotal)
            ∧ ((∀ i, ¬replaced i ∧ ¬new i) → t.budget.pProt = s.budget.pProt)
            ∧ ((∃ i, (t.chan i).cfg.protMin ≠ (s.chan i).cfg.protMin) ∨ t.budget.pProt ≠ s.budget.pProt → s.reprotects t)
            ∧ ((∀ i, (t.chan i).cfg.protMin = (s.chan i).cfg.protMin) → t.budget.pProt = s.budget.pProt →
                t.budget.shareable = s.budget.shareable ∧ t.budget.reserve = s.budget.reserve ∧ t.budget.pool = s.budget.pool)
            ∧ (∀ i, ¬replaced i → ¬new i → (t.chan i).asked = (s.chan i).asked)
            ∧ s.replied t tag 0x48
                ([if (t.light z).cfg = n then 0x00 else 0x01] ++ le8 z ++ leFlag (t.lightBinding z).isSome
                  ++ le16 (t.light z).target)
            ∧ (n.presence ≠ (s.light z).cfg.presence → (t.light z).vacant = false
                ∧ (t.light z).presenceT
                  = (if n.presence = true ∧ s.plan.current.fields.kind ≠ .changeover then
                      some (if s.plan.current.fields.kind = .break_ then (t.light z).cfg.breakHold else (t.light z).cfg.hold)
                     else none))
            ∧ (n.presence = (s.light z).cfg.presence →
                (t.light z).vacant = (s.light z).vacant ∧ (t.light z).presenceT = (s.light z).presenceT)
            ∧ (t.light z).walkResult = (s.light z).walkResult
            ∧ ∀ y, y ≠ z → t.light y = s.light y)
    ∧ (∀ (s : State) (tag n : Byte) (rest : List Frame) (z : Fin 24), n.toNat = z → s.takes ⟨tag, 0x49, [n]⟩ rest →
        let x := s.light z
        let present := x.cfg.channel.filter fun i =>
          (s.chan i).cfg.role == .light && (s.chan i).cfg.roleTarget == some z.val
        exec (.readLightZone tag [n]) s
          = .next (s.answered rest tag 0x49
              ([0x00] ++ leOpt8 (x.cfg.channel.map (·.val)) ++ leFlag x.cfg.presence ++ le16 x.cfg.hold ++ le16 x.cfg.breakHold
                ++ le16 x.cfg.setback ++ le16 x.cfg.protMin
                ++ leFlag present.isSome ++ leFlag x.vacant ++ leOpt16 x.presenceT ++ le16 x.target ++ le8 x.source.code
                ++ le16 x.lastSent
                ++ (match present with
                  | some i =>
                    let c := s.chan i
                    let need := units c.cfg.rating c.target
                    le16 (if need ≤ c.granted then c.target else c.granted * 1000 / c.cfg.rating) ++ le16 c.granted
                      ++ leFlag (c.granted < need)
                  | none => [0x00, 0x00, 0x00, 0x00, 0x00])
                ++ leOpt16 x.walkResult
                ++ (match s.lighting.walk with
                  | some w => 0x01 :: (le8 w.visiting ++ le8 w.remaining)
                  | none => [0x00, 0xFF, 0xFF]))))
    ∧ ∀ (s : State) (tag n : Byte) (rest : List Frame), 24 ≤ n.toNat → s.takes ⟨tag, 0x49, [n]⟩ rest →
        exec (.readLightZone tag [n]) s = .next (s.answered rest tag 0x49 [0x12])

/-- Presence. A pulse in a zone with presence enabled, outside CHANGEOVER, restarts the presence timer from the hold time, or the break hold
time in a BREAK, and makes the zone OCCUPIED; any other pulse changes nothing. A timer that runs out makes the zone VACANT and its target
is derived (R148); that one which is not due does nothing is the model's reading (log entry 5). A turn event, of a timed turn, a jump, an
entry, an emptied list or a fallback refresh, acts on each zone with presence enabled by the kind of current before it and after it: into
CHANGEOVER the timer is cancelled and the zone becomes OCCUPIED; out of it the zone is OCCUPIED and the timer starts from the full hold time
for the new kind; otherwise timer and vacancy are kept. Then every zone's target is derived, and a present channel takes it where it differs
from the last sent (R149). A derived target is 1000 ‰ unless the plant is RUNNING, else the walk's, the override's, the lesser of scene and
setback where the zone is VACANT, or the scene's, and never below the protected minimum (R147). -/
def Obligations.PresenceGovernsVacancy : Prop :=
  let turned : State → State → Prop := fun s t =>
    let before := s.lighting.lastKind
    let kind := t.plan.current.fields.kind
    t.lighting.lastKind = kind ∧ ∀ z,
      let x := s.light z
      let y := t.light z
      (x.cfg.presence = true → before ≠ .changeover → kind = .changeover → y.presenceT = none ∧ y.vacant = false)
        ∧ (x.cfg.presence = true → before = .changeover → kind ≠ .changeover →
            y.presenceT = some (if kind = .break_ then x.cfg.breakHold else x.cfg.hold) ∧ y.vacant = false)
        ∧ (x.cfg.presence = false ∨ (before = .changeover ↔ kind = .changeover) →
            y.presenceT = x.presenceT ∧ y.vacant = x.vacant)
        ∧ y.cfg = x.cfg ∧ y.walkResult = x.walkResult ∧ s.derives t z
  ((∀ (s : State) (z : Fin 24), s.stage = .running → (s.light z).cfg.presence = true →
       s.plan.current.fields.kind ≠ .changeover →
         ∃ t, exec (.presencePulse z) s = .next t ∧ (t.light z).vacant = false
           ∧ (t.light z).presenceT
               = some (if s.plan.current.fields.kind = .break_ then (s.light z).cfg.breakHold else (s.light z).cfg.hold)
           ∧ ((s.light z).vacant = true → s.derives t z) ∧ ((s.light z).vacant = false → t.budget = s.budget)
           ∧ ∀ y, y ≠ z → t.light y = s.light y)
     ∧ (∀ (s : State) (z : Fin 24), s.stage = .running →
         (s.light z).cfg.presence = false ∨ s.plan.current.fields.kind = .changeover →
           exec (.presencePulse z) s = .next s)
     ∧ (∀ (s : State) (z : Fin 24), s.stage = .running → (s.light z).presenceT = some 0 →
         ∃ t, exec (.presenceTimerExpiry z) s = .next t ∧ (t.light z).vacant = true ∧ (t.light z).presenceT = none
           ∧ s.derives t z ∧ ∀ y, y ≠ z → t.light y = s.light y)
     ∧ ∀ (s : State) (z : Fin 24), s.stage = .running → (s.light z).presenceT ≠ some 0 →
         exec (.presenceTimerExpiry z) s = .next s)
    ∧ (∀ (s : State) (r : PhaseRec), s.stage = .running → s.plan.timedTurnDue = true → s.nextRecord = some r →
        ∃ t, exec .timedTurn s = .next t ∧ turned s t)
    ∧ (∀ (s : State) (tag : Byte) (v : Nat) (rest : List Frame) (r : PhaseRec), v < 604800 → s.takes ⟨tag, 0x03, le32 v⟩ rest →
        governing s.plan.phases v = some r → s.plan.clock = none ∨ s.plan.current.source ≠ some r.start →
          ∃ t, exec (.setClock tag (le32 v)) s = .next t ∧ turned s t)
    ∧ (∀ (s : State) (tag : Byte) (body : Bytes) (rest : List Frame) (f : PhaseFields), body.length = 8 →
        listFields? body = some f → u16 body 0 < 10080 → s.plan.phases = [] → s.plan.clock.isSome = true →
          s.takes ⟨tag, 0x10, body⟩ rest → ∃ t, exec (.addPhase tag body) s = .next t ∧ turned s t)
    ∧ (∀ (s : State) (tag : Byte) (body : Bytes) (rest : List Frame), body.length = 2 → u16 body 0 < 10080 →
        s.plan.phases ≠ [] → (∀ r ∈ s.plan.phases, r.start = u16 body 0) → s.plan.clock.isSome = true →
          s.takes ⟨tag, 0x11, body⟩ rest → ∃ t, exec (.dropPhase tag body) s = .next t ∧ turned s t)
    ∧ ∀ (s : State) (tag : Byte) (body : Bytes) (rest : List Frame) (f : PhaseFields), body.length = 8 →
        phaseFields? body = some f → u16 body 0 = 65535 → s.plan.current.source = none → s.takes ⟨tag, 0x12, body⟩ rest →
          ∃ t, exec (.editPhase tag body) s = .next t ∧ turned s t

/-- The commissioning walk. WALK START is refused with STOP_ACTIVE unless the plant is RUNNING and with BUSY while a walk runs; otherwise
the walk list is every lighting zone whose channel is present and no other, the lowest channel number first, every walk result is absent,
and the first visit, to the first zone of the list, begins with the dwell held within 5 to 60 s, or the walk ends at once over an empty
list; the reply carries the dwell, CLAMPED where it was changed, and the number of zones in the list (R152). During a visit the visited
zone's target is 1000 ‰ and every other zone's its protected minimum (R153). The end of a dwell records the visited channel's driven level
and begins the next visit, or ends the walk after the last, COMPLETE. WALK STOP ends the walk, STOPPED, records nothing, and is refused with
NOT_RUNNING when none runs. At the end WALK_DONE carries the ending, the results recorded and those below 1000 ‰, and every zone's target
follows its override, its vacancy or the scene; each target derived is sent where it differs from the last sent (R147, R153, R154). No
zone's configuration, vacancy or presence timer changes. That a dwell which is not due does nothing is the model's reading (log entry 5);
that the visits WALK STOP reports are those begun, the present one with them, is log entry 28's, and the one byte of these, of the dwell and
of the number of zones log entry 8's. -/
def Obligations.WalkVisitsItsList : Prop :=
  let keepsPresence : State → State → Fin 24 → Prop := fun s t z =>
    (t.light z).cfg = (s.light z).cfg ∧ (t.light z).vacant = (s.light z).vacant
      ∧ (t.light z).presenceT = (s.light z).presenceT
  let visits : State → State → LightWalk → Prop := fun s t w =>
    t.lighting.walk = some w
      ∧ ∀ z, s.derives t z ∧ keepsPresence s t z ∧ (t.light z).source = .walk
          ∧ (t.light z).target
              = if z = w.visiting then max 1000 (t.light z).cfg.protMin else (t.light z).cfg.protMin
  let ended : State → State → Byte → Prop := fun s t ending =>
    t.lighting.walk = none
      ∧ (∀ z, (t.light z).target
          = (let scene := look (look s.plan.scenes s.plan.current.fields.scene) z
             let level := match s.plan.overrides.find? (fun o => o.target = .light z) with
               | some o => o.value.toNat
               | none => if (s.light z).vacant then min scene (s.light z).cfg.setback else scene
             max level (s.light z).cfg.protMin))
      ∧ (∀ z, s.derives t z ∧ keepsPresence s t z)
      ∧ s.reports t ⟨.walkDone, s.plan.clock, 0,
          ending :: (le8 ((indices 24).filter fun z => (t.light z).walkResult.isSome).length
            ++ le8 ((indices 24).filter fun z => (t.light z).walkResult.any (· < 1000)).length)⟩
  (∀ (s : State) (tag dwell : Byte) (rest : List Frame), s.takes ⟨tag, 0x4A, [dwell]⟩ rest →
      (s.stop.state ≠ .running → exec (.walkStart tag [dwell]) s = .next (s.answered rest tag 0x4A [0x1C]))
        ∧ (s.stop.state = .running → s.lighting.walk.isSome →
            exec (.walkStart tag [dwell]) s = .next (s.answered rest tag 0x4A [0x16]))
        ∧ (s.stop.state = .running → s.lighting.walk = none →
            let held := max 5 (min 60 dwell.toNat)
            ∃ t list, exec (.walkStart tag [dwell]) s = .next t ∧ s.ListsWalk list
              ∧ s.replied t tag 0x4A ([if held = dwell.toNat then 0x00 else 0x01] ++ le8 held ++ le8 list.length)
              ∧ (∀ z, (t.light z).walkResult = none)
              ∧ (match list with
                  | [] => ended s t 0x00
                  | z :: more => visits s t ⟨held, held, z, more, 1⟩)))
    ∧ (∀ (s : State) (w : LightWalk), s.stage = .running → s.stop.state = .running → s.lighting.walk = some w →
        w.remaining = 0 →
          ∃ t, exec .dwellExpiry s = .next t
            ∧ (t.light w.visiting).walkResult
              = some (match (s.light w.visiting).cfg.channel with
                  | some i => (s.chan i).drivenLevel
                  | none => 0)
            ∧ (∀ y, y ≠ w.visiting → (t.light y).walkResult = (s.light y).walkResult)
            ∧ (match w.toVisit with
                | [] => ended s t 0x00
                | z :: more => visits s t ⟨w.dwell, w.dwell, z, more, w.begun + 1⟩))
    ∧ (∀ (s : State) (tag : Byte) (rest : List Frame), s.takes ⟨tag, 0x4B, []⟩ rest →
        (s.lighting.walk = none → exec (.walkStop tag []) s = .next (s.answered rest tag 0x4B [0x1B]))
          ∧ (∀ w, s.stop.state = .running → s.lighting.walk = some w →
              ∃ t, exec (.walkStop tag []) s = .next t ∧ s.replied t tag 0x4B (0x00 :: le8 w.begun) ∧ ended s t 0x01
                ∧ ∀ z, (t.light z).walkResult = (s.light z).walkResult))
    ∧ ∀ s : State, s.stage = .running → (∀ w, s.lighting.walk = some w → w.remaining ≠ 0) → exec .dwellExpiry s = .next s

/-! ### Plant stop, start-up and the setting store (chapter of that name) -/

/-- The release of power-on reset discards the whole state and starts the load. What it leaves depends on nothing but the image in the
external store, with the save that the power loss cut short, the inputs, the frames already sent, the waiting commands and the model's
free-value counter; every unit stands as at its start, with the factory configuration for the time of the load (log entry 1), the line hunts
with empty buffers, counters and notice queue, no save runs and none has ended (R158, R160, R162, R163, R168). A whole stored image stands,
and one whose writing the power loss cut short fails its check (R158; which image that leaves is log entry 25's). That the inputs stand as
last sampled is the model's choice (log entry 9). The end of the load installs the image whose CRC-16 over the whole image verifies, and the
factory defaults otherwise with STORE_INVALID. What it leaves depends on nothing but these and the line: every unit starts with the
configuration installed, the clock unset, the fallback phase current, no pending edit, no override, no session, an empty log, every counter
but the shed episodes 0, and a first window whose ceiling is min(F, L); the figures follow from it, every lighting target is derived and
sent, and nothing is shed but where a zone's protected minimum differs from its channel's (R10, R29, R32, R43, R59 to R62, R65, R89, R108,
R109, R112, R115, R117, R124, R125, R135, R138, R145, R156; a stop stamp of 0 in RUNNING is log entry 1's). CLOCK_NEEDED is raised where the
loaded level lets it pass, then PLANT_STOP with RUNNING as the state left when the fire-panel input is asserted, then CHANNEL_TRIPPED for
each channel that starts TRIPPED (R43, R158, R167); the layout of the image is the model's (log entry 36), and so is that a load end outside
the load does nothing (log entry 35). -/
def Obligations.PowerOnLoadsTheStore : Prop :=
  let loaded : State → State → Snapshot → StoreSource → Prop := fun s t c source =>
    t.stage = .running ∧ s.startsFrom t c ∧ t.store = { s.store with source := source }
      ∧ t.line.forgetNotices = ({ s.line with level := c.level } : Line).forgetNotices
      ∧ t.stop.state = (if s.stop.fire then .stopped else .running)
      ∧ (60 ≤ c.limits.window → t.budget.ct = min c.limits.feed c.limits.contract)
      ∧ t.budget.managed = t.budget.ct - c.limits.margin ∧ t.reprotects t
      ∧ (∀ z, (t.light z).target = max (t.tableLine z).1 (t.light z).cfg.protMin ∧ (t.light z).source = (t.tableLine z).2
          ∧ (t.light z).lastSent = if (t.lightBinding z).isSome then (t.light z).target else 0)
      ∧ (∀ i z, t.lightBinding z = some i →
          (t.chan i).target = (t.light z).target ∧ (t.chan i).cfg.protMin = (look c.lights z).protMin)
      ∧ (∀ i, (look c.channels i).role = .light → (∀ z, t.lightBinding z ≠ some i) →
          (t.chan i).cfg = look c.channels i ∧ (t.chan i).target = 0
            ∧ (t.chan i).granted = (t.chan i).protPart t.stop.state ∧ (t.chan i).serial = 0)
      ∧ ((∀ z, t.lightBinding z = none) → t.budget.lastSerial = 0)
      ∧ ((∀ i z, t.lightBinding z = some i → (look c.channels i).protMin = (look c.lights z).protMin) →
          t.plan.totals.shed = 0 ∧ t.budget.shed = false)
      ∧ ∀ i, (t.chan i).tripped = true →
          s.reports t ⟨.channelTripped, none, i, le8 (t.chan i).cfg.role.code ++ leOpt8 (t.chan i).cfg.roleTarget ++ [0x00]⟩
  (∀ s u : State, s.sameOutside u → s.store.image = u.store.image → s.store.saving = u.store.saving →
      exec .powerOn s = exec .powerOn u)
    ∧ (∀ s : State, ∃ t, exec .powerOn s = .next t ∧ t.stage = .loading ∧ s.startsFrom t factorySnapshot
        ∧ t.plan.totals.shed = 0 ∧ t.budget.lastSerial = 0 ∧ t.budget.tight = false ∧ t.budget.shed = false
        ∧ t.line
          = { rx := [], buffer := [], notices := [], level := t.line.level, lost := 0, badFrames := 0, overruns := 0
              attention := false, sent := s.line.sent }
        ∧ t.store.saving = none ∧ t.store.lastSave = .none
        ∧ (s.store.saving = none → t.store.image = s.store.image)
        ∧ ∀ x, s.store.saving = some x → ∃ crc, t.store.image = .written x.1 crc ∧ crc ≠ crc16 x.1.image)
    ∧ (∀ s u : State, s.stage = .loading → u.stage = .loading → s.sameOutside u → s.store = u.store → s.line = u.line →
        ∀ answers, exec (.storeLoadComplete answers) s = exec (.storeLoadComplete answers) u)
    ∧ (∀ (s : State) (c : Snapshot), s.stage = .loading → s.store.image = .written c (crc16 c.image) →
        ∃ t, exec (.storeLoadComplete true) s = .next t ∧ loaded s t c .store
          ∧ (s.line.notices = [] → ∃ later,
              t.line.notices
                = (if c.level = .alarms then [] else [⟨.clockNeeded, none, 0, []⟩])
                  ++ (if s.stop.fire then [⟨.plantStop, none, 0, [0x00]⟩] else []) ++ later))
    ∧ (∀ (s : State) (answers : Bool), s.stage = .loading →
        answers = false ∨ s.store.image = .blank ∨ (∃ c crc, s.store.image = .written c crc ∧ crc ≠ crc16 c.image) →
        ∃ t, exec (.storeLoadComplete answers) s = .next t ∧ loaded s t factorySnapshot .defaults
          ∧ t.plan.phases = [] ∧ t.budget.configured = ⟨12000, 16000, 300, 900, 10, 10⟩
          ∧ (∀ i, (t.chan i).cfg.role = .unused) ∧ (∀ d, (t.door d).state = .unused)
          ∧ t.line.level = .alarmsAndOperation
          ∧ (s.line.notices = [] → ∃ later,
              t.line.notices
                = [⟨.storeInvalid, none, 0, [if answers then 0x01 else 0x00]⟩, ⟨.clockNeeded, none, 0, []⟩]
                  ++ (if s.stop.fire then [⟨.plantStop, none, 0, [0x00]⟩] else []) ++ later))
    ∧ ∀ (s : State) (answers : Bool), s.stage ≠ .loading → exec (.storeLoadComplete answers) s = .next s

/-- RESTART. A mode that is none of the two is refused with OUT_OF_RANGE. A PLANT restart empties the override table and keeps the rest of the
plan, the store, Stop Control, the request buffer's rest, the line counters, the level and the notices; the lost count rises only where the
queue fills. Every step channel holds and is asked for nothing, with no entry and no min-on; a LIGHT channel with no zone bound to it holds
its protected part and is asked for nothing, and one with a zone bound is asked for the zone's target; trips, min-off timers, serials, limits,
demand window, PU, P_prot, silence state and last-window record stand. The shed condition is clear, and a tight flag that was set is cleared
with BUDGET_EASED. Every session closes as RESTART, after its accrual, into the log or the lost count, with LOG_FULL where the log is full;
every door is UNKNOWN with its debounce timers started, or UNUSED, and its configuration, loop result, counters, raw inputs and ΔT copy
stand, as does the session-number counter. A contact check ends with CHECK_DONE, ABANDONED, and a walk with WALK_DONE, ABORTED. Every zone's
integral, call, targets and lower candidate are cleared, and the rest of the Climate Unit stands. Every lighting zone keeps configuration,
presence and walk result, and its target is derived afresh. A FULL restart is refused with BUSY while a save runs, and otherwise discards the
whole state and starts the load, after its reply (R159, with R32, R43, R72, R85, R89, R107, R114, R115, R124, R138, R145, R154; that the
lights are derived last, over an empty override table, is log entry 38's). -/
def Obligations.RestartStartsAgain : Prop :=
  (∀ (s : State) (tag mode : Byte) (rest : List Frame), s.takes ⟨tag, 0x51, [mode]⟩ rest → 1 < mode.toNat →
      exec (.restartPlant tag [mode]) s = .next (s.answered rest tag 0x51 [0x12]))
    ∧ (∀ (s : State) (tag : Byte) (rest : List Frame), s.takes ⟨tag, 0x51, [0x00]⟩ rest →
        let closed : Fin 32 → Option SessionRecord := fun d =>
          let x := s.door d
          let elapsed := s.seconds - x.stamp
          x.session.map fun y =>
            ⟨d, .restart, s.plan.clock,
              { y with
                loss := min 4294967295 (y.loss + x.rate * elapsed)
                openSeconds := if x.state = .openDocked then min 4294967295 (y.openSeconds + elapsed) else y.openSeconds }⟩
        let records := (indices 32).filterMap closed
        let room := 128 - s.dock.log.length
        ∃ t, exec (.restartPlant tag [0x00]) s = .next t ∧ s.replied t tag 0x51 [0x00]
          ∧ t.plan.forgetTotals = ({ s.plan with overrides := [] } : PlanUnit).forgetTotals
          ∧ { t.plan.totals with docked := 0, bare := 0 } = { s.plan.totals with docked := 0, bare := 0 }
          ∧ t.store = s.store ∧ t.stop = s.stop ∧ t.stage = s.stage ∧ t.seconds = s.seconds
          ∧ t.line.forgetNotices = ({ s.line with buffer := rest, sent := t.line.sent } : Line).forgetNotices
          ∧ s.line.notices <+: t.line.notices ∧ (s.line.lost ≤ 65535 → s.line.lost ≤ t.line.lost)
          ∧ (t.line.notices.length < Config.maxNotices → t.line.lost = s.line.lost)
          ∧ t.budget
            = { s.budget with
                channels := t.budget.channels, lastSerial := t.budget.lastSerial, tight := t.budget.tight, shed := false }
          ∧ ((∀ z, s.lightBinding z = none) → t.budget.lastSerial = s.budget.lastSerial)
          ∧ (∀ i, (t.chan i).cfg = (s.chan i).cfg ∧ (t.chan i).tripped = (s.chan i).tripped ∧ (t.chan i).tripIn = (s.chan i).tripIn)
          ∧ (∀ i, (s.chan i).cfg.role.isStep = true →
              (t.chan i).target = 0 ∧ (t.chan i).granted = 0 ∧ (t.chan i).entry = none ∧ (t.chan i).minOnT = none
                ∧ (t.chan i).minOffT = (s.chan i).minOffT ∧ (t.chan i).serial = (s.chan i).serial)
          ∧ (∀ i, (s.chan i).cfg.role = .light → (∀ z, s.lightBinding z ≠ some i) →
              (t.chan i).target = 0 ∧ (t.chan i).granted = (s.chan i).protPart s.stop.state
                ∧ (t.chan i).serial = (s.chan i).serial)
          ∧ (∀ i z, s.lightBinding z = some i → (t.chan i).target = (t.light z).target)
          ∧ (s.budget.tight = true → s.profile.tight ≤ 1000 →
              s.reports t ⟨.budgetEased, s.plan.clock, 0,
                le32 s.budget.pool ++ le32 s.budget.pool ++ le8 s.plan.current.fields.profile⟩)
          ∧ t.dock.check = none ∧ t.dock.zoneDT = s.dock.zoneDT ∧ t.dock.nextSession = s.dock.nextSession
          ∧ t.dock.log = s.dock.log ++ records.take room
          ∧ t.dock.lost = (if records.length ≤ room then s.dock.lost else min 65535 (s.dock.lost + (records.length - room)))
          ∧ (∀ r, records[room]? = some r → s.dock.lossReported = false →
              s.reports t ⟨.logFull, s.plan.clock, r.door, le16 r.session.number ++ le16 (min 65535 (s.dock.lost + 1))⟩)
          ∧ (∀ d,
              let x := s.door d
              let start := if x.cfg.enabled then some x.cfg.debounce else none
              (t.door d).forgetLoss
                = ({ x with
                      debOpen := x.rawOpen, debPresent := x.rawPresent, contactT := start, presenceT := start
                      state := if x.cfg.enabled then .unknown else .unused
                      heldT := none, session := none, sentLight := 0, sentCurtain := 0 } : Door).forgetLoss
                ∧ (t.door d).curtainRunning = false ∧ (t.door d).stamp = s.seconds)
          ∧ (∀ k, s.dock.check = some k →
              s.reports t ⟨.checkDone, s.plan.clock, 0,
                [0x00, 0x00, 0x00, 0x00] ++ le8 ((indices 32).filter fun d => look k.underTest d).length ++ [0x02]⟩)
          ∧ { t.climate with zones := s.climate.zones } = s.climate
          ∧ (∀ z, t.zone z
              = { s.zone z with integral := 0, call := 0, heaterTarget := 0, fanTarget := 0, lowerCandidate := none })
          ∧ t.lighting.walk = none ∧ t.lighting.lastKind = s.lighting.lastKind
          ∧ (s.lighting.walk.isSome →
              s.reports t ⟨.walkDone, s.plan.clock, 0,
                [0x02] ++ le8 ((indices 24).filter fun z => (s.light z).walkResult.isSome).length
                  ++ le8 ((indices 24).filter fun z => (s.light z).walkResult.any (· < 1000)).length⟩)
          ∧ ∀ z, s.keepsZone t z ∧ (t.light z).target = max (t.tableLine z).1 (t.light z).cfg.protMin
              ∧ (t.light z).source = (t.tableLine z).2
              ∧ (t.light z).lastSent = if (s.lightBinding z).isSome then (t.light z).target else 0)
    ∧ (∀ (s : State) (tag : Byte) (rest : List Frame), s.takes ⟨tag, 0x51, [0x01]⟩ rest → s.store.saving.isSome →
        exec (.restartFull tag [0x01]) s = .next (s.answered rest tag 0x51 [0x16]))
    ∧ ∀ (s : State) (tag : Byte) (rest : List Frame), s.takes ⟨tag, 0x51, [0x01]⟩ rest → s.store.saving = none →
        ∃ t u, exec .powerOn s = .next u ∧ exec (.restartFull tag [0x01]) s = .next t ∧ s.replied t tag 0x51 [0x00]
          ∧ t = { u with line := { u.line with sent := t.line.sent } }

/-- The fire-panel input. Asserted in RUNNING, the plant is STOPPED and PLANT_STOP carries the state left. Every step channel holds
nothing, with no queue entry; one that held steps has min-on cancelled and min-off started; every LIGHT channel holds units(1000), and
nothing is shed unless a LIGHT channel held more (R49, R61, R78). Every lighting zone's target is derived, 1000 ‰, and a walk ends with
WALK_DONE, ABORTED (R150, R154). Every door sends its light and curtain channels 0 (R101). Every zone and its ventilation are STOPPED,
with integral, call and targets 0 and no lower candidate, and one in PURGE raises PURGE_END (R132, R143; its X is log entry 40's, a zone
not yet evaluated log entry 37's). A target that changed is sent to the channel bound, and no other channel is asked for anything.
Asserted in RELEASED, the plant is STOPPED again, and clear in STOPPED it is RELEASED with the seconds of the stop, with no unit touched;
any other sample only records the level (R156). RESUME is refused with STOP_ACTIVE in STOPPED and with WRONG_STATE in RUNNING, each with
the plant-stop state; in RELEASED the plant is RUNNING again with PLANT_RESUMED, every lighting zone's and door's target is derived afresh
and sent where it changed, the allowance is worked out afresh, and every zone takes one evaluation, as its timer's expiry would in the
state that it then finds, with the timers left as they stand (R49, R101, R132, R143, R150, R157; the order of the units is log entry 6's).
That PLANT_STOP, PLANT_RELEASED and PLANT_RESUMED come first is log entry 11's. -/
def Obligations.PlantStopsAndResumes : Prop :=
  let bound : State → Fin 128 → Role → Nat → Prop := fun s i role n =>
    (s.chan i).cfg.role = role ∧ (s.chan i).cfg.roleTarget = some n
  let reached : State → Fin 128 → Prop := fun s i =>
    (∃ z : Fin 12, ((s.zone z).cfg.heater = some i ∧ bound s i .heater z) ∨ ((s.zone z).cfg.fan = some i ∧ bound s i .fan z))
      ∨ (∃ d : Fin 32,
          ((s.door d).cfg.light = some i ∧ bound s i .docklight d) ∨ ((s.door d).cfg.curtain = some i ∧ bound s i .curtain d))
      ∨ ∃ z, s.lightBinding z = some i
  let doors : State → State → Prop := fun s t => ∀ d,
    let x := s.door d
    let ask := fun (states : List DoorState) => if t.stop.state = .running ∧ x.state ∈ states then 1 else 0
    let light := ask [.openDocked, .openBare, .held]
    let curtain := ask [.openBare, .held]
    (t.door d).forgetLoss
        = ({ x with
              sentLight := if x.cfg.light.isSome then light else x.sentLight
              sentCurtain := if x.cfg.curtain.isSome then curtain else x.sentCurtain } : Door).forgetLoss
      ∧ (∀ i, x.cfg.light = some i → bound s i .docklight d →
          (t.chan i).target = if light = x.sentLight then (s.chan i).target else min light (s.chan i).cfg.steps)
      ∧ ∀ i, x.cfg.curtain = some i → bound s i .curtain d →
          (t.chan i).target = if curtain = x.sentCurtain then (s.chan i).target else min curtain (s.chan i).cfg.steps
  let common : State → State → Prop := fun s t =>
    (∀ z, s.derives t z ∧ s.keepsZone t z) ∧ doors s t ∧ s.reprotects t
      ∧ (∀ i, (t.chan i).cfg = (s.chan i).cfg ∧ (t.chan i).tripped = (s.chan i).tripped ∧ (t.chan i).tripIn = (s.chan i).tripIn)
      ∧ (∀ i, ¬reached s i → (t.chan i).asked = (s.chan i).asked)
      ∧ t.plan.forgetTotals = s.plan.forgetTotals ∧ t.store = s.store ∧ t.stage = s.stage ∧ t.seconds = s.seconds
      ∧ { t.dock with doors := s.dock.doors, zoneDT := s.dock.zoneDT } = s.dock
      ∧ { t.climate with zones := s.climate.zones } = s.climate
  ((∀ s : State, s.stage = .running → s.stop.state = .running →
       ∃ t, exec (.firePanelSample true) s = .next t ∧ t.stop = ⟨.stopped, true, s.seconds⟩ ∧ common s t
         ∧ (∀ i, (t.chan i).cfg.role.isStep = true → (t.chan i).granted = 0 ∧ (t.chan i).entry = none
             ∧ (0 < (s.chan i).granted → (t.chan i).minOnT = none
                 ∧ (t.chan i).minOffT = if (s.chan i).cfg.minOff = 0 then none else some (s.chan i).cfg.minOff)
             ∧ ((s.chan i).granted = 0 → (t.chan i).minOnT = (s.chan i).minOnT ∧ (t.chan i).minOffT = (s.chan i).minOffT))
         ∧ (∀ i, (t.chan i).cfg.role = .light → units (t.chan i).cfg.rating 1000 ≤ (t.chan i).granted)
         ∧ ((∀ i, (s.chan i).cfg.role = .light → (s.chan i).granted ≤ units (s.chan i).cfg.rating 1000) →
             ∀ n ∈ s.joined t, n.kind ≠ .shed)
         ∧ t.lighting.walk = none
         ∧ (s.lighting.walk.isSome →
             s.reports t ⟨.walkDone, s.plan.clock, 0,
               [0x02] ++ le8 ((indices 24).filter fun z => (s.light z).walkResult.isSome).length
                 ++ le8 ((indices 24).filter fun z => (s.light z).walkResult.any (· < 1000)).length⟩)
         ∧ (∀ z,
             let x := s.zone z
             t.zone z
                 = { x with
                     mode := .stopped, integral := 0, call := 0, heaterTarget := 0, vent := .stopped, fanTarget := 0
                     lowerCandidate := none }
               ∧ (∀ i, x.cfg.heater = some i → bound s i .heater z →
                   (t.chan i).target = if x.heaterTarget = 0 then (s.chan i).target else 0)
               ∧ (∀ i, x.cfg.fan = some i → bound s i .fan z →
                   (t.chan i).target = if x.fanTarget = 0 then (s.chan i).target else 0)
               ∧ (x.vent = .purge →
                   s.reports t ⟨.purgeEnd, s.plan.clock, z,
                     [0x03]
                       ++ (match x.cfg.exhaustPoint.bind fun p =>
                             if (look s.climate.exhausts p).state = .good then (look s.climate.exhausts p).value else none with
                         | some v => le16 v.toNat
                         | none => [0xFF, 0xFF])
                       ++ le16 (min 65535 (s.seconds - x.purgeStart))⟩))
         ∧ t.dock.zoneDT = s.dock.zoneDT
         ∧ (s.admits .plantStop → s.raised t ⟨.plantStop, s.plan.clock, 0, [0x00]⟩))
     ∧ (∀ s : State, s.stage = .running → s.stop.state = .released →
         ∃ t, exec (.firePanelSample true) s = .next t ∧ t.stop = ⟨.stopped, true, s.seconds⟩
           ∧ { t with stop := s.stop, line := s.line } = s ∧ t.line.forgetNotices = s.line.forgetNotices
           ∧ (s.admits .plantStop → s.raised t ⟨.plantStop, s.plan.clock, 0, [0x02]⟩))
     ∧ (∀ s : State, s.stage = .running → s.stop.state = .stopped →
         ∃ t, exec (.firePanelSample false) s = .next t ∧ t.stop = ⟨.released, false, s.stop.stopStamp⟩
           ∧ { t with stop := s.stop, line := s.line } = s ∧ t.line.forgetNotices = s.line.forgetNotices
           ∧ (s.admits .plantReleased →
               s.raised t ⟨.plantReleased, s.plan.clock, 0, le16 (min 65535 (s.seconds - s.stop.stopStamp))⟩))
     ∧ ∀ (s : State) (level : Bool), s.stage ≠ .running ∨ (level = true ∧ s.stop.state = .stopped)
         ∨ (level = false ∧ s.stop.state ≠ .stopped) →
           exec (.firePanelSample level) s = .next (s.setStop { s.stop with fire := level }))
    ∧ ((∀ (s : State) (tag : Byte) (rest : List Frame), s.takes ⟨tag, 0x50, []⟩ rest →
           (s.stop.state = .stopped → exec (.resume tag []) s = .next (s.answered rest tag 0x50 [0x1C, 0x01]))
             ∧ (s.stop.state = .running → exec (.resume tag []) s = .next (s.answered rest tag 0x50 [0x17, 0x00])))
         ∧ ∀ (s : State) (tag : Byte) (rest : List Frame), s.takes ⟨tag, 0x50, []⟩ rest → s.stop.state = .released →
             ∃ t, exec (.resume tag []) s = .next t ∧ s.replied t tag 0x50 [0x00, 0x00]
               ∧ t.stop = { s.stop with state := .running } ∧ common s t ∧ t.lighting.walk = s.lighting.walk
               ∧ (∀ z, ∃ v w, exec (.zoneEvaluation z) v = .next w
                   ∧ v.stage = .running ∧ v.stop = t.stop ∧ v.seconds = s.seconds ∧ v.lighting = s.lighting
                   ∧ v.plan.forgetTotals = s.plan.forgetTotals ∧ { v.climate with zones := s.climate.zones } = s.climate
                   ∧ v.zone z = { s.zone z with evalT := 0 }
                   ∧ s.line.notices <+: v.line.notices ∧ w.line.notices <+: t.line.notices
                   ∧ t.zone z = { w.zone z with evalT := (s.zone z).evalT } ∧ (t.zone z).figures.evaluated = true
                   ∧ look t.dock.zoneDT z = look w.dock.zoneDT z
                   ∧ ∀ i, ((s.zone z).cfg.heater = some i ∧ bound s i .heater z) ∨ ((s.zone z).cfg.fan = some i ∧ bound s i .fan z) →
                       (v.chan i).asked = (s.chan i).asked ∧ (t.chan i).target = (w.chan i).target
                         ∧ ((s.chan i).target = 0 → (s.chan i).granted = 0 → (v.chan i).granted = 0))
               ∧ (s.admits .plantResumed → s.raised t ⟨.plantResumed, s.plan.clock, 0, []⟩))

/-- SAVE is refused with BUSY while a save runs; otherwise the snapshot of the moment, with its digest, begins to be written and nothing
else changes (R160). A save whose comparison holds leaves that snapshot in the store and raises SAVE_DONE with its digest; one that fails
raises SAVE_FAILED with the reason; both leave the working configuration (R161). The layout of the image its CRC-16 is taken over is the
model's (log entry 36), and so is that the end of no save does nothing (log entry 35). -/
def Obligations.SaveWritesTheSnapshot : Prop :=
  (∀ (s : State) (tag : Byte) (rest : List Frame), s.takes ⟨tag, 0x52, []⟩ rest → s.store.saving.isSome →
      exec (.save tag []) s = .next (s.answered rest tag 0x52 [0x16]))
    ∧ (∀ (s : State) (tag : Byte) (rest : List Frame), s.takes ⟨tag, 0x52, []⟩ rest → s.store.saving = none →
        exec (.save tag []) s
          = .next (sendReply tag 0x52
              ([0x00] ++ le16 s.plan.digest.toNat ++ le8 s.store.source.code ++ [0x01] ++ le8 s.store.lastSave.code)
              ((s.taken rest).setStore { s.store with saving := some (s.snapshot, s.plan.digest) })))
    ∧ (∀ (s : State) (c : Snapshot) (digest : Crc16), s.stage = .running → s.store.saving = some (c, digest) →
        ∃ t, exec (.saveComplete .compared) s = .next t ∧ t.store = ⟨.written c (crc16 c.image), s.store.source, none, .done⟩
          ∧ t.snapshot = s.snapshot
          ∧ (s.admits .saveDone → s.raised t ⟨.saveDone, s.plan.clock, 0, le16 digest.toNat⟩))
    ∧ (∀ (s : State) (c : Snapshot) (digest : Crc16) (result : SaveResult), s.stage = .running →
        s.store.saving = some (c, digest) → result ≠ .compared →
          ∃ t, exec (.saveComplete result) s = .next t ∧ t.store.saving = none ∧ t.store.lastSave = .failed
            ∧ t.store.source = s.store.source ∧ t.snapshot = s.snapshot
            ∧ (s.admits .saveFailed →
                s.raised t ⟨.saveFailed, s.plan.clock, 0, [if result = .noAnswer then 0x00 else 0x02]⟩))
    ∧ ∀ (s : State) (result : SaveResult), s.stage = .running → s.store.saving = none →
        exec (.saveComplete result) s = .next s

/-- What a SAVE stores comes back: a save that ends DONE, then power-on and a load, put the phase list, the tables, the limits, the notice
level and the configuration of every door, zone and lighting zone back as they stood at the SAVE (R158, R160, R161). -/
def Obligations.SavedConfigurationComesBack : Prop :=
  ∀ (s s1 s2 s3 s4 : State) (tag : Byte) (rest : List Frame), s.takes ⟨tag, 0x52, []⟩ rest → s.store.saving = none →
    exec (.save tag []) s = .next s1 → exec (.saveComplete .compared) s1 = .next s2 → exec .powerOn s2 = .next s3 →
      exec (.storeLoadComplete true) s3 = .next s4 →
        { s4.snapshot with channels := s.snapshot.channels } = s.snapshot
          ∧ ∀ i, { (s4.chan i).cfg with protMin := (s.chan i).cfg.protMin } = (s.chan i).cfg

/-! ### The frames -/

/-- The commands of the Shift Plan Unit reach the plan, the lighting zones, the Load Budget Unit, the loss fields of the doors, the notice
queue and the reply, and nothing else of the part. The events of the Load Budget Unit, and the requests it carries out alone, change
nothing outside it but the phase totals, the notice queue and the curtain and loss fields of the doors; its timers, meters and samples
change no channel's configuration, target or trip. The commands of the Dock Supervisor change nothing outside it but the Load Budget
Unit, the phase totals, the notice queue and the reply. The commands of the Climate Unit change nothing outside it but the Load Budget
Unit, the ΔT copies and loss fields of the Dock Supervisor, the phase totals, the notice queue, the reply and the model's free-value
counter. The commands of the Lighting Unit change nothing outside it but the Load Budget Unit, the loss fields of the doors, the phase
totals, the notice queue and the reply. -/
def Obligations.EachUnitKeepsToItself : Prop :=
  (∀ (c : Instr) (s t : State), c.isPlan = true → exec c s = .next t → t.outsidePlan = (s.traffic t).outsidePlan)
    ∧ ((∀ (c : Instr) (s t : State), (c.isArbiterEvent || c.isArbiterRequest) = true → exec c s = .next t →
           t.outsideBudget = (s.traffic t).outsideBudget)
         ∧ ∀ (c : Instr) (s t : State), c.isArbiterEvent = true → (∀ i level, c ≠ .tripSample i level) → exec c s = .next t →
             ∀ i, (t.chan i).asked = (s.chan i).asked)
    ∧ (∀ (c : Instr) (s t : State), c.isDock = true → exec c s = .next t → t.outsideDock = (s.traffic t).outsideDock)
    ∧ (∀ (c : Instr) (s t : State), c.isClimate = true → exec c s = .next t → t.outsideClimate = (s.traffic t).outsideClimate)
    ∧ (∀ (c : Instr) (s t : State), c.isLighting = true → exec c s = .next t → t.outsideLighting = (s.traffic t).outsideLighting)
end

