-- ==== Sys2Proof/Laws/State.lean ====
section
/-! SUPPORT. What each update of the state leaves in each field: one lemma for each field of each update, true by rfl, so that no later
proof unfolds a record update. -/

namespace Sys2Proof.Machine

set_option Elab.async false

variable (s : State)

/-! ### setPlan -/

@[simp] theorem State.setPlan_pending (v : PlanUnit) : (s.setPlan v).pending = s.pending := rfl
@[simp] theorem State.setPlan_stage (v : PlanUnit) : (s.setPlan v).stage = s.stage := rfl
@[simp] theorem State.setPlan_seconds (v : PlanUnit) : (s.setPlan v).seconds = s.seconds := rfl
@[simp] theorem State.setPlan_plan (v : PlanUnit) : (s.setPlan v).plan = v := rfl
@[simp] theorem State.setPlan_budget (v : PlanUnit) : (s.setPlan v).budget = s.budget := rfl
@[simp] theorem State.setPlan_dock (v : PlanUnit) : (s.setPlan v).dock = s.dock := rfl
@[simp] theorem State.setPlan_climate (v : PlanUnit) : (s.setPlan v).climate = s.climate := rfl
@[simp] theorem State.setPlan_lighting (v : PlanUnit) : (s.setPlan v).lighting = s.lighting := rfl
@[simp] theorem State.setPlan_stop (v : PlanUnit) : (s.setPlan v).stop = s.stop := rfl
@[simp] theorem State.setPlan_store (v : PlanUnit) : (s.setPlan v).store = s.store := rfl
@[simp] theorem State.setPlan_line (v : PlanUnit) : (s.setPlan v).line = s.line := rfl
@[simp] theorem State.setPlan_drawn (v : PlanUnit) : (s.setPlan v).drawn = s.drawn := rfl

/-! ### setBudget -/

@[simp] theorem State.setBudget_pending (v : LoadBudget) : (s.setBudget v).pending = s.pending := rfl
@[simp] theorem State.setBudget_stage (v : LoadBudget) : (s.setBudget v).stage = s.stage := rfl
@[simp] theorem State.setBudget_seconds (v : LoadBudget) : (s.setBudget v).seconds = s.seconds := rfl
@[simp] theorem State.setBudget_plan (v : LoadBudget) : (s.setBudget v).plan = s.plan := rfl
@[simp] theorem State.setBudget_budget (v : LoadBudget) : (s.setBudget v).budget = v := rfl
@[simp] theorem State.setBudget_dock (v : LoadBudget) : (s.setBudget v).dock = s.dock := rfl
@[simp] theorem State.setBudget_climate (v : LoadBudget) : (s.setBudget v).climate = s.climate := rfl
@[simp] theorem State.setBudget_lighting (v : LoadBudget) : (s.setBudget v).lighting = s.lighting := rfl
@[simp] theorem State.setBudget_stop (v : LoadBudget) : (s.setBudget v).stop = s.stop := rfl
@[simp] theorem State.setBudget_store (v : LoadBudget) : (s.setBudget v).store = s.store := rfl
@[simp] theorem State.setBudget_line (v : LoadBudget) : (s.setBudget v).line = s.line := rfl
@[simp] theorem State.setBudget_drawn (v : LoadBudget) : (s.setBudget v).drawn = s.drawn := rfl

/-! ### setDock -/

@[simp] theorem State.setDock_pending (v : Dock) : (s.setDock v).pending = s.pending := rfl
@[simp] theorem State.setDock_stage (v : Dock) : (s.setDock v).stage = s.stage := rfl
@[simp] theorem State.setDock_seconds (v : Dock) : (s.setDock v).seconds = s.seconds := rfl
@[simp] theorem State.setDock_plan (v : Dock) : (s.setDock v).plan = s.plan := rfl
@[simp] theorem State.setDock_budget (v : Dock) : (s.setDock v).budget = s.budget := rfl
@[simp] theorem State.setDock_dock (v : Dock) : (s.setDock v).dock = v := rfl
@[simp] theorem State.setDock_climate (v : Dock) : (s.setDock v).climate = s.climate := rfl
@[simp] theorem State.setDock_lighting (v : Dock) : (s.setDock v).lighting = s.lighting := rfl
@[simp] theorem State.setDock_stop (v : Dock) : (s.setDock v).stop = s.stop := rfl
@[simp] theorem State.setDock_store (v : Dock) : (s.setDock v).store = s.store := rfl
@[simp] theorem State.setDock_line (v : Dock) : (s.setDock v).line = s.line := rfl
@[simp] theorem State.setDock_drawn (v : Dock) : (s.setDock v).drawn = s.drawn := rfl

/-! ### setClimate -/

@[simp] theorem State.setClimate_pending (v : Climate) : (s.setClimate v).pending = s.pending := rfl
@[simp] theorem State.setClimate_stage (v : Climate) : (s.setClimate v).stage = s.stage := rfl
@[simp] theorem State.setClimate_seconds (v : Climate) : (s.setClimate v).seconds = s.seconds := rfl
@[simp] theorem State.setClimate_plan (v : Climate) : (s.setClimate v).plan = s.plan := rfl
@[simp] theorem State.setClimate_budget (v : Climate) : (s.setClimate v).budget = s.budget := rfl
@[simp] theorem State.setClimate_dock (v : Climate) : (s.setClimate v).dock = s.dock := rfl
@[simp] theorem State.setClimate_climate (v : Climate) : (s.setClimate v).climate = v := rfl
@[simp] theorem State.setClimate_lighting (v : Climate) : (s.setClimate v).lighting = s.lighting := rfl
@[simp] theorem State.setClimate_stop (v : Climate) : (s.setClimate v).stop = s.stop := rfl
@[simp] theorem State.setClimate_store (v : Climate) : (s.setClimate v).store = s.store := rfl
@[simp] theorem State.setClimate_line (v : Climate) : (s.setClimate v).line = s.line := rfl
@[simp] theorem State.setClimate_drawn (v : Climate) : (s.setClimate v).drawn = s.drawn := rfl

/-! ### setLighting -/

@[simp] theorem State.setLighting_pending (v : Lighting) : (s.setLighting v).pending = s.pending := rfl
@[simp] theorem State.setLighting_stage (v : Lighting) : (s.setLighting v).stage = s.stage := rfl
@[simp] theorem State.setLighting_seconds (v : Lighting) : (s.setLighting v).seconds = s.seconds := rfl
@[simp] theorem State.setLighting_plan (v : Lighting) : (s.setLighting v).plan = s.plan := rfl
@[simp] theorem State.setLighting_budget (v : Lighting) : (s.setLighting v).budget = s.budget := rfl
@[simp] theorem State.setLighting_dock (v : Lighting) : (s.setLighting v).dock = s.dock := rfl
@[simp] theorem State.setLighting_climate (v : Lighting) : (s.setLighting v).climate = s.climate := rfl
@[simp] theorem State.setLighting_lighting (v : Lighting) : (s.setLighting v).lighting = v := rfl
@[simp] theorem State.setLighting_stop (v : Lighting) : (s.setLighting v).stop = s.stop := rfl
@[simp] theorem State.setLighting_store (v : Lighting) : (s.setLighting v).store = s.store := rfl
@[simp] theorem State.setLighting_line (v : Lighting) : (s.setLighting v).line = s.line := rfl
@[simp] theorem State.setLighting_drawn (v : Lighting) : (s.setLighting v).drawn = s.drawn := rfl

/-! ### setStop -/

@[simp] theorem State.setStop_pending (v : StopControl) : (s.setStop v).pending = s.pending := rfl
@[simp] theorem State.setStop_stage (v : StopControl) : (s.setStop v).stage = s.stage := rfl
@[simp] theorem State.setStop_seconds (v : StopControl) : (s.setStop v).seconds = s.seconds := rfl
@[simp] theorem State.setStop_plan (v : StopControl) : (s.setStop v).plan = s.plan := rfl
@[simp] theorem State.setStop_budget (v : StopControl) : (s.setStop v).budget = s.budget := rfl
@[simp] theorem State.setStop_dock (v : StopControl) : (s.setStop v).dock = s.dock := rfl
@[simp] theorem State.setStop_climate (v : StopControl) : (s.setStop v).climate = s.climate := rfl
@[simp] theorem State.setStop_lighting (v : StopControl) : (s.setStop v).lighting = s.lighting := rfl
@[simp] theorem State.setStop_stop (v : StopControl) : (s.setStop v).stop = v := rfl
@[simp] theorem State.setStop_store (v : StopControl) : (s.setStop v).store = s.store := rfl
@[simp] theorem State.setStop_line (v : StopControl) : (s.setStop v).line = s.line := rfl
@[simp] theorem State.setStop_drawn (v : StopControl) : (s.setStop v).drawn = s.drawn := rfl

/-! ### setStore -/

@[simp] theorem State.setStore_pending (v : SettingStore) : (s.setStore v).pending = s.pending := rfl
@[simp] theorem State.setStore_stage (v : SettingStore) : (s.setStore v).stage = s.stage := rfl
@[simp] theorem State.setStore_seconds (v : SettingStore) : (s.setStore v).seconds = s.seconds := rfl
@[simp] theorem State.setStore_plan (v : SettingStore) : (s.setStore v).plan = s.plan := rfl
@[simp] theorem State.setStore_budget (v : SettingStore) : (s.setStore v).budget = s.budget := rfl
@[simp] theorem State.setStore_dock (v : SettingStore) : (s.setStore v).dock = s.dock := rfl
@[simp] theorem State.setStore_climate (v : SettingStore) : (s.setStore v).climate = s.climate := rfl
@[simp] theorem State.setStore_lighting (v : SettingStore) : (s.setStore v).lighting = s.lighting := rfl
@[simp] theorem State.setStore_stop (v : SettingStore) : (s.setStore v).stop = s.stop := rfl
@[simp] theorem State.setStore_store (v : SettingStore) : (s.setStore v).store = v := rfl
@[simp] theorem State.setStore_line (v : SettingStore) : (s.setStore v).line = s.line := rfl
@[simp] theorem State.setStore_drawn (v : SettingStore) : (s.setStore v).drawn = s.drawn := rfl

/-! ### setLine -/

@[simp] theorem State.setLine_pending (v : Line) : (s.setLine v).pending = s.pending := rfl
@[simp] theorem State.setLine_stage (v : Line) : (s.setLine v).stage = s.stage := rfl
@[simp] theorem State.setLine_seconds (v : Line) : (s.setLine v).seconds = s.seconds := rfl
@[simp] theorem State.setLine_plan (v : Line) : (s.setLine v).plan = s.plan := rfl
@[simp] theorem State.setLine_budget (v : Line) : (s.setLine v).budget = s.budget := rfl
@[simp] theorem State.setLine_dock (v : Line) : (s.setLine v).dock = s.dock := rfl
@[simp] theorem State.setLine_climate (v : Line) : (s.setLine v).climate = s.climate := rfl
@[simp] theorem State.setLine_lighting (v : Line) : (s.setLine v).lighting = s.lighting := rfl
@[simp] theorem State.setLine_stop (v : Line) : (s.setLine v).stop = s.stop := rfl
@[simp] theorem State.setLine_store (v : Line) : (s.setLine v).store = s.store := rfl
@[simp] theorem State.setLine_line (v : Line) : (s.setLine v).line = v := rfl
@[simp] theorem State.setLine_drawn (v : Line) : (s.setLine v).drawn = s.drawn := rfl

/-! ### setSeconds -/

@[simp] theorem State.setSeconds_pending (v : Nat) : (s.setSeconds v).pending = s.pending := rfl
@[simp] theorem State.setSeconds_stage (v : Nat) : (s.setSeconds v).stage = s.stage := rfl
@[simp] theorem State.setSeconds_seconds (v : Nat) : (s.setSeconds v).seconds = v := rfl
@[simp] theorem State.setSeconds_plan (v : Nat) : (s.setSeconds v).plan = s.plan := rfl
@[simp] theorem State.setSeconds_budget (v : Nat) : (s.setSeconds v).budget = s.budget := rfl
@[simp] theorem State.setSeconds_dock (v : Nat) : (s.setSeconds v).dock = s.dock := rfl
@[simp] theorem State.setSeconds_climate (v : Nat) : (s.setSeconds v).climate = s.climate := rfl
@[simp] theorem State.setSeconds_lighting (v : Nat) : (s.setSeconds v).lighting = s.lighting := rfl
@[simp] theorem State.setSeconds_stop (v : Nat) : (s.setSeconds v).stop = s.stop := rfl
@[simp] theorem State.setSeconds_store (v : Nat) : (s.setSeconds v).store = s.store := rfl
@[simp] theorem State.setSeconds_line (v : Nat) : (s.setSeconds v).line = s.line := rfl
@[simp] theorem State.setSeconds_drawn (v : Nat) : (s.setSeconds v).drawn = s.drawn := rfl

/-! ### setPending -/

@[simp] theorem State.setPending_pending (v : List Instr) : (s.setPending v).pending = v := rfl
@[simp] theorem State.setPending_stage (v : List Instr) : (s.setPending v).stage = s.stage := rfl
@[simp] theorem State.setPending_seconds (v : List Instr) : (s.setPending v).seconds = s.seconds := rfl
@[simp] theorem State.setPending_plan (v : List Instr) : (s.setPending v).plan = s.plan := rfl
@[simp] theorem State.setPending_budget (v : List Instr) : (s.setPending v).budget = s.budget := rfl
@[simp] theorem State.setPending_dock (v : List Instr) : (s.setPending v).dock = s.dock := rfl
@[simp] theorem State.setPending_climate (v : List Instr) : (s.setPending v).climate = s.climate := rfl
@[simp] theorem State.setPending_lighting (v : List Instr) : (s.setPending v).lighting = s.lighting := rfl
@[simp] theorem State.setPending_stop (v : List Instr) : (s.setPending v).stop = s.stop := rfl
@[simp] theorem State.setPending_store (v : List Instr) : (s.setPending v).store = s.store := rfl
@[simp] theorem State.setPending_line (v : List Instr) : (s.setPending v).line = s.line := rfl
@[simp] theorem State.setPending_drawn (v : List Instr) : (s.setPending v).drawn = s.drawn := rfl

/-! ### draw -/

@[simp] theorem State.draw_pending : s.draw.pending = s.pending := rfl
@[simp] theorem State.draw_stage : s.draw.stage = s.stage := rfl
@[simp] theorem State.draw_seconds : s.draw.seconds = s.seconds := rfl
@[simp] theorem State.draw_plan : s.draw.plan = s.plan := rfl
@[simp] theorem State.draw_budget : s.draw.budget = s.budget := rfl
@[simp] theorem State.draw_dock : s.draw.dock = s.dock := rfl
@[simp] theorem State.draw_climate : s.draw.climate = s.climate := rfl
@[simp] theorem State.draw_lighting : s.draw.lighting = s.lighting := rfl
@[simp] theorem State.draw_stop : s.draw.stop = s.stop := rfl
@[simp] theorem State.draw_store : s.draw.store = s.store := rfl
@[simp] theorem State.draw_line : s.draw.line = s.line := rfl
@[simp] theorem State.draw_drawn : s.draw.drawn = s.drawn + 1 := rfl

/-! ### putChan -/

@[simp] theorem State.putChan_pending (i : Fin 128) (x : Channel) :
    (s.putChan i x).pending = s.pending := rfl
@[simp] theorem State.putChan_stage (i : Fin 128) (x : Channel) :
    (s.putChan i x).stage = s.stage := rfl
@[simp] theorem State.putChan_seconds (i : Fin 128) (x : Channel) :
    (s.putChan i x).seconds = s.seconds := rfl
@[simp] theorem State.putChan_plan (i : Fin 128) (x : Channel) :
    (s.putChan i x).plan = s.plan := rfl
@[simp] theorem State.putChan_budget (i : Fin 128) (x : Channel) :
    (s.putChan i x).budget = { s.budget with channels := upd s.budget.channels i { x with out := x.command } } := rfl
@[simp] theorem State.putChan_dock (i : Fin 128) (x : Channel) :
    (s.putChan i x).dock = s.dock := rfl
@[simp] theorem State.putChan_climate (i : Fin 128) (x : Channel) :
    (s.putChan i x).climate = s.climate := rfl
@[simp] theorem State.putChan_lighting (i : Fin 128) (x : Channel) :
    (s.putChan i x).lighting = s.lighting := rfl
@[simp] theorem State.putChan_stop (i : Fin 128) (x : Channel) :
    (s.putChan i x).stop = s.stop := rfl
@[simp] theorem State.putChan_store (i : Fin 128) (x : Channel) :
    (s.putChan i x).store = s.store := rfl
@[simp] theorem State.putChan_line (i : Fin 128) (x : Channel) :
    (s.putChan i x).line = s.line := rfl
@[simp] theorem State.putChan_drawn (i : Fin 128) (x : Channel) :
    (s.putChan i x).drawn = s.drawn := rfl

/-! ### putDoor -/

@[simp] theorem State.putDoor_pending (i : Fin 32) (x : Door) :
    (s.putDoor i x).pending = s.pending := rfl
@[simp] theorem State.putDoor_stage (i : Fin 32) (x : Door) :
    (s.putDoor i x).stage = s.stage := rfl
@[simp] theorem State.putDoor_seconds (i : Fin 32) (x : Door) :
    (s.putDoor i x).seconds = s.seconds := rfl
@[simp] theorem State.putDoor_plan (i : Fin 32) (x : Door) :
    (s.putDoor i x).plan = s.plan := rfl
@[simp] theorem State.putDoor_budget (i : Fin 32) (x : Door) :
    (s.putDoor i x).budget = s.budget := rfl
@[simp] theorem State.putDoor_dock (i : Fin 32) (x : Door) :
    (s.putDoor i x).dock = { s.dock with doors := upd s.dock.doors i x } := rfl
@[simp] theorem State.putDoor_climate (i : Fin 32) (x : Door) :
    (s.putDoor i x).climate = s.climate := rfl
@[simp] theorem State.putDoor_lighting (i : Fin 32) (x : Door) :
    (s.putDoor i x).lighting = s.lighting := rfl
@[simp] theorem State.putDoor_stop (i : Fin 32) (x : Door) :
    (s.putDoor i x).stop = s.stop := rfl
@[simp] theorem State.putDoor_store (i : Fin 32) (x : Door) :
    (s.putDoor i x).store = s.store := rfl
@[simp] theorem State.putDoor_line (i : Fin 32) (x : Door) :
    (s.putDoor i x).line = s.line := rfl
@[simp] theorem State.putDoor_drawn (i : Fin 32) (x : Door) :
    (s.putDoor i x).drawn = s.drawn := rfl

/-! ### putZone -/

@[simp] theorem State.putZone_pending (i : Fin 12) (x : Zone) :
    (s.putZone i x).pending = s.pending := rfl
@[simp] theorem State.putZone_stage (i : Fin 12) (x : Zone) :
    (s.putZone i x).stage = s.stage := rfl
@[simp] theorem State.putZone_seconds (i : Fin 12) (x : Zone) :
    (s.putZone i x).seconds = s.seconds := rfl
@[simp] theorem State.putZone_plan (i : Fin 12) (x : Zone) :
    (s.putZone i x).plan = s.plan := rfl
@[simp] theorem State.putZone_budget (i : Fin 12) (x : Zone) :
    (s.putZone i x).budget = s.budget := rfl
@[simp] theorem State.putZone_dock (i : Fin 12) (x : Zone) :
    (s.putZone i x).dock = s.dock := rfl
@[simp] theorem State.putZone_climate (i : Fin 12) (x : Zone) :
    (s.putZone i x).climate = { s.climate with zones := upd s.climate.zones i x } := rfl
@[simp] theorem State.putZone_lighting (i : Fin 12) (x : Zone) :
    (s.putZone i x).lighting = s.lighting := rfl
@[simp] theorem State.putZone_stop (i : Fin 12) (x : Zone) :
    (s.putZone i x).stop = s.stop := rfl
@[simp] theorem State.putZone_store (i : Fin 12) (x : Zone) :
    (s.putZone i x).store = s.store := rfl
@[simp] theorem State.putZone_line (i : Fin 12) (x : Zone) :
    (s.putZone i x).line = s.line := rfl
@[simp] theorem State.putZone_drawn (i : Fin 12) (x : Zone) :
    (s.putZone i x).drawn = s.drawn := rfl

/-! ### putLight -/

@[simp] theorem State.putLight_pending (i : Fin 24) (x : LightZone) :
    (s.putLight i x).pending = s.pending := rfl
@[simp] theorem State.putLight_stage (i : Fin 24) (x : LightZone) :
    (s.putLight i x).stage = s.stage := rfl
@[simp] theorem State.putLight_seconds (i : Fin 24) (x : LightZone) :
    (s.putLight i x).seconds = s.seconds := rfl
@[simp] theorem State.putLight_plan (i : Fin 24) (x : LightZone) :
    (s.putLight i x).plan = s.plan := rfl
@[simp] theorem State.putLight_budget (i : Fin 24) (x : LightZone) :
    (s.putLight i x).budget = s.budget := rfl
@[simp] theorem State.putLight_dock (i : Fin 24) (x : LightZone) :
    (s.putLight i x).dock = s.dock := rfl
@[simp] theorem State.putLight_climate (i : Fin 24) (x : LightZone) :
    (s.putLight i x).climate = s.climate := rfl
@[simp] theorem State.putLight_lighting (i : Fin 24) (x : LightZone) :
    (s.putLight i x).lighting = { s.lighting with zones := upd s.lighting.zones i x } := rfl
@[simp] theorem State.putLight_stop (i : Fin 24) (x : LightZone) :
    (s.putLight i x).stop = s.stop := rfl
@[simp] theorem State.putLight_store (i : Fin 24) (x : LightZone) :
    (s.putLight i x).store = s.store := rfl
@[simp] theorem State.putLight_line (i : Fin 24) (x : LightZone) :
    (s.putLight i x).line = s.line := rfl
@[simp] theorem State.putLight_drawn (i : Fin 24) (x : LightZone) :
    (s.putLight i x).drawn = s.drawn := rfl

/-! ### setTotals -/

@[simp] theorem State.setTotals_pending (v : PhaseTotals) : (s.setTotals v).pending = s.pending := rfl
@[simp] theorem State.setTotals_stage (v : PhaseTotals) : (s.setTotals v).stage = s.stage := rfl
@[simp] theorem State.setTotals_seconds (v : PhaseTotals) : (s.setTotals v).seconds = s.seconds := rfl
@[simp] theorem State.setTotals_plan (v : PhaseTotals) : (s.setTotals v).plan = { s.plan with totals := v } := rfl
@[simp] theorem State.setTotals_budget (v : PhaseTotals) : (s.setTotals v).budget = s.budget := rfl
@[simp] theorem State.setTotals_dock (v : PhaseTotals) : (s.setTotals v).dock = s.dock := rfl
@[simp] theorem State.setTotals_climate (v : PhaseTotals) : (s.setTotals v).climate = s.climate := rfl
@[simp] theorem State.setTotals_lighting (v : PhaseTotals) : (s.setTotals v).lighting = s.lighting := rfl
@[simp] theorem State.setTotals_stop (v : PhaseTotals) : (s.setTotals v).stop = s.stop := rfl
@[simp] theorem State.setTotals_store (v : PhaseTotals) : (s.setTotals v).store = s.store := rfl
@[simp] theorem State.setTotals_line (v : PhaseTotals) : (s.setTotals v).line = s.line := rfl
@[simp] theorem State.setTotals_drawn (v : PhaseTotals) : (s.setTotals v).drawn = s.drawn := rfl

/-! ### sendReply -/

@[simp] theorem sendReply_pending (tag kind : Byte) (body : Bytes) :
    (sendReply tag kind body s).pending = s.pending := rfl
@[simp] theorem sendReply_stage (tag kind : Byte) (body : Bytes) :
    (sendReply tag kind body s).stage = s.stage := rfl
@[simp] theorem sendReply_seconds (tag kind : Byte) (body : Bytes) :
    (sendReply tag kind body s).seconds = s.seconds := rfl
@[simp] theorem sendReply_plan (tag kind : Byte) (body : Bytes) :
    (sendReply tag kind body s).plan = s.plan := rfl
@[simp] theorem sendReply_budget (tag kind : Byte) (body : Bytes) :
    (sendReply tag kind body s).budget = s.budget := rfl
@[simp] theorem sendReply_dock (tag kind : Byte) (body : Bytes) :
    (sendReply tag kind body s).dock = s.dock := rfl
@[simp] theorem sendReply_climate (tag kind : Byte) (body : Bytes) :
    (sendReply tag kind body s).climate = s.climate := rfl
@[simp] theorem sendReply_lighting (tag kind : Byte) (body : Bytes) :
    (sendReply tag kind body s).lighting = s.lighting := rfl
@[simp] theorem sendReply_stop (tag kind : Byte) (body : Bytes) :
    (sendReply tag kind body s).stop = s.stop := rfl
@[simp] theorem sendReply_store (tag kind : Byte) (body : Bytes) :
    (sendReply tag kind body s).store = s.store := rfl
@[simp] theorem sendReply_line (tag kind : Byte) (body : Bytes) :
    (sendReply tag kind body s).line = { s.line with sent := s.line.sent ++ [frameBytes tag (kind + 0x80) body] } := rfl
@[simp] theorem sendReply_drawn (tag kind : Byte) (body : Bytes) :
    (sendReply tag kind body s).drawn = s.drawn := rfl

/-! ### The store image -/

/-- A whole write is verified (R158, R161). -/
@[simp] theorem Snapshot.written_verified (c : Snapshot) : c.written.verified = some c := by
  simp [Snapshot.written, StoreImage.verified]

/-- A word is not its own complement. -/
theorem crc_not_ne (x : Crc16) : ~~~x ≠ x := by
  intro h
  have := congrArg (fun y => BitVec.getLsbD y 0) h
  simp at this

/-- A write that was cut short is not verified (R158). -/
@[simp] theorem Snapshot.cutShort_verified (c : Snapshot) : c.cutShort.verified = none := by
  rw [Snapshot.cutShort, StoreImage.verified, if_neg (crc_not_ne _)]

@[simp] theorem StoreImage.blank_verified : StoreImage.blank.verified = none := rfl

end Sys2Proof.Machine
end

