-- ==== Sys2Proof/Laws/Table.lean ====
section
/-! SUPPORT. Tables, lists of operations, and the records a state holds: reading after a write, sums over a table with one entry
replaced, and what a list of operations keeps. -/

namespace Sys2Proof.Machine

set_option Elab.async false

/-! ### Tables -/

@[simp] theorem look_upd_self {α : Type} {n : Nat} (t : Table α n) (i : Fin n) (x : α) : look (upd t i x) i = x := by
  simp [look, upd]

theorem look_upd_ne {α : Type} {n : Nat} (t : Table α n) {i j : Fin n} (x : α) (h : i ≠ j) :
    look (upd t i x) j = look t j := by
  have : i.val ≠ j.val := fun e => h (Fin.ext e)
  simp [look, upd, this]

theorem look_upd {α : Type} {n : Nat} (t : Table α n) (i j : Fin n) (x : α) :
    look (upd t i x) j = if i = j then x else look t j := by
  by_cases h : i = j
  · subst h; simp
  · simp [look_upd_ne t x h, h]

/-- Two tables with the same entries are the same table. -/
theorem table_ext {α : Type} {n : Nat} {t u : Table α n} (h : ∀ i, look t i = look u i) : t = u := by
  apply Vector.ext
  intro i hi
  exact h ⟨i, hi⟩

@[simp] theorem upd_look {α : Type} {n : Nat} (t : Table α n) (i : Fin n) : upd t i (look t i) = t := by
  apply table_ext
  intro j
  rw [look_upd]
  split
  · next h => subst h; rfl
  · rfl

@[simp] theorem look_map {α β : Type} {n : Nat} (f : α → β) (t : Table α n) (i : Fin n) :
    look (t.map f) i = f (look t i) := by
  simp [look]

@[simp] theorem look_ofFn {α : Type} {n : Nat} (f : Fin n → α) (i : Fin n) :
    look (Vector.ofFn f : Table α n) i = f i := by
  simp [look]

@[simp] theorem look_replicate {α : Type} {n : Nat} (x : α) (i : Fin n) :
    look (Vector.replicate n x : Table α n) i = x := by
  simp [look]

/-- Replacing an entry before a map is replacing the mapped entry. -/
theorem map_upd {α β : Type} {n : Nat} (f : α → β) (t : Table α n) (i : Fin n) (x : α) :
    (upd t i x).map f = upd (t.map f) i (f x) := by
  apply table_ext
  intro j
  simp only [look_map, look_upd]
  split <;> rfl

theorem index?_some {n k : Nat} {i : Fin n} (h : index? n k = some i) : i.val = k := by
  unfold index? at h
  split at h
  · cases h; rfl
  · cases h

@[simp] theorem index?_val {n : Nat} (i : Fin n) : index? n i.val = some i := by
  simp [index?, i.isLt]

/-! ### Sums -/

theorem sumTable_eq {α : Type} {n : Nat} (f : α → Nat) (t : Table α n) : sumTable f t = ∑ i : Fin n, f (look t i) := by
  unfold sumTable
  rw [← List.sum_ofFn]
  congr 1
  apply List.ext_getElem
  · simp
  · intro k h₁ h₂
    simp [look]

/-- A sum over a table with one entry replaced: the old share leaves and the new one enters. -/
theorem sumTable_upd {α : Type} {n : Nat} (f : α → Nat) (t : Table α n) (i : Fin n) (x : α) :
    sumTable f (upd t i x) + f (look t i) = sumTable f t + f x := by
  rw [sumTable_eq, sumTable_eq]
  have h₁ := Finset.add_sum_erase Finset.univ (fun j => f (look (upd t i x) j)) (Finset.mem_univ i)
  have h₂ := Finset.add_sum_erase Finset.univ (fun j => f (look t j)) (Finset.mem_univ i)
  have h₃ : ∑ j ∈ Finset.univ.erase i, f (look (upd t i x) j) = ∑ j ∈ Finset.univ.erase i, f (look t j) := by
    apply Finset.sum_congr rfl
    intro j hj
    rw [look_upd_ne t x (fun e => (Finset.mem_erase.mp hj).1 e.symm)]
  simp only [look_upd_self] at h₁
  omega

theorem sumTable_congr {α : Type} {n : Nat} {f g : α → Nat} {t u : Table α n} (h : ∀ i, f (look t i) = g (look u i)) :
    sumTable f t = sumTable g u := by
  rw [sumTable_eq, sumTable_eq]
  exact Finset.sum_congr rfl fun i _ => h i

theorem sumTable_le {α : Type} {n : Nat} {f g : α → Nat} {t u : Table α n} (h : ∀ i, f (look t i) ≤ g (look u i)) :
    sumTable f t ≤ sumTable g u := by
  rw [sumTable_eq, sumTable_eq]
  exact Finset.sum_le_sum fun i _ => h i

/-- An entry's share is at most the sum. -/
theorem le_sumTable {α : Type} {n : Nat} (f : α → Nat) (t : Table α n) (i : Fin n) : f (look t i) ≤ sumTable f t := by
  rw [sumTable_eq]
  exact Finset.single_le_sum (f := fun j => f (look t j)) (fun _ _ => Nat.zero_le _) (Finset.mem_univ i)

/-! ### Lists of operations -/

@[simp] theorem forEach_nil {α : Type} (f : α → State → State) (s : State) : forEach [] f s = s := rfl

@[simp] theorem forEach_cons {α : Type} (a : α) (l : List α) (f : α → State → State) (s : State) :
    forEach (a :: l) f s = forEach l f (f a s) := rfl

/-- What every operation of a list keeps, the list keeps. -/
theorem forEach_keeps {α : Type} {I : State → Prop} {f : α → State → State} (h : ∀ a s, I s → I (f a s)) (l : List α)
    (s : State) (hs : I s) : I (forEach l f s) := by
  induction l generalizing s with
  | nil => exact hs
  | cons a l ih => exact ih (f a s) (h a s hs)

/-- What no operation of a list changes, the list does not change. -/
theorem forEach_same {α β : Type} {P : State → β} {f : α → State → State} (h : ∀ a s, P (f a s) = P s) (l : List α)
    (s : State) : P (forEach l f s) = P s := by
  induction l generalizing s with
  | nil => rfl
  | cons a l ih => rw [forEach_cons, ih, h]

/-! ### The records a state holds -/

variable (s : State)

@[simp] theorem chan_putChan_self (i : Fin 128) (c : Channel) : (s.putChan i c).chan i = { c with out := c.command } := by
  simp [State.chan]

theorem chan_putChan_ne {i j : Fin 128} (c : Channel) (h : i ≠ j) : (s.putChan i c).chan j = s.chan j := by
  simp [State.chan, look_upd_ne _ _ h]

theorem chan_putChan (i j : Fin 128) (c : Channel) :
    (s.putChan i c).chan j = if i = j then { c with out := c.command } else s.chan j := by
  simp [State.chan, look_upd]

theorem chan_congr {s t : State} (h : t.budget.channels = s.budget.channels) (i : Fin 128) : t.chan i = s.chan i := by
  simp [State.chan, h]

@[simp] theorem door_putDoor_self (d : Fin 32) (x : Door) : (s.putDoor d x).door d = x := by simp [State.door]

theorem door_putDoor (d e : Fin 32) (x : Door) : (s.putDoor d x).door e = if d = e then x else s.door e := by
  simp [State.door, look_upd]

@[simp] theorem zone_putZone_self (z : Fin 12) (x : Zone) : (s.putZone z x).zone z = x := by simp [State.zone]

theorem zone_putZone (z y : Fin 12) (x : Zone) : (s.putZone z x).zone y = if z = y then x else s.zone y := by
  simp [State.zone, look_upd]

@[simp] theorem light_putLight_self (z : Fin 24) (x : LightZone) : (s.putLight z x).light z = x := by
  simp [State.light]

theorem light_putLight (z y : Fin 24) (x : LightZone) : (s.putLight z x).light y = if z = y then x else s.light y := by
  simp [State.light, look_upd]

end Sys2Proof.Machine
end

