-- ==== Sys2Proof/Laws/Budget.lean ====
section
/-! SUPPORT. What the operations of the Load Budget Unit leave alone: everything outside the unit but the phase totals, the notice queue and the
loss fields of the doors, and of the channels everything the arbiter does not write. -/

namespace Sys2Proof.Machine

set_option Elab.async false

variable (s : State)

/-! ### The shared operations -/

@[simp] theorem setBudget_outside (b : LoadBudget) : (s.setBudget b).outsideBudget = s.outsideBudget := rfl

@[simp] theorem putChan_outside (i : Fin 128) (c : Channel) : (s.putChan i c).outsideBudget = s.outsideBudget := rfl

@[simp] theorem setTotals_outside (t : PhaseTotals) : (s.setTotals t).outsideBudget = s.outsideBudget := rfl

@[simp] theorem reportDocked_outside (e : Nat) : (reportDocked e s).outsideBudget = s.outsideBudget := rfl

@[simp] theorem reportBare_outside (e : Nat) : (reportBare e s).outsideBudget = s.outsideBudget := rfl

@[simp] theorem reportCycle_outside : (reportCycle s).outsideBudget = s.outsideBudget := rfl

@[simp] theorem reportHeld_outside : (reportHeld s).outsideBudget = s.outsideBudget := rfl

@[simp] theorem reportShed_outside : (reportShed s).outsideBudget = s.outsideBudget := rfl

@[simp] theorem join_forget (l : Line) (n : Notice) : (l.join n).forgetNotices = l.forgetNotices := by
  unfold Line.join; split <;> rfl

@[simp] theorem raise_outside (k : NoticeKind) (n : Nat) (b : Bytes) : (raise k n b s).outsideBudget = s.outsideBudget := by
  unfold raise
  split
  · simp [State.outsideBudget, State.setLine]
  · rfl

/-- Replacing a door by one that agrees with it but for its loss fields leaves the Dock Supervisor's view. -/
theorem putDoor_forgetLoss (d : Fin 32) (x : Door) (h : x.forgetLoss = (s.door d).forgetLoss) :
    (s.putDoor d x).dock.forgetLoss = s.dock.forgetLoss := by
  simp only [Dock.forgetLoss, State.putDoor_dock, map_upd, h]
  congr 1
  apply table_ext
  intro e
  rw [look_upd]
  split
  · next h => subst h; simp [State.door]
  · rfl

theorem putDoor_outside (d : Fin 32) (x : Door) (h : x.forgetLoss = (s.door d).forgetLoss) :
    (s.putDoor d x).outsideBudget = s.outsideBudget := by
  have := putDoor_forgetLoss s d x h
  simp only [State.outsideBudget, this]
  rfl

@[simp] theorem refreshRate_outside (d : Fin 32) : (refreshRate d s).outsideBudget = s.outsideBudget :=
  putDoor_outside s d _ rfl

@[simp] theorem accrue_outside (d : Fin 32) : (accrue d s).outsideBudget = s.outsideBudget := by
  have h : (s.putDoor d { s.door d with
      stamp := s.seconds
      session := (s.door d).session.map fun y => y.accrued (s.accruedEnergy d) (s.seconds - (s.door d).stamp) (s.door d).state
      }).outsideBudget = s.outsideBudget := by
    apply putDoor_outside
    cases hs : (s.door d).session <;> simp [Door.forgetLoss, hs, Session.accrued]
  unfold accrue
  dsimp only
  split
  · exact h
  · split <;> simp [h]

@[simp] theorem setCurtainRunning_outside (d : Fin 32) (b : Bool) :
    (setCurtainRunning d b s).outsideBudget = s.outsideBudget := by
  unfold setCurtainRunning
  split
  · rfl
  · rw [refreshRate_outside]
    exact (putDoor_outside (accrue d s) d { (accrue d s).door d with curtainRunning := b } rfl).trans (accrue_outside s d)

@[simp] theorem curtainGrant_outside (i : Fin 128) (g : Nat) : (curtainGrant i g s).outsideBudget = s.outsideBudget := by
  unfold curtainGrant
  split
  · split
    · split <;> simp
    · rfl
  · rfl

@[simp] theorem setGranted_outside (i : Fin 128) (g : Nat) : (setGranted i g s).outsideBudget = s.outsideBudget := by
  unfold setGranted
  dsimp only
  split <;> simp

/-! ### The arbiter -/

@[simp] theorem ceil_outside : (ceil s).outsideBudget = s.outsideBudget := rfl
@[simp] theorem protect_outside : (protect s).outsideBudget = s.outsideBudget := rfl
@[simp] theorem figure_outside : (figure s).outsideBudget = s.outsideBudget := rfl

@[simp] theorem keepEntry_outside (m : Bool) (i : Fin 128) : (keepEntry m i s).outsideBudget = s.outsideBudget := by
  unfold keepEntry
  dsimp only
  split
  · split
    · simp
    · split <;> simp
  · split <;> simp

@[simp] theorem remeasureUrgency_outside : (remeasureUrgency s).outsideBudget = s.outsideBudget := by
  apply forEach_same (P := State.outsideBudget)
  intro i t
  split
  · split <;> simp
  · rfl

@[simp] theorem takeSerial_outside (i : Fin 128) : (takeSerial i s).outsideBudget = s.outsideBudget := rfl

@[simp] theorem stepUp_outside (i : Fin 128) (k : Nat) : (stepUp i k s).outsideBudget = s.outsideBudget := by
  simp [stepUp]

@[simp] theorem lightVisit_outside (i : Fin 128) : (lightVisit i s).outsideBudget = s.outsideBudget := by
  unfold lightVisit
  dsimp only
  split <;> simp

@[simp] theorem visitQueue_outside (l : List (Fin 128)) : (visitQueue l s).outsideBudget = s.outsideBudget := by
  induction l generalizing s with
  | nil => rfl
  | cons i l ih =>
    unfold visitQueue
    dsimp only
    split
    · exact ih s
    · split
      · exact ih s
      · split
        · rw [ih, stepUp_outside]
        · split
          · split <;> simp
          · rw [ih]; split <;> simp

@[simp] theorem walk_outside : (walk s).outsideBudget = s.outsideBudget := by
  unfold walk
  rw [visitQueue_outside]
  exact forEach_same (P := State.outsideBudget) (fun i t => lightVisit_outside t i) _ s

@[simp] theorem settleShed_outside : (settleShed s).outsideBudget = s.outsideBudget := by
  unfold settleShed; split <;> simp

@[simp] theorem settleTight_outside : (settleTight s).outsideBudget = s.outsideBudget := by
  unfold settleTight
  dsimp only
  split <;> simp

/-- The end of an event settles two flags and leaves every channel as it stands (R72, R85). -/
@[simp] theorem settleShed_chan (i : Fin 128) : (settleShed s).chan i = s.chan i := by
  unfold settleShed; split <;> rfl

@[simp] theorem raise_chan (k : NoticeKind) (n : Nat) (d : Bytes) (i : Fin 128) : (raise k n d s).chan i = s.chan i := by
  unfold raise; split <;> rfl

@[simp] theorem settleTight_chan (i : Fin 128) : (settleTight s).chan i = s.chan i := by
  unfold settleTight
  dsimp only
  split
  · rfl
  · exact raise_chan _ _ _ _ _

@[simp] theorem endEvent_outside : (endEvent s).outsideBudget = s.outsideBudget := by simp [endEvent]

@[simp] theorem arbitrate_outside : (arbitrate s).outsideBudget = s.outsideBudget := by simp [arbitrate]

@[simp] theorem shedOne_outside (i : Fin 128) : (shedOne i s).outsideBudget = s.outsideBudget := by
  unfold shedOne
  dsimp only
  split <;> simp

@[simp] theorem shedLoop_outside (n : Nat) : (shedLoop n s).outsideBudget = s.outsideBudget := by
  induction n generalizing s with
  | zero => rfl
  | succ n ih =>
    unfold shedLoop
    split
    · rfl
    · split
      · rfl
      · rw [ih, shedOne_outside]

@[simp] theorem shedding_outside (c : ShedCause) : (shedding c s).outsideBudget = s.outsideBudget := by
  unfold shedding
  dsimp only
  split <;> simp

@[simp] theorem handOver_outside (c : ShedCause) : (handOver c s).outsideBudget = s.outsideBudget := by simp [handOver]

/-! ### Releases, targets, timers, trips -/

@[simp] theorem release_outside (i : Fin 128) : (release i s).outsideBudget = s.outsideBudget := by simp [release]

@[simp] theorem stepTarget_outside (i : Fin 128) (v : Nat) (m : Bool) :
    (stepTarget i v m s).outsideBudget = s.outsideBudget := by
  unfold stepTarget
  dsimp only
  split
  · split <;> simp
  · split <;> simp

@[simp] theorem lightTargetChange_outside (i : Fin 128) (v : Nat) :
    (lightTargetChange i v s).outsideBudget = s.outsideBudget := by
  unfold lightTargetChange
  dsimp only
  split
  · split <;> simp
  · split
    · simp
    · split <;> simp

@[simp] theorem targetChange_outside (i : Fin 128) (r : Role) (o v : Nat) (m : Bool) :
    (targetChange i r o v m s).outsideBudget = s.outsideBudget := by
  unfold targetChange
  dsimp only
  split
  · rfl
  · split
    · rfl
    · split <;> simp
    · split <;> simp

@[simp] theorem reprotect_outside : (reprotect s).outsideBudget = s.outsideBudget := by simp [reprotect]

@[simp] theorem protectedMinimum_outside (i : Fin 128) (z v : Nat) :
    (protectedMinimum i z v s).outsideBudget = s.outsideBudget := by
  unfold protectedMinimum
  dsimp only
  split
  · rfl
  · split <;> simp

@[simp] theorem minOnExpired_outside (i : Fin 128) : (minOnExpired i s).outsideBudget = s.outsideBudget := by
  unfold minOnExpired
  dsimp only
  split <;> simp

@[simp] theorem minOffExpired_outside (i : Fin 128) : (minOffExpired i s).outsideBudget = s.outsideBudget := by
  simp [minOffExpired]

@[simp] theorem urgencyReached_outside (i : Fin 128) : (urgencyReached i s).outsideBudget = s.outsideBudget := by
  unfold urgencyReached
  split
  · split <;> simp
  · rfl

@[simp] theorem trip_outside (i : Fin 128) : (trip i s).outsideBudget = s.outsideBudget := by simp [trip]

@[simp] theorem stopChannel_outside (i : Fin 128) : (stopChannel i s).outsideBudget = s.outsideBudget := by
  unfold stopChannel
  dsimp only
  split
  · rfl
  · simp
  · rw [keepEntry_outside]; split <;> simp

@[simp] theorem budgetStop_outside : (budgetStop s).outsideBudget = s.outsideBudget := by
  unfold budgetStop
  rw [reprotect_outside]
  exact forEach_same (P := State.outsideBudget) (fun i t => stopChannel_outside t i) _ s

@[simp] theorem budgetResume_outside : (budgetResume s).outsideBudget = s.outsideBudget := by
  unfold budgetResume
  rw [reprotect_outside]
  exact forEach_same (P := State.outsideBudget) (fun i t => keepEntry_outside t false i) _ s

@[simp] theorem restartChannel_outside (i : Fin 128) : (restartChannel i s).outsideBudget = s.outsideBudget := by
  simp [restartChannel]

@[simp] theorem budgetRestart_outside : (budgetRestart s).outsideBudget = s.outsideBudget := by
  unfold budgetRestart
  rw [endEvent_outside]
  exact forEach_same (P := State.outsideBudget) (fun i t => restartChannel_outside t i) _ s

/-! ### The meter sample and the other events -/

@[simp] theorem sampleEnergy_outside : (sampleEnergy s).outsideBudget = s.outsideBudget := by
  unfold sampleEnergy
  dsimp only
  split
  · split <;> simp
  · split
    · simp
    · split
      · split <;> simp
      · simp

@[simp] theorem sampleWindow_outside : (sampleWindow s).outsideBudget = s.outsideBudget := by
  unfold sampleWindow
  dsimp only
  split <;> simp

@[simp] theorem meterSample_outside : (meterSample s).outsideBudget = s.outsideBudget := by simp [meterSample]

@[simp] theorem clockSetEvent_outside (v : Nat) : (clockSetEvent v s).outsideBudget = s.outsideBudget := by
  simp [clockSetEvent]

@[simp] theorem profileChanged_outside : (profileChanged s).outsideBudget = s.outsideBudget := by simp [profileChanged]

@[simp] theorem startUpChannel_outside (i : Fin 128) : (startUpChannel i s).outsideBudget = s.outsideBudget := by
  unfold startUpChannel
  dsimp only
  split <;> simp

@[simp] theorem budgetStart_outside : (budgetStart s).outsideBudget = s.outsideBudget := by
  unfold budgetStart
  rw [handOver_outside, figure_outside, ceil_outside, protect_outside]
  exact forEach_same (P := State.outsideBudget) (fun i t => startUpChannel_outside t i) _ s

end Sys2Proof.Machine
end

