-- ==== Sys2Proof/Laws/Allowance.lean ====
section
/-! SUPPORT. What the arbiter never writes: the figures of the allowance, and what each channel is asked for. So a hand-over of figures leaves
them as they were worked out, and P_prot after a protected-minimum event is the protected total (R61 to R63). -/

namespace Sys2Proof.Machine

set_option Elab.async false

variable (s : State)

/-- What the arbiter never writes: the Load Budget Unit but for the step-up serials, the tight flag, the shed condition and the live state
of its channels, and of each channel what it is asked for. -/
def State.unshared (s : State) : LoadBudget × Table (ChannelConfig × Nat × Bool × Bool) 128 :=
  ({ s.budget with channels := blankBudget.channels, lastSerial := 0, tight := false, shed := false },
    s.budget.channels.map Channel.asked)

/-! ### The shared operations -/

/-- A write of a channel that changes nothing it is asked for. -/
theorem putChan_unshared (i : Fin 128) (c : Channel) (h : c.asked = (s.chan i).asked) : (s.putChan i c).unshared = s.unshared := by
  have hc : ({ c with out := c.command } : Channel).asked = look (s.budget.channels.map Channel.asked) i := by
    rw [look_map]; exact h
  simp only [State.unshared, State.putChan_budget, map_upd, hc, upd_look]

@[simp] theorem raise_unshared (k : NoticeKind) (n : Nat) (b : Bytes) : (raise k n b s).unshared = s.unshared := by
  unfold raise; split <;> rfl

@[simp] theorem reportShed_unshared : (reportShed s).unshared = s.unshared := rfl

@[simp] theorem accrue_budget (d : Fin 32) : (accrue d s).budget = s.budget := by
  unfold accrue
  dsimp only
  split
  · rfl
  · split <;> rfl

@[simp] theorem setCurtainRunning_budget (d : Fin 32) (b : Bool) : (setCurtainRunning d b s).budget = s.budget := by
  unfold setCurtainRunning
  split
  · rfl
  · exact accrue_budget s d

/-- The curtain-grant event reaches no part of the Load Budget Unit (R100). -/
@[simp] theorem curtainGrant_budget (i : Fin 128) (g : Nat) : (curtainGrant i g s).budget = s.budget := by
  unfold curtainGrant
  split
  · split
    · split <;> simp
    · rfl
  · rfl

theorem unshared_congr {s t : State} (h : t.budget = s.budget) : t.unshared = s.unshared := by simp only [State.unshared, h]

@[simp] theorem setGranted_unshared (i : Fin 128) (g : Nat) : (setGranted i g s).unshared = s.unshared := by
  unfold setGranted
  dsimp only
  split
  · exact putChan_unshared s i _ rfl
  · exact (unshared_congr (curtainGrant_budget _ i g)).trans (putChan_unshared s i _ rfl)

/-! ### The arbiter -/

@[simp] theorem keepEntry_unshared (m : Bool) (i : Fin 128) : (keepEntry m i s).unshared = s.unshared := by
  unfold keepEntry
  dsimp only
  split
  · split
    · exact putChan_unshared s i _ rfl
    · split
      · exact putChan_unshared s i _ rfl
      · rfl
  · split
    · exact putChan_unshared s i _ rfl
    · rfl

@[simp] theorem takeSerial_unshared (i : Fin 128) : (takeSerial i s).unshared = s.unshared := putChan_unshared _ i _ rfl

@[simp] theorem stepUp_unshared (i : Fin 128) (k : Nat) : (stepUp i k s).unshared = s.unshared := by
  simp only [stepUp, keepEntry_unshared, setGranted_unshared, takeSerial_unshared]
  exact putChan_unshared s i _ rfl

@[simp] theorem lightVisit_unshared (i : Fin 128) : (lightVisit i s).unshared = s.unshared := by
  unfold lightVisit
  dsimp only
  split
  · rfl
  · exact (takeSerial_unshared _ i).trans (putChan_unshared s i _ rfl)

@[simp] theorem visitQueue_unshared (l : List (Fin 128)) : (visitQueue l s).unshared = s.unshared := by
  induction l generalizing s with
  | nil => rfl
  | cons i l ih =>
    unfold visitQueue
    dsimp only
    split
    · exact ih s
    · split
      · exact ih s
      · split
        · rw [ih, stepUp_unshared]
        · split
          · split <;> simp
          · rw [ih]; split <;> simp

@[simp] theorem walk_unshared : (walk s).unshared = s.unshared := by
  unfold walk
  rw [visitQueue_unshared]
  exact forEach_same (P := State.unshared) (fun i t => lightVisit_unshared t i) _ s

@[simp] theorem settleShed_unshared : (settleShed s).unshared = s.unshared := by
  unfold settleShed; split <;> rfl

@[simp] theorem settleTight_unshared : (settleTight s).unshared = s.unshared := by
  unfold settleTight
  dsimp only
  split
  · rfl
  · exact raise_unshared _ _ _ _

@[simp] theorem arbitrate_unshared : (arbitrate s).unshared = s.unshared := by simp [arbitrate, endEvent]

@[simp] theorem shedOne_unshared (i : Fin 128) : (shedOne i s).unshared = s.unshared := by
  unfold shedOne
  dsimp only
  split
  · simp
  · rw [keepEntry_unshared, setGranted_unshared]; exact putChan_unshared s i _ rfl

@[simp] theorem shedLoop_unshared (n : Nat) : (shedLoop n s).unshared = s.unshared := by
  induction n generalizing s with
  | zero => rfl
  | succ n ih =>
    unfold shedLoop
    split
    · rfl
    · split
      · rfl
      · rw [ih, shedOne_unshared]

@[simp] theorem shedding_unshared (c : ShedCause) : (shedding c s).unshared = s.unshared := by
  unfold shedding
  dsimp only
  split
  · rfl
  · exact (reportShed_unshared _).trans ((raise_unshared _ _ _ _).trans (shedLoop_unshared _ _))

/-- Shedding and the walk give and take grants: the figures they work from and what each channel is asked for stand (R63). -/
@[simp] theorem handOver_unshared (c : ShedCause) : (handOver c s).unshared = s.unshared := by simp [handOver]

/-! ### The protected total (R61) -/

/-- The protected total depends on the configurations and the plant-stop state alone. -/
theorem protectedTotal_congr {s t : State} (hc : ∀ i, (t.chan i).cfg = (s.chan i).cfg) (hp : t.stop = s.stop) :
    t.protectedTotal = s.protectedTotal :=
  sumTable_congr fun i => by
    have h : (look t.budget.channels i).cfg = (look s.budget.channels i).cfg := hc i
    simp only [Channel.protPart, h, hp]

theorem chan_cfg_of_unshared {s t : State} (h : t.unshared = s.unshared) (i : Fin 128) : (t.chan i).cfg = (s.chan i).cfg := by
  have := congrArg (fun p => (look p.2 i).1) h
  simp only [State.unshared, look_map] at this
  exact this

theorem figures_of_unshared {s t : State} (h : t.unshared = s.unshared) :
    t.budget.pProt = s.budget.pProt ∧ t.budget.shareable = s.budget.shareable ∧ t.budget.reserve = s.budget.reserve
      ∧ t.budget.pool = s.budget.pool := by
  simp only [State.unshared, Prod.mk.injEq, LoadBudget.mk.injEq] at h
  simp only [h, and_self]

theorem stop_of_outside {s t : State} (h : t.outsideBudget = s.outsideBudget) : t.stop = s.stop := congrArg (·.stop) h

theorem protectedTotal_of_unshared {s t : State} (h : t.unshared = s.unshared) (hp : t.stop = s.stop) :
    t.protectedTotal = s.protectedTotal := protectedTotal_congr (chan_cfg_of_unshared h) hp

/-- C′, the reserves and the pool as R62 works them out from P_prot as R61 does. -/
theorem figure_protect :
    (figure (protect s)).budget.pProt = s.protectedTotal
      ∧ (figure (protect s)).budget.shareable = s.budget.managed - s.protectedTotal
      ∧ (∀ k, (figure (protect s)).budget.reserve.get k
          = (s.budget.managed - s.protectedTotal) * s.profile.share.get k / 1000)
      ∧ (figure (protect s)).budget.pool
          = (s.budget.managed - s.protectedTotal) - (figure (protect s)).budget.reserve.sum :=
  ⟨rfl, rfl, fun k => by cases k <;> rfl, rfl⟩

/-- What a recomputation of P_prot between samples leaves, whatever the arbiter then does: P_prot is the protected total, and C′, the
reserves and the pool follow from it and the C last worked out (R61 to R63). -/
theorem reprotect_reprotects : s.reprotects (reprotect s) := by
  have hb : (reprotect s).unshared = (figure (protect s)).unshared := handOver_unshared _ _
  obtain ⟨hp, hs, hr, hl⟩ := figures_of_unshared hb
  obtain ⟨fp, fs, fr, fl⟩ := figure_protect s
  have ht : (reprotect s).protectedTotal = s.protectedTotal :=
    (protectedTotal_of_unshared hb (stop_of_outside (handOver_outside _ _))).trans (protectedTotal_congr (fun _ => rfl) rfl)
  refine ⟨hp.trans (fp.trans ht.symm), ?_, fun k => ?_, ?_⟩
  · rw [hs, fs, hp, fp]
  · rw [hr, hs, fs, fr]
  · rw [hl, hs, hr, fl, fs]

/-- What a protected-minimum event can do: nothing when it is not taken, or when it brings the minimum held and P_prot comes out as it
stands; otherwise the minimum is stored, the protected part is granted, and the allowance is worked out afresh (R40, R47, R61). -/
theorem protectedMinimum_cases (i : Fin 128) (z v : Nat) :
    ((s.chan i).boundTo .light z = false ∧ protectedMinimum i z v s = s)
      ∨ (v = (s.chan i).cfg.protMin ∧ s.protectedTotal = s.budget.pProt ∧ protectedMinimum i z v s = s)
      ∨ ((s.chan i).boundTo .light z = true ∧ ∃ c : Channel, c.cfg = { (s.chan i).cfg with protMin := v }
          ∧ c.granted = max (s.chan i).granted (c.protPart s.stop.state)
          ∧ protectedMinimum i z v s = reprotect (s.putChan i c)) := by
  unfold protectedMinimum
  dsimp only
  split
  · next h => exact .inl ⟨by simpa using h, rfl⟩
  · next h =>
    split
    · next hv =>
      refine .inr (.inl ⟨hv.1, ?_, rfl⟩)
      rw [← hv.2]
      refine protectedTotal_congr (fun j => ?_) rfl
      rw [chan_putChan]
      split
      · next hj => subst hj; simp [hv.1]
      · rfl
    · exact .inr (.inr ⟨by simpa using h, _, rfl, rfl, rfl⟩)

/-- P_prot is the protected total after every protected-minimum event that is taken, whatever it was before (R61). -/
theorem protectedMinimum_pProt (i : Fin 128) (z v : Nat) (h : (s.chan i).boundTo .light z = true) :
    (protectedMinimum i z v s).budget.pProt = (protectedMinimum i z v s).protectedTotal := by
  rcases protectedMinimum_cases s i z v with ⟨hn, -⟩ | ⟨-, hp, he⟩ | ⟨-, c, -, -, he⟩
  · simp [h] at hn
  · rw [he, hp]
  · rw [he]; exact (reprotect_reprotects _).1

end Sys2Proof.Machine
end

