-- ==== Sys2Proof/Laws/Units.lean ====
section
/-! SUPPORT. What the operations of the Dock Supervisor, the Climate Unit and the Lighting Unit leave alone: everything outside the unit, the
Load Budget Unit, the phase totals and the notice queue. -/

namespace Sys2Proof.Machine

set_option Elab.async false

variable (s : State)

/-! ### From one view to another -/

theorem outsideDock_of {s t : State} (h : t.outsideBudget = s.outsideBudget) : t.outsideDock = s.outsideDock := by
  simp only [State.outsideDock, h]

theorem outsideClimate_of {s t : State} (h : t.outsideBudget = s.outsideBudget) : t.outsideClimate = s.outsideClimate := by
  simp only [State.outsideClimate, h]

theorem outsideLighting_of {s t : State} (h : t.outsideBudget = s.outsideBudget) : t.outsideLighting = s.outsideLighting := by
  simp only [State.outsideLighting, h]

/-! ### Dock Supervisor -/

@[simp] theorem setDock_outsideDock (k : Dock) : (s.setDock k).outsideDock = s.outsideDock := rfl
@[simp] theorem putDoor_outsideDock (d : Fin 32) (x : Door) : (s.putDoor d x).outsideDock = s.outsideDock := rfl

@[simp] theorem raise_outsideDock (k : NoticeKind) (n : Nat) (b : Bytes) : (raise k n b s).outsideDock = s.outsideDock :=
  outsideDock_of (raise_outside s k n b)

@[simp] theorem accrue_outsideDock (d : Fin 32) : (accrue d s).outsideDock = s.outsideDock :=
  outsideDock_of (accrue_outside s d)

@[simp] theorem refreshRate_outsideDock (d : Fin 32) : (refreshRate d s).outsideDock = s.outsideDock :=
  outsideDock_of (refreshRate_outside s d)

@[simp] theorem setCurtainRunning_outsideDock (d : Fin 32) (b : Bool) :
    (setCurtainRunning d b s).outsideDock = s.outsideDock := outsideDock_of (setCurtainRunning_outside s d b)

@[simp] theorem targetChange_outsideDock (i : Fin 128) (r : Role) (o v : Nat) (m : Bool) :
    (targetChange i r o v m s).outsideDock = s.outsideDock := outsideDock_of (targetChange_outside s i r o v m)

@[simp] theorem reportCycle_outsideDock : (reportCycle s).outsideDock = s.outsideDock := rfl
@[simp] theorem reportHeld_outsideDock : (reportHeld s).outsideDock = s.outsideDock := rfl

@[simp] theorem openSession_outsideDock (d : Fin 32) : (openSession d s).outsideDock = s.outsideDock := rfl

@[simp] theorem offerSession_outsideDock (r : SessionRecord) : (offerSession r s).outsideDock = s.outsideDock := by
  unfold offerSession
  split
  · rfl
  · dsimp only
    split <;> simp

@[simp] theorem closeSession_outsideDock (d : Fin 32) (r : EndReason) : (closeSession d r s).outsideDock = s.outsideDock := by
  unfold closeSession
  split
  · rfl
  · simp

@[simp] theorem sendLight_outsideDock (d : Fin 32) : (sendLight d s).outsideDock = s.outsideDock := by
  unfold sendLight
  dsimp only
  split
  · rfl
  · split <;> simp

@[simp] theorem sendCurtain_outsideDock (d : Fin 32) : (sendCurtain d s).outsideDock = s.outsideDock := by
  unfold sendCurtain
  dsimp only
  split
  · rfl
  · split <;> simp

@[simp] theorem sendDoorTargets_outsideDock (d : Fin 32) : (sendDoorTargets d s).outsideDock = s.outsideDock := by
  simp [sendDoorTargets]

@[simp] theorem dockPlantChange_outsideDock : (dockPlantChange s).outsideDock = s.outsideDock :=
  forEach_same (P := State.outsideDock) (fun d t => sendDoorTargets_outsideDock t d) _ s

@[simp] theorem enterState_outsideDock (d : Fin 32) (x : DoorState) (r : EndReason) :
    (enterState d x r s).outsideDock = s.outsideDock := by
  unfold enterState
  dsimp only
  rw [refreshRate_outsideDock]
  have h : ∀ b : Bool, (if b then accrue d s else closeSession d r (accrue d s)).outsideDock = s.outsideDock := by
    intro b; cases b <;> simp
  split <;> simp [h]

@[simp] theorem countCycle_outsideDock (d : Fin 32) : (countCycle d s).outsideDock = s.outsideDock := rfl

@[simp] theorem moveDoor_outsideDock (d : Fin 32) (x : DoorState) : (moveDoor d x s).outsideDock = s.outsideDock := by
  unfold moveDoor
  dsimp only
  split <;> simp

@[simp] theorem trailerNotice_outsideDock (d : Fin 32) (a : Bool) (c : Option Nat) :
    (trailerNotice d a c s).outsideDock = s.outsideDock := by
  unfold trailerNotice
  split <;> simp

@[simp] theorem takeRaw_outsideDock (d : Fin 32) (i : DoorInput) : (takeRaw d i s).outsideDock = s.outsideDock := by
  unfold takeRaw
  split <;> simp

@[simp] theorem debounceExpired_outsideDock (d : Fin 32) (i : DoorInput) :
    (debounceExpired d i s).outsideDock = s.outsideDock := by
  unfold debounceExpired
  dsimp only
  split
  · simp
  · simp
  · split <;> simp
  · split
    · simp
    · rw [sendDoorTargets_outsideDock]; split <;> simp

@[simp] theorem heldExpired_outsideDock (d : Fin 32) : (heldExpired d s).outsideDock = s.outsideDock := by
  simp [heldExpired]

@[simp] theorem startDebounce_outsideDock (d : Fin 32) : (startDebounce d s).outsideDock = s.outsideDock := rfl

@[simp] theorem zoneDTEvent_outsideDock (z : Fin 12) (v : Nat) : (zoneDTEvent z v s).outsideDock = s.outsideDock := by
  unfold zoneDTEvent
  dsimp only
  rw [forEach_same (P := State.outsideDock) (fun d t => refreshRate_outsideDock t d), setDock_outsideDock,
    forEach_same (P := State.outsideDock) (fun d t => accrue_outsideDock t d)]

@[simp] theorem beginCheck_outsideDock : (beginCheck s).outsideDock = s.outsideDock := by
  unfold beginCheck
  dsimp only
  rw [forEach_same (P := State.outsideDock) (fun d t => putDoor_outsideDock t d _), setDock_outsideDock]

@[simp] theorem endCheckAt_outsideDock (k : ContactCheck) (d : Fin 32) : (endCheckAt k d s).outsideDock = s.outsideDock := by
  unfold endCheckAt
  dsimp only
  split
  · split <;> simp
  · rw [startDebounce_outsideDock]; split <;> simp

@[simp] theorem endCheck_outsideDock (k : ContactCheck) (e : CheckEnding) : (endCheck k e s).outsideDock = s.outsideDock := by
  unfold endCheck
  dsimp only
  rw [raise_outsideDock, forEach_same (P := State.outsideDock) (fun d t => endCheckAt_outsideDock t k d), setDock_outsideDock]

@[simp] theorem restartDoor_outsideDock (d : Fin 32) : (restartDoor d s).outsideDock = s.outsideDock := by
  simp [restartDoor]

@[simp] theorem dockRestart_outsideDock : (dockRestart s).outsideDock = s.outsideDock := by
  unfold dockRestart
  dsimp only
  rw [forEach_same (P := State.outsideDock) (fun d t => restartDoor_outsideDock t d)]
  split <;> simp

@[simp] theorem enablingChange_outsideDock (d : Fin 32) (a b : Bool) :
    (enablingChange d a b s).outsideDock = s.outsideDock := by
  unfold enablingChange
  split <;> simp

@[simp] theorem releaseOld_outsideDock (o : Option (Fin 128)) (r : Role) (d : Fin 32) :
    (releaseOld o r d s).outsideDock = s.outsideDock := by
  unfold releaseOld
  split <;> simp

@[simp] theorem offerCurtain_outsideDock (d : Fin 32) : (offerCurtain d s).outsideDock = s.outsideDock := by
  unfold offerCurtain
  dsimp only
  split <;> simp

@[simp] theorem offerLight_outsideDock (d : Fin 32) : (offerLight d s).outsideDock = s.outsideDock := by
  unfold offerLight
  dsimp only
  split <;> simp

@[simp] theorem changeCurtain_outsideDock (d : Fin 32) (o : Option (Fin 128)) :
    (changeCurtain d o s).outsideDock = s.outsideDock := by
  unfold changeCurtain
  dsimp only
  split <;> simp

@[simp] theorem changeLight_outsideDock (d : Fin 32) (o : Option (Fin 128)) :
    (changeLight d o s).outsideDock = s.outsideDock := by
  unfold changeLight
  split <;> simp

@[simp] theorem configureDoor_outsideDock (d : Fin 32) (n : DoorConfig) : (configureDoor d n s).outsideDock = s.outsideDock := by
  simp [configureDoor]

/-! ### Climate Unit -/

@[simp] theorem setClimate_outsideClimate (c : Climate) : (s.setClimate c).outsideClimate = s.outsideClimate := rfl
@[simp] theorem putZone_outsideClimate (z : Fin 12) (x : Zone) : (s.putZone z x).outsideClimate = s.outsideClimate := rfl
@[simp] theorem draw_outsideClimate : s.draw.outsideClimate = s.outsideClimate := rfl

@[simp] theorem raise_outsideClimate (k : NoticeKind) (n : Nat) (b : Bytes) :
    (raise k n b s).outsideClimate = s.outsideClimate := outsideClimate_of (raise_outside s k n b)

@[simp] theorem targetChange_outsideClimate (i : Fin 128) (r : Role) (o v : Nat) (m : Bool) :
    (targetChange i r o v m s).outsideClimate = s.outsideClimate := outsideClimate_of (targetChange_outside s i r o v m)

@[simp] theorem zoneDTEvent_outsideClimate (z : Fin 12) (v : Nat) : (zoneDTEvent z v s).outsideClimate = s.outsideClimate := by
  unfold zoneDTEvent
  dsimp only
  rw [forEach_same (P := State.outsideClimate) (fun d t => outsideClimate_of (refreshRate_outside t d))]
  rw [show ∀ (u : State) (x : Table Nat 12), (u.setDock { u.dock with zoneDT := x }).outsideClimate = u.outsideClimate from
    fun _ _ => rfl]
  exact forEach_same (P := State.outsideClimate) (fun d t => outsideClimate_of (accrue_outside t d)) _ s

@[simp] theorem sampleNotice_outsideClimate (a b : SensorPoint) (n : Nat) :
    (sampleNotice a b n s).outsideClimate = s.outsideClimate := by
  unfold sampleNotice
  split <;> simp

@[simp] theorem sendHeater_outsideClimate (z : Fin 12) (v : Nat) : (sendHeater z v s).outsideClimate = s.outsideClimate := by
  unfold sendHeater
  dsimp only
  split
  · rfl
  · split
    · split <;> simp
    · simp

@[simp] theorem sendFan_outsideClimate (z : Fin 12) (v : Nat) : (sendFan z v s).outsideClimate = s.outsideClimate := by
  unfold sendFan
  dsimp only
  split
  · rfl
  · split
    · split <;> simp
    · simp

@[simp] theorem setVent_outsideClimate (z : Fin 12) (v : VentState) : (setVent z v s).outsideClimate = s.outsideClimate := by
  unfold setVent
  dsimp only
  split
  · simp
  · split <;> simp

@[simp] theorem ventilate_outsideClimate (z : Fin 12) : (ventilate z s).outsideClimate = s.outsideClimate := by
  simp [ventilate]

@[simp] theorem heat_outsideClimate (z : Fin 12) : (heat z s).outsideClimate = s.outsideClimate := by simp [heat]

@[simp] theorem evaluate_outsideClimate (z : Fin 12) : (evaluate z s).outsideClimate = s.outsideClimate := by simp [evaluate]

@[simp] theorem evaluationExpired_outsideClimate (z : Fin 12) :
    (evaluationExpired z s).outsideClimate = s.outsideClimate := by simp [evaluationExpired]

@[simp] theorem stopZone_outsideClimate (z : Fin 12) : (stopZone z s).outsideClimate = s.outsideClimate := by simp [stopZone]

@[simp] theorem climateStop_outsideClimate : (climateStop s).outsideClimate = s.outsideClimate :=
  forEach_same (P := State.outsideClimate) (fun z t => stopZone_outsideClimate t z) _ s

@[simp] theorem climateResume_outsideClimate : (climateResume s).outsideClimate = s.outsideClimate :=
  forEach_same (P := State.outsideClimate) (fun z t => evaluate_outsideClimate t z) _ s

@[simp] theorem climateRestart_outsideClimate : (climateRestart s).outsideClimate = s.outsideClimate := rfl

@[simp] theorem changeHeater_outsideClimate (z : Fin 12) (n : Option (Fin 128)) :
    (changeHeater z n s).outsideClimate = s.outsideClimate := by
  unfold changeHeater
  dsimp only
  split
  · rfl
  · rw [putZone_outsideClimate]; split <;> simp

@[simp] theorem changeFan_outsideClimate (z : Fin 12) (n : Option (Fin 128)) :
    (changeFan z n s).outsideClimate = s.outsideClimate := by
  unfold changeFan
  dsimp only
  split
  · rfl
  · rw [putZone_outsideClimate]; split <;> simp

@[simp] theorem configureZone_outsideClimate (z : Fin 12) (n : ZoneConfig) :
    (configureZone z n s).outsideClimate = s.outsideClimate := by simp [configureZone]

@[simp] theorem configurePoints_outsideClimate (n : PointConfig) : (configurePoints n s).outsideClimate = s.outsideClimate := by
  rw [configurePoints, setClimate_outsideClimate]

/-! ### Lighting Unit -/

@[simp] theorem setLighting_outsideLighting (l : Lighting) : (s.setLighting l).outsideLighting = s.outsideLighting := rfl
@[simp] theorem putLight_outsideLighting (z : Fin 24) (x : LightZone) :
    (s.putLight z x).outsideLighting = s.outsideLighting := rfl

@[simp] theorem raise_outsideLighting (k : NoticeKind) (n : Nat) (b : Bytes) :
    (raise k n b s).outsideLighting = s.outsideLighting := outsideLighting_of (raise_outside s k n b)

@[simp] theorem targetChange_outsideLighting (i : Fin 128) (r : Role) (o v : Nat) (m : Bool) :
    (targetChange i r o v m s).outsideLighting = s.outsideLighting := outsideLighting_of (targetChange_outside s i r o v m)

@[simp] theorem protectedMinimum_outsideLighting (i : Fin 128) (z v : Nat) :
    (protectedMinimum i z v s).outsideLighting = s.outsideLighting := outsideLighting_of (protectedMinimum_outside s i z v)

@[simp] theorem deriveLight_outsideLighting (z : Fin 24) : (deriveLight z s).outsideLighting = s.outsideLighting := by
  unfold deriveLight
  dsimp only
  split
  · simp
  · split <;> simp

@[simp] theorem deriveLights_outsideLighting : (deriveLights s).outsideLighting = s.outsideLighting :=
  forEach_same (P := State.outsideLighting) (fun z t => deriveLight_outsideLighting t z) _ s

@[simp] theorem pulse_outsideLighting (z : Fin 24) : (pulse z s).outsideLighting = s.outsideLighting := by
  unfold pulse
  dsimp only
  split
  · rfl
  · split <;> simp

@[simp] theorem presenceExpired_outsideLighting (z : Fin 24) : (presenceExpired z s).outsideLighting = s.outsideLighting := by
  simp [presenceExpired]

@[simp] theorem lightingTurn_outsideLighting : (lightingTurn s).outsideLighting = s.outsideLighting := by
  unfold lightingTurn
  dsimp only
  rw [deriveLights_outsideLighting, setLighting_outsideLighting]
  exact forEach_same (P := State.outsideLighting) (fun z t => putLight_outsideLighting t z _) _ s

@[simp] theorem markWalkEnded_outsideLighting (e : WalkEnding) : (markWalkEnded e s).outsideLighting = s.outsideLighting := by
  simp [markWalkEnded]

@[simp] theorem endWalk_outsideLighting (e : WalkEnding) : (endWalk e s).outsideLighting = s.outsideLighting := by
  simp [endWalk]

@[simp] theorem beginVisit_outsideLighting (n : Nat) (z : Fin 24) (r : List (Fin 24)) (b : Nat) :
    (beginVisit n z r b s).outsideLighting = s.outsideLighting := by simp [beginVisit]

@[simp] theorem startWalk_outsideLighting (n : Nat) (l : List (Fin 24)) :
    (startWalk n l s).outsideLighting = s.outsideLighting := by
  unfold startWalk
  dsimp only
  split <;> simp

@[simp] theorem dwellExpired_outsideLighting (w : LightWalk) : (dwellExpired w s).outsideLighting = s.outsideLighting := by
  unfold dwellExpired
  dsimp only
  split <;> simp

@[simp] theorem lightingStop_outsideLighting : (lightingStop s).outsideLighting = s.outsideLighting := by
  unfold lightingStop
  split <;> simp

@[simp] theorem lightingRestart_outsideLighting : (lightingRestart s).outsideLighting = s.outsideLighting := by
  unfold lightingRestart
  dsimp only
  rw [deriveLights_outsideLighting, setLighting_outsideLighting]
  split <;> simp

@[simp] theorem sendProtected_outsideLighting (z : Fin 24) : (sendProtected z s).outsideLighting = s.outsideLighting := by
  unfold sendProtected
  split <;> simp

@[simp] theorem lightingStart_outsideLighting : (lightingStart s).outsideLighting = s.outsideLighting := by
  unfold lightingStart
  dsimp only
  rw [deriveLights_outsideLighting, forEach_same (P := State.outsideLighting) (fun z t => sendProtected_outsideLighting t z),
    setLighting_outsideLighting]
  exact forEach_same (P := State.outsideLighting) (fun z t => putLight_outsideLighting t z _) _ s

@[simp] theorem releaseLight_outsideLighting (z : Fin 24) (n : Option (Fin 128)) :
    (releaseLight z n s).outsideLighting = s.outsideLighting := by
  unfold releaseLight
  split
  · split <;> simp
  · rfl

@[simp] theorem configureLight_outsideLighting (z : Fin 24) (n : LightConfig) :
    (configureLight z n s).outsideLighting = s.outsideLighting := by simp [configureLight]

end Sys2Proof.Machine
end

