-- ==== Sys2Proof/Laws/Closed.lean ====
section
/-! SUPPORT. What each operation can do, said once: it is made of a few kinds of small updates. A property that those updates keep is kept by
every operation of the Load Budget Unit (BudgetClosed), or by every operation of the three role units (UnitClosed). -/

namespace Sys2Proof.Machine

set_option Elab.async false

variable {I : State → Prop} {s : State}

/-- The property survives the updates that the operations of the Load Budget Unit are made of. -/
structure BudgetClosed (I : State → Prop) : Prop where
  budget : ∀ s b, I s → I (s.setBudget b)
  notice : ∀ k n b s, I s → I (raise k n b s)
  shed : ∀ s, I s → I (reportShed s)
  curtain : ∀ d v s, I s → I (setCurtainRunning d v s)

/-! ### The shared operations -/

theorem BudgetClosed.putChan (c : BudgetClosed I) (i : Fin 128) (x : Channel) (h : I s) : I (s.putChan i x) := c.budget s _ h

theorem BudgetClosed.curtainGrant (c : BudgetClosed I) (i : Fin 128) (g : Nat) (h : I s) : I (curtainGrant i g s) := by
  unfold Machine.curtainGrant
  split
  · split
    · split
      · exact c.curtain _ _ _ h
      · exact h
    · exact h
  · exact h

theorem BudgetClosed.setGranted (c : BudgetClosed I) (i : Fin 128) (g : Nat) (h : I s) : I (setGranted i g s) := by
  unfold Machine.setGranted
  dsimp only
  split
  · exact c.putChan i _ h
  · exact c.curtainGrant i g (c.putChan i _ h)

/-! ### The arbiter -/

theorem BudgetClosed.keepEntry (c : BudgetClosed I) (m : Bool) (i : Fin 128) (h : I s) : I (keepEntry m i s) := by
  unfold Machine.keepEntry
  dsimp only
  split
  · split
    · exact c.putChan i _ h
    · split
      · exact c.putChan i _ h
      · exact h
  · split
    · exact c.putChan i _ h
    · exact h

theorem BudgetClosed.remeasureUrgency (c : BudgetClosed I) (h : I s) : I (remeasureUrgency s) := by
  refine forEach_keeps (fun i t ht => ?_) _ s h
  split
  · split
    · exact c.putChan i _ ht
    · exact ht
  · exact ht

theorem BudgetClosed.takeSerial (c : BudgetClosed I) (i : Fin 128) (h : I s) : I (takeSerial i s) :=
  c.putChan i _ (c.budget s _ h)

theorem BudgetClosed.stepUp (c : BudgetClosed I) (i : Fin 128) (k : Nat) (h : I s) : I (stepUp i k s) :=
  c.keepEntry false i (c.setGranted i _ (c.takeSerial i (c.putChan i _ h)))

theorem BudgetClosed.lightVisit (c : BudgetClosed I) (i : Fin 128) (h : I s) : I (lightVisit i s) := by
  unfold Machine.lightVisit
  dsimp only
  split
  · exact h
  · exact c.takeSerial i (c.putChan i _ h)

theorem BudgetClosed.visitQueue (c : BudgetClosed I) (l : List (Fin 128)) (h : I s) : I (visitQueue l s) := by
  induction l generalizing s with
  | nil => exact h
  | cons i l ih =>
    unfold Machine.visitQueue
    dsimp only
    split
    · exact ih h
    · split
      · exact ih h
      · split
        · exact ih (c.stepUp i _ h)
        · split
          · split
            · exact c.stepUp i _ h
            · exact h
          · split
            · exact ih (c.stepUp i _ h)
            · exact ih h

theorem BudgetClosed.walk (c : BudgetClosed I) (h : I s) : I (walk s) :=
  c.visitQueue _ (forEach_keeps (fun i _ ht => c.lightVisit i ht) _ s h)

theorem BudgetClosed.settleShed (c : BudgetClosed I) (h : I s) : I (settleShed s) := by
  unfold Machine.settleShed
  split
  · exact c.budget s _ h
  · exact h

theorem BudgetClosed.settleTight (c : BudgetClosed I) (h : I s) : I (settleTight s) := by
  unfold Machine.settleTight
  dsimp only
  split
  · exact h
  · exact c.notice _ _ _ _ (c.budget s _ h)

theorem BudgetClosed.endEvent (c : BudgetClosed I) (h : I s) : I (endEvent s) := c.settleTight (c.settleShed h)

theorem BudgetClosed.arbitrate (c : BudgetClosed I) (h : I s) : I (arbitrate s) := c.endEvent (c.walk h)

theorem BudgetClosed.shedOne (c : BudgetClosed I) (i : Fin 128) (h : I s) : I (shedOne i s) := by
  unfold Machine.shedOne
  dsimp only
  split
  · exact c.setGranted i _ h
  · exact c.keepEntry false i (c.setGranted i _ (c.putChan i _ h))

theorem BudgetClosed.shedLoop (c : BudgetClosed I) (n : Nat) (h : I s) : I (shedLoop n s) := by
  induction n generalizing s with
  | zero => exact h
  | succ n ih =>
    unfold Machine.shedLoop
    split
    · exact h
    · split
      · exact h
      · exact ih (c.shedOne _ h)

theorem BudgetClosed.shedding (c : BudgetClosed I) (k : ShedCause) (h : I s) : I (shedding k s) := by
  unfold Machine.shedding
  dsimp only
  split
  · exact h
  · exact c.budget _ _ (c.shed _ (c.notice _ _ _ _ (c.shedLoop _ h)))

theorem BudgetClosed.handOver (c : BudgetClosed I) (k : ShedCause) (h : I s) : I (handOver k s) :=
  c.arbitrate (c.shedding k h)

/-! ### Releases, targets, timers, trips -/

theorem BudgetClosed.release (c : BudgetClosed I) (i : Fin 128) (h : I s) : I (release i s) :=
  c.arbitrate (c.keepEntry false i (c.setGranted i _ (c.putChan i _ h)))

theorem BudgetClosed.stepTarget (c : BudgetClosed I) (i : Fin 128) (v : Nat) (m : Bool) (h : I s) : I (stepTarget i v m s) := by
  have h' := fun b => c.keepEntry b i (c.putChan i { s.chan i with target := v } h)
  unfold Machine.stepTarget
  dsimp only
  split
  · split
    · exact c.release i (h' _)
    · exact c.settleShed (h' _)
  · split
    · exact c.arbitrate (h' _)
    · exact c.settleShed (h' _)

theorem BudgetClosed.lightTargetChange (c : BudgetClosed I) (i : Fin 128) (v : Nat) (h : I s) :
    I (lightTargetChange i v s) := by
  have h' := c.putChan i { s.chan i with target := v } h
  unfold Machine.lightTargetChange
  dsimp only
  split
  · split
    · exact c.arbitrate h'
    · exact c.settleShed h'
  · split
    · exact c.arbitrate (c.setGranted i _ h')
    · split
      · exact c.arbitrate h'
      · exact c.settleShed h'

theorem BudgetClosed.targetChange (c : BudgetClosed I) (i : Fin 128) (r : Role) (o v : Nat) (m : Bool) (h : I s) :
    I (targetChange i r o v m s) := by
  unfold Machine.targetChange
  dsimp only
  split
  · exact h
  · split
    · exact h
    · split
      · exact h
      · exact c.lightTargetChange i v h
    · split
      · exact h
      · exact c.stepTarget i _ m h

theorem BudgetClosed.reprotect (c : BudgetClosed I) (h : I s) : I (reprotect s) :=
  c.handOver _ (c.budget _ _ (c.budget s _ h))

theorem BudgetClosed.protectedMinimum (c : BudgetClosed I) (i : Fin 128) (z v : Nat) (h : I s) :
    I (protectedMinimum i z v s) := by
  unfold Machine.protectedMinimum
  dsimp only
  split
  · exact h
  · split
    · exact h
    · exact c.reprotect (c.putChan i _ h)

theorem BudgetClosed.minOnExpired (c : BudgetClosed I) (i : Fin 128) (h : I s) : I (minOnExpired i s) := by
  unfold Machine.minOnExpired
  dsimp only
  split
  · exact c.release i (c.putChan i _ h)
  · exact c.putChan i _ h

theorem BudgetClosed.minOffExpired (c : BudgetClosed I) (i : Fin 128) (h : I s) : I (minOffExpired i s) :=
  c.arbitrate (c.putChan i _ h)

theorem BudgetClosed.urgencyReached (c : BudgetClosed I) (i : Fin 128) (h : I s) : I (urgencyReached i s) := by
  unfold Machine.urgencyReached
  split
  · split
    · exact c.arbitrate (c.putChan i _ h)
    · exact h
  · exact h

theorem BudgetClosed.trip (c : BudgetClosed I) (i : Fin 128) (h : I s) : I (trip i s) :=
  c.arbitrate (c.notice _ _ _ _ (c.setGranted i 0 (c.putChan i _ h)))

theorem BudgetClosed.tripIfAsserted (c : BudgetClosed I) (i : Fin 128) (h : I s) : I (tripIfAsserted i s) := by
  unfold Machine.tripIfAsserted
  split
  · exact c.trip i h
  · exact h

theorem BudgetClosed.acknowledge (c : BudgetClosed I) (i : Fin 128) (h : I s) : I (acknowledge i s) :=
  c.arbitrate (c.keepEntry false i (c.putChan i _ h))

theorem BudgetClosed.stopChannel (c : BudgetClosed I) (i : Fin 128) (h : I s) : I (stopChannel i s) := by
  unfold Machine.stopChannel
  dsimp only
  split
  · exact h
  · exact c.putChan i _ h
  · refine c.keepEntry false i ?_
    split
    · exact c.setGranted i 0 (c.putChan i _ h)
    · exact h

theorem BudgetClosed.budgetStop (c : BudgetClosed I) (h : I s) : I (budgetStop s) :=
  c.reprotect (forEach_keeps (fun i _ ht => c.stopChannel i ht) _ s h)

theorem BudgetClosed.budgetResume (c : BudgetClosed I) (h : I s) : I (budgetResume s) :=
  c.reprotect (forEach_keeps (fun i _ ht => c.keepEntry false i ht) _ s h)

theorem BudgetClosed.restartChannel (c : BudgetClosed I) (i : Fin 128) (h : I s) : I (restartChannel i s) :=
  c.setGranted i _ (c.putChan i _ h)

theorem BudgetClosed.budgetRestart (c : BudgetClosed I) (h : I s) : I (budgetRestart s) :=
  c.endEvent (forEach_keeps (fun i _ ht => c.restartChannel i ht) _ s h)

/-! ### The meter sample and the other events -/

theorem BudgetClosed.sampleEnergy (c : BudgetClosed I) (h : I s) : I (sampleEnergy s) := by
  unfold Machine.sampleEnergy
  dsimp only
  split
  · split
    · exact c.notice _ _ _ _ (c.budget s _ h)
    · exact c.budget s _ h
  · split
    · exact c.budget s _ h
    · split
      · split
        · exact c.notice _ _ _ _ (c.budget s _ h)
        · exact c.budget s _ h
      · exact c.budget s _ h

theorem BudgetClosed.sampleWindow (c : BudgetClosed I) (h : I s) : I (sampleWindow s) := by
  unfold Machine.sampleWindow
  dsimp only
  split
  · exact c.budget s _ h
  · exact c.budget s _ h

theorem BudgetClosed.figure (c : BudgetClosed I) (h : I s) : I (figure s) := c.budget s _ h
theorem BudgetClosed.ceil (c : BudgetClosed I) (h : I s) : I (ceil s) := c.budget s _ h
theorem BudgetClosed.protect (c : BudgetClosed I) (h : I s) : I (protect s) := c.budget s _ h

theorem BudgetClosed.meterSample (c : BudgetClosed I) (h : I s) : I (meterSample s) :=
  c.handOver _ (c.figure (c.protect (c.ceil (c.sampleWindow (c.sampleEnergy (c.budget s _ h))))))

theorem BudgetClosed.clockSetEvent (c : BudgetClosed I) (v : Nat) (h : I s) : I (clockSetEvent v s) :=
  c.handOver _ (c.figure (c.ceil (c.budget s _ h)))

theorem BudgetClosed.profileChanged (c : BudgetClosed I) (h : I s) : I (profileChanged s) :=
  c.handOver _ (c.remeasureUrgency (c.figure h))

theorem BudgetClosed.startUpChannel (c : BudgetClosed I) (i : Fin 128) (h : I s) : I (startUpChannel i s) := by
  unfold Machine.startUpChannel
  dsimp only
  split
  · exact c.notice _ _ _ _ (c.putChan i _ h)
  · exact c.putChan i _ h

theorem BudgetClosed.budgetStart (c : BudgetClosed I) (h : I s) : I (budgetStart s) :=
  c.handOver _ (c.figure (c.ceil (c.protect (forEach_keeps (fun i _ ht => c.startUpChannel i ht) _ s h))))

theorem BudgetClosed.bringToZero (c : BudgetClosed I) (i : Fin 128) (h : I s) : I (bringToZero i s) :=
  c.setGranted i 0 (c.putChan i _ h)

theorem BudgetClosed.applyConfig (c : BudgetClosed I) (i : Fin 128) (w : Channel) (n : ChannelConfig) (h : I s) :
    I (applyConfig i w n s) := c.putChan i _ h

/-! ### The role units and the plan -/

/-- The property survives what the Load Budget Unit does for a role unit and for the plan, and every update of the other units'
state. -/
structure UnitClosed (I : State → Prop) : Prop where
  target : ∀ i r o v m s, I s → I (targetChange i r o v m s)
  minimum : ∀ i z v s, I s → I (protectedMinimum i z v s)
  profile : ∀ s, I s → I (profileChanged s)
  notice : ∀ k n b s, I s → I (raise k n b s)
  dock : ∀ s k, I s → I (s.setDock k)
  climate : ∀ s k, I s → I (s.setClimate k)
  lighting : ∀ s k, I s → I (s.setLighting k)
  plan : ∀ s k, I s → I (s.setPlan k)
  draw : ∀ s, I s → I s.draw

theorem UnitClosed.putDoor (c : UnitClosed I) (d : Fin 32) (x : Door) (h : I s) : I (s.putDoor d x) := c.dock s _ h
theorem UnitClosed.putZone (c : UnitClosed I) (z : Fin 12) (x : Zone) (h : I s) : I (s.putZone z x) := c.climate s _ h
theorem UnitClosed.putLight (c : UnitClosed I) (z : Fin 24) (x : LightZone) (h : I s) : I (s.putLight z x) :=
  c.lighting s _ h

/-! ### Dock Supervisor -/

theorem UnitClosed.accrue (c : UnitClosed I) (d : Fin 32) (h : I s) : I (accrue d s) := by
  unfold Machine.accrue
  dsimp only
  split
  · exact c.putDoor d _ h
  · split
    · exact c.plan _ _ (c.putDoor d _ h)
    · exact c.plan _ _ (c.putDoor d _ h)

theorem UnitClosed.refreshRate (c : UnitClosed I) (d : Fin 32) (h : I s) : I (refreshRate d s) := c.putDoor d _ h

theorem UnitClosed.setCurtainRunning (c : UnitClosed I) (d : Fin 32) (b : Bool) (h : I s) : I (setCurtainRunning d b s) := by
  unfold Machine.setCurtainRunning
  split
  · exact h
  · exact c.refreshRate d (c.putDoor d _ (c.accrue d h))

theorem UnitClosed.openSession (c : UnitClosed I) (d : Fin 32) (h : I s) : I (openSession d s) :=
  c.dock _ _ (c.putDoor d _ h)

theorem UnitClosed.offerSession (c : UnitClosed I) (r : SessionRecord) (h : I s) : I (offerSession r s) := by
  unfold Machine.offerSession
  split
  · exact c.dock s _ h
  · dsimp only
    split
    · exact c.dock s _ h
    · exact c.notice _ _ _ _ (c.dock s _ h)

theorem UnitClosed.closeSession (c : UnitClosed I) (d : Fin 32) (r : EndReason) (h : I s) : I (closeSession d r s) := by
  unfold Machine.closeSession
  split
  · exact h
  · exact c.offerSession _ (c.putDoor d _ h)

theorem UnitClosed.sendLight (c : UnitClosed I) (d : Fin 32) (h : I s) : I (sendLight d s) := by
  unfold Machine.sendLight
  dsimp only
  split
  · exact h
  · split
    · exact h
    · exact c.target _ _ _ _ _ _ (c.putDoor d _ h)

theorem UnitClosed.sendCurtain (c : UnitClosed I) (d : Fin 32) (h : I s) : I (sendCurtain d s) := by
  unfold Machine.sendCurtain
  dsimp only
  split
  · exact h
  · split
    · exact h
    · exact c.target _ _ _ _ _ _ (c.putDoor d _ h)

theorem UnitClosed.sendDoorTargets (c : UnitClosed I) (d : Fin 32) (h : I s) : I (sendDoorTargets d s) :=
  c.sendCurtain d (c.sendLight d h)

theorem UnitClosed.dockPlantChange (c : UnitClosed I) (h : I s) : I (dockPlantChange s) :=
  forEach_keeps (fun d _ ht => c.sendDoorTargets d ht) _ s h

theorem UnitClosed.enterState (c : UnitClosed I) (d : Fin 32) (x : DoorState) (r : EndReason) (h : I s) :
    I (enterState d x r s) := by
  have h2 : I (if x.docked then Machine.accrue d s else Machine.closeSession d r (Machine.accrue d s)) := by
    split
    · exact c.accrue d h
    · exact c.closeSession d r (c.accrue d h)
  unfold Machine.enterState
  dsimp only
  refine c.refreshRate d ?_
  split
  · exact c.openSession d (c.putDoor d _ h2)
  · exact c.putDoor d _ h2

theorem UnitClosed.countCycle (c : UnitClosed I) (d : Fin 32) (h : I s) : I (countCycle d s) := c.plan _ _ (c.putDoor d _ h)

theorem UnitClosed.moveDoor (c : UnitClosed I) (d : Fin 32) (x : DoorState) (h : I s) : I (moveDoor d x s) := by
  unfold Machine.moveDoor
  dsimp only
  split
  · exact c.countCycle d (c.enterState d x _ h)
  · exact c.enterState d x _ h

theorem UnitClosed.trailerNotice (c : UnitClosed I) (d : Fin 32) (a : Bool) (n : Option Nat) (h : I s) :
    I (trailerNotice d a n s) := by
  unfold Machine.trailerNotice
  split
  · exact c.notice _ _ _ _ h
  · exact c.notice _ _ _ _ h

theorem UnitClosed.takeRaw (c : UnitClosed I) (d : Fin 32) (i : DoorInput) (h : I s) : I (takeRaw d i s) := by
  unfold Machine.takeRaw
  dsimp only
  split
  · exact c.putDoor d _ h
  · exact c.putDoor d _ h

theorem UnitClosed.debounceExpired (c : UnitClosed I) (d : Fin 32) (i : DoorInput) (h : I s) : I (debounceExpired d i s) := by
  have ht := c.takeRaw d i h
  unfold Machine.debounceExpired
  dsimp only
  split
  · exact ht
  · exact c.sendDoorTargets d (c.moveDoor d _ ht)
  · split
    · exact c.trailerNotice d _ _ ht
    · exact ht
  · split
    · exact ht
    · refine c.sendDoorTargets d ?_
      split
      · exact c.trailerNotice d _ _ (c.moveDoor d _ ht)
      · exact c.moveDoor d _ ht

theorem UnitClosed.heldExpired (c : UnitClosed I) (d : Fin 32) (h : I s) : I (heldExpired d s) :=
  c.sendDoorTargets d (c.notice _ _ _ _ (c.plan _ _ (c.putDoor d _ (c.enterState d _ _ h))))

theorem UnitClosed.startDebounce (c : UnitClosed I) (d : Fin 32) (h : I s) : I (startDebounce d s) := c.putDoor d _ h

theorem UnitClosed.zoneDTEvent (c : UnitClosed I) (z : Fin 12) (v : Nat) (h : I s) : I (zoneDTEvent z v s) :=
  forEach_keeps (fun d _ ht => c.refreshRate d ht) _ _ (c.dock _ _ (forEach_keeps (fun d _ ht => c.accrue d ht) _ s h))

theorem UnitClosed.beginCheck (c : UnitClosed I) (h : I s) : I (beginCheck s) :=
  forEach_keeps (fun d _ ht => c.putDoor d _ ht) _ _ (c.dock s _ h)

theorem UnitClosed.endCheckAt (c : UnitClosed I) (k : ContactCheck) (d : Fin 32) (h : I s) : I (endCheckAt k d s) := by
  unfold Machine.endCheckAt
  dsimp only
  split
  · split
    · exact c.sendDoorTargets d (c.enterState d _ _ (c.putDoor d _ (c.putDoor d _ h)))
    · exact c.startDebounce d (c.putDoor d _ h)
  · refine c.startDebounce d ?_
    split
    · exact c.putDoor d _ h
    · exact c.sendDoorTargets d (c.notice _ _ _ _ (c.enterState d _ _ (c.putDoor d _ h)))

theorem UnitClosed.endCheck (c : UnitClosed I) (k : ContactCheck) (e : CheckEnding) (h : I s) : I (endCheck k e s) :=
  c.notice _ _ _ _ (forEach_keeps (fun d _ ht => c.endCheckAt k d ht) _ _ (c.dock s _ h))

theorem UnitClosed.restartDoor (c : UnitClosed I) (d : Fin 32) (h : I s) : I (restartDoor d s) :=
  c.refreshRate d (c.putDoor d _ (c.closeSession d _ (c.accrue d h)))

theorem UnitClosed.dockRestart (c : UnitClosed I) (h : I s) : I (dockRestart s) := by
  refine forEach_keeps (fun d _ ht => c.restartDoor d ht) _ _ ?_
  split
  · exact h
  · exact c.notice _ _ _ _ (c.dock s _ h)

theorem UnitClosed.enablingChange (c : UnitClosed I) (d : Fin 32) (a b : Bool) (h : I s) : I (enablingChange d a b s) := by
  unfold Machine.enablingChange
  split
  · exact c.startDebounce d (c.putDoor d _ h)
  · exact c.putDoor d _ (c.closeSession d _ h)
  · exact h

theorem UnitClosed.releaseOld (c : UnitClosed I) (o : Option (Fin 128)) (r : Role) (d : Fin 32) (h : I s) :
    I (releaseOld o r d s) := by
  unfold Machine.releaseOld
  split
  · exact c.target _ _ _ _ _ _ h
  · exact h

theorem UnitClosed.offerCurtain (c : UnitClosed I) (d : Fin 32) (h : I s) : I (offerCurtain d s) := by
  unfold Machine.offerCurtain
  dsimp only
  split
  · exact c.target _ _ _ _ _ _ (c.putDoor d _ h)
  · exact c.putDoor d _ h

theorem UnitClosed.offerLight (c : UnitClosed I) (d : Fin 32) (h : I s) : I (offerLight d s) := by
  unfold Machine.offerLight
  dsimp only
  split
  · exact c.target _ _ _ _ _ _ (c.putDoor d _ h)
  · exact c.putDoor d _ h

theorem UnitClosed.changeCurtain (c : UnitClosed I) (d : Fin 32) (o : Option (Fin 128)) (h : I s) :
    I (changeCurtain d o s) := by
  unfold Machine.changeCurtain
  dsimp only
  split
  · exact h
  · exact c.setCurtainRunning d _ (c.offerCurtain d (c.releaseOld o _ d h))

theorem UnitClosed.changeLight (c : UnitClosed I) (d : Fin 32) (o : Option (Fin 128)) (h : I s) : I (changeLight d o s) := by
  unfold Machine.changeLight
  split
  · exact h
  · exact c.offerLight d (c.releaseOld o _ d h)

theorem UnitClosed.configureDoor (c : UnitClosed I) (d : Fin 32) (n : DoorConfig) (h : I s) : I (configureDoor d n s) :=
  c.refreshRate d (c.sendDoorTargets d (c.changeLight d _ (c.changeCurtain d _
    (c.enablingChange d _ _ (c.putDoor d _ (c.accrue d h))))))

theorem UnitClosed.curtainBound (c : UnitClosed I) (i : Fin 128) (d : Fin 32) (h : I s) : I (curtainBound i d s) := by
  unfold Machine.curtainBound
  dsimp only
  split
  · exact c.target _ _ _ _ _ _ (c.putDoor d _ h)
  · exact h

theorem UnitClosed.docklightBound (c : UnitClosed I) (i : Fin 128) (d : Fin 32) (h : I s) : I (docklightBound i d s) := by
  unfold Machine.docklightBound
  dsimp only
  split
  · exact c.target _ _ _ _ _ _ (c.putDoor d _ h)
  · exact h

/-! ### Climate Unit -/

theorem UnitClosed.sampleNotice (c : UnitClosed I) (a b : SensorPoint) (n : Nat) (h : I s) : I (sampleNotice a b n s) := by
  unfold Machine.sampleNotice
  split
  · exact c.notice _ _ _ _ h
  · exact h

theorem UnitClosed.sendHeater (c : UnitClosed I) (z : Fin 12) (v : Nat) (h : I s) : I (sendHeater z v s) := by
  unfold Machine.sendHeater
  dsimp only
  split
  · exact h
  · split
    · split
      · exact c.target _ _ _ _ _ _ (c.putZone z _ h)
      · exact c.putZone z _ h
    · exact c.putZone z _ h

theorem UnitClosed.sendFan (c : UnitClosed I) (z : Fin 12) (v : Nat) (h : I s) : I (sendFan z v s) := by
  unfold Machine.sendFan
  dsimp only
  split
  · exact h
  · split
    · split
      · exact c.target _ _ _ _ _ _ (c.putZone z _ h)
      · exact c.putZone z _ h
    · exact c.putZone z _ h

theorem UnitClosed.setVent (c : UnitClosed I) (z : Fin 12) (v : VentState) (h : I s) : I (setVent z v s) := by
  unfold Machine.setVent
  dsimp only
  split
  · exact c.notice _ _ _ _ (c.putZone z _ h)
  · split
    · exact c.notice _ _ _ _ (c.putZone z _ h)
    · exact c.putZone z _ h

theorem UnitClosed.ventilate (c : UnitClosed I) (z : Fin 12) (h : I s) : I (ventilate z s) :=
  c.sendFan z _ (c.putZone z _ (c.setVent z _ h))

theorem UnitClosed.heat (c : UnitClosed I) (z : Fin 12) (h : I s) : I (heat z s) := c.sendHeater z _ (c.putZone z _ h)

theorem UnitClosed.evaluate (c : UnitClosed I) (z : Fin 12) (h : I s) : I (evaluate z s) :=
  c.draw _ (c.zoneDTEvent z _ (c.putZone z _ (c.ventilate z (c.heat z h))))

theorem UnitClosed.evaluationExpired (c : UnitClosed I) (z : Fin 12) (h : I s) : I (evaluationExpired z s) :=
  c.putZone z _ (c.evaluate z h)

theorem UnitClosed.stopZone (c : UnitClosed I) (z : Fin 12) (h : I s) : I (stopZone z s) :=
  c.sendFan z _ (c.putZone z _ (c.setVent z _ (c.sendHeater z _ (c.putZone z _ h))))

theorem UnitClosed.climateStop (c : UnitClosed I) (h : I s) : I (climateStop s) :=
  forEach_keeps (fun z _ ht => c.stopZone z ht) _ s h

theorem UnitClosed.climateResume (c : UnitClosed I) (h : I s) : I (climateResume s) :=
  forEach_keeps (fun z _ ht => c.evaluate z ht) _ s h

theorem UnitClosed.climateRestart (c : UnitClosed I) (h : I s) : I (climateRestart s) := c.climate s _ h

theorem UnitClosed.changeHeater (c : UnitClosed I) (z : Fin 12) (n : Option (Fin 128)) (h : I s) : I (changeHeater z n s) := by
  unfold Machine.changeHeater
  dsimp only
  split
  · exact h
  · refine c.putZone z _ ?_
    split
    · exact c.target _ _ _ _ _ _ h
    · exact h

theorem UnitClosed.changeFan (c : UnitClosed I) (z : Fin 12) (n : Option (Fin 128)) (h : I s) : I (changeFan z n s) := by
  unfold Machine.changeFan
  dsimp only
  split
  · exact h
  · refine c.putZone z _ ?_
    split
    · exact c.target _ _ _ _ _ _ h
    · exact h

theorem UnitClosed.configureZone (c : UnitClosed I) (z : Fin 12) (n : ZoneConfig) (h : I s) : I (configureZone z n s) :=
  c.putZone z _ (c.changeFan z _ (c.changeHeater z _ h))

theorem UnitClosed.heaterBound (c : UnitClosed I) (i : Fin 128) (z : Fin 12) (h : I s) : I (heaterBound i z s) := by
  unfold Machine.heaterBound
  split
  · exact c.target _ _ _ _ _ _ h
  · exact h

theorem UnitClosed.fanBound (c : UnitClosed I) (i : Fin 128) (z : Fin 12) (h : I s) : I (fanBound i z s) := by
  unfold Machine.fanBound
  split
  · exact c.target _ _ _ _ _ _ h
  · exact h

/-! ### Lighting Unit -/

theorem UnitClosed.deriveLight (c : UnitClosed I) (z : Fin 24) (h : I s) : I (deriveLight z s) := by
  unfold Machine.deriveLight
  dsimp only
  split
  · exact c.putLight z _ h
  · split
    · exact c.target _ _ _ _ _ _ (c.putLight z _ h)
    · exact c.putLight z _ h

theorem UnitClosed.deriveLights (c : UnitClosed I) (h : I s) : I (deriveLights s) :=
  forEach_keeps (fun z _ ht => c.deriveLight z ht) _ s h

theorem UnitClosed.pulse (c : UnitClosed I) (z : Fin 24) (h : I s) : I (pulse z s) := by
  unfold Machine.pulse
  dsimp only
  split
  · exact h
  · split
    · exact c.deriveLight z (c.putLight z _ h)
    · exact c.putLight z _ h

theorem UnitClosed.presenceExpired (c : UnitClosed I) (z : Fin 24) (h : I s) : I (presenceExpired z s) :=
  c.deriveLight z (c.putLight z _ h)

theorem UnitClosed.lightingTurn (c : UnitClosed I) (h : I s) : I (lightingTurn s) :=
  c.deriveLights (c.lighting _ _ (forEach_keeps (fun z _ ht => c.putLight z _ ht) _ s h))

theorem UnitClosed.markWalkEnded (c : UnitClosed I) (e : WalkEnding) (h : I s) : I (markWalkEnded e s) :=
  c.notice _ _ _ _ (c.lighting s _ h)

theorem UnitClosed.endWalk (c : UnitClosed I) (e : WalkEnding) (h : I s) : I (endWalk e s) :=
  c.deriveLights (c.markWalkEnded e h)

theorem UnitClosed.beginVisit (c : UnitClosed I) (n : Nat) (z : Fin 24) (r : List (Fin 24)) (b : Nat) (h : I s) :
    I (beginVisit n z r b s) := c.deriveLights (c.lighting s _ h)

theorem UnitClosed.startWalk (c : UnitClosed I) (n : Nat) (l : List (Fin 24)) (h : I s) : I (startWalk n l s) := by
  unfold Machine.startWalk
  dsimp only
  split
  · exact c.endWalk _ (c.lighting s _ h)
  · exact c.beginVisit _ _ _ _ (c.lighting s _ h)

theorem UnitClosed.dwellExpired (c : UnitClosed I) (w : LightWalk) (h : I s) : I (dwellExpired w s) := by
  unfold Machine.dwellExpired
  dsimp only
  split
  · exact c.endWalk _ (c.putLight _ _ h)
  · exact c.beginVisit _ _ _ _ (c.putLight _ _ h)

theorem UnitClosed.lightingStop (c : UnitClosed I) (h : I s) : I (lightingStop s) := by
  unfold Machine.lightingStop
  split
  · exact c.endWalk _ h
  · exact c.deriveLights h

theorem UnitClosed.lightingRestart (c : UnitClosed I) (h : I s) : I (lightingRestart s) := by
  refine c.deriveLights (c.lighting _ _ ?_)
  split
  · exact c.markWalkEnded _ h
  · exact h

theorem UnitClosed.sendProtected (c : UnitClosed I) (z : Fin 24) (h : I s) : I (sendProtected z s) := by
  unfold Machine.sendProtected
  split
  · exact c.minimum _ _ _ _ h
  · exact h

theorem UnitClosed.lightingStart (c : UnitClosed I) (h : I s) : I (lightingStart s) :=
  c.deriveLights (forEach_keeps (fun z _ ht => c.sendProtected z ht) _ _
    (c.lighting _ _ (forEach_keeps (fun z _ ht => c.putLight z _ ht) _ s h)))

theorem UnitClosed.releaseLight (c : UnitClosed I) (z : Fin 24) (n : Option (Fin 128)) (h : I s) : I (releaseLight z n s) := by
  unfold Machine.releaseLight
  split
  · split
    · exact h
    · exact c.minimum _ _ _ _ (c.target _ _ _ _ _ _ h)
  · exact h

theorem UnitClosed.configureLight (c : UnitClosed I) (z : Fin 24) (n : LightConfig) (h : I s) : I (configureLight z n s) :=
  c.deriveLight z (c.sendProtected z (c.putLight z _ (c.releaseLight z _ h)))

theorem UnitClosed.lightBound (c : UnitClosed I) (i : Fin 128) (z : Fin 24) (h : I s) : I (lightBound i z s) := by
  unfold Machine.lightBound
  dsimp only
  split
  · exact c.target _ _ _ _ _ _ (c.minimum _ _ _ _ (c.putLight z _ h))
  · exact h

theorem UnitClosed.channelBound (c : UnitClosed I) (i : Fin 128) (h : I s) : I (channelBound i s) := by
  unfold Machine.channelBound
  split
  · split
    · exact c.heaterBound i _ h
    · exact h
  · split
    · exact c.fanBound i _ h
    · exact h
  · split
    · exact c.lightBound i _ h
    · exact h
  · split
    · exact c.curtainBound i _ h
    · exact h
  · split
    · exact c.docklightBound i _ h
    · exact h
  · exact h

/-! ### Shift Plan Unit -/

theorem UnitClosed.turnEvent (c : UnitClosed I) (h : I s) : I (turnEvent s) := c.profile _ (c.lightingTurn h)

theorem UnitClosed.applyEdits (c : UnitClosed I) (h : I s) : I (applyEdits s) := by
  unfold Machine.applyEdits
  split
  · exact h
  · exact c.plan _ _ (c.plan s _ h)

theorem UnitClosed.editNow (c : UnitClosed I) (e : PendingEdit) (h : I s) : I (editNow e s) := by
  have h' := c.plan _ { (s.setPlan (s.plan.apply e)).plan with digest := (s.setPlan (s.plan.apply e)).plan.digestNow }
    (c.plan s (s.plan.apply e) h)
  unfold Machine.editNow
  dsimp only
  split
  · split
    · exact c.deriveLights h'
    · exact h'
  · exact h'
  · split
    · exact c.profile _ h'
    · exact h'

theorem UnitClosed.overrideChanged (c : UnitClosed I) (t : OverrideTarget) (h : I s) : I (overrideChanged t s) := by
  unfold Machine.overrideChanged
  split
  · exact h
  · exact c.deriveLight _ h

theorem UnitClosed.endOverride (c : UnitClosed I) (o : Override) (k : EndCause) (h : I s) : I (endOverride o k s) :=
  c.overrideChanged _ (c.notice _ _ _ _ (c.plan s _ h))

theorem UnitClosed.endTurnOverrides (c : UnitClosed I) (h : I s) : I (endTurnOverrides s) :=
  forEach_keeps (fun o _ ht => c.endOverride o _ ht) _ s h

theorem UnitClosed.leaveCurrent (c : UnitClosed I) (k : TurnCause) (h : I s) : I (leaveCurrent k s) :=
  c.plan _ _ (c.notice _ _ _ _ h)

theorem UnitClosed.takePhase (c : UnitClosed I) (p : PhaseCopy) (h : I s) : I (takePhase p s) :=
  c.turnEvent (c.plan _ _ (c.endTurnOverrides (c.applyEdits (c.plan s _ h))))

theorem UnitClosed.timedTurn (c : UnitClosed I) (h : I s) : I (timedTurn s) := by
  unfold Machine.timedTurn
  split
  · exact c.takePhase _ (c.leaveCurrent _ h)
  · exact h

theorem UnitClosed.entryTurn (c : UnitClosed I) (h : I s) : I (entryTurn s) := by
  unfold Machine.entryTurn
  split
  · exact h
  · split
    · exact c.takePhase _ h
    · exact h

theorem UnitClosed.emptyingTurn (c : UnitClosed I) (h : I s) : I (emptyingTurn s) := c.takePhase _ (c.leaveCurrent _ h)

theorem UnitClosed.fallbackRefresh (c : UnitClosed I) (h : I s) : I (fallbackRefresh s) := c.turnEvent (c.plan s _ h)

theorem UnitClosed.setClockTo (c : UnitClosed I) (v : Nat) (h : I s) : I (setClockTo v s) := by
  have h' := c.plan s { s.plan with clock := some v, turnDue := none } h
  unfold Machine.setClockTo
  dsimp only
  split
  · exact h'
  · split
    · exact c.entryTurn h'
    · split
      · exact c.plan _ _ h'
      · exact c.takePhase _ (c.leaveCurrent _ h')

theorem UnitClosed.addRecord (c : UnitClosed I) (r : PhaseRec) (h : I s) : I (addRecord r s) := by
  unfold Machine.addRecord
  dsimp only
  split
  · exact c.entryTurn (c.plan _ _ (c.plan s _ h))
  · exact c.plan _ _ (c.plan _ _ (c.plan s _ h))

theorem UnitClosed.dropRecord (c : UnitClosed I) (n : Nat) (h : I s) : I (dropRecord n s) := by
  unfold Machine.dropRecord
  dsimp only
  split
  · split
    · exact c.emptyingTurn (c.plan _ _ (c.plan s _ h))
    · exact c.plan _ _ (c.plan s _ h)
  · exact c.plan _ _ (c.plan _ _ (c.plan s _ h))

theorem UnitClosed.editFallback (c : UnitClosed I) (f : PhaseFields) (h : I s) : I (editFallback f s) := by
  unfold Machine.editFallback
  dsimp only
  split
  · exact c.fallbackRefresh (c.plan _ _ (c.plan s _ h))
  · exact c.plan _ _ (c.plan s _ h)

theorem UnitClosed.editRecord (c : UnitClosed I) (r : PhaseRec) (h : I s) : I (editRecord r s) :=
  c.plan _ _ (c.plan _ _ (c.plan s _ h))

theorem UnitClosed.takeEdit (c : UnitClosed I) (a b : Bool) (e : PendingEdit) (h : I s) : I (takeEdit a b e s).1 := by
  unfold Machine.takeEdit
  dsimp only
  split
  · exact c.plan s _ h
  · exact c.editNow e h

theorem UnitClosed.setOverride (c : UnitClosed I) (o : Override) (h : I s) : I (setOverride o s) :=
  c.overrideChanged _ (c.plan s _ h)

end Sys2Proof.Machine
end

