-- ==== Sys2Proof/Laws/PerInstr.lean ====
section
/-! SUPPORT. The shape of every command as syntax, one lemma for each constructor of Instr: a request that can be sent has a body that fits a
frame, and a KIND of the table of 12.5 exactly when it is not the unknown-kind request (R162, R164). -/

namespace Sys2Proof.Laws.RequestShape

set_option Elab.async false

/-- What is stated of each command. -/
def Statement (i : Instr) : Prop :=
  ∀ tag kind body, i.request? = some (tag, kind, body) → i.wellFormed = true →
    body.length ≤ 240 ∧ ((Machine.bodyRule? kind).isNone = true ↔ i = .unknownKindRequest tag kind body)

/-- A request of a kind of the table. -/
theorem of_known {i : Instr} {tag kind : Byte} {body : Bytes} (hr : i.request? = some (tag, kind, body))
    (hk : (Machine.bodyRule? kind).isNone = false) (hi : i ≠ .unknownKindRequest tag kind body)
    (hb : i.wellFormed = true → body.length ≤ 240) : Statement i := by
  intro t k b h w
  rw [hr] at h
  cases h
  exact ⟨hb w, by simp [hk, hi]⟩

/-- An event. -/
theorem of_event {i : Instr} (hr : i.request? = none) : Statement i := by
  intro t k b h
  rw [hr] at h
  cases h

theorem powerOn : Statement .powerOn := of_event rfl
theorem storeLoadComplete (answers : Bool) : Statement (.storeLoadComplete answers) := of_event rfl
theorem frameComplete (bytes : Bytes) : Statement (.frameComplete bytes) := of_event rfl
theorem frameGapExpiry : Statement .frameGapExpiry := of_event rfl
theorem unknownKindRequest (tag kind : Byte) (body : Bytes) : Statement (.unknownKindRequest tag kind body) := by
  intro t k b h w
  cases h
  simp only [Instr.wellFormed, Bool.and_eq_true, bodyFits, decide_eq_true_eq] at w
  exact ⟨w.1, by simp [w.2]⟩
theorem ping (tag : Byte) (body : Bytes) : Statement (.ping tag body) :=
  of_known (kind := 0x01) rfl (by decide) (by simp) fun w => by simpa [Instr.wellFormed, Instr.request?, bodyFits] using w
theorem status (tag : Byte) (body : Bytes) : Statement (.status tag body) :=
  of_known (kind := 0x02) rfl (by decide) (by simp) fun w => by simpa [Instr.wellFormed, Instr.request?, bodyFits] using w
theorem setClock (tag : Byte) (body : Bytes) : Statement (.setClock tag body) :=
  of_known (kind := 0x03) rfl (by decide) (by simp) fun w => by simpa [Instr.wellFormed, Instr.request?, bodyFits] using w
theorem readClock (tag : Byte) (body : Bytes) : Statement (.readClock tag body) :=
  of_known (kind := 0x04) rfl (by decide) (by simp) fun w => by simpa [Instr.wellFormed, Instr.request?, bodyFits] using w
theorem addPhase (tag : Byte) (body : Bytes) : Statement (.addPhase tag body) :=
  of_known (kind := 0x10) rfl (by decide) (by simp) fun w => by simpa [Instr.wellFormed, Instr.request?, bodyFits] using w
theorem dropPhase (tag : Byte) (body : Bytes) : Statement (.dropPhase tag body) :=
  of_known (kind := 0x11) rfl (by decide) (by simp) fun w => by simpa [Instr.wellFormed, Instr.request?, bodyFits] using w
theorem editPhase (tag : Byte) (body : Bytes) : Statement (.editPhase tag body) :=
  of_known (kind := 0x12) rfl (by decide) (by simp) fun w => by simpa [Instr.wellFormed, Instr.request?, bodyFits] using w
theorem readPhases (tag : Byte) (body : Bytes) : Statement (.readPhases tag body) :=
  of_known (kind := 0x13) rfl (by decide) (by simp) fun w => by simpa [Instr.wellFormed, Instr.request?, bodyFits] using w
theorem readContext (tag : Byte) (body : Bytes) : Statement (.readContext tag body) :=
  of_known (kind := 0x14) rfl (by decide) (by simp) fun w => by simpa [Instr.wellFormed, Instr.request?, bodyFits] using w
theorem setScene (tag : Byte) (body : Bytes) : Statement (.setScene tag body) :=
  of_known (kind := 0x18) rfl (by decide) (by simp) fun w => by simpa [Instr.wellFormed, Instr.request?, bodyFits] using w
theorem setClimateSet (tag : Byte) (body : Bytes) : Statement (.setClimateSet tag body) :=
  of_known (kind := 0x19) rfl (by decide) (by simp) fun w => by simpa [Instr.wellFormed, Instr.request?, bodyFits] using w
theorem setProfile (tag : Byte) (body : Bytes) : Statement (.setProfile tag body) :=
  of_known (kind := 0x1A) rfl (by decide) (by simp) fun w => by simpa [Instr.wellFormed, Instr.request?, bodyFits] using w
theorem readTable (tag : Byte) (body : Bytes) : Statement (.readTable tag body) :=
  of_known (kind := 0x1B) rfl (by decide) (by simp) fun w => by simpa [Instr.wellFormed, Instr.request?, bodyFits] using w
theorem readPending (tag : Byte) (body : Bytes) : Statement (.readPending tag body) :=
  of_known (kind := 0x1C) rfl (by decide) (by simp) fun w => by simpa [Instr.wellFormed, Instr.request?, bodyFits] using w
theorem cancelPending (tag : Byte) (body : Bytes) : Statement (.cancelPending tag body) :=
  of_known (kind := 0x1D) rfl (by decide) (by simp) fun w => by simpa [Instr.wellFormed, Instr.request?, bodyFits] using w
theorem setOverride (tag : Byte) (body : Bytes) : Statement (.setOverride tag body) :=
  of_known (kind := 0x20) rfl (by decide) (by simp) fun w => by simpa [Instr.wellFormed, Instr.request?, bodyFits] using w
theorem clearOverride (tag : Byte) (body : Bytes) : Statement (.clearOverride tag body) :=
  of_known (kind := 0x21) rfl (by decide) (by simp) fun w => by simpa [Instr.wellFormed, Instr.request?, bodyFits] using w
theorem readOverrides (tag : Byte) (body : Bytes) : Statement (.readOverrides tag body) :=
  of_known (kind := 0x22) rfl (by decide) (by simp) fun w => by simpa [Instr.wellFormed, Instr.request?, bodyFits] using w
theorem configChannel (tag : Byte) (body : Bytes) : Statement (.configChannel tag body) :=
  of_known (kind := 0x28) rfl (by decide) (by simp) fun w => by simpa [Instr.wellFormed, Instr.request?, bodyFits] using w
theorem readChannel (tag : Byte) (body : Bytes) : Statement (.readChannel tag body) :=
  of_known (kind := 0x29) rfl (by decide) (by simp) fun w => by simpa [Instr.wellFormed, Instr.request?, bodyFits] using w
theorem ackTrip (tag : Byte) (body : Bytes) : Statement (.ackTrip tag body) :=
  of_known (kind := 0x2A) rfl (by decide) (by simp) fun w => by simpa [Instr.wellFormed, Instr.request?, bodyFits] using w
theorem setLimits (tag : Byte) (body : Bytes) : Statement (.setLimits tag body) :=
  of_known (kind := 0x30) rfl (by decide) (by simp) fun w => by simpa [Instr.wellFormed, Instr.request?, bodyFits] using w
theorem readBudget (tag : Byte) (body : Bytes) : Statement (.readBudget tag body) :=
  of_known (kind := 0x31) rfl (by decide) (by simp) fun w => by simpa [Instr.wellFormed, Instr.request?, bodyFits] using w
theorem readQueue (tag : Byte) (body : Bytes) : Statement (.readQueue tag body) :=
  of_known (kind := 0x32) rfl (by decide) (by simp) fun w => by simpa [Instr.wellFormed, Instr.request?, bodyFits] using w
theorem configDoor (tag : Byte) (body : Bytes) : Statement (.configDoor tag body) :=
  of_known (kind := 0x38) rfl (by decide) (by simp) fun w => by simpa [Instr.wellFormed, Instr.request?, bodyFits] using w
theorem readDoor (tag : Byte) (body : Bytes) : Statement (.readDoor tag body) :=
  of_known (kind := 0x39) rfl (by decide) (by simp) fun w => by simpa [Instr.wellFormed, Instr.request?, bodyFits] using w
theorem checkBegin (tag : Byte) (body : Bytes) : Statement (.checkBegin tag body) :=
  of_known (kind := 0x3A) rfl (by decide) (by simp) fun w => by simpa [Instr.wellFormed, Instr.request?, bodyFits] using w
theorem checkEnd (tag : Byte) (body : Bytes) : Statement (.checkEnd tag body) :=
  of_known (kind := 0x3B) rfl (by decide) (by simp) fun w => by simpa [Instr.wellFormed, Instr.request?, bodyFits] using w
theorem readSessions (tag : Byte) (body : Bytes) : Statement (.readSessions tag body) :=
  of_known (kind := 0x3C) rfl (by decide) (by simp) fun w => by simpa [Instr.wellFormed, Instr.request?, bodyFits] using w
theorem readDoorCounters (tag : Byte) (body : Bytes) : Statement (.readDoorCounters tag body) :=
  of_known (kind := 0x3D) rfl (by decide) (by simp) fun w => by simpa [Instr.wellFormed, Instr.request?, bodyFits] using w
theorem configZone (tag : Byte) (body : Bytes) : Statement (.configZone tag body) :=
  of_known (kind := 0x40) rfl (by decide) (by simp) fun w => by simpa [Instr.wellFormed, Instr.request?, bodyFits] using w
theorem readZone (tag : Byte) (body : Bytes) : Statement (.readZone tag body) :=
  of_known (kind := 0x41) rfl (by decide) (by simp) fun w => by simpa [Instr.wellFormed, Instr.request?, bodyFits] using w
theorem configPoint (tag : Byte) (body : Bytes) : Statement (.configPoint tag body) :=
  of_known (kind := 0x42) rfl (by decide) (by simp) fun w => by simpa [Instr.wellFormed, Instr.request?, bodyFits] using w
theorem readPoints (tag : Byte) (body : Bytes) : Statement (.readPoints tag body) :=
  of_known (kind := 0x43) rfl (by decide) (by simp) fun w => by simpa [Instr.wellFormed, Instr.request?, bodyFits] using w
theorem configLightZone (tag : Byte) (body : Bytes) : Statement (.configLightZone tag body) :=
  of_known (kind := 0x48) rfl (by decide) (by simp) fun w => by simpa [Instr.wellFormed, Instr.request?, bodyFits] using w
theorem readLightZone (tag : Byte) (body : Bytes) : Statement (.readLightZone tag body) :=
  of_known (kind := 0x49) rfl (by decide) (by simp) fun w => by simpa [Instr.wellFormed, Instr.request?, bodyFits] using w
theorem walkStart (tag : Byte) (body : Bytes) : Statement (.walkStart tag body) :=
  of_known (kind := 0x4A) rfl (by decide) (by simp) fun w => by simpa [Instr.wellFormed, Instr.request?, bodyFits] using w
theorem walkStop (tag : Byte) (body : Bytes) : Statement (.walkStop tag body) :=
  of_known (kind := 0x4B) rfl (by decide) (by simp) fun w => by simpa [Instr.wellFormed, Instr.request?, bodyFits] using w
theorem resume (tag : Byte) (body : Bytes) : Statement (.resume tag body) :=
  of_known (kind := 0x50) rfl (by decide) (by simp) fun w => by simpa [Instr.wellFormed, Instr.request?, bodyFits] using w
theorem restartPlant (tag : Byte) (body : Bytes) : Statement (.restartPlant tag body) :=
  of_known (kind := 0x51) rfl (by decide) (by simp) fun w => by
    simp only [Instr.wellFormed, Bool.and_eq_true, bodyFits, decide_eq_true_eq] at w
    exact w.1
theorem restartFull (tag : Byte) (body : Bytes) : Statement (.restartFull tag body) :=
  of_known (kind := 0x51) rfl (by decide) (by simp) fun w => by
    simp only [Instr.wellFormed, beq_iff_eq] at w
    simp [w]
theorem save (tag : Byte) (body : Bytes) : Statement (.save tag body) :=
  of_known (kind := 0x52) rfl (by decide) (by simp) fun w => by simpa [Instr.wellFormed, Instr.request?, bodyFits] using w
theorem fetchNotices (tag : Byte) (body : Bytes) : Statement (.fetchNotices tag body) :=
  of_known (kind := 0x58) rfl (by decide) (by simp) fun w => by simpa [Instr.wellFormed, Instr.request?, bodyFits] using w
theorem setNoticeLevel (tag : Byte) (body : Bytes) : Statement (.setNoticeLevel tag body) :=
  of_known (kind := 0x59) rfl (by decide) (by simp) fun w => by simpa [Instr.wellFormed, Instr.request?, bodyFits] using w
theorem clockAdvance : Statement .clockAdvance := of_event rfl
theorem timedTurn : Statement .timedTurn := of_event rfl
theorem overrideExpiry (target : OverrideTarget) : Statement (.overrideExpiry target) := of_event rfl
theorem meterPulse (meter : Meter) : Statement (.meterPulse meter) := of_event rfl
theorem meterSample : Statement .meterSample := of_event rfl
theorem minOnExpiry (ch : Fin 128) : Statement (.minOnExpiry ch) := of_event rfl
theorem minOffExpiry (ch : Fin 128) : Statement (.minOffExpiry ch) := of_event rfl
theorem urgencyExpiry (ch : Fin 128) : Statement (.urgencyExpiry ch) := of_event rfl
theorem tripSample (ch : Fin 128) (asserted : Bool) : Statement (.tripSample ch asserted) := of_event rfl
theorem doorInputSample (door : Fin 32) (input : DoorInput) (active : Bool) : Statement (.doorInputSample door input active) := of_event rfl
theorem debounceExpiry (door : Fin 32) (input : DoorInput) : Statement (.debounceExpiry door input) := of_event rfl
theorem heldTimerExpiry (door : Fin 32) : Statement (.heldTimerExpiry door) := of_event rfl
theorem loopSample (door : Fin 32) (flows : Bool) : Statement (.loopSample door flows) := of_event rfl
theorem checkLimitExpiry : Statement .checkLimitExpiry := of_event rfl
theorem tempPointSample (point : Fin 32) (sample : SensorSample) : Statement (.tempPointSample point sample) := of_event rfl
theorem tempPointStaleExpiry (point : Fin 32) : Statement (.tempPointStaleExpiry point) := of_event rfl
theorem exhaustPointSample (point : Fin 12) (sample : SensorSample) : Statement (.exhaustPointSample point sample) := of_event rfl
theorem exhaustPointStaleExpiry (point : Fin 12) : Statement (.exhaustPointStaleExpiry point) := of_event rfl
theorem zoneEvaluation (zone : Fin 12) : Statement (.zoneEvaluation zone) := of_event rfl
theorem presencePulse (zone : Fin 24) : Statement (.presencePulse zone) := of_event rfl
theorem presenceTimerExpiry (zone : Fin 24) : Statement (.presenceTimerExpiry zone) := of_event rfl
theorem dwellExpiry : Statement .dwellExpiry := of_event rfl
theorem firePanelSample (asserted : Bool) : Statement (.firePanelSample asserted) := of_event rfl
theorem saveComplete (result : SaveResult) : Statement (.saveComplete result) := of_event rfl
theorem syncReceived (byte : Byte) : Statement (.syncReceived byte) := of_event rfl
theorem lenOutOfRange (len : Byte) : Statement (.lenOutOfRange len) := of_event rfl

end Sys2Proof.Laws.RequestShape
end

