-- ==== Sys2Proof/Tests/Slice0.lean ====
section
/-! SUPPORT. Tests: the checks of WellFormed, values of the manual's worked examples, one step of a command of each family, and for every
statement with hypotheses a state and operands that meet all of them together. -/

namespace Sys2Proof.Tests

open Sys2Proof Sys2Proof.Machine

set_option Elab.async false

/-! ### Small states -/

/-- The part running with the factory configuration. -/
def up : State := { State.reset with stage := .running }

/-- The part with the store loading. -/
def loading : State := { State.reset with stage := .loading }

/-- A heater channel of zone 0 that holds three steps and is asked for one. -/
def heater : Channel :=
  { startChannel { defaultChannel with role := .heater, roleTarget := some 0, steps := 4, rating := 50, tripUsed := true } false
    with target := 1, granted := 3, minOnT := some 0, minOffT := some 0 }

/-- A dimmed light of lighting zone 23 (R47). -/
def lamp : Channel :=
  { startChannel { defaultChannel with role := .light, roleTarget := some 23, rating := 42 } false with
    target := 900, granted := 29 }

/-- The running part with one channel as given. -/
def withChan (c : Channel) : State := up.putChan 127 c

/-- The running part that reports notices of every class, with the heater's channel, a pool and a tight flag. -/
def pooled (pool : Nat) (tight : Bool) : State :=
  let s := withChan heater
  (s.setLine { s.line with level := .all }).setBudget { s.budget with pool := pool, tight := tight }

/-- The running part with a heater that waits for three steps of 50 hW, and a pool. -/
def queued (urgent : Bool) (pool : Nat) : State :=
  (pooled pool false).putChan 127
    { heater with target := 3, granted := 0, minOnT := none, minOffT := none, entry := some ⟨9, urgent⟩ }

/-- The running part with lighting zone 23 bound to the lamp of channel 127. -/
def lit : State :=
  let s := withChan lamp
  s.putLight 23 (startLight { defaultLight with channel := some 127 })

/-- An enabled door in a state. -/
def door (x : DoorState) : Door := { startDoor { defaultDoor with enabled := true } true true with state := x }

/-- The running part with one door as given. -/
def withDoor (x : Door) : State := up.putDoor 31 x

/-- A contact check of the enabled doors with no second left. -/
def check : ContactCheck := ⟨0, Vector.replicate 32 false, Vector.replicate 32 none⟩

/-- The running part with a check in progress. -/
def checking : State := up.setDock { up.dock with check := some check }

/-- A check of door 31 at its limit, with the last loop sample given. -/
def testing (x : DoorState) (flows : Option Bool) : State :=
  let s := withDoor (door x)
  let k : ContactCheck := ⟨0, upd (Vector.replicate 32 false) 31 true, upd (Vector.replicate 32 none) 31 flows⟩
  s.setDock { s.dock with check := some k }

/-- A phase record. -/
def phase : PhaseRec := ⟨10079, { defaultFallback with label := 254 }⟩

/-- The running part with one phase record, the clock at its start and its timed turn due. -/
def turning : State :=
  up.setPlan { up.plan with phases := [phase], clock := some 604740, next := some 10079, turnDue := some 604740 }

/-- The running part with the clock set and no phase list. -/
def clocked : State := up.setPlan { up.plan with clock := some 604740 }

/-- An override on the last lighting zone that has run out. -/
def override : Override := ⟨.light 23, 500, some 0, none⟩

/-- The running part with that override. -/
def overridden : State := up.setPlan { up.plan with overrides := [override] }

/-- The running part with a full override table. -/
def fullOverrides : State :=
  up.setPlan { up.plan with overrides := (List.finRange 16).map fun i => ⟨.light ⟨i.val, by omega⟩, 0, none, none⟩ }

/-- The running part with a point in a state. -/
def withPoint (x : SensorPoint) : State :=
  up.setClimate { up.climate with temps := upd up.climate.temps 31 x, exhausts := upd up.climate.exhausts 11 x }

/-- The running part with the presence of the last lighting zone enabled and its timer due. -/
def watched : State :=
  up.putLight 23 { startLight { defaultLight with presence := true } with presenceT := some 0, vacant := true }

/-- A walk on its last visit with no second left. -/
def lastVisit : LightWalk := ⟨5, 0, 23, [], 1⟩

/-- The running part with that walk. -/
def walking : State := up.setLighting { up.lighting with walk := some lastVisit }

/-- A walk with a zone still to visit, its dwell run out. -/
def visiting : State := lit.setLighting { lit.lighting with walk := some { lastVisit with toVisit := [23] } }

/-- The running part with zone 11 due, its fan on channel 127 and its exhaust point at a value. -/
def exhausting (vent : VentState) (value : Int) : State :=
  let fan : Channel := startChannel { defaultChannel with role := .fan, roleTarget := some 11, steps := 4 } false
  let s := (withChan fan).setClimate { up.climate with
    exhausts := upd up.climate.exhausts 11 { startPoint true 120 with state := .good, value := some value, lastGood := some 0 } }
  s.putZone 11 { startZone 11 { defaultZone 11 with fan := some 127, exhaustPoint := some 11 } with evalT := 0, vent := vent }

/-- The part in a plant-stop state. -/
def plant (x : PlantState) : State := up.setStop { up.stop with state := x }

/-- The running part with a save in progress. -/
def saving : State := up.setStore { up.store with saving := some (factorySnapshot, 0) }

/-- The running part at a due meter sample. -/
def sampling (n elapsed : Nat) : State := up.setBudget { up.budget with sampleT := 0, nT := n, elapsed := elapsed }

/-- The state a command answers. -/
def after (c : Instr) (s : State) : State :=
  match exec c s with
  | .next t => t
  | _ => s

/-! ### WellFormed -/

theorem test_wf_long_body : (Instr.ping 0 (List.replicate 241 0)).wellFormed = false := by decide +kernel
theorem test_wf_known_kind : (Instr.unknownKindRequest 0 0x01 []).wellFormed = false := by decide
theorem test_wf_plant_mode : (Instr.restartPlant 0 [1]).wellFormed = false := by decide
theorem test_wf_full_mode : (Instr.restartFull 0 [0]).wellFormed = false := by decide
theorem test_wf_empty_frame : (Instr.frameComplete []).wellFormed = false := by decide
theorem test_wf_negative_exhaust : (Instr.exhaustPointSample 0 (.reading (-1))).wellFormed = false := by decide
theorem test_wf_len_in_range : (Instr.lenOutOfRange 5).wellFormed = false := by decide
theorem test_wf_accepts : (Instr.ping 0 (List.replicate 240 0)).wellFormed = true := by decide +kernel
theorem test_no_table_bits : decodeTableWord 8 1 = none := rfl

/-! ### Values of the manual -/

/-- The check value of the polynomial 0x1021 with initial value 0xFFFF (R20). -/
theorem test_crc : crc16 [0x31, 0x32, 0x33, 0x34, 0x35, 0x36, 0x37, 0x38, 0x39] = 0x29B1#16 := by decide +kernel

/-- R47: 42 hW at 200 ‰ protect 9 hW. -/
theorem test_protected_part : units 42 200 = 9 := by decide

/-- R47: 42 hW, target 900 ‰, 29 hW granted: 690 ‰ driven and 9 hW short. -/
theorem test_dimmed_level :
    let c := { startChannel { defaultChannel with role := .light, rating := 42 } false with target := 900, granted := 29 }
    c.drivenLevel = 690 ∧ c.deficit = 9 := by decide

/-- R55: a W of 1000 becomes 900, and one of 5000 becomes 3600. -/
theorem test_window_treatment : greatestNotAbove 300 [600, 900, 1200, 1800, 3600] 1000 = 900
    ∧ greatestNotAbove 300 [600, 900, 1200, 1800, 3600] 5000 = 3600 := by decide

/-- R58: PU at nU 65 535 and wU 1000 is 235 926 000 hW. -/
theorem test_pu_saturated : ({ up.budget with nU := 65535, active := ⟨0, 0, 0, 0, 0, 1000⟩ } : LoadBudget).newPu = 235926000 := by
  decide +kernel

/-- R64: a change to W = 3600 s at week-second 18 900 gives a window of 2700 s. -/
theorem test_window_after_change : boundaryLength 3600 (some 18900) = 2700 := by decide

/-- R20: an empty list gives a byte sequence of 1248 bytes. -/
theorem test_digest_length :
    (planBytes [] up.plan.scenes up.plan.climateSets up.plan.profiles up.plan.fallback).length = 1248 := by decide +kernel

/-! ### One step of a command of each family -/

theorem test_ping : (after (.ping 9 [0xAA]) up).line.sent = [frameBytes 9 0x81 [0x00, 0xAA]] := by decide +kernel
theorem test_unknown_kind : (after (.unknownKindRequest 9 0x7F []) up).line.sent = [frameBytes 9 0xFF [0x10]] := by
  decide +kernel
theorem test_frame_enters_buffer :
    (after (.frameComplete (frameBytes 1 4 [])) up).line.buffer = [⟨1, 4, []⟩] := by decide +kernel
theorem test_bad_crc_counts : (after (.frameComplete [0xC3, 0x02, 0x01, 0x04, 0x00, 0x00]) up).line.badFrames = 1 := by
  decide +kernel
theorem test_clock_wraps :
    (after .clockAdvance (up.setPlan { up.plan with clock := some 604799 })).plan.clock = some 0 := by decide +kernel
theorem test_set_clock_refused :
    (after (.setClock 0 (le32 604800)) up).line.sent = [frameBytes 0 0x83 [0x12]] := by decide +kernel
theorem test_timed_turn : (after .timedTurn turning).plan.current.source = some 10079 := by decide +kernel
theorem test_override_expires : (after (.overrideExpiry (.light 23)) overridden).plan.overrides = [] := by decide +kernel
theorem test_config_channel :
    ((after (.configChannel 0 [127, 1, 11, 9, 0, 0, 7, 0, 0, 0, 0, 1, 0, 0]) up).chan 127).cfg
      = ⟨.heater, some 11, 8, 1, 7, 0, 0, true, 0⟩ := by decide +kernel
theorem test_trip :
    ((after (.tripSample 127 true) (withChan heater)).chan 127).state = .tripped := by decide +kernel
theorem test_release : ((after (.minOnExpiry 127) (withChan heater)).chan 127).granted = 1 := by decide +kernel
theorem test_door_unknown_exit :
    ((after (.debounceExpiry 31 .contact) (withDoor { door .unknown with contactT := some 0 })).door 31).state = .openDocked := by
  decide +kernel
theorem test_check_done : (after .checkLimitExpiry checking).dock.check = none := by decide +kernel
theorem test_point_sample :
    (look (after (.tempPointSample 31 (.reading 801)) (withPoint (startPoint true 300))).climate.temps 31).bad = 1 := by
  decide +kernel
theorem test_evaluation_restarts : ((after (.zoneEvaluation 0) up).zone 0).evalT = 60 := by decide +kernel
theorem test_presence_expires : ((after (.presenceTimerExpiry 23) watched).light 23).vacant = true := by decide +kernel
theorem test_stop : (after (.firePanelSample true) up).stop.state = .stopped := by decide +kernel
theorem test_load_defaults : (after (.storeLoadComplete true) loading).store.source = .defaults := by decide +kernel
theorem test_save : (after (.saveComplete .compared) saving).store.lastSave = .done := by decide +kernel

/-! ### States and operands that meet the hypotheses of the statements, clause by clause -/

/-- A request whose frame was completed while the buffer was empty is taken. -/
theorem test_takes (f : Frame) : up.takes f [] := ⟨rfl, .inr ⟨rfl, rfl⟩⟩

theorem test_witness_StepRunsTheFrontCommand : ({ up with pending := [.meterSample] } : State).pending = .meterSample :: []
    ∧ up.pending = [] := ⟨rfl, rfl⟩

/-- The reset state with a command waiting: its step answers a next state, and it meets every invariant, as the next theorems say. -/
def waiting : State := { State.reset with pending := [.powerOn] }

theorem test_waiting_steps : ∃ t, step waiting = .next t := ⟨_, rfl⟩

theorem test_waiting_line_and_plan : waiting.line.Sound ∧ waiting.plan.KeysSound ∧ PhasesSound waiting.plan.phases := by
  decide +kernel

theorem test_waiting_digest : waiting.DigestCurrent := by
  simp only [State.DigestCurrent, waiting, State.reset, State.fresh, startPlan, PlanUnit.digestNow]

theorem test_waiting_arbiter : (waiting.PoolSafe ∧ waiting.TightCurrent ∧ waiting.ShedWaits) ∧ waiting.QueueExact := by
  decide +kernel

theorem test_waiting_channels : waiting.OutputsFollow ∧ waiting.StepsBounded := by decide +kernel

theorem test_waiting_dock : waiting.DoorsSound ∧ waiting.dock.SessionsSound ∧ waiting.RatesCurrent := by decide +kernel

theorem test_waiting_zones : waiting.climate.Sound ∧ waiting.LightsSound := by decide +kernel

/-- The rest of the plan's soundness at reset: the clock is unset, and the store holds nothing. -/
theorem test_waiting_plan : waiting.plan.clock = none ∧ waiting.plan.NextSound ∧ waiting.store.image = .blank
    ∧ waiting.store.saving = none := ⟨rfl, ⟨rfl, rfl⟩, rfl, rfl⟩

theorem test_witness_LightsKeepTheirProtectedPart :
    (∀ i, (State.reset.chan i).protPart State.reset.stop.state ≤ (State.reset.chan i).granted
        ∨ (State.reset.chan i).cfg.role ≠ .light)
      ∧ (∀ i, (State.reset.chan i).cfg.protMin ≤ 1000) ∧ (∀ z, (State.reset.light z).cfg.protMin ≤ 1000) := by
  decide +kernel

theorem test_witness_GoodFrameIsReceived : up.stage ≠ .inReset ∧ up.line.rx = []
    ∧ (List.replicate 240 (0xC3 : Byte)).length ≤ 240 := by decide +kernel

theorem test_witness_ReceiverHuntsAndFails :
    (({ up.line with rx := [0xC3] } : Line).rx = [0xC3] ∧ ((0 : Byte).toNat < 2 ∨ 242 < (0 : Byte).toNat)
        ∧ ((243 : Byte).toNat < 2 ∨ 242 < (243 : Byte).toNat))
      ∧ (collect [0x02, 0x01, 0x04, 0x00, 0x00] = .failed ∧ 0xC3#8 ∉ ([0x02, 0x01, 0x04, 0x00, 0x00] : Bytes))
      ∧ (collect [0xF2] = .incomplete ∧ 0xC3#8 ∉ ([0xF2] : Bytes)) := by decide +kernel

theorem test_witness_RequestsWaitAndAreChecked :
    ((Instr.save 1 []).request? = some (1, 0x52, []) ∧ State.reset.stage ≠ .running)
      ∧ (∃ f rest, ({ up.line with buffer := [⟨2, 0x52, []⟩] } : Line).buffer = f :: rest ∧ f ≠ ⟨1, 0x52, []⟩)
      ∧ (bodyRule? 0x7F = none ∧ up.takes ⟨1, 0x7F, []⟩ [])
      ∧ (bodyRule? 0x01 = some (.upTo 239) ∧ (BodyRule.upTo 239).admits (List.replicate 240 (0 : Byte)).length = false)
      ∧ (bodyRule? 0x52 = some (.exactly 0) ∧ (BodyRule.exactly 0).admits [(0 : Byte)].length = false
        ∧ Instr.save 1 [0] ≠ .unknownKindRequest 1 0x52 [0] ∧ up.takes ⟨1, 0x52, [0]⟩ []) := by
  refine ⟨by decide, ⟨_, _, rfl, by decide⟩, ⟨by decide, test_takes _⟩, by decide +kernel, by decide, by decide, by decide,
    test_takes _⟩

theorem test_witness_OneReplyForEachRequest : (Instr.save 1 []).wellFormed = true ∧ (Instr.save 1 []).request? = some (1, 0x52, [])
    ∧ (0x52 : Byte) ≠ 0x51 ∧ up.takes ⟨1, 0x52, []⟩ [] := ⟨by decide, rfl, by decide, test_takes _⟩

theorem test_witness_LineInterfaceAnswers : (List.replicate 239 (0 : Byte)).length ≤ 239
    ∧ up.takes ⟨1, 0x01, List.replicate 239 0⟩ [] ∧ up.takes ⟨1, 0x02, [0]⟩ [] ∧ up.takes ⟨1, 0x59, [3]⟩ [] :=
  ⟨by decide +kernel, test_takes _, test_takes _, test_takes _⟩

theorem test_witness_FetchNoticesReturnsTheOldest : up.line.Sound ∧ up.takes ⟨1, 0x58, []⟩ [] :=
  ⟨by decide +kernel, test_takes _⟩

theorem test_witness_NoticesLeaveOnlyByFetch : Instr.clockAdvance.wellFormed = true ∧ Instr.clockAdvance ≠ .powerOn
    ∧ ∃ t, exec .clockAdvance up = .next t := ⟨by decide, by decide, _, rfl⟩

theorem test_witness_SetClockTakesTheClock : (604799 < 604800 ∧ up.takes ⟨1, 0x03, le32 604799⟩ [] ∧ up.budget.silent = false)
    ∧ (604800 ≤ 604800 ∧ 604800 < 4294967296 ∧ up.takes ⟨1, 0x03, le32 604800⟩ []) :=
  ⟨⟨by decide, test_takes _, rfl⟩, by decide, by decide, test_takes _⟩

/-- The turn of a jump, no turn where the governing phase stays or the clock was unset, and the estimate of a silent meter. -/
theorem test_witness_SetClock_turns :
    (turning.takes ⟨1, 0x03, le32 0⟩ [] ∧ governing turning.plan.phases 0 = some phase ∧ turning.plan.clock.isSome = true
        ∧ turning.plan.current.source ≠ some phase.start ∧ turning.admits .turn)
      ∧ (let s := turning.setPlan { turning.plan with current := ⟨some 10079, phase.fields⟩ };
        s.takes ⟨1, 0x03, le32 0⟩ [] ∧ governing s.plan.phases 0 = some phase ∧ s.plan.clock.isSome = true
          ∧ s.plan.current.source = some phase.start)
      ∧ (let s := turning.setPlan { turning.plan with clock := none };
        s.takes ⟨1, 0x03, le32 0⟩ [] ∧ s.plan.clock = none ∧ governing s.plan.phases 0 = some phase)
      ∧ (let s := up.setBudget { up.budget with silent := true };
        s.takes ⟨1, 0x03, le32 0⟩ [] ∧ s.budget.silent = true ∧ governing s.plan.phases 0 = none) := by decide +kernel

/-- A silent meter at a SET CLOCK that takes no turn over a list, and at a jump turn, with no curtain named (R12, R66, R68). -/
theorem test_witness_SetClock_silent :
    (let s := turning.setPlan { turning.plan with current := ⟨some 10079, phase.fields⟩ }
      let s := s.setBudget { s.budget with silent := true, sinceSample := 10 };
      s.takes ⟨1, 0x03, le32 0⟩ [] ∧ s.budget.silent = true ∧ governing s.plan.phases 0 = some phase
        ∧ s.plan.clock.isSome = true ∧ s.plan.current.source = some phase.start)
      ∧ (let s := turning.setBudget { turning.budget with silent := true };
        s.takes ⟨1, 0x03, le32 0⟩ [] ∧ s.plan.current.source ≠ some phase.start ∧ ∀ d, (s.door d).cfg.curtain = none) := by
  decide +kernel

theorem test_witness_SecondAdvancesEveryTimer : turning.stage = .running ∧ turning.plan.clock = some 604740 ∧ 604740 < 604800
    ∧ up.plan.clock = none
    ∧ (let s := turning.setPlan { turning.plan with turnDue := none };
      s.plan.next = some 10079 ∧ s.plan.turnDue = none ∧ turning.plan.turnDue.isSome) := by decide +kernel

theorem test_witness_TimedTurnEntersNext : turning.stage = .running ∧ turning.plan.timedTurnDue = true
    ∧ turning.nextRecord = some phase ∧ turning.plan.clock = some 604740
    ∧ (turning.plan.overrides.map Override.target).Nodup ∧ turning.admits .turn ∧ up.plan.timedTurnDue = false := by
  decide +kernel

theorem test_witness_PhaseListEditsAccepted :
    ((listFields? [0x5F, 0x27, 3, 15, 7, 3, 254, 1]).isSome ∧ u16 [0x5F, 0x27, 3, 15, 7, 3, 254, 1] 0 < 10080
        ∧ recordAt up.plan.phases (u16 [0x5F, 0x27, 3, 15, 7, 3, 254, 1] 0) = none ∧ up.plan.phases.length < 48
        ∧ PhasesSound up.plan.phases ∧ up.takes ⟨1, 0x10, [0x5F, 0x27, 3, 15, 7, 3, 254, 1]⟩ [])
      ∧ (u16 [0x5F, 0x27] 0 < 10080 ∧ (recordAt turning.plan.phases (u16 [0x5F, 0x27] 0)).isSome
        ∧ turning.takes ⟨1, 0x11, [0x5F, 0x27]⟩ [])
      ∧ ((listFields? [0x5F, 0x27, 0, 0, 0, 0, 0, 0]).isSome
        ∧ (recordAt turning.plan.phases (u16 [0x5F, 0x27, 0, 0, 0, 0, 0, 0] 0)).isSome
        ∧ turning.takes ⟨1, 0x12, [0x5F, 0x27, 0, 0, 0, 0, 0, 0]⟩ [])
      ∧ ((phaseFields? [0xFF, 0xFF, 3, 15, 7, 3, 255, 1]).isSome ∧ u16 [0xFF, 0xFF, 3, 15, 7, 3, 255, 1] 0 = 65535
        ∧ up.takes ⟨1, 0x12, [0xFF, 0xFF, 3, 15, 7, 3, 255, 1]⟩ []) := by decide +kernel

/-- The first record of a list with the clock set is entered; the last one dropped empties it (R17, R18). -/
theorem test_witness_PhaseListEdits_turns :
    (let b : Bytes := [0x5F, 0x27, 3, 15, 7, 3, 254, 1];
      (listFields? b).isSome ∧ u16 b 0 < 10080 ∧ clocked.plan.phases = [] ∧ clocked.plan.clock.isSome = true
        ∧ (clocked.plan.overrides.map Override.target).Nodup ∧ clocked.takes ⟨1, 0x10, b⟩ [])
      ∧ ((recordAt turning.plan.phases (u16 [0x5F, 0x27] 0)).isSome ∧ turning.takes ⟨1, 0x11, [0x5F, 0x27]⟩ []
        ∧ turning.plan.phases.filter (fun r => r.start ≠ u16 [0x5F, 0x27] 0) = [] ∧ turning.plan.clock = some 604740
        ∧ (turning.plan.overrides.map Override.target).Nodup ∧ turning.admits .turn)
      ∧ (let s := turning.setPlan { turning.plan with clock := none };
        (recordAt s.plan.phases (u16 [0x5F, 0x27] 0)).isSome ∧ s.takes ⟨1, 0x11, [0x5F, 0x27]⟩ [] ∧ s.plan.clock = none) := by
  decide +kernel

/-- A turn that ends two UNTIL_TURN overrides and keeps a TIMED one, with room for their notices (R14, R35). -/
theorem test_witness_turn_overrides :
    let s := turning.setPlan { turning.plan with
      overrides := [⟨.light 23, 500, none, none⟩, ⟨.light 22, 500, some 60, none⟩, ⟨.climate 11, -20, none, none⟩] }
    let t := after .timedTurn s;
    s.plan.timedTurnDue = true ∧ (s.plan.overrides.map Override.target).Nodup ∧ t.line.notices.length < 64
      ∧ t.line.level.passes NoticeKind.overrideEnded.cls = true ∧ t.plan.overrides = [⟨.light 22, 500, some 60, none⟩]
      ∧ ((s.joined t).filter (·.kind = .overrideEnded)).map (fun n => (n.subject, n.data))
        = [(23, [0x01, 0x01, 0xF4, 0x01]), (11, [0x00, 0x01, 0xEC, 0xFF])] := by decide +kernel

theorem test_witness_ClockIsRead : (up.takes ⟨1, 0x04, []⟩ [] ∧ up.plan.clock = none)
    ∧ clocked.takes ⟨1, 0x04, []⟩ [] ∧ clocked.plan.clock = some 604740 := ⟨⟨test_takes _, rfl⟩, ⟨rfl, .inr ⟨rfl, rfl⟩⟩, rfl⟩

theorem test_witness_PlanReadsAnswerInFull : up.takes ⟨1, 0x13, [47]⟩ [] ∧ up.takes ⟨1, 0x13, [48]⟩ []
    ∧ up.takes ⟨1, 0x14, []⟩ [] := ⟨test_takes _, test_takes _, test_takes _⟩

theorem test_witness_TableEdits :
    (let b : Bytes := [15, 1] ++ List.replicate 48 0xFF;
      b.length = 50 ∧ u8 b 0 = (15 : Fin 16) ∧ u8 b 1 = 1 ∧ up.takes ⟨1, 0x18, b⟩ [])
      ∧ (let b : Bytes := [7, 1] ++ List.replicate 48 0xFF;
        b.length = 50 ∧ u8 b 0 = (7 : Fin 8) ∧ u8 b 1 = 1 ∧ up.takes ⟨1, 0x19, b⟩ [])
      ∧ (let b : Bytes := [3, 1] ++ List.replicate 22 0xFF;
        b.length = 24 ∧ u8 b 0 = (3 : Fin 4) ∧ u8 b 1 = 1 ∧ up.takes ⟨1, 0x1A, b⟩ [])
      ∧ (let b : Bytes := [15, 0] ++ List.replicate 48 0xFF;
        b.length = 50 ∧ u8 b 0 = (15 : Fin 16) ∧ u8 b 1 = 0 ∧ up.takes ⟨1, 0x18, b⟩ [])
      ∧ (let b : Bytes := [7, 0] ++ List.replicate 48 0xFF;
        b.length = 50 ∧ u8 b 0 = (7 : Fin 8) ∧ u8 b 1 = 0 ∧ up.takes ⟨1, 0x19, b⟩ [])
      ∧ (let b : Bytes := [3, 0] ++ List.replicate 22 0xFF;
        b.length = 24 ∧ u8 b 0 = (3 : Fin 4) ∧ u8 b 1 = 0 ∧ up.takes ⟨1, 0x1A, b⟩ []) := by decide +kernel

/-- A full phase list. -/
def fullList : State :=
  up.setPlan { up.plan with phases := (List.finRange 48).map fun i => ⟨i.val, defaultFallback⟩ }

theorem test_witness_PlanRequestsRefused :
    (let b : Bytes := [0x60, 0x27, 0, 0, 0, 0, 0, 0];
      up.takes ⟨1, 0x10, b⟩ [] ∧ 10080 ≤ u16 b 0 ∧ u16 b 0 ≠ 65535 ∧ up.takes ⟨1, 0x12, b⟩ [])
      ∧ listFields? [0, 0, 4, 0, 0, 0, 0, 0] = none ∧ listFields? [0, 0, 0, 0, 0, 0, 255, 0] = none
      ∧ (let b : Bytes := [47, 0, 0, 0, 0, 0, 0, 0];
        fullList.takes ⟨1, 0x10, b⟩ [] ∧ (listFields? b).isSome ∧ u16 b 0 < 10080
          ∧ (recordAt fullList.plan.phases (u16 b 0)).isSome)
      ∧ (let b : Bytes := [48, 0, 0, 0, 0, 0, 0, 0];
        fullList.takes ⟨1, 0x10, b⟩ [] ∧ (listFields? b).isSome ∧ u16 b 0 < 10080
          ∧ recordAt fullList.plan.phases (u16 b 0) = none ∧ 48 ≤ fullList.plan.phases.length
          ∧ fullList.takes ⟨1, 0x12, b⟩ [])
      ∧ (turning.takes ⟨1, 0x12, [0x5F, 0x27, 4, 0, 0, 0, 0, 0]⟩ []
        ∧ (recordAt turning.plan.phases (u16 [0x5F, 0x27, 4, 0, 0, 0, 0, 0] 0)).isSome
        ∧ listFields? [0x5F, 0x27, 4, 0, 0, 0, 0, 0] = none)
      ∧ (u16 [0xFF, 0xFF, 4, 0, 0, 0, 0, 0] 0 = 65535 ∧ phaseFields? [0xFF, 0xFF, 4, 0, 0, 0, 0, 0] = none) := by
  decide +kernel

theorem test_witness_PlanRequestsRefused_rest :
    (up.takes ⟨1, 0x11, [0xFF, 0xFF]⟩ [] ∧ 10080 ≤ u16 [0xFF, 0xFF] 0)
      ∧ (up.takes ⟨1, 0x11, [0, 0]⟩ [] ∧ u16 [0, 0] 0 < 10080 ∧ recordAt up.plan.phases (u16 [0, 0] 0) = none)
      ∧ (let b : Bytes := List.replicate 50 16;
        up.takes ⟨1, 0x18, b⟩ [] ∧ 16 ≤ u8 b 0 ∧ up.takes ⟨1, 0x19, b⟩ [] ∧ 8 ≤ u8 b 0 ∧ 2 ≤ u8 b 1)
      ∧ (let b : Bytes := List.replicate 24 4;
        up.takes ⟨1, 0x1A, b⟩ [] ∧ 4 ≤ u8 b 0)
      ∧ (let b : Bytes := [0, 12, 0, 0, 0, 0, 0, 0, 0];
        up.takes ⟨1, 0x20, b⟩ [] ∧ overrideTarget? (u8 b 0) (u8 b 1) = none)
      ∧ (up.takes ⟨1, 0x21, [1, 24]⟩ [] ∧ overrideTarget? 1 24 = none)
      ∧ (up.takes ⟨1, 0x21, [1, 23]⟩ [] ∧ overrideTarget? 1 23 = some (.light 23)
        ∧ ∀ o ∈ up.plan.overrides, o.target ≠ .light 23) := by decide +kernel

/-- A scene that current names reaches the light bound to a zone; another scene reaches none (R27, R147). -/
theorem test_witness_scene_now :
    (let b : Bytes := [0, 0] ++ List.replicate 48 0xFF;
      b.length = 50 ∧ u8 b 0 = (0 : Fin 16) ∧ lit.plan.current.fields.scene = 0 ∧ lit.takes ⟨1, 0x18, b⟩ []
        ∧ lit.lightBinding 23 = some 127
        ∧ ((after (.setScene 1 b) lit).chan 127).target = 1000)
      ∧ lit.plan.current.fields.scene ≠ 15 ∧ lit.plan.current.fields.profile ≠ 3 := by decide +kernel

theorem test_witness_StoredEntriesAreRead :
    (up.takes ⟨1, 0x1B, [0, 15]⟩ [] ∧ (15 : Byte).toNat = (15 : Fin 16))
      ∧ (up.takes ⟨1, 0x1B, [1, 7]⟩ [] ∧ (7 : Byte).toNat = (7 : Fin 8))
      ∧ (up.takes ⟨1, 0x1B, [2, 3]⟩ [] ∧ (3 : Byte).toNat = (3 : Fin 4))
      ∧ (∀ b ∈ ([[0, 16], [1, 8], [2, 4], [3, 0]] : List Bytes), up.takes ⟨1, 0x1B, b⟩ []
        ∧ ¬((u8 b 0 = 0 ∧ u8 b 1 < 16) ∨ (u8 b 0 = 1 ∧ u8 b 1 < 8) ∨ (u8 b 0 = 2 ∧ u8 b 1 < 4))) := by decide +kernel

theorem test_witness_EditsAndOverridesAreReported : up.takes ⟨1, 0x1D, []⟩ [] ∧ up.takes ⟨1, 0x1C, []⟩ []
    ∧ overridden.takes ⟨1, 0x22, []⟩ [] := ⟨test_takes _, test_takes _, ⟨rfl, .inr ⟨rfl, rfl⟩⟩⟩

theorem test_witness_OverridesBeginAndEnd :
    (let b : Bytes := [1, 23, 0, 0, 0, 0, 0, 0, 0];
      b.length = 9 ∧ overrideTarget? (u8 b 0) (u8 b 1) = some (.light 23) ∧ timed? (u8 b 4) = some true
        ∧ (∃ o ∈ overridden.plan.overrides, o.target = .light 23) ∧ overridden.takes ⟨1, 0x20, b⟩ []
        ∧ (∀ o ∈ fullOverrides.plan.overrides, o.target ≠ .light 23) ∧ 16 ≤ fullOverrides.plan.overrides.length
        ∧ fullOverrides.takes ⟨1, 0x20, b⟩ [])
      ∧ (overrideTarget? (1 : Byte).toNat (23 : Byte).toNat = some override.target
        ∧ overridden.plan.overrides.find? (fun x => x.target = override.target) = some override
        ∧ overridden.takes ⟨1, 0x21, [1, 23]⟩ [] ∧ overridden.admits .overrideEnded)
      ∧ (overridden.stage = .running ∧ override.remaining = some 0) := by decide +kernel

/-- An override of a lighting zone reaches its channel at once; one of a climate zone, and one until the next turn (R33, R34). -/
theorem test_witness_override_targets :
    (let b : Bytes := [1, 23, 0xF4, 1, 1, 0, 0, 0, 0];
      lit.takes ⟨1, 0x20, b⟩ [] ∧ overrideTarget? (u8 b 0) (u8 b 1) = some (.light 23) ∧ timed? (u8 b 4) = some false
        ∧ lit.plan.overrides.length < 16 ∧ lit.lightBinding 23 = some 127
        ∧ ((after (.setOverride 1 b) lit).chan 127).target = 500)
      ∧ (let b : Bytes := [0, 11, 0xEC, 0xFF, 0, 59, 0, 0, 0];
        lit.takes ⟨1, 0x20, b⟩ [] ∧ overrideTarget? (u8 b 0) (u8 b 1) = some (.climate 11) ∧ timed? (u8 b 4) = some true)
      ∧ (let o : Override := ⟨.climate 11, -20, some 0, none⟩
        let s := up.setPlan { up.plan with overrides := [o] };
        s.plan.overrides.find? (fun x => x.target = o.target) = some o ∧ s.takes ⟨1, 0x21, [0, 11]⟩ []) := by decide +kernel

theorem test_witness_ConfigChannelTakesEffect :
    (let b : Bytes := [128, 0, 0, 0, 0, 0, 0, 0, 0, 0, 0, 0, 0, 0];
      b.length = 14 ∧ 128 ≤ u8 b 0 ∧ up.takes ⟨1, 0x28, b⟩ [])
      ∧ (let b : Bytes := [0, 1, 0, 4, 50, 0, 0, 0, 0, 0, 0, 0, 0, 0];
        b.length = 14 ∧ u8 b 0 = (0 : Fin 128) ∧ role? (u8 b 1) = some .heater
          ∧ roleTarget? .heater (u8 b 2) = some (some 0) ∧ ((withChan heater).chan 127).cfg.role = .heater
          ∧ ((withChan heater).chan 127).cfg.roleTarget = some 0 ∧ (withChan heater).takes ⟨1, 0x28, b⟩ [])
      ∧ (let b : Bytes := [127, 1, 11, 4, 50, 0, 0, 0, 0, 0, 0, 0, 0, 0];
        u8 b 0 = (127 : Fin 128) ∧ role? (u8 b 1) = some .heater ∧ roleTarget? .heater (u8 b 2) = some (some 11)
          ∧ up.boundElsewhere 127 .heater (some 11) = false ∧ up.takes ⟨1, 0x28, b⟩ []) := by decide +kernel

/-- CONFIG CHANNEL of channel 127: role, target, minimum off time and trip line as given. -/
def channelBody (role target minOff used : Byte) : Bytes := [127, role, target, 4, 50, 0, 0, 0, 0, minOff, 0, used, 0, 0]

/-- A heater that holds steps, one whose min-off runs, one that is TRIPPED, which a used trip line keeps and an unused one ends, and
one that trips at the end (R50, R52); an UNUSED role takes any role target. -/
theorem test_witness_config_channel_steps :
    (let s := withChan heater;
      s.takes ⟨1, 0x28, channelBody 1 0 9 0⟩ [] ∧ role? 1 = some .heater ∧ roleTarget? .heater 0 = some (some 0)
        ∧ s.boundElsewhere 127 .heater (some 0) = false ∧ (s.chan 127).cfg.role.isStep = true ∧ 0 < (s.chan 127).granted
        ∧ u16 (channelBody 1 0 9 0) 9 = 9 ∧ u8 (channelBody 1 0 9 0) 11 = 0)
      ∧ (let s := withChan { heater with granted := 0, minOnT := none, minOffT := some 300 };
        (s.chan 127).granted = 0 ∧ (s.chan 127).tripped = false ∧ (s.chan 127).minOffT = some 300
          ∧ s.takes ⟨1, 0x28, channelBody 1 0 9 0⟩ [])
      ∧ (let s := withChan { heater with granted := 0, tripped := true };
        (s.chan 127).tripped = true ∧ s.takes ⟨1, 0x28, channelBody 1 0 9 0⟩ [] ∧ s.takes ⟨1, 0x28, channelBody 1 0 9 1⟩ []
          ∧ u8 (channelBody 1 0 9 1) 11 ≠ 0)
      ∧ (let s := withChan { heater with tripIn := true };
        (s.chan 127).tripped = false ∧ (s.chan 127).tripIn = true ∧ s.takes ⟨1, 0x28, channelBody 1 0 0 1⟩ [])
      ∧ (roleTarget? .unused 255 = some none ∧ up.boundElsewhere 127 .unused none = false) := by decide +kernel

/-- A running heater that is reconfigured is brought to zero, and min-off starts from the new time (R52). -/
theorem test_config_channel_running :
    ((after (.configChannel 1 (channelBody 1 0 9 0)) (withChan heater)).chan 127).minOffT = some 9 := by decide +kernel

/-- A lighting zone that names an UNUSED channel, over an allowance of 60 hW with nothing protected. -/
def unlit : State :=
  let s := up.putLight 23
    { startLight { defaultLight with channel := some 127, protMin := 500 } with target := 1000 }
  s.setBudget { s.budget with managed := 60, pProt := 0, shareable := 60, reserve := ⟨9, 27, 9, 6⟩, pool := 9 }

/-- The channel becomes that zone's light, 100 hW with a minimum of 500 ‰: the zone's event brings the minimum that stands, and P_prot of
50 hW is worked out before the target of 1000 ‰ is served from the 10 hW left, 1 of reserve and 3 of pool; so nothing is shed (R61, R150). -/
theorem test_light_bound_on_fresh_figures :
    let t := after (.configChannel 1 [127, 3, 23, 1, 100, 0, 0, 0, 0, 0, 0, 0, 0xF4, 1]) unlit
    t.budget.pProt = 50 ∧ (t.chan 127).granted = 54 ∧ t.plan.totals.shed = 0 := by decide +kernel

/-- A role unit that names the channel, and one that does not (R40, R99, R133, R150). -/
theorem test_witness_config_channel_targets :
    (let s := up.putZone 0 { up.zone 0 with cfg := { (up.zone 0).cfg with heater := some 127 }, heaterTarget := 5 };
      s.boundElsewhere 127 .heater (some 0) = false ∧ (s.zone 0).cfg.heater = some 127 ∧ (s.zone 1).cfg.heater ≠ some 127)
      ∧ (let s := up.putZone 0 { up.zone 0 with cfg := { (up.zone 0).cfg with fan := some 127 }, fanTarget := 3 };
        s.boundElsewhere 127 .fan (some 0) = false ∧ (s.zone 0).cfg.fan = some 127 ∧ (s.zone 1).cfg.fan ≠ some 127)
      ∧ (let s := lit;
        s.boundElsewhere 127 .light (some 23) = false ∧ (s.light 23).cfg.channel = some 127
          ∧ (s.light 22).cfg.channel ≠ some 127 ∧ roleTarget? .light 23 = some (some 23))
      ∧ (let s := withDoor { door .held with cfg := { defaultDoor with enabled := true, curtain := some 127 } };
        s.boundElsewhere 127 .curtain (some 31) = false ∧ (s.door 31).cfg.curtain = some 127
          ∧ (s.door 31).cfg.light ≠ some 127 ∧ roleTarget? .docklight 31 = some (some 31))
      ∧ (let s := withDoor { door .openDocked with cfg := { defaultDoor with enabled := true, light := some 127 } };
        s.boundElsewhere 127 .docklight (some 31) = false ∧ (s.door 31).cfg.light = some 127
          ∧ (s.door 31).cfg.curtain ≠ some 127) := by decide +kernel

theorem test_witness_BudgetReadsAnswer : up.takes ⟨1, 0x29, [127]⟩ [] ∧ up.takes ⟨1, 0x29, [128]⟩ [] ∧ up.takes ⟨1, 0x31, []⟩ []
    ∧ up.takes ⟨1, 0x32, [1, 127]⟩ [] ∧ up.takes ⟨1, 0x32, [2, 0]⟩ [] ∧ up.takes ⟨1, 0x32, [0, 128]⟩ [] :=
  ⟨test_takes _, test_takes _, test_takes _, test_takes _, test_takes _, test_takes _⟩

/-- Clause by clause, with pools of three steps, two steps and none for an entry that wants three. -/
theorem test_witness_WalkServesInOrder :
    (((withChan lamp).chan 127).cfg.role = .light ∧ 0 < ((withChan lamp).chan 127).cfg.rating)
      ∧ (let s := queued false 150;
        (s.chan 127).entry = some ⟨9, false⟩ ∧ (s.chan 127).cfg.role.cls = some .heat ∧ (s.chan 127).cfg.role.isStep = true
          ∧ (s.chan 127).minOffT = none ∧ (s.chan 127).target - (s.chan 127).granted = 3
          ∧ s.avail .heat / (s.chan 127).cfg.rating = 3)
      ∧ (queued false 149).avail .heat / 50 = 2 ∧ (queued true 149).avail .heat / 50 = 2
      ∧ (queued false 49).avail .heat / 50 = 0 ∧ (queued true 49).avail .heat / 50 = 0
      ∧ ((queued true 49).chan 127).entry = some ⟨9, true⟩
      ∧ (let s := withChan { heater with entry := some ⟨300, false⟩ };
        s.stage = .running ∧ (s.chan 127).minOffT = some 0 ∧ (s.chan 127).entry = some ⟨300, false⟩
          ∧ s.urgencyTime (s.chan 127) ≤ 300) := by decide +kernel

/-- Of two heaters of one priority over an empty pool, the one with the later step-up is taken. -/
theorem test_witness_SheddingTakesTheLatestFirst :
    up.poolUse ≤ up.budget.pool
      ∧ (let s := (pooled 0 false).putChan 0 { heater with serial := 5 };
        s.budget.pool < s.poolUse ∧ s.budget.reserve.heat < s.classGrant .heat
          ∧ (s.chan 0).cfg.role.cls = some .heat ∧ (s.chan 127).cfg.role.cls = some .heat
          ∧ 0 < (s.chan 0).nonProtected s.stop.state ∧ 0 < (s.chan 127).nonProtected s.stop.state
          ∧ (s.chan 0).cfg.priority = (s.chan 127).cfg.priority ∧ (s.chan 127).serial < (s.chan 0).serial
          ∧ (∀ j : Fin 128, j ≠ 0 → j ≠ 127 → (s.chan j).nonProtected s.stop.state = 0) ∧ s.admits .shed)
      ∧ lamp.cfg.role.cls = some .light
      ∧ ((sampling 1 889).stage = .running ∧ (sampling 1 889).budget.sampleT = 0)
      ∧ (let b : Bytes := List.replicate 24 0;
        b.length = 24 ∧ u8 b 0 = (0 : Fin 4) ∧ u8 b 1 = 0 ∧ up.plan.current.fields.profile = (0 : Fin 4)
          ∧ up.takes ⟨1, 0x1A, b⟩ []) := by decide +kernel

/-- A due sample after which the pool no longer carries the heater, and a NOW edit of the profile in use over such a pool. -/
theorem test_witness_shedding_causes :
    (let s := (pooled 150 false).setBudget { (pooled 150 false).budget with sampleT := 0, nT := 65535 }
      let t := after .meterSample s;
      s.stage = .running ∧ s.admits .shed ∧ (s.joined t).map Notice.kind = [.shed])
      ∧ (let s := (pooled 150 false).setBudget { (pooled 150 false).budget with managed := 0 }
        let b : Bytes := List.replicate 24 0;
        u8 b 0 = (0 : Fin 4) ∧ u8 b 1 = 0 ∧ s.plan.current.fields.profile = (0 : Fin 4) ∧ s.takes ⟨1, 0x1A, b⟩ []
          ∧ (s.joined (after (.setProfile 1 b) s)).map Notice.kind = [.shed]) := by decide +kernel

/-- With 150 hW of use and the tight level 500 a pool of 299 hW is tight and one of 300 hW is not. -/
theorem test_witness_ArbiterFlagsFollow :
    ((pooled 299 true).isTight = true ∧ (pooled 299 true).TightCurrent ∧ (pooled 299 false).admits .budgetTight)
      ∧ ((pooled 300 false).isTight = false ∧ (pooled 300 false).TightCurrent ∧ (pooled 300 true).admits .budgetEased)
      ∧ (∃ i, ((queued false 0).chan i).entry.isSome = true ∨ 0 < ((queued false 0).chan i).deficit)
      ∧ (∀ i, (up.chan i).entry = none ∧ (up.chan i).deficit = 0)
      ∧ ((withChan heater).stage = .running ∧ ((withChan heater).chan 127).minOffT = some 0)
      ∧ ((Instr.tripSample 127 true).isArbiterEvent = true
        ∧ (after (.tripSample 127 true) (pooled 299 true)).budget.tight = false
        ∧ (after (.tripSample 127 false) (pooled 299 true)).budget.tight = true) := by decide +kernel

theorem test_witness_TripsAndAcknowledgement :
    ((withChan heater).stage = .running ∧ ((withChan heater).chan 127).cfg.role.isStep = true
        ∧ ((withChan heater).chan 127).cfg.tripUsed = true ∧ ((withChan heater).chan 127).tripped = false
        ∧ (withChan heater).admits .channelTripped)
      ∧ ((127 : Byte).toNat = (127 : Fin 128) ∧ up.takes ⟨1, 0x2A, [127]⟩ [] ∧ (up.chan 127).state ≠ .tripped)
      ∧ (let s := withChan { heater with tripped := true, granted := 0, tripIn := true };
        s.takes ⟨1, 0x2A, [127]⟩ [] ∧ (s.chan 127).state = .tripped ∧ (s.chan 127).tripIn = true)
      ∧ (let s := withChan { heater with tripped := true, granted := 0 };
        s.takes ⟨1, 0x2A, [127]⟩ [] ∧ (s.chan 127).state = .tripped ∧ (s.chan 127).tripIn = false
          ∧ (s.chan 127).granted = 0 ∧ (s.chan 127).cfg.minOff ≠ 0)
      ∧ (128 ≤ (128 : Byte).toNat ∧ up.takes ⟨1, 0x2A, [128]⟩ []) := by decide +kernel

/-- A trip sample that is only recorded: a clear line, a channel that is TRIPPED, one whose line is not used, and one of no steps. -/
theorem test_witness_trip_recorded :
    ((withChan heater).stage = .running ∧ ((withChan { heater with tripped := true }).chan 127).tripped = true)
      ∧ ((withChan { heater with cfg := { heater.cfg with tripUsed := false } }).chan 127).cfg.tripUsed = false
      ∧ ((withChan lamp).chan 127).cfg.role.isStep = false ∧ (up.chan 127).cfg.role.isStep = false := by decide +kernel

theorem test_witness_SetLimitsStoresTreatedValues : (List.replicate 12 (0xFF : Byte)).length = 12
    ∧ up.takes ⟨1, 0x30, List.replicate 12 0xFF⟩ [] := ⟨by decide, test_takes _⟩

theorem test_witness_meter :
    (let s := sampling 1 889;
      s.stage = .running ∧ s.budget.sampleT = 0 ∧ 0 < s.budget.nT ∧ s.budget.elapsed + 10 < s.budget.windowLen)
      ∧ (let s := sampling 1 890;
        s.stage = .running ∧ s.budget.sampleT = 0 ∧ 0 < s.budget.nT ∧ s.budget.windowLen ≤ s.budget.elapsed + 10)
      ∧ (let s := (sampling 1 890).setPlan clocked.plan;
        s.stage = .running ∧ s.budget.windowLen ≤ s.budget.elapsed + 10 ∧ s.plan.clock = some 604740)
      ∧ (let s := sampling 0 889;
        s.budget.nT = 0 ∧ s.budget.silent = false ∧ s.managedDraw = 0 ∧ s.admits .meterSilent)
      ∧ (let s := (withChan heater).setBudget { (withChan heater).budget with sampleT := 0, silence := 5 };
        s.stage = .running ∧ s.budget.nT = 0 ∧ s.budget.elapsed + 10 < s.budget.windowLen ∧ s.budget.silent = false
          ∧ 0 < s.managedDraw ∧ 5 ≤ s.budget.silence)
      ∧ (let s := (withChan heater).setBudget { (withChan heater).budget with sampleT := 0, silence := 4 };
        s.stage = .running ∧ s.budget.nT = 0 ∧ s.budget.elapsed + 10 < s.budget.windowLen ∧ s.budget.silent = false
          ∧ 0 < s.managedDraw ∧ s.budget.silence < 5)
      ∧ (let s := up.setBudget { up.budget with sampleT := 0, silent := true };
        s.stage = .running ∧ s.budget.nT = 0 ∧ s.budget.elapsed + 10 < s.budget.windowLen ∧ s.budget.silent = true)
      ∧ up.budget.sampleT ≠ 0 := by decide +kernel

/-- A due sample without pulses that fills the window: in the silent condition, as the sixth of a silence, as an earlier one, and with
nothing drawn (R64, R67, R68). -/
theorem test_witness_full_without_pulses :
    let s := (withChan heater).setBudget { (withChan heater).budget with sampleT := 0, elapsed := 890 }
    let silent := s.setBudget { s.budget with silent := true, silence := 6 }
    let sixth := s.setBudget { s.budget with silence := 5 };
    (s.stage = .running ∧ s.budget.sampleT = 0 ∧ s.budget.nT = 0 ∧ s.budget.windowLen ≤ s.budget.elapsed + 10
        ∧ s.budget.silent = false ∧ 0 < s.managedDraw ∧ s.budget.silence < 5)
      ∧ (silent.budget.silent = true
        ∧ (after .meterSample silent).budget.lastWindow.map (fun w => (w.energy, w.estimated)) = some (1500, true))
      ∧ (sixth.budget.silent = false ∧ 5 ≤ sixth.budget.silence ∧ (after .meterSample sixth).budget.silence = 6)
      ∧ (let s := sampling 0 890;
        s.budget.nT = 0 ∧ s.budget.windowLen ≤ s.budget.elapsed + 10 ∧ s.managedDraw = 0) := by decide +kernel

/-- A pulse after a silence, and one without (R69). -/
theorem test_witness_meter_restored :
    (let s := (sampling 1 0).setBudget { (sampling 1 0).budget with silent := true, estimates := 7 };
      s.budget.silent = true ∧ s.admits .meterRestored
        ∧ (s.joined (after .meterSample s)).map Notice.kind = [.meterRestored])
      ∧ (sampling 1 0).budget.silent = false := by decide +kernel

theorem test_witness_ChannelTimersExpire :
    (let s := withChan { heater with target := 3 };
      s.stage = .running ∧ (s.chan 127).minOnT = some 0 ∧ (s.chan 127).granted ≤ (s.chan 127).target)
      ∧ (let s := withChan heater;
        (s.chan 127).minOnT = some 0 ∧ (s.chan 127).target < (s.chan 127).granted ∧ (s.chan 127).cfg.role.isStep = true
          ∧ (s.chan 127).minOffT = some 0)
      ∧ (let s := withChan { heater with entry := some ⟨300, false⟩ };
        (s.chan 127).entry = some ⟨300, false⟩ ∧ s.urgencyTime (s.chan 127) ≤ 300)
      ∧ (up.stage = .running ∧ (up.chan 127).minOnT ≠ some 0 ∧ (up.chan 127).minOffT ≠ some 0
        ∧ (up.chan 127).entry = none) := by decide +kernel

theorem test_witness_DoorInputsMoveTheDoor :
    (let s := withDoor (door .shut);
      s.stage = .running ∧ (s.door 31).state ≠ .unused ∧ s.dock.check = none)
      ∧ (up.door 31).state = .unused ∧ checking.dock.check ≠ none
      ∧ (let s := withDoor { door .openBare with contactT := some 0, presenceT := some 0 };
        s.stage = .running ∧ (s.door 31).contactT = some 0 ∧ (s.door 31).presenceT = some 0)
      ∧ (up.door 31).debounceT .contact ≠ some 0 := by decide +kernel

/-- The ways out of UNKNOWN, and the held timer. -/
theorem test_witness_door_expiries :
    (let s := withDoor { door .unknown with contactT := some 0, presenceT := some 0, loop := .openLoop };
      s.stage = .running ∧ (s.door 31).contactT = some 0 ∧ (s.door 31).presenceT = some 0 ∧ (s.door 31).state = .unknown
        ∧ (s.door 31).loop = .openLoop)
      ∧ (let s := withDoor { door .unknown with contactT := some 0 };
        (s.door 31).state = .unknown ∧ (s.door 31).loop ≠ .openLoop)
      ∧ (let s := withDoor { door .shut with contactT := some 0, debOpen := false };
        (s.door 31).state = .shut ∧ (s.door 31).debOpen ≠ (s.door 31).rawOpen)
      ∧ (let s := withDoor { door .openBare with heldT := some 0 };
        s.stage = .running ∧ (s.door 31).heldT = some 0 ∧ (s.door 31).session = none ∧ s.admits .heldOpen)
      ∧ (up.door 31).heldT ≠ some 0 := by decide +kernel

/-- The part at the level that passes every notice. -/
def loud (s : State) : State := s.setLine { s.line with level := .all }

/-- Door 31 with its contact and presence timers due: a state, what it stands in and what its inputs read now. -/
def turningDoor (x : DoorState) (debOpen debPresent rawOpen rawPresent : Bool) (session : Option Session) : Door :=
  { door x with
    contactT := some 0, presenceT := some 0, debOpen := debOpen, debPresent := debPresent, rawOpen := rawOpen, rawPresent := rawPresent
    session := session }

/-- An open door that shuts onto a trailer opens a session, and keeps it as it opens again; a departure closes it into the log, or into
the lost count where the log is full (R97, R112, R114, R115). -/
theorem test_witness_door_sessions :
    (let s := withDoor (turningDoor .openBare true true false true none)
      let t := after (.debounceExpiry 31 .contact) s;
      (s.door 31).state = .openBare ∧ (s.door 31).debOpen ≠ (s.door 31).rawOpen ∧ (t.door 31).state = .shutDocked
        ∧ (t.door 31).session.isSome)
      ∧ (let s := withDoor (turningDoor .shutDocked false true true true (some ⟨7, none, 3, 0, 0, 0⟩))
        let t := after (.debounceExpiry 31 .contact) s;
        (∀ y ∈ (s.door 31).session, y.openSeconds ≤ 4294967295) ∧ (t.door 31).state = .openDocked ∧ (t.door 31).cycles = 1
          ∧ (t.door 31).session.map (·.number) = some 7)
      ∧ (let s := loud (withDoor (turningDoor .openDocked true true true false (some ⟨7, none, 3, 0, 0, 0⟩)))
        let full := s.setDock { s.dock with log := (List.range 128).map fun n => ⟨31, .departed, none, ⟨n, none, 3, 0, 0, 0⟩⟩ }
        let t := after (.debounceExpiry 31 .presence) s;
        (t.door 31).state = .openBare ∧ (t.door 31).session = none ∧ (t.door 31).heldT = some 300
          ∧ s.dock.log.length < 128 ∧ 128 ≤ full.dock.log.length ∧ full.dock.lossReported = false
          ∧ (s.joined t).map Notice.kind = [.trailerDeparted]) := by decide +kernel

/-- The targets of a light and a curtain bound to the door, the trailer notice of a door in FAULT, and the silence of one in UNKNOWN. -/
theorem test_witness_door_targets_and_trailers :
    (let s := withDoor
        { turningDoor .shut false false true false none with cfg := { defaultDoor with enabled := true, light := some 5, curtain := some 6 } }
      let s := (s.putChan 5 (startChannel { defaultChannel with role := .docklight, roleTarget := some 31 } false)).putChan 6
        (startChannel { defaultChannel with role := .curtain, roleTarget := some 31 } false)
      let t := after (.debounceExpiry 31 .contact) s;
      (s.chan 5).cfg.role = .docklight ∧ (s.chan 6).cfg.role = .curtain ∧ (s.chan 6).cfg.roleTarget = some 31
        ∧ ((s.door 31).curtainRunning = true ↔ 0 < (s.chan 6).granted) ∧ (t.door 31).sentLight = 1
        ∧ (t.chan 5).target = 1 ∧ (t.chan 6).target = 1)
      ∧ (let s := loud (withDoor (turningDoor .fault true false true true none));
        (s.door 31).state = .fault ∧ (s.door 31).debPresent ≠ (s.door 31).rawPresent
          ∧ (s.joined (after (.debounceExpiry 31 .presence) s)).map Notice.kind = [.trailerArrived])
      ∧ (let s := loud (withDoor (turningDoor .unknown true false true true none));
        (s.door 31).state = .unknown ∧ s.joined (after (.debounceExpiry 31 .presence) s) = [])
      ∧ (let s := withDoor { door .openBare with heldT := some 0 };
        (s.door 31).state = .openBare ∧ ((after (.heldTimerExpiry 31) s).door 31).state = .held) := by decide +kernel

theorem test_witness_ContactCheckBeginsAndEnds :
    (checking.takes ⟨1, 0x3A, []⟩ [] ∧ checking.dock.check.isSome = true)
      ∧ (let s := withDoor (door .held);
        s.takes ⟨1, 0x3A, []⟩ [] ∧ s.dock.check = none ∧ s.openDoors ≠ [])
      ∧ (up.takes ⟨1, 0x3A, []⟩ [] ∧ up.dock.check = none ∧ up.openDoors = [])
      ∧ up.takes ⟨1, 0x3B, []⟩ [] ∧ checking.takes ⟨1, 0x3B, []⟩ []
      ∧ (checking.stage = .running ∧ checking.dock.check = some check ∧ check.remaining = 0)
      ∧ up.dock.check = none := by decide +kernel

/-- A door under test whose loop flowed or did not, in FAULT or in another state. -/
theorem test_witness_door_under_test :
    (let s := testing .fault (some true);
      s.stage = .running ∧ (s.door 31).state = .fault
        ∧ s.dock.check.any (fun k => k.remaining == 0 && look k.underTest 31 && look k.sample 31 == some true) = true)
      ∧ (let s := testing .held (some true);
        (s.door 31).state ≠ .fault ∧ s.dock.check.any (fun k => look k.underTest 31 && look k.sample 31 == some true) = true
          ∧ s.takes ⟨1, 0x3B, []⟩ [])
      ∧ (let s := testing .fault (some false);
        (s.door 31).state = .fault ∧ s.dock.check.any (fun k => look k.underTest 31 && look k.sample 31 != some true) = true)
      ∧ (let s := testing .shut none;
        (s.door 31).state ≠ .fault ∧ s.dock.check.any (fun k => look k.underTest 31 && look k.sample 31 != some true) = true
          ∧ s.dock.check.any (fun k => !look k.underTest 30) = true) := by decide +kernel

theorem test_witness_ConfigDoorTakesEffect :
    (let b : Bytes := [32, 1, 0, 0, 0, 0, 0, 0xFF, 0xFF];
      b.length = 9 ∧ up.takes ⟨1, 0x38, b⟩ [] ∧ 32 ≤ u8 b 0)
      ∧ (let b : Bytes := [31, 1, 11, 0, 0, 0, 0, 127, 127];
        up.takes ⟨1, 0x38, b⟩ [] ∧ u8 b 0 < 32
          ∧ doorSent? b = some ⟨true, 11, 0, 0, 0, some 127, some 127⟩)
      ∧ (let b : Bytes := [31, 1, 11, 0, 0, 0, 0, 0xFF, 0xFF];
        up.takes ⟨1, 0x38, b⟩ [] ∧ checking.takes ⟨1, 0x38, b⟩ [] ∧ checking.dock.check.isSome ∧ u8 b 0 = (31 : Fin 32)
          ∧ doorSent? b = some ⟨true, 11, 0, 0, 0, none, none⟩ ∧ up.dock.check = none
          ∧ (up.door 31).cfg.enabled = false)
      ∧ (let b : Bytes := [31, 0, 11, 0, 0, 0, 0, 0xFF, 0xFF]
        let s := withDoor (door .shutDocked);
        s.takes ⟨1, 0x38, b⟩ [] ∧ u8 b 0 = (31 : Fin 32) ∧ doorSent? b = some ⟨false, 11, 0, 0, 0, none, none⟩
          ∧ s.dock.check = none ∧ (s.door 31).cfg.enabled = true) := by decide +kernel

/-- CONFIG DOOR of door 31: enabled, curtain and dock light as given. -/
def doorBody (enabled curtain light : Byte) : Bytes := [31, enabled, 11, 0, 0, 0, 0, curtain, light]

/-- An open door with its curtain on channel 6 and its dock light on channel 5, both running. -/
def served : State :=
  let s := withDoor { door .held with cfg := { defaultDoor with enabled := true, curtain := some 6, light := some 5 }, curtainRunning := true }
  let on := fun role => { startChannel { defaultChannel with role := role, roleTarget := some 31 } false with target := 1, granted := 1 }
  (s.putChan 5 (on .docklight)).putChan 6 (on .curtain)

/-- A door disabled with its session open, over a log with room and a full one (R91, R115). -/
theorem test_witness_config_door_session :
    (let s := withDoor { door .shutDocked with session := some ⟨7, none, 3, 0, 0, 0⟩ }
      let full := s.setDock { s.dock with log := (List.range 128).map fun n => ⟨31, .departed, none, ⟨n, none, 3, 0, 0, 0⟩⟩ };
      s.takes ⟨1, 0x38, doorBody 0 0xFF 0xFF⟩ [] ∧ doorSent? (doorBody 0 0xFF 0xFF) = some ⟨false, 11, 0, 0, 0, none, none⟩
        ∧ (s.door 31).cfg.enabled = true ∧ (s.door 31).session.isSome ∧ s.dock.check = none ∧ s.dock.log.length < 128
        ∧ 128 ≤ full.dock.log.length ∧ full.dock.lossReported = false) := by decide +kernel

/-- A curtain and a dock light that are replaced, kept or dropped, by a channel bound to the door, one of another role that holds steps, one
that holds none, and one of no steps (R91, log entry 22). -/
theorem test_witness_config_door_channels :
    (served.takes ⟨1, 0x38, doorBody 1 6 5⟩ [] ∧ served.takes ⟨1, 0x38, doorBody 1 0xFF 0xFF⟩ [] ∧ served.dock.check = none
        ∧ doorSent? (doorBody 1 6 5) = some ⟨true, 11, 0, 0, 0, some 6, some 5⟩
        ∧ doorSent? (doorBody 1 0xFF 0xFF) = some ⟨true, 11, 0, 0, 0, none, none⟩
        ∧ (served.chan 6).cfg.role = .curtain ∧ (served.chan 6).cfg.roleTarget = some 31 ∧ (served.chan 5).cfg.role = .docklight
        ∧ (served.chan 5).cfg.roleTarget = some 31 ∧ (served.door 31).curtainRunning = true ∧ 0 < (served.chan 6).granted)
      ∧ (let s := served.putDoor 31 { served.door 31 with cfg := { defaultDoor with enabled := true } };
        s.takes ⟨1, 0x38, doorBody 1 6 5⟩ [] ∧ (s.door 31).cfg.curtain ≠ some 6 ∧ (s.door 31).cfg.light ≠ some 5)
      ∧ (let s := served.putChan 127 heater;
        doorSent? (doorBody 1 127 5) = some ⟨true, 11, 0, 0, 0, some 127, some 5⟩ ∧ (s.door 31).cfg.curtain ≠ some 127
          ∧ (s.chan 127).cfg.role ≠ .curtain ∧ (s.chan 127).cfg.role.isStep = true ∧ 0 < (s.chan 127).granted)
      ∧ (let s := served.putChan 127 { heater with granted := 0 };
        (s.chan 127).cfg.role.isStep = true ∧ (s.chan 127).granted = 0 ∧ (s.chan 127).entry = none)
      ∧ (served.chan 127).cfg.role.isStep = false := by decide +kernel

/-- Curtain running is no once the curtain is dropped, and the old channel is asked for nothing. -/
theorem test_config_door_drops :
    ((after (.configDoor 1 (doorBody 1 0xFF 5)) served).door 31).curtainRunning = false
      ∧ ((after (.configDoor 1 (doorBody 1 0xFF 5)) served).chan 6).target = 0 := by decide +kernel

theorem test_witness_DoorReadsAnswerInFull : up.takes ⟨1, 0x39, [31]⟩ [] ∧ up.takes ⟨1, 0x39, [32]⟩ []
    ∧ (4294967295 < 4294967296 ∧ up.takes ⟨1, 0x3D, le32 4294967295⟩ []) ∧ up.takes ⟨1, 0x3C, []⟩ [] :=
  ⟨test_takes _, test_takes _, ⟨by decide, test_takes _⟩, test_takes _⟩

theorem test_witness_PointSamplesAreTaken :
    (let s := withPoint { startPoint true 300 with state := .stale, staleT := none };
      s.stage = .running ∧ (look s.climate.temps 31).state = .stale ∧ (look s.climate.exhausts 11).state = .stale
        ∧ s.admits .pointRestored)
      ∧ ((-500 : Int) ≤ 800 ∧ (800 : Int) ≤ 800 ∧ ((-501 : Int) < -500 ∨ (800 : Int) < -501) ∧ (2000 : Int) < 2001)
      ∧ (let s := withPoint { startPoint true 300 with staleT := some 0 };
        s.stage = .running ∧ (look s.climate.temps 31).staleT = some 0 ∧ (look s.climate.exhausts 11).staleT = some 0
          ∧ s.admits .pointStale)
      ∧ (look up.climate.temps 31).staleT ≠ some 0 ∧ (look up.climate.exhausts 11).staleT ≠ some 0 := by decide +kernel

/-- A point that is not used. -/
theorem test_witness_unused_points : up.stage = .running ∧ (look up.climate.temps 31).state = .unused
    ∧ (look up.climate.exhausts 11).state = .unused := by decide +kernel

theorem test_witness_PointRequestsAnswer :
    (let b : Bytes := [0, 0, 0, 0, 0, 0, 32, 0, 0];
      b.length = 9 ∧ up.takes ⟨1, 0x42, b⟩ [] ∧ 32 ≤ u8 b 6)
      ∧ (let b : Bytes := [0xFF, 0xFF, 0xFF, 0xFF, 0xFF, 0x0F, 31, 0, 0];
        b.length = 9 ∧ up.takes ⟨1, 0x42, b⟩ [] ∧ u8 b 6 = (31 : Fin 32))
      ∧ up.takes ⟨1, 0x43, [0]⟩ [] ∧ up.takes ⟨1, 0x43, [1]⟩ [] ∧ (up.takes ⟨1, 0x43, [2]⟩ [] ∧ 1 < (2 : Byte).toNat) := by
  decide +kernel

theorem test_witness_ZoneRequestsAnswer :
    (let b : Bytes := [12, 0xFF, 0xFF, 0, 0xFF] ++ List.replicate 19 0;
      b.length = 24 ∧ up.takes ⟨1, 0x40, b⟩ [] ∧ 12 ≤ u8 b 0)
      ∧ (let b : Bytes := [11, 5, 5, 31, 11] ++ List.replicate 19 0;
        up.takes ⟨1, 0x40, b⟩ [] ∧ u8 b 0 < 12
          ∧ (zoneSent? b).map (fun n => (n.heater.isSome, n.heater == n.fan)) = some (true, true))
      ∧ (let b : Bytes := [11, 5, 6, 31, 11] ++ List.replicate 19 0;
        up.takes ⟨1, 0x40, b⟩ [] ∧ u8 b 0 = (11 : Fin 12)
          ∧ (zoneSent? b).map (fun n => (n.heater == n.fan, n.heater == (up.zone 11).cfg.heater, n.fan == (up.zone 11).cfg.fan))
            = some (false, false, false))
      ∧ (let b : Bytes := [11, 0xFF, 0xFF, 31, 11] ++ List.replicate 19 0;
        up.takes ⟨1, 0x40, b⟩ [] ∧ u8 b 0 = (11 : Fin 12)
          ∧ (zoneSent? b).map (fun n => (n.heater.isSome, n.heater == (up.zone 11).cfg.heater)) = some (false, true))
      ∧ up.takes ⟨1, 0x41, [11]⟩ [] ∧ up.takes ⟨1, 0x41, [12]⟩ [] := by decide +kernel

/-- A heater that a zone no longer names is asked for nothing (R123). -/
theorem test_witness_zone_replaced :
    let s := (withChan heater).putZone 0 (startZone 0 { defaultZone 0 with heater := some 127 })
    let b : Bytes := [0, 0xFF, 0xFF, 31, 11] ++ List.replicate 19 0;
    b.length = 24 ∧ u8 b 0 = (0 : Fin 12) ∧ s.takes ⟨1, 0x40, b⟩ [] ∧ (zoneSent? b).map (·.heater) = some none
      ∧ (s.zone 0).cfg.heater = some 127 ∧ (s.chan 127).cfg.role = .heater ∧ (s.chan 127).cfg.roleTarget = some 0
      ∧ (s.chan 127).target ≠ 0 ∧ ((after (.configZone 1 b) s).chan 127).target = 0 := by decide +kernel

theorem test_witness_ZoneEvaluationIsTakenWhole : up.stage = .running ∧ (up.zone 0).evalT = 0 ∧ (up.zone 11).evalT ≠ 0
    ∧ (let s := (withChan heater).putZone 0 (startZone 0 { defaultZone 0 with heater := some 127 });
      s.stage = .running ∧ (s.zone 0).evalT = 0 ∧ (s.chan 127).cfg.role = .heater ∧ (s.chan 127).cfg.roleTarget = some 0) := by
  decide +kernel

/-- The running part with zone 0 due, its heater on channel 127, and its temperature point at a value. -/
def heating (c : Channel) (x : Zone) (value : Option Int) : State :=
  let s := (withChan c).setClimate { up.climate with
    temps := upd up.climate.temps 0
      { startPoint true 300 with state := if value.isSome then .good else .stale, value := value, lastGood := value.map fun _ => 0 } }
  s.putZone 0 { x with cfg := { x.cfg with heater := some 127, mz := 60 } }

/-- The terms of a cold zone whose heater has what it asked for, the freeze of one that is held back, and the fallback call. -/
theorem test_witness_zone_heating :
    (let s := heating { heater with granted := 1 } (up.zone 0) (some 100)
      let t := after (.zoneEvaluation 0) s;
      (s.zone 0).evalT = 0 ∧ (look s.climate.temps 0).state = .good ∧ (s.chan 127).cfg.roleTarget = some 0
        ∧ (t.zone 0).figures.terms.map (·.frozen) = some none ∧ (t.zone 0).integral ≠ 0)
      ∧ (let t := after (.zoneEvaluation 0) (heating { heater with granted := 0 } (up.zone 0) (some 100));
        (t.zone 0).figures.terms.map (·.frozen) = some (some .heldBack) ∧ (t.zone 0).integral = 0)
      ∧ (let t := after (.zoneEvaluation 0) (heating heater (up.zone 0) none);
        (t.zone 0).figures.fallbackCall = true ∧ (t.zone 0).call = 300) := by decide +kernel

/-- A zone that preconditions for a warmer next phase, and one under an override (R126, R127). -/
theorem test_witness_zone_setpoint :
    (let s := heating heater (up.zone 0) (some 100)
      let warm := upd s.plan.climateSets 1 (Vector.replicate 12 ⟨250, 8, 0⟩)
      let s := s.setPlan { s.plan with
        clock := some 600000, next := some 10079, climateSets := warm
        phases := [{ phase with fields := { phase.fields with precondition := true, climateSet := 1 } }] };
      s.plan.current.fields.climateSet = 0 ∧ ((after (.zoneEvaluation 0) s).zone 0).mode = .precondition
        ∧ ((after (.zoneEvaluation 0) s).zone 0).figures.setpoint = 250)
      ∧ (let s := heating heater (up.zone 0) (some 100)
        let s := s.setPlan { s.plan with overrides := [⟨.climate 0, 200, none, none⟩] };
        ((after (.zoneEvaluation 0) s).zone 0).figures.setpoint = 200) := by decide +kernel

/-- An evaluation that enters PURGE at 100.0 °C with the fan asked for more, and one that leaves it below 90.0 °C (R139). -/
theorem test_witness_zone_purge :
    (let s := exhausting .normal 1000
      let t := after (.zoneEvaluation 11) s;
      s.stage = .running ∧ (s.zone 11).evalT = 0 ∧ (s.zone 11).cfg.fan = some 127 ∧ (s.chan 127).cfg.role = .fan
        ∧ (s.chan 127).cfg.roleTarget = some 11 ∧ (s.zone 11).vent ≠ .purge ∧ (t.zone 11).vent = .purge
        ∧ (t.zone 11).fanTarget = 4 ∧ (s.zone 11).fanTarget ≠ 4 ∧ (s.chan 127).target < 4)
      ∧ (let s := exhausting .purge 899
        let t := after (.zoneEvaluation 11) s;
        (s.zone 11).evalT = 0 ∧ (s.zone 11).vent = .purge ∧ (t.zone 11).vent = .normal) := by decide +kernel

theorem test_witness_LightZoneRequestsAnswer :
    (let b : Bytes := [24, 0xFF, 0, 0, 0, 0, 0, 0, 0, 0, 0];
      b.length = 11 ∧ up.takes ⟨1, 0x48, b⟩ [] ∧ 24 ≤ u8 b 0)
      ∧ (let b : Bytes := [23, 127, 1, 0, 0, 0, 0, 0, 0, 0xFF, 0xFF];
        walking.takes ⟨1, 0x48, b⟩ [] ∧ u8 b 0 = (23 : Fin 24) ∧ lightSent? b = some ⟨some 127, true, 0, 0, 0, 65535⟩
          ∧ walking.lighting.walk.isSome ∧ up.takes ⟨1, 0x48, b⟩ [] ∧ up.lighting.walk = none)
      ∧ up.takes ⟨1, 0x49, [23]⟩ [] ∧ up.takes ⟨1, 0x49, [24]⟩ [] := by decide +kernel

/-- A light that a zone no longer names, and one that it names with a new protected minimum (R40, R146). -/
theorem test_witness_light_channels :
    (let b : Bytes := [23, 0xFF, 0, 0, 0, 0, 0, 0, 0, 200, 0];
      lit.takes ⟨1, 0x48, b⟩ [] ∧ lightSent? b = some ⟨none, false, 0, 0, 0, 200⟩ ∧ lit.lighting.walk = none
        ∧ (lit.light 23).cfg.channel = some 127 ∧ (lit.chan 127).cfg.role = .light ∧ (lit.chan 127).cfg.roleTarget = some 23
        ∧ (lit.chan 127).target ≠ 0)
      ∧ (let b : Bytes := [23, 127, 0, 0, 0, 0, 0, 0, 0, 200, 0];
        lightSent? b = some ⟨some 127, false, 0, 0, 0, 200⟩ ∧ (lit.chan 127).cfg.protMin ≠ 200
          ∧ ((after (.configLightZone 1 b) lit).chan 127).cfg.protMin = 200
          ∧ (withChan lamp).takes ⟨1, 0x48, b⟩ [] ∧ ((withChan lamp).light 23).cfg.channel = none) := by decide +kernel

/-- A light sent the minimum it holds, over a P_prot that stands and over one that its channels do not bear out; the latter is worked out
afresh (R61). A zone that names no channel of its own is sent nothing. -/
theorem test_repeated_minimum_recomputes :
    (let b : Bytes := [23, 127, 0, 0, 0, 0, 0, 0, 0, 0, 0];
      lightSent? b = some ⟨some 127, false, 0, 0, 0, 0⟩ ∧ (lit.chan 127).cfg.protMin = 0 ∧ lit.budget.pProt = 0
        ∧ (after (.configLightZone 1 b) lit).budget.pProt = 0
        ∧ (after (.configLightZone 1 b) (lit.setBudget { lit.budget with pProt := 7 })).budget.pProt = 0)
      ∧ (up.light 23).cfg.channel = none ∧ (up.chan 127).cfg.role ≠ .light := by decide +kernel

theorem test_witness_PresenceGovernsVacancy :
    (watched.stage = .running ∧ (watched.light 23).cfg.presence = true ∧ watched.plan.current.fields.kind ≠ .changeover
        ∧ (watched.light 23).vacant = true ∧ (watched.light 23).presenceT = some 0)
      ∧ (up.stage = .running ∧ (up.light 23).cfg.presence = false ∧ (up.light 23).presenceT ≠ some 0) := by decide +kernel

/-- Lighting zone 23 with presence enabled and vacant, as the part takes the phase of `turning` after a phase of a kind. -/
def turnedLight (before after : PhaseKind) : State :=
  let s := turning.setPlan { turning.plan with phases := [{ phase with fields := { phase.fields with kind := after } }] }
  let t := s.setLighting { s.lighting with lastKind := before }
  t.putLight 23 { t.light 23 with cfg := { defaultLight with presence := true }, vacant := true }

/-- A turn into CHANGEOVER, and one out of it into a BREAK (R149). -/
theorem test_turn_presence :
    ((after .timedTurn (turnedLight .work .changeover)).light 23).vacant = false
      ∧ ((after .timedTurn (turnedLight .changeover .break_)).light 23).presenceT = some 180 := by decide +kernel

/-- Each turn event: a timed turn, a jump and an entry, an emptied list, a fallback refresh. -/
theorem test_witness_turn_events :
    (let s := turnedLight .work .changeover;
      s.stage = .running ∧ s.plan.timedTurnDue = true ∧ s.nextRecord.isSome ∧ (s.light 23).cfg.presence = true
        ∧ s.lighting.lastKind ≠ .changeover)
      ∧ (turning.takes ⟨1, 0x03, le32 0⟩ [] ∧ governing turning.plan.phases 0 = some phase
        ∧ turning.plan.current.source ≠ some phase.start)
      ∧ (let b : Bytes := [0x5F, 0x27, 1, 0, 0, 0, 0, 0];
        (listFields? b).isSome ∧ u16 b 0 < 10080 ∧ clocked.plan.phases = [] ∧ clocked.plan.clock.isSome = true
          ∧ clocked.takes ⟨1, 0x10, b⟩ [])
      ∧ (turning.plan.phases ≠ [] ∧ (∀ r ∈ turning.plan.phases, r.start = u16 [0x5F, 0x27] 0)
        ∧ turning.takes ⟨1, 0x11, [0x5F, 0x27]⟩ [] ∧ turning.plan.clock.isSome = true)
      ∧ (let b : Bytes := [0xFF, 0xFF, 1, 0, 0, 0, 0, 0];
        (phaseFields? b).isSome ∧ u16 b 0 = 65535 ∧ up.plan.current.source = none ∧ up.takes ⟨1, 0x12, b⟩ [])
      ∧ ((lit.light 23).cfg.channel = some 127 ∧ (lit.chan 127).cfg.role = .light
        ∧ (lit.chan 127).cfg.roleTarget = some 23) := by decide +kernel

theorem test_witness_WalkVisitsItsList :
    ((plant .released).takes ⟨1, 0x4A, [0]⟩ [] ∧ (plant .released).stop.state ≠ .running)
      ∧ (walking.takes ⟨1, 0x4A, [60]⟩ [] ∧ walking.stop.state = .running ∧ walking.lighting.walk.isSome)
      ∧ (up.takes ⟨1, 0x4A, [61]⟩ [] ∧ up.lighting.walk = none)
      ∧ (walking.stage = .running ∧ walking.lighting.walk = some lastVisit ∧ lastVisit.remaining = 0)
      ∧ (lit.takes ⟨1, 0x4A, [60]⟩ [] ∧ lit.walkList = [23] ∧ lit.stop.state = .running ∧ lit.lighting.walk = none)
      ∧ (up.walkList = [] ∧ (lit.lightBinding 23).isSome = true)
      ∧ (visiting.stage = .running ∧ visiting.stop.state = .running
        ∧ visiting.lighting.walk = some { lastVisit with toVisit := [23] } ∧ lastVisit.remaining = 0)
      ∧ up.takes ⟨1, 0x4B, []⟩ [] ∧ walking.takes ⟨1, 0x4B, []⟩ [] := by decide +kernel

theorem test_witness_PowerOnLoadsTheStore :
    (let s := loading.setStore { loading.store with image := .written factorySnapshot (crc16 factorySnapshot.image) };
      s.stage = .loading ∧ s.store.image = .written factorySnapshot (crc16 factorySnapshot.image))
      ∧ (loading.stage = .loading ∧ loading.store.image = .blank ∧ loading.line.notices = [] ∧ loading.store.saving = none)
      ∧ (let s := loading.setStore { loading.store with image := factorySnapshot.cutShort };
        s.stage = .loading ∧ ∃ c crc, s.store.image = .written c crc ∧ crc ≠ crc16 c.image)
      ∧ up.stage ≠ .loading :=
  ⟨⟨rfl, rfl⟩, ⟨rfl, rfl, rfl, rfl⟩, ⟨rfl, _, _, rfl, crc_not_ne _⟩, by decide⟩

/-- A running part whose plan, sessions and counters a power-on discards, with a save in progress that it cuts short (R158). -/
theorem test_witness_power_on_discards :
    let s := saving
    let u := (s.setPlan turning.plan).setDock { s.dock with nextSession := 9, lost := 3 };
    s.stop.fire = u.stop.fire ∧ (∀ i, (s.chan i).tripIn = (u.chan i).tripIn)
      ∧ (∀ d, (s.door d).rawOpen = (u.door d).rawOpen ∧ (s.door d).rawPresent = (u.door d).rawPresent)
      ∧ s.line.sent = u.line.sent ∧ s.pending = u.pending ∧ s.drawn = u.drawn ∧ s.store = u.store ∧ s.plan ≠ u.plan
      ∧ s.dock ≠ u.dock ∧ s.store.saving = some (factorySnapshot, 0) ∧ up.store.saving = none := by decide +kernel

/-- A configuration with a light that a zone is bound to, one that no zone names, and a heater whose trip line is used. -/
def started : Snapshot :=
  { factorySnapshot with
    channels := Vector.ofFn fun i =>
      match i.val with
      | 127 => { defaultChannel with role := .light, roleTarget := some 23, rating := 42, protMin := 200 }
      | 126 => { defaultChannel with role := .light, roleTarget := some 22 }
      | 125 => heater.cfg
      | _ => defaultChannel
    lights := upd factorySnapshot.lights 23 { defaultLight with channel := some 127, protMin := 200 } }

/-- The part loading, with the heater's trip input asserted. -/
def starting : State := loading.putChan 125 { loading.chan 125 with tripIn := true }

/-- What the load of an image that verifies leaves, with the fire-panel input clear. -/
def loadOf (c : Snapshot) (s : State) : State :=
  lightingStart (budgetStart (startUpNotices (.ok c)
    (((s.afresh .running c { s.store with source := .store }).setLine { s.line with level := c.level }).setStop
      ⟨.running, false, 0⟩)))

/-- The load of an image that verifies leaves that state (R158). -/
theorem test_load_of (s : State) (c : Snapshot) (stage : s.stage = .loading) (fire : s.stop.fire = false)
    (image : s.store.image = .written c (crc16 c.image)) : exec (.storeLoadComplete true) s = .next (loadOf c s) := by
  have verifies : loadImage true s.store.image = .ok c := by simp [loadImage, StoreImage.verified, Snapshot.crc, image]
  simp only [exec, execStoreLoadComplete, finishLoading, verifies, stage, fire, loadedSnapshot, if_true, Bool.false_eq_true,
    if_false, loadOf]

/-- A light that a zone is bound to, one that no zone names, and a channel that starts TRIPPED (R43, R145). The external store has no part in
these figures, so its image is left as it is here. -/
theorem test_witness_load_channels :
    let t := loadOf started starting;
    starting.stage = .loading ∧ starting.stop.fire = false ∧ t.lightBinding 23 = some 127 ∧ (t.chan 127).target = 1000
      ∧ (∀ z, t.lightBinding z ≠ some 126) ∧ (look started.channels 126).role = .light ∧ (t.chan 126).granted = 0
      ∧ (t.chan 125).tripped = true ∧ (look started.channels 127).protMin = (look started.lights 23).protMin
      ∧ 60 ≤ started.limits.window ∧ t.budget.ct = 12000 := by decide +kernel

/-- A load with the fire-panel input asserted, of an image whose level passes CLOCK_NEEDED or not. -/
theorem test_witness_load_notices :
    (let s := (loading.setStop { loading.stop with fire := true }).setLine { loading.line with notices := [] };
      s.stage = .loading ∧ s.stop.fire = true ∧ s.line.notices = [])
      ∧ (factorySnapshot.level ≠ .alarms ∧ ({ factorySnapshot with level := .alarms } : Snapshot).level = .alarms
        ∧ loading.stop.fire = false) := by decide

theorem test_witness_RestartStartsAgain : (up.takes ⟨1, 0x51, [2]⟩ [] ∧ 1 < (2 : Byte).toNat) ∧ up.takes ⟨1, 0x51, [0]⟩ []
    ∧ (saving.takes ⟨1, 0x51, [1]⟩ [] ∧ saving.store.saving.isSome) ∧ (up.takes ⟨1, 0x51, [1]⟩ [] ∧ up.store.saving = none) := by
  decide +kernel

/-- A PLANT restart with a tight flag, a bound and an unbound light, a contact check and a walk. -/
theorem test_witness_PlantRestart :
    ((pooled 299 true).takes ⟨1, 0x51, [0]⟩ [] ∧ (pooled 299 true).budget.tight = true ∧ (pooled 299 true).profile.tight ≤ 1000
        ∧ ((pooled 299 true).chan 127).cfg.role.isStep = true)
      ∧ (lit.takes ⟨1, 0x51, [0]⟩ [] ∧ lit.lightBinding 23 = some 127)
      ∧ ((withChan lamp).takes ⟨1, 0x51, [0]⟩ [] ∧ ((withChan lamp).chan 127).cfg.role = .light
        ∧ ∀ z, (withChan lamp).lightBinding z = none)
      ∧ (checking.takes ⟨1, 0x51, [0]⟩ [] ∧ checking.dock.check = some check)
      ∧ (walking.takes ⟨1, 0x51, [0]⟩ [] ∧ walking.lighting.walk.isSome) := by decide +kernel

/-- A PLANT restart that closes a session into a log with room and into a full one (R114, R115, R159). -/
theorem test_witness_restart_session :
    let s := withDoor { door .openDocked with session := some ⟨7, none, 3, 0, 0, 0⟩ }
    let full := s.setDock { s.dock with log := (List.range 128).map fun n => ⟨31, .departed, none, ⟨n, none, 3, 0, 0, 0⟩⟩ };
    s.takes ⟨1, 0x51, [0]⟩ [] ∧ (s.door 31).session.isSome ∧ 0 < 128 - s.dock.log.length ∧ full.takes ⟨1, 0x51, [0]⟩ []
      ∧ 128 - full.dock.log.length = 0 ∧ full.dock.lossReported = false ∧ s.line.lost ≤ 65535
      ∧ (after (.restartPlant 1 [0]) full).dock.lost = 1 := by decide +kernel

theorem test_witness_PlantStopsAndResumes :
    (up.stage = .running ∧ up.stop.state = .running ∧ up.admits .plantStop)
      ∧ ((plant .released).stage = .running ∧ (plant .released).stop.state = .released)
      ∧ ((plant .stopped).stage = .running ∧ (plant .stopped).stop.state = .stopped ∧ (plant .stopped).admits .plantReleased)
      ∧ loading.stage ≠ .running
      ∧ ((plant .stopped).stage = .running ∧ up.stage = .running ∧ up.stop.state ≠ .stopped)
      ∧ (plant .stopped).takes ⟨1, 0x50, []⟩ [] ∧ up.takes ⟨1, 0x50, []⟩ []
      ∧ ((plant .released).takes ⟨1, 0x50, []⟩ [] ∧ (plant .released).admits .plantResumed) := by decide +kernel

/-- A stop with a lit zone, a door that runs its light and curtain, a zone in PURGE with its fan running, and a walk (R101, R143, R150,
R154). -/
theorem test_witness_stop_units :
    (lit.stop.state = .running ∧ lit.lightBinding 23 = some 127 ∧ (lit.chan 127).granted ≤ units (lit.chan 127).cfg.rating 1000)
      ∧ (let s := served.putDoor 31 { served.door 31 with sentLight := 1, sentCurtain := 1 };
        s.stage = .running ∧ (s.door 31).cfg.curtain = some 6 ∧ (s.chan 6).cfg.role = .curtain
          ∧ (s.chan 6).cfg.roleTarget = some 31 ∧ 0 < (s.chan 6).granted
          ∧ ((after (.firePanelSample true) s).chan 6).target = 0)
      ∧ (let s := exhausting .purge 1000;
        s.stage = .running ∧ s.stop.state = .running ∧ (s.zone 11).vent = .purge)
      ∧ (walking.stage = .running ∧ walking.stop.state = .running ∧ walking.lighting.walk.isSome) := by decide +kernel

/-- RESUME over a zone whose evaluation asks its heater for stages, and a held door (R101, R132, R157). -/
theorem test_witness_resume_units :
    (let s := (heating { heater with target := 0, granted := 0 } (up.zone 0) (some 100)).setStop ⟨.released, false, 0⟩
      let t := after (.resume 1 []) s;
      s.takes ⟨1, 0x50, []⟩ [] ∧ (s.zone 0).cfg.heater = some 127 ∧ (s.chan 127).cfg.role = .heater
        ∧ (s.chan 127).cfg.roleTarget = some 0 ∧ (t.chan 127).target ≠ 0)
      ∧ (let s := served.setStop ⟨.released, false, 0⟩;
        s.takes ⟨1, 0x50, []⟩ [] ∧ (s.door 31).state = .held ∧ (s.door 31).sentLight = 0) := by decide +kernel

theorem test_witness_SaveWritesTheSnapshot :
    (saving.takes ⟨1, 0x52, []⟩ [] ∧ saving.store.saving.isSome) ∧ (up.takes ⟨1, 0x52, []⟩ [] ∧ up.store.saving = none)
      ∧ (saving.stage = .running ∧ saving.store.saving = some (factorySnapshot, 0) ∧ saving.admits .saveDone
        ∧ saving.admits .saveFailed ∧ SaveResult.noAnswer ≠ .compared) := by decide +kernel

theorem test_witness_SavedConfigurationComesBack : up.takes ⟨1, 0x52, []⟩ [] ∧ up.store.saving = none
    ∧ ∃ s1 s2 s3 s4, exec (.save 1 []) up = .next s1 ∧ exec (.saveComplete .compared) s1 = .next s2
        ∧ exec .powerOn s2 = .next s3 ∧ exec (.storeLoadComplete true) s3 = .next s4 :=
  ⟨test_takes _, rfl, _, _, _, _, rfl, rfl, rfl, rfl⟩

theorem test_witness_EachUnitKeepsToItself :
    (Instr.timedTurn.isPlan = true ∧ ∃ t, exec .timedTurn up = .next t)
      ∧ (Instr.meterSample.isArbiterEvent = true ∧ ∃ t, exec .meterSample up = .next t)
      ∧ (Instr.checkLimitExpiry.isDock = true ∧ ∃ t, exec .checkLimitExpiry up = .next t)
      ∧ ((Instr.zoneEvaluation 0).isClimate = true ∧ ∃ t, exec (.zoneEvaluation 0) up = .next t)
      ∧ (Instr.dwellExpiry.isLighting = true ∧ ∃ t, exec .dwellExpiry up = .next t) :=
  ⟨⟨rfl, _, rfl⟩, ⟨rfl, _, rfl⟩, ⟨rfl, _, rfl⟩, ⟨rfl, _, rfl⟩, rfl, _, rfl⟩

end Sys2Proof.Tests
end

namespace Sys2Proof.Machine

/-! ### The taking of a request whose frame is next (R163, R164) -/

theorem takeFrame_of_takes {s : State} {f : Frame} {rest : List Frame} (h : s.takes f rest) :
    takeFrame f s = some (s.taken rest) := by
  obtain ⟨-, hbuf | ⟨hbuf, rfl⟩⟩ := h
  · simp [takeFrame, hbuf, State.taken]
  · have same : s.taken [] = s := by rw [State.taken, ← hbuf]; rfl
    simp [takeFrame, hbuf, same]

/-- A request whose frame is next and whose body has the length of the table is carried out on the state without the frame, and
answered with the reply its service gives (R164). -/
theorem request_of_takes {s : State} {kind tag : Byte} {body : Bytes} {rest : List Frame} {rule : BodyRule} (service : Service)
    (h : s.takes ⟨tag, kind, body⟩ rest) (hrule : bodyRule? kind = some rule) (hlen : rule.admits body.length = true) :
    request kind tag body service s
      = .next (sendReply tag kind (service (s.taken rest)).2 (service (s.taken rest)).1) := by
  simp [request, h.1, takeFrame_of_takes h, hrule, hlen]

theorem sendReply_taken (s : State) (rest : List Frame) (tag kind : Byte) (reply : Bytes) :
    sendReply tag kind reply (s.taken rest) = s.answered rest tag kind reply := rfl

@[simp] theorem State.taken_plan (s : State) (rest : List Frame) : (s.taken rest).plan = s.plan := rfl

/-- A request that only reads leaves the state as it was but for the frame taken and the reply. -/
theorem request_read_of_takes {s : State} {kind tag : Byte} {body : Bytes} {rest : List Frame} {rule : BodyRule}
    (reply : State → Bytes) (h : s.takes ⟨tag, kind, body⟩ rest) (hrule : bodyRule? kind = some rule)
    (hlen : rule.admits body.length = true) :
    request kind tag body (fun t => (t, reply t)) s = .next (s.answered rest tag kind (reply (s.taken rest))) := by
  rw [request_of_takes _ h hrule hlen, sendReply_taken]

/-! ### The clock on the line (R3) -/

theorem leTime_some (t : Nat) : leTime (some t) = le32 t := rfl

/-- An absent week-second is 0xFFFFFFFF on the line. -/
theorem leTime_none : leTime none = [0xFF, 0xFF, 0xFF, 0xFF] := by decide

theorem exec_readClock (tag : Byte) (body : Bytes) (s : State) :
    exec (.readClock tag body) s
      = request 0x04 tag body (fun t => (t, stOk ++ leFlag t.plan.clock.isSome ++ leTime t.plan.clock)) s := by
  rfl

/-- Settles O13: READ CLOCK only reads, and its reply is formed from the clock, which the taking of the frame leaves alone. -/
theorem clockIsRead : Obligations.ClockIsRead := by
  intro s tag rest h
  have hrule : bodyRule? 0x04 = some (.exactly 0) := by decide
  rw [exec_readClock, request_read_of_takes _ h hrule rfl, State.taken_plan]
  cases s.plan.clock with
  | some t => simp [leTime_some, leFlag]
  | none => simp [leTime_none, leFlag]

end Sys2Proof.Machine

namespace Sys2Proof.Machine

/-! ### The reading of a settings table entry (R31) -/

@[simp] theorem index?_eq_none_iff {n k : Nat} : index? n k = none ↔ n ≤ k := by
  simp [index?]

@[simp] theorem PlanUnit.entryBytes_scene (p : PlanUnit) (i : Fin 16) :
    p.entryBytes 0 i = some (sceneBytes (look p.scenes i)) := by
  simp [PlanUnit.entryBytes]

@[simp] theorem PlanUnit.entryBytes_climateSet (p : PlanUnit) (i : Fin 8) :
    p.entryBytes 1 i = some (climateSetBytes (look p.climateSets i)) := by
  simp [PlanUnit.entryBytes]

@[simp] theorem PlanUnit.entryBytes_profile (p : PlanUnit) (i : Fin 4) :
    p.entryBytes 2 i = some (profileBytes (look p.profiles i)) := by
  simp [PlanUnit.entryBytes]

/-- A table and index without an entry: the table is unknown or the index out of its range (R31). -/
theorem PlanUnit.entryBytes_eq_none_iff (p : PlanUnit) (table index : Nat) :
    p.entryBytes table index = none
      ↔ ¬((table = 0 ∧ index < 16) ∨ (table = 1 ∧ index < 8) ∨ (table = 2 ∧ index < 4)) := by
  match table with
  | 0 | 1 | 2 | _ + 3 => simp [PlanUnit.entryBytes]

/-- The reply to READ TABLE, from the tables and the pending-edit list alone (R31). -/
def PlanUnit.tableReply (p : PlanUnit) (table index : Nat) : Bytes :=
  match p.entryBytes table index with
  | none => stOutOfRange
  | some entry => stOk ++ le8 table ++ le8 index ++ leFlag (p.edits.any fun e => e.key == (table, index)) ++ entry

theorem PlanUnit.tableReply_of_none {p : PlanUnit} {table index : Nat} (h : p.entryBytes table index = none) :
    p.tableReply table index = [0x12] := by
  simp [PlanUnit.tableReply, h, stOutOfRange]

/-- The reply for a stored entry, with the flag as a statement about the pending-edit list. -/
theorem PlanUnit.tableReply_of_some {p : PlanUnit} {table index : Byte} {entry : Bytes}
    (h : p.entryBytes table.toNat index.toNat = some entry) :
    p.tableReply table.toNat index.toNat
      = [0x00, table, index] ++ [if ∃ e ∈ p.edits, e.key = (table.toNat, index.toNat) then 0x01 else 0x00] ++ entry := by
  simp [PlanUnit.tableReply, h, stOk, le8, leFlag]

theorem exec_readTable (tag : Byte) (body : Bytes) (s : State) :
    exec (.readTable tag body) s = request 0x1B tag body (fun t => (t, t.plan.tableReply (u8 body 0) (u8 body 1))) s := by
  change execReadTable tag body s = _
  refine congrArg (request 0x1B tag body · s) (funext fun t => ?_)
  unfold PlanUnit.tableReply
  cases t.plan.entryBytes (u8 body 0) (u8 body 1) <;> rfl

/-- READ TABLE answers with the reply of the plan as it stands and changes nothing else (R31, R164). -/
theorem exec_readTable_of_takes {s : State} {tag table index : Byte} {rest : List Frame}
    (h : s.takes ⟨tag, 0x1B, [table, index]⟩ rest) :
    exec (.readTable tag [table, index]) s
      = .next (s.answered rest tag 0x1B (s.plan.tableReply table.toNat index.toNat)) := by
  have hrule : bodyRule? 0x1B = some (.exactly 2) := by decide
  rw [exec_readTable, request_read_of_takes _ h hrule rfl, State.taken_plan]
  rfl

/-- Settles O23: the reply turns on whether the table and index name an entry, and the three tables exhaust the entries there are. -/
theorem storedEntriesAreRead : Obligations.StoredEntriesAreRead := by
  constructor
  · intro s tag table index rest entry h named
    have stored : s.plan.entryBytes table.toNat index.toNat = some entry := by
      obtain ⟨rfl, i, hi, rfl⟩ | ⟨rfl, i, hi, rfl⟩ | ⟨rfl, i, hi, rfl⟩ := named
      · rw [hi]; exact s.plan.entryBytes_scene i
      · rw [hi]; exact s.plan.entryBytes_climateSet i
      · rw [hi]; exact (s.plan.entryBytes_profile i).trans (by simp [profileBytes, classBytes])
    rw [exec_readTable_of_takes h, PlanUnit.tableReply_of_some stored]
  · intro s tag table index rest h unnamed
    have absent : s.plan.entryBytes table.toNat index.toNat = none := by
      simpa [PlanUnit.entryBytes_eq_none_iff, ← BitVec.toNat_inj] using unnamed
    rw [exec_readTable_of_takes h, PlanUnit.tableReply_of_none absent]

end Sys2Proof.Machine

namespace Sys2Proof.Machine

/-! ### The greatest listed value not above another (R55) -/

theorem greatestNotAbove_cons (first v : Nat) (rest : List Nat) (x : Nat) :
    greatestNotAbove first (v :: rest) x = greatestNotAbove (if v ≤ x then v else first) rest x := rfl

theorem greatestNotAbove_mem (first : Nat) (rest : List Nat) (x : Nat) : greatestNotAbove first rest x ∈ first :: rest := by
  induction rest generalizing first with
  | nil => exact List.mem_singleton.mpr rfl
  | cons v rest ih =>
    rw [greatestNotAbove_cons]
    split
    · exact List.mem_cons_of_mem _ (ih v)
    · exact List.mem_cons.mpr ((List.mem_cons.mp (ih first)).imp_right (List.mem_cons_of_mem v))

theorem greatestNotAbove_of_all_above {first x : Nat} {rest : List Nat} (above : ∀ v ∈ rest, x < v) :
    greatestNotAbove first rest x = first := by
  induction rest with
  | nil => rfl
  | cons v rest ih =>
    obtain ⟨hv, hrest⟩ := List.forall_mem_cons.mp above
    rw [greatestNotAbove_cons, if_neg (Nat.not_le.mpr hv), ih hrest]

theorem greatestNotAbove_le {first x : Nat} (rest : List Nat) (hfirst : first ≤ x) : greatestNotAbove first rest x ≤ x := by
  induction rest generalizing first with
  | nil => exact hfirst
  | cons v rest ih =>
    rw [greatestNotAbove_cons]
    split
    · next hv => exact ih hv
    · exact ih hfirst

/-- On a rising list no listed value that is not above x exceeds the one found. -/
theorem le_greatestNotAbove {first w x : Nat} {rest : List Nat} (rising : (first :: rest).Pairwise (· ≤ ·))
    (hw : w ∈ first :: rest) (hwx : w ≤ x) : w ≤ greatestNotAbove first rest x := by
  induction rest generalizing first w with
  | nil => exact (List.mem_singleton.mp hw).le
  | cons v rest ih =>
    obtain ⟨hfirst, hrest⟩ := List.pairwise_cons.mp rising
    rw [greatestNotAbove_cons]
    split
    · next hv =>
      obtain rfl | hw := List.mem_cons.mp hw
      · exact (hfirst v List.mem_cons_self).trans (ih hrest List.mem_cons_self hv)
      · exact ih hrest hw hwx
    · next hv =>
      have hwv : w ≠ v := fun h => hv (h ▸ hwx)
      have rising' : (first :: rest).Pairwise (· ≤ ·) :=
        rising.sublist ((List.sublist_cons_self v rest).cons_cons first)
      exact ih rising' (by simpa [hwv] using hw) hwx

/-! ### The setting of the limits (R55) -/

theorem leFlag_bne {α : Type} [DecidableEq α] (a b : α) : leFlag (a != b) = [if a = b then 0x00 else 0x01] := by
  by_cases h : a = b <;> simp [leFlag, h]

/-- CLAMPED says that the treated value differs from the value as sent (R165). -/
theorem stTreated_bne {α : Type} [DecidableEq α] (a b : α) : stTreated (a != b) = [if a = b then 0x00 else 0x01] := by
  by_cases h : a = b <;> simp [stTreated, h]

@[simp] theorem State.taken_budget (s : State) (rest : List Frame) : (s.taken rest).budget = s.budget := rfl

/-- The reply to SET LIMITS, from the limits as sent and as active (R55). -/
def limitsReply (sent active : Limits) : Bytes :=
  stTreated (treatLimits sent != sent) ++ limitsBytes (treatLimits sent) ++ limitsBytes active
    ++ leFlag ((treatLimits sent).window != active.window)

theorem exec_setLimits (tag : Byte) (body : Bytes) (s : State) :
    exec (.setLimits tag body) s
      = request 0x30 tag body (fun t =>
          (t.setBudget { t.budget with configured := treatLimits (limitsSent body) },
            limitsReply (limitsSent body) t.budget.active)) s := by
  rfl

/-- A SET LIMITS of the table's length is carried out, whatever its values (R55). -/
theorem exec_setLimits_of_takes {s : State} {tag : Byte} {body : Bytes} {rest : List Frame} (hlen : body.length = 12)
    (h : s.takes ⟨tag, 0x30, body⟩ rest) :
    exec (.setLimits tag body) s
      = .next (sendReply tag 0x30 (limitsReply (limitsSent body) s.budget.active)
          ((s.taken rest).setBudget { s.budget with configured := treatLimits (limitsSent body) })) := by
  have hrule : bodyRule? 0x30 = some (.exactly 12) := by decide
  rw [exec_setLimits, request_of_takes _ h hrule (by simp [BodyRule.admits, hlen]), State.taken_budget]

theorem treatLimits_window_mem (l : Limits) : (treatLimits l).window ∈ [300, 600, 900, 1200, 1800, 3600] :=
  greatestNotAbove_mem 300 _ l.window

theorem treatLimits_window_of_lt (l : Limits) (h : l.window < 300) : (treatLimits l).window = 300 :=
  greatestNotAbove_of_all_above fun v hv => by
    have : 600 ≤ v := (by decide : ∀ v ∈ [600, 900, 1200, 1800, 3600], 600 ≤ v) v hv
    omega

theorem treatLimits_window_le (l : Limits) (h : 300 ≤ l.window) : (treatLimits l).window ≤ l.window :=
  greatestNotAbove_le _ h

theorem le_treatLimits_window (l : Limits) {w : Nat} (hw : w ∈ [300, 600, 900, 1200, 1800, 3600]) (h : w ≤ l.window) :
    w ≤ (treatLimits l).window :=
  le_greatestNotAbove (by decide) hw h

/-- Settles O32: the service has no refusing branch, and the treated window is the greatest listed length not above the one sent. -/
theorem setLimitsStoresTreatedValues : Obligations.SetLimitsStoresTreatedValues := by
  intro s tag body rest hlen h l
  refine ⟨?_, rfl, rfl, Nat.min_comm _ _, rfl, rfl, treatLimits_window_mem _, treatLimits_window_of_lt (limitsSent body),
    fun hw => ⟨treatLimits_window_le (limitsSent body) hw, fun _ => le_treatLimits_window (limitsSent body)⟩⟩
  rw [exec_setLimits_of_takes hlen h, limitsReply, stTreated_bne, leFlag_bne]

end Sys2Proof.Machine

section
/-! SUPPORT. What each command can do to the state, said once: a request is taken, carried out by one operation of a unit and answered; an
event is one operation of a unit. A property that those operations keep is kept by every command and by every step (R163, R164). -/

namespace Sys2Proof.Machine

variable {I : State → Prop} {s t u : State}

/-! ### Requests -/

/-- What the taking of a frame can do: the oldest frame leaves the buffer, or the buffer is empty and nothing changes (R163). -/
theorem takeFrame_cases {f : Frame} (h : takeFrame f s = some t) :
    (s.line.buffer = [] ∧ t = s) ∨ ∃ rest, s.line.buffer = f :: rest ∧ t = s.taken rest := by
  unfold takeFrame at h
  split at h
  · next hb => exact .inl ⟨hb, (Option.some.inj h).symm⟩
  · next g rest hb =>
    split at h
    · next hg => subst hg; exact .inr ⟨rest, hb, (Option.some.inj h).symm⟩
    · cases h

/-- What a request can do: nothing, while it waits; or its frame is taken and it is answered, by its service where its kind is known and its
length is right (R158, R164). -/
theorem request_cases {kind tag : Byte} {body : Bytes} {service : Service} (e : request kind tag body service s = .next u) :
    u = s ∨ ∃ t, takeFrame ⟨tag, kind, body⟩ s = some t
      ∧ ((∃ reply, u = sendReply tag kind reply t)
          ∨ ∃ rule, bodyRule? kind = some rule ∧ rule.admits body.length = true
            ∧ u = sendReply tag kind (service t).2 (service t).1) := by
  unfold request at e
  split at e
  · exact .inl (Host.Outcome.next.inj e).symm
  · split at e
    · exact .inl (Host.Outcome.next.inj e).symm
    · next t ht =>
      refine .inr ⟨t, ht, ?_⟩
      split at e
      · exact .inl ⟨_, (Host.Outcome.next.inj e).symm⟩
      · next rule hr =>
        split at e
        · next ha => exact .inr ⟨rule, hr, ha, (Host.Outcome.next.inj e).symm⟩
        · exact .inl ⟨_, (Host.Outcome.next.inj e).symm⟩

theorem whenRunning_cases {f : State → State} (e : whenRunning f s = .next t) : t = s ∨ (s.stage = .running ∧ t = f s) := by
  unfold whenRunning at e
  split at e
  · next hs => exact .inr ⟨hs, (Host.Outcome.next.inj e).symm⟩
  · exact .inl (Host.Outcome.next.inj e).symm

/-- The property survives the taking of a frame and the reply to it (R163, R164). -/
structure RequestClosed (I : State → Prop) : Prop where
  take : ∀ s f rest, s.line.buffer = f :: rest → I s → I (s.taken rest)
  reply : ∀ tag kind body s, I s → I (sendReply tag kind body s)

/-- The property survives what the Line Interface does but for the fetching of notices: requests, the receiver, and the clearing of counters
and setting of the level (R162 to R166). -/
structure LineClosed (I : State → Prop) : Prop extends RequestClosed I where
  receive : ∀ bytes s, I s → I (s.setLine (s.line.receive bytes))
  gap : ∀ s, I s → I (s.setLine s.line.gap)
  clear : ∀ s, I s → I (s.setLine s.line.clearCounters)
  level : ∀ l s, I s → I (s.setLine { s.line with level := l })

/-- A property of a state but for its line. -/
theorem LineClosed.of_setLine (h : ∀ s l, I s → I (s.setLine l)) : LineClosed I where
  take s _ _ _ hs := h s _ hs
  reply _ _ _ s hs := h s _ hs
  receive _ s hs := h s _ hs
  gap s hs := h s _ hs
  clear s hs := h s _ hs
  level _ s hs := h s _ hs

theorem RequestClosed.takeFrame (c : RequestClosed I) {f : Frame} (h : I s) (e : takeFrame f s = some t) : I t := by
  obtain ⟨-, rfl⟩ | ⟨rest, hb, rfl⟩ := takeFrame_cases e
  · exact h
  · exact c.take s f rest hb h

/-- A request keeps the property when its service does. -/
theorem RequestClosed.request_of (c : RequestClosed I) {kind tag : Byte} {body : Bytes} {service : Service}
    (hs : ∀ rule, bodyRule? kind = some rule → rule.admits body.length = true → ∀ t, I t → I (service t).1) (h : I s)
    (e : request kind tag body service s = .next u) : I u := by
  obtain rfl | ⟨t, ht, ⟨reply, rfl⟩ | ⟨rule, hr, ha, rfl⟩⟩ := request_cases e
  · exact h
  · exact c.reply _ _ _ _ (c.takeFrame h ht)
  · exact c.reply _ _ _ _ (hs rule hr ha t (c.takeFrame h ht))

theorem RequestClosed.request (c : RequestClosed I) {kind tag : Byte} {body : Bytes} {service : Service}
    (hs : ∀ t, I t → I (service t).1) (h : I s) (e : request kind tag body service s = .next u) : I u :=
  c.request_of (fun _ _ _ => hs) h e

/-- An event keeps the property when its operation does. -/
theorem whenRunning_keeps {f : State → State} (hf : I s → I (f s)) (h : I s) (e : whenRunning f s = .next t) : I t := by
  obtain rfl | ⟨-, rfl⟩ := whenRunning_cases e
  · exact h
  · exact hf h

/-! ### The operations of the sensor events -/

/-- A sample of a temperature point (R117, R118). -/
def tempSampled (p : Fin 32) (x : SensorSample) (s : State) : State :=
  let a := look s.climate.temps p
  let b := a.take (-500) 800 Config.tempStale s.seconds x
  sampleNotice a b p (s.setClimate { s.climate with temps := upd s.climate.temps p b })

/-- A temperature point goes STALE (R118). -/
def tempWentStale (p : Fin 32) (s : State) : State :=
  let a := look s.climate.temps p
  raise .pointStale p (staleData a) (s.setClimate { s.climate with temps := upd s.climate.temps p a.goStale })

/-- A sample of an exhaust point (R135, R136). -/
def exhaustSampled (p : Fin 12) (x : SensorSample) (s : State) : State :=
  let a := look s.climate.exhausts p
  let b := a.take 0 2000 Config.exhaustStale s.seconds x
  sampleNotice a b (32 + p) (s.setClimate { s.climate with exhausts := upd s.climate.exhausts p b })

/-- An exhaust point goes STALE (R136). -/
def exhaustWentStale (p : Fin 12) (s : State) : State :=
  let a := look s.climate.exhausts p
  raise .pointStale (32 + p) (staleData a) (s.setClimate { s.climate with exhausts := upd s.climate.exhausts p a.goStale })

theorem exec_tempPointSample (p : Fin 32) (x : SensorSample) (s : State) :
    exec (.tempPointSample p x) s = whenRunning (tempSampled p x) s := rfl

theorem exec_tempPointStaleExpiry (p : Fin 32) (s : State) :
    exec (.tempPointStaleExpiry p) s
      = whenRunning (fun t => if (look t.climate.temps p).staleT = some 0 then tempWentStale p t else t) s := rfl

theorem exec_exhaustPointSample (p : Fin 12) (x : SensorSample) (s : State) :
    exec (.exhaustPointSample p x) s = whenRunning (exhaustSampled p x) s := rfl

theorem exec_exhaustPointStaleExpiry (p : Fin 12) (s : State) :
    exec (.exhaustPointStaleExpiry p) s
      = whenRunning (fun t => if (look t.climate.exhausts p).staleT = some 0 then exhaustWentStale p t else t) s := rfl

/-! ### The operations of the units, under the conditions their commands check -/

/-- The property survives the commands that the Load Budget Unit carries out alone. -/
structure BudgetCommands (I : State → Prop) : Prop where
  tripInput : ∀ i b s, I s → I (s.putChan i { s.chan i with tripIn := b })
  tripSampled : ∀ i b s, I s → I (tripSampled i b s)
  acknowledge : ∀ i s, I s → I (acknowledge i s)
  limits : ∀ l s, I s → I (s.setBudget { s.budget with configured := l })
  meterPulse : ∀ m s, I s → I (s.setBudget (countPulse m s.budget))
  meterSample : ∀ s, I s → I (meterSample s)
  minOnExpired : ∀ i s, I s → I (minOnExpired i s)
  minOffExpired : ∀ i s, I s → I (minOffExpired i s)
  urgencyReached : ∀ i s, I s → I (urgencyReached i s)

/-- The property survives the commands of the Dock Supervisor. -/
structure DockCommands (I : State → Prop) : Prop where
  configureDoor : ∀ d n s, s.dock.check = none → I s → I (configureDoor d n s)
  clearCounters : ∀ d s, I s → I (clearCounters d s)
  beginCheck : ∀ s, I s → I (beginCheck s)
  endCheck : ∀ k e s, s.dock.check = some k → I s → I (endCheck k e s)
  readSessions : ∀ n b s, I s → I (s.setDock { s.dock with log := s.dock.log.drop n, lossReported := b })
  recordRaw : ∀ d i a s, I s → I (recordRaw d i a s)
  restartDebounce : ∀ d i s, I s → I (restartDebounce d i s)
  debounceExpired : ∀ d i s, I s → I (debounceExpired d i s)
  heldExpired : ∀ d s, (s.door d).heldT = some 0 → I s → I (heldExpired d s)
  loopSample : ∀ d b k s, s.dock.check = some k → I s →
    I (s.setDock { s.dock with check := some { k with sample := upd k.sample d (some b) } })

/-- The property survives the commands of the Climate Unit. -/
structure ClimateCommands (I : State → Prop) : Prop where
  configureZone : ∀ z n s, I s → I (configureZone z n s)
  configurePoints : ∀ n s, I s → I (configurePoints n s)
  clearTemps : ∀ s, I s → I (s.setClimate { s.climate with temps := s.climate.temps.map SensorPoint.clearBad })
  clearExhausts : ∀ s, I s → I (s.setClimate { s.climate with exhausts := s.climate.exhausts.map SensorPoint.clearBad })
  tempSampled : ∀ p x s, I s → I (tempSampled p x s)
  tempWentStale : ∀ p s, I s → I (tempWentStale p s)
  exhaustSampled : ∀ p x s, I s → I (exhaustSampled p x s)
  exhaustWentStale : ∀ p s, I s → I (exhaustWentStale p s)
  evaluationExpired : ∀ z s, I s → I (evaluationExpired z s)

/-- The property survives the commands of the Lighting Unit. -/
structure LightingCommands (I : State → Prop) : Prop where
  configureLight : ∀ z n s, n.protMin ≤ 1000 → I s → I (configureLight z n s)
  startWalk : ∀ n l s, s.plantRunning = true → I s → I (startWalk n l s)
  endWalk : ∀ e s, I s → I (endWalk e s)
  pulse : ∀ z s, I s → I (pulse z s)
  presenceExpired : ∀ z s, (s.light z).presenceT = some 0 → I s → I (presenceExpired z s)
  dwellExpired : ∀ w s, s.lighting.walk = some w → I s → I (dwellExpired w s)

/-- The property survives the commands of the Shift Plan Unit. -/
structure PlanCommands (I : State → Prop) : Prop where
  setClock : ∀ v s, v < Config.weekSeconds → I s → I (clockSetEvent v (setClockTo v s))
  addRecord : ∀ r s, r.start < Config.weekMinutes → recordAt s.plan.phases r.start = none →
    s.plan.phases.length < Config.maxPhases → I s → I (addRecord r s)
  dropRecord : ∀ n s, I s → I (dropRecord n s)
  editFallback : ∀ f s, I s → I (editFallback f s)
  editRecord : ∀ r s, I s → I (editRecord r s)
  placeEdit : ∀ e s, I s → I (s.setPlan { s.plan with edits := placeEdit e s.plan.edits })
  editNow : ∀ e s, I s → I (editNow e s)
  cancelEdits : ∀ s, I s → I (s.setPlan { s.plan with edits := [] })
  setOverride : ∀ o s, (s.overrideFor o.target).isSome ∨ s.plan.overrides.length < Config.maxOverrides → I s →
    I (setOverride o s)
  endOverride : ∀ o c s, I s → I (endOverride o c s)
  timedTurn : ∀ s, I s → I (timedTurn s)

/-- The property survives the commands that reach several units or the store, but for those that discard the whole state. -/
structure SystemCommands (I : State → Prop) : Prop where
  reconfigure : ∀ i n s, n.protMin ≤ 1000 → I s → I (reconfigure i n s)
  tick : ∀ s, I s → I s.tick
  finishLoading : ∀ a s, I s → I (finishLoading a s)
  fireInput : ∀ b s, I s → I (s.setStop { s.stop with fire := b })
  fireAsserted : ∀ s, I s → I (fireAsserted s)
  fireCleared : ∀ s, I s → I (fireCleared s)
  resumePlant : ∀ s, s.stop.state = .released → I s → I (resumePlant s)
  plantRestart : ∀ s, I s → I (plantRestart s)
  save : ∀ s, I s → I (s.setStore { s.store with saving := some (s.snapshot, s.plan.digest) })
  saveEnded : ∀ r c d s, s.store.saving = some (c, d) → I s → I (saveEnded r c d s)

/-- The property survives every command but FETCH NOTICES, power-on and a FULL restart. -/
structure CommandClosed (I : State → Prop) : Prop where
  line : LineClosed I
  budget : BudgetCommands I
  dock : DockCommands I
  climate : ClimateCommands I
  lighting : LightingCommands I
  plan : PlanCommands I
  system : SystemCommands I

/-- The property survives the commands that take notices from the queue: FETCH NOTICES, power-on and a FULL restart. -/
structure DiscardClosed (I : State → Prop) : Prop where
  fetch : ∀ s, I s → I (fetchNotices s)
  powerUp : ∀ s, I s → I (powerUp s)
  startLoading : ∀ s, I s → I (startLoading s s.store.image)

/-! ### The services of the requests that can be refused -/

theorem channelTreated_protMin_le (r : Role) (target : Option Nat) (b : Bytes) : (channelTreated r target b).protMin ≤ 1000 := by
  simp only [channelTreated]
  split
  · exact Nat.min_le_right _ _
  · exact Nat.zero_le _

theorem treatLight_protMin_le (c : LightConfig) : (treatLight c).protMin ≤ 1000 := Nat.min_le_right _ _

theorem LineClosed.frameBytes (c : LineClosed I) (bytes : Bytes) (h : I s) : I (receiveBytes bytes s) := by
  unfold receiveBytes
  split
  · exact h
  · exact c.receive _ _ h

theorem RequestClosed.reads (c : RequestClosed I) {kind tag : Byte} {body : Bytes} {service : Service} (hs : ∀ t, (service t).1 = t)
    (h : I s) (e : Machine.request kind tag body service s = .next u) : I u :=
  c.request (fun t ht => by rw [hs t]; exact ht) h e

/-- A command is the request of a kind, and its service keeps the property (R164). -/
def Served (I : State → Prop) (i : Instr) (kind tag : Byte) (body : Bytes) : Prop :=
  ∃ service : Service, (∀ s, exec i s = request kind tag body service s)
    ∧ ∀ rule, bodyRule? kind = some rule → rule.admits body.length = true → ∀ t, I t → I (service t).1

namespace Served

variable {i : Instr} {kind tag : Byte} {body : Bytes} {service : Service}

theorem of (he : ∀ s, Machine.exec i s = Machine.request kind tag body service s) (hs : ∀ t, I t → I (service t).1) : Served I i kind tag body :=
  ⟨service, he, fun _ _ _ => hs⟩

theorem reads (he : ∀ s, Machine.exec i s = Machine.request kind tag body service s) (hs : ∀ t, (service t).1 = t) : Served I i kind tag body :=
  .of he fun t ht => by rw [hs t]; exact ht

theorem exec (w : Served I i kind tag body) (c : RequestClosed I) (h : I s) (e : Machine.exec i s = .next u) : I u := by
  obtain ⟨service, he, hs⟩ := w
  rw [he] at e
  exact c.request_of hs h e

end Served

theorem BudgetCommands.serves (c : BudgetCommands I) {i : Instr} {tag kind : Byte} {body : Bytes} (hi : i.isArbiterRequest = true)
    (hr : i.request? = some (tag, kind, body)) : Served I i kind tag body := by
  cases i with
  | readChannel tag body =>
    cases hr
    refine .reads (fun _ => rfl) fun t => ?_
    dsimp only
    split <;> rfl
  | ackTrip tag body =>
    cases hr
    refine .of (fun _ => rfl) fun t ht => ?_
    dsimp only
    split
    · exact ht
    · split
      · exact ht
      · split
        · exact ht
        · dsimp only
          exact c.acknowledge _ t ht
  | setLimits tag body =>
    cases hr
    exact .of (fun _ => rfl) fun t ht => c.limits _ t ht
  | readBudget tag body =>
    cases hr
    exact .reads (fun _ => rfl) fun _ => rfl
  | readQueue tag body =>
    cases hr
    refine .reads (fun _ => rfl) fun t => ?_
    dsimp only
    split
    · rfl
    · split <;> rfl
  | _ => cases hi

/-- The commands of the Load Budget Unit but CONFIG CHANNEL. -/
theorem BudgetCommands.exec (c : BudgetCommands I) (l : RequestClosed I) {i : Instr} (hi : (i.isArbiterEvent || i.isArbiterRequest) = true) (h : I s)
    (e : exec i s = .next t) : I t := by
  cases i with
  | readChannel _ _ | ackTrip _ _ | setLimits _ _ | readBudget _ _ | readQueue _ _ => exact (c.serves rfl rfl).exec l h e
  | meterPulse m =>
    change execMeterPulse m s = _ at e
    unfold execMeterPulse at e
    exact whenRunning_keeps (c.meterPulse m s) h e
  | meterSample =>
    change execMeterSample s = _ at e
    unfold execMeterSample at e
    refine whenRunning_keeps (fun hs => ?_) h e
    split
    · exact c.meterSample s hs
    · exact hs
  | minOnExpiry k =>
    change execMinOnExpiry k s = _ at e
    unfold execMinOnExpiry at e
    refine whenRunning_keeps (fun hs => ?_) h e
    split
    · exact c.minOnExpired k s hs
    · exact hs
  | minOffExpiry k =>
    change execMinOffExpiry k s = _ at e
    unfold execMinOffExpiry at e
    refine whenRunning_keeps (fun hs => ?_) h e
    split
    · exact c.minOffExpired k s hs
    · exact hs
  | urgencyExpiry k =>
    change execUrgencyExpiry k s = _ at e
    unfold execUrgencyExpiry at e
    exact whenRunning_keeps (c.urgencyReached k s) h e
  | tripSample k b =>
    change execTripSample k b s = _ at e
    unfold execTripSample at e
    split at e
    · obtain rfl := Host.Outcome.next.inj e; exact c.tripSampled k b s h
    · obtain rfl := Host.Outcome.next.inj e; exact c.tripInput k b s h
  | _ => cases hi

theorem SystemCommands.serves_configChannel (c : SystemCommands I) (tag : Byte) (body : Bytes) :
    Served I (.configChannel tag body) 0x28 tag body := by
  refine .of (fun _ => rfl) fun t ht => ?_
  dsimp only
  split
  · split
    · exact ht
    · split
      · exact ht
      · dsimp only
        exact c.reconfigure _ _ t (channelTreated_protMin_le _ _ _) ht
  · exact ht

theorem DockCommands.serves (c : DockCommands I) {i : Instr} {tag kind : Byte} {body : Bytes} (hi : i.isDock = true)
    (hr : i.request? = some (tag, kind, body)) : Served I i kind tag body := by
  cases i with
  | configDoor tag body =>
    cases hr
    refine .of (fun _ => rfl) fun t ht => ?_
    dsimp only
    split
    · split
      · exact ht
      · split
        · exact ht
        · next hk => exact c.configureDoor _ _ t (by simpa using hk) ht
    · exact ht
  | readDoor tag body =>
    cases hr
    refine .reads (fun _ => rfl) fun t => ?_
    split <;> rfl
  | checkBegin tag body =>
    cases hr
    refine .of (fun _ => rfl) fun t ht => ?_
    split
    · exact ht
    · split
      · exact ht
      · exact c.beginCheck t ht
  | checkEnd tag body =>
    cases hr
    refine .of (fun _ => rfl) fun t ht => ?_
    dsimp only
    split
    · exact ht
    · next k hk => exact c.endCheck k _ t hk ht
  | readSessions tag body =>
    cases hr
    exact .of (fun _ => rfl) fun t ht => c.readSessions _ _ t ht
  | readDoorCounters tag body =>
    cases hr
    exact .of (fun _ => rfl) fun t ht => forEach_keeps (fun d u hu => c.clearCounters d u hu) _ t ht
  | doorInputSample _ _ _ | debounceExpiry _ _ | heldTimerExpiry _ | loopSample _ _ | checkLimitExpiry => cases hr
  | _ => cases hi

theorem DockCommands.exec (c : DockCommands I) (l : RequestClosed I) {i : Instr} (hi : i.isDock = true) (h : I s) (e : exec i s = .next t) : I t := by
  cases i with
  | configDoor _ _ | readDoor _ _ | checkBegin _ _ | checkEnd _ _ | readSessions _ _ | readDoorCounters _ _ => exact (c.serves rfl rfl).exec l h e
  | doorInputSample d input active =>
    change execDoorInputSample d input active s = _ at e
    unfold execDoorInputSample at e
    split at e
    · obtain rfl := Host.Outcome.next.inj e; exact c.restartDebounce d input _ (c.recordRaw d input active s h)
    · obtain rfl := Host.Outcome.next.inj e; exact c.recordRaw d input active s h
  | debounceExpiry d input =>
    change execDebounceExpiry d input s = _ at e
    unfold execDebounceExpiry at e
    refine whenRunning_keeps (fun hs => ?_) h e
    split
    · exact c.debounceExpired d input s hs
    · exact hs
  | heldTimerExpiry d =>
    change execHeldTimerExpiry d s = _ at e
    unfold execHeldTimerExpiry at e
    refine whenRunning_keeps (fun hs => ?_) h e
    split
    · next hd => exact c.heldExpired d s hd hs
    · exact hs
  | loopSample d flows =>
    change execLoopSample d flows s = _ at e
    unfold execLoopSample at e
    refine whenRunning_keeps (fun hs => ?_) h e
    split
    · next k hk =>
      split
      · exact c.loopSample d flows k s hk hs
      · exact hs
    · exact hs
  | checkLimitExpiry =>
    change execCheckLimitExpiry s = _ at e
    unfold execCheckLimitExpiry at e
    refine whenRunning_keeps (fun hs => ?_) h e
    split
    · next k hk =>
      split
      · exact c.endCheck k _ s hk hs
      · exact hs
    · exact hs
  | _ => cases hi

theorem ClimateCommands.serves (c : ClimateCommands I) {i : Instr} {tag kind : Byte} {body : Bytes} (hi : i.isClimate = true)
    (hr : i.request? = some (tag, kind, body)) : Served I i kind tag body := by
  cases i with
  | configZone tag body =>
    cases hr
    refine .of (fun _ => rfl) fun t ht => ?_
    dsimp only
    split
    · split
      · exact ht
      · exact c.configureZone _ _ t ht
    · exact ht
  | readZone tag body =>
    cases hr
    refine .reads (fun _ => rfl) fun t => ?_
    split <;> rfl
  | configPoint tag body =>
    cases hr
    refine .of (fun _ => rfl) fun t ht => ?_
    split
    · exact ht
    · exact c.configurePoints _ t ht
  | readPoints tag body =>
    cases hr
    refine .of (fun _ => rfl) fun t ht => ?_
    dsimp only
    split
    · exact c.clearTemps t ht
    · exact c.clearExhausts t ht
    · exact ht
  | tempPointSample _ _ | tempPointStaleExpiry _ | exhaustPointSample _ _ | exhaustPointStaleExpiry _ | zoneEvaluation _ => cases hr
  | _ => cases hi

theorem ClimateCommands.exec (c : ClimateCommands I) (l : RequestClosed I) {i : Instr} (hi : i.isClimate = true) (h : I s) (e : exec i s = .next t) :
    I t := by
  cases i with
  | configZone _ _ | readZone _ _ | configPoint _ _ | readPoints _ _ => exact (c.serves rfl rfl).exec l h e
  | tempPointSample p x =>
    change execTempPointSample p x s = _ at e
    unfold execTempPointSample at e
    exact whenRunning_keeps (c.tempSampled p x s) h e
  | tempPointStaleExpiry p =>
    rw [exec_tempPointStaleExpiry] at e
    refine whenRunning_keeps (fun hs => ?_) h e
    split
    · exact c.tempWentStale p s hs
    · exact hs
  | exhaustPointSample p x =>
    change execExhaustPointSample p x s = _ at e
    unfold execExhaustPointSample at e
    exact whenRunning_keeps (c.exhaustSampled p x s) h e
  | exhaustPointStaleExpiry p =>
    rw [exec_exhaustPointStaleExpiry] at e
    refine whenRunning_keeps (fun hs => ?_) h e
    split
    · exact c.exhaustWentStale p s hs
    · exact hs
  | zoneEvaluation z =>
    change execZoneEvaluation z s = _ at e
    unfold execZoneEvaluation at e
    refine whenRunning_keeps (fun hs => ?_) h e
    split
    · exact c.evaluationExpired z s hs
    · exact hs
  | _ => cases hi

theorem LightingCommands.serves (c : LightingCommands I) {i : Instr} {tag kind : Byte} {body : Bytes} (hi : i.isLighting = true)
    (hr : i.request? = some (tag, kind, body)) : Served I i kind tag body := by
  cases i with
  | configLightZone tag body =>
    cases hr
    refine .of (fun _ => rfl) fun t ht => ?_
    dsimp only
    split
    · split
      · exact ht
      · exact c.configureLight _ _ t (treatLight_protMin_le _) ht
    · exact ht
  | readLightZone tag body =>
    cases hr
    refine .reads (fun _ => rfl) fun t => ?_
    split <;> rfl
  | walkStart tag body =>
    cases hr
    refine .of (fun _ => rfl) fun t ht => ?_
    dsimp only
    split
    · exact ht
    · next hr =>
      split
      · exact ht
      · exact c.startWalk _ _ t (by simpa using hr) ht
  | walkStop tag body =>
    cases hr
    refine .of (fun _ => rfl) fun t ht => ?_
    split
    · exact ht
    · dsimp only
      exact c.endWalk _ t ht
  | presencePulse _ | presenceTimerExpiry _ | dwellExpiry => cases hr
  | _ => cases hi

theorem LightingCommands.exec (c : LightingCommands I) (l : RequestClosed I) {i : Instr} (hi : i.isLighting = true) (h : I s) (e : exec i s = .next t) :
    I t := by
  cases i with
  | configLightZone _ _ | readLightZone _ _ | walkStart _ _ | walkStop _ _ => exact (c.serves rfl rfl).exec l h e
  | presencePulse z =>
    change execPresencePulse z s = _ at e
    unfold execPresencePulse at e
    exact whenRunning_keeps (c.pulse z s) h e
  | presenceTimerExpiry z =>
    change execPresenceTimerExpiry z s = _ at e
    unfold execPresenceTimerExpiry at e
    refine whenRunning_keeps (fun hs => ?_) h e
    split
    · next hz => exact c.presenceExpired z s hz hs
    · exact hs
  | dwellExpiry =>
    change execDwellExpiry s = _ at e
    unfold execDwellExpiry at e
    refine whenRunning_keeps (fun hs => ?_) h e
    split
    · next w hw =>
      split
      · exact c.dwellExpired w s hw hs
      · exact hs
    · exact hs
  | _ => cases hi

/-- An accepted table edit waits or is carried out at once (R26). -/
theorem PlanCommands.takeEdit (c : PlanCommands I) (atTurn clamped : Bool) (edit : PendingEdit) (h : I s) :
    I (takeEdit atTurn clamped edit s).1 := by
  unfold Machine.takeEdit
  cases atTurn with
  | true =>
    exact c.placeEdit edit s h
  | false =>
    exact c.editNow edit s h

theorem PlanCommands.serves (c : PlanCommands I) {i : Instr} {tag kind : Byte} {body : Bytes} (hi : i.isPlan = true)
    (hr : i.request? = some (tag, kind, body)) : Served I i kind tag body := by
  cases i with
  | readClock tag body =>
    cases hr
    exact .reads (fun _ => rfl) fun _ => rfl
  | readContext tag body =>
    cases hr
    exact .reads (fun _ => rfl) fun _ => rfl
  | readPending tag body =>
    cases hr
    exact .reads (fun _ => rfl) fun _ => rfl
  | readOverrides tag body =>
    cases hr
    exact .reads (fun _ => rfl) fun _ => rfl
  | readPhases tag body =>
    cases hr
    refine .reads (fun _ => rfl) fun t => ?_
    dsimp only
    split <;> rfl
  | readTable tag body =>
    cases hr
    refine .reads (fun _ => rfl) fun t => ?_
    split <;> rfl
  | addPhase tag body =>
    cases hr
    refine .of (fun _ => rfl) fun t ht => ?_
    dsimp only
    split
    · exact ht
    · split
      · exact ht
      · next hm =>
        split
        · exact ht
        · next hr =>
          split
          · exact ht
          · next hl => exact c.addRecord _ t (Nat.lt_of_not_le hm) (by simpa using hr) (Nat.lt_of_not_le hl) ht
  | dropPhase tag body =>
    cases hr
    refine .of (fun _ => rfl) fun t ht => ?_
    dsimp only
    split
    · exact ht
    · split
      · exact ht
      · exact c.dropRecord _ t ht
  | editPhase tag body =>
    cases hr
    refine .of (fun _ => rfl) fun t ht => ?_
    dsimp only
    split
    · split
      · exact ht
      · exact c.editFallback _ t ht
    · split
      · exact ht
      · split
        · exact ht
        · split
          · exact ht
          · exact c.editRecord _ t ht
  | setScene tag body =>
    cases hr
    refine .of (fun _ => rfl) fun t ht => ?_
    split
    · exact c.takeEdit _ _ _ ht
    · exact ht
  | setClimateSet tag body =>
    cases hr
    refine .of (fun _ => rfl) fun t ht => ?_
    split
    · exact c.takeEdit _ _ _ ht
    · exact ht
  | setProfile tag body =>
    cases hr
    refine .of (fun _ => rfl) fun t ht => ?_
    split
    · exact c.takeEdit _ _ _ ht
    · exact ht
  | cancelPending tag body =>
    cases hr
    exact .of (fun _ => rfl) fun t ht => c.cancelEdits t ht
  | setOverride tag body =>
    cases hr
    refine .of (fun _ => rfl) fun t ht => ?_
    dsimp only
    split
    · next target timed _ _ =>
      split
      · exact ht
      · next hf =>
        refine c.setOverride (overrideOf target timed body t.plan.clock).1 t ?_ ht
        change (t.overrideFor target).isSome ∨ t.plan.overrides.length < Config.maxOverrides
        rw [Bool.and_eq_true, not_and_or, decide_eq_true_eq, Nat.not_le] at hf
        exact hf.imp_left fun hn => by simpa [Option.isSome_iff_ne_none] using hn
    · exact ht
  | clearOverride tag body =>
    cases hr
    refine .of (fun _ => rfl) fun t ht => ?_
    dsimp only
    split
    · exact ht
    · split
      · exact ht
      · exact c.endOverride _ _ t ht
  | setClock tag body =>
    cases hr
    refine .of (fun _ => rfl) fun t ht => ?_
    dsimp only
    split
    · next hv =>
      dsimp only
      exact c.setClock _ t hv ht
    · exact ht
  | timedTurn | overrideExpiry _ => cases hr
  | _ => cases hi

theorem PlanCommands.exec (c : PlanCommands I) (l : RequestClosed I) {i : Instr} (hi : i.isPlan = true) (h : I s) (e : exec i s = .next t) : I t := by
  cases i with
  | readClock _ _ | readContext _ _ | readPending _ _ | readOverrides _ _ | readPhases _ _ | readTable _ _ | addPhase _ _ | dropPhase _ _
  | editPhase _ _ | setScene _ _ | setClimateSet _ _ | setProfile _ _ | cancelPending _ _ | setOverride _ _ | clearOverride _ _ | setClock _ _ =>
    exact (c.serves rfl rfl).exec l h e
  | timedTurn =>
    change execTimedTurn s = _ at e
    unfold execTimedTurn at e
    refine whenRunning_keeps (fun hs => ?_) h e
    split
    · exact c.timedTurn s hs
    · exact hs
  | overrideExpiry target =>
    change execOverrideExpiry target s = _ at e
    unfold execOverrideExpiry at e
    refine whenRunning_keeps (fun hs => ?_) h e
    split
    · split
      · exact c.endOverride _ _ s hs
      · exact hs
    · exact hs
  | _ => cases hi

/-- The property survives what the services of the requests do but for the fetching of notices and a FULL restart. -/
structure ServiceClosed (I : State → Prop) : Prop where
  clear : ∀ s, I s → I (s.setLine s.line.clearCounters)
  level : ∀ l s, I s → I (s.setLine { s.line with level := l })
  budget : BudgetCommands I
  dock : DockCommands I
  climate : ClimateCommands I
  lighting : LightingCommands I
  plan : PlanCommands I
  system : SystemCommands I

theorem CommandClosed.services (c : CommandClosed I) : ServiceClosed I :=
  ⟨c.line.clear, c.line.level, c.budget, c.dock, c.climate, c.lighting, c.plan, c.system⟩

namespace ServiceClosed

/-- RESTART: a FULL restart discards the state, which the property is asked to survive apart. -/
theorem serves_restart (c : ServiceClosed I) {i : Instr} {tag : Byte} {body : Bytes}
    (he : ∀ s, exec i s = request 0x51 tag body (restart body) s)
    (full : body = [1] → ∀ u, I u → I (startLoading u u.store.image)) : Served I i 0x51 tag body := by
  refine ⟨_, he, fun rule hr ha t ht => ?_⟩
  have hlen : body.length = 1 := by
    cases (show bodyRule? 0x51 = some (.exactly 1) by decide).symm.trans hr
    simpa [BodyRule.admits] using ha
  unfold restart
  split
  · dsimp only
    exact c.system.plantRestart t ht
  · next hb =>
    split
    · exact ht
    · refine full ?_ t ht
      obtain ⟨b, rfl⟩ := List.length_eq_one_iff.mp hlen
      exact congrArg (fun x => [x]) (BitVec.eq_of_toNat_eq hb)
  · exact ht

/-- The service of every request keeps the property; those of FETCH NOTICES and a FULL restart only where it survives them. -/
theorem serves (c : ServiceClosed I) {i : Instr} (fetch : (∃ tag body, i = .fetchNotices tag body) → ∀ u, I u → I (fetchNotices u))
    (full : (∃ tag, i = .restartPlant tag [1] ∨ i = .restartFull tag [1]) → ∀ u, I u → I (startLoading u u.store.image))
    {tag kind : Byte} {body : Bytes} (hr : i.request? = some (tag, kind, body)) (hn : i ≠ .unknownKindRequest tag kind body) :
    Served I i kind tag body := by
  cases i with
  | unknownKindRequest _ _ _ => cases hr; exact absurd rfl hn
  | resume tag body =>
    cases hr
    refine .of (fun _ => rfl) fun t ht => ?_
    dsimp only
    split
    · exact ht
    · exact ht
    · next hr =>
      dsimp only
      exact c.system.resumePlant t hr ht
  | restartPlant tag body =>
    cases hr
    exact c.serves_restart (fun _ => rfl) fun hb => full ⟨tag, .inl (by rw [hb])⟩
  | restartFull tag body =>
    cases hr
    exact c.serves_restart (fun _ => rfl) fun hb => full ⟨tag, .inr (by rw [hb])⟩
  | save tag body =>
    cases hr
    refine .of (fun _ => rfl) fun t ht => ?_
    dsimp only
    split
    · exact ht
    · exact c.system.save t ht
  | configChannel tag body =>
    cases hr
    exact c.system.serves_configChannel tag body
  | fetchNotices tag body =>
    cases hr
    exact .of (fun _ => rfl) fun t ht => fetch ⟨tag, body, rfl⟩ t ht
  | ping tag body =>
    cases hr
    exact .reads (fun _ => rfl) fun _ => rfl
  | status tag body =>
    cases hr
    refine .of (fun _ => rfl) fun t ht => ?_
    dsimp only
    split
    · exact c.clear t ht
    · exact ht
  | setNoticeLevel tag body =>
    cases hr
    refine .of (fun _ => rfl) fun t ht => ?_
    dsimp only
    split
    · exact ht
    · exact c.level _ t ht
  | readChannel _ _ | ackTrip _ _ | setLimits _ _ | readBudget _ _ | readQueue _ _ => exact c.budget.serves rfl hr
  | configDoor _ _ | readDoor _ _ | checkBegin _ _ | checkEnd _ _ | readSessions _ _ | readDoorCounters _ _ => exact c.dock.serves rfl hr
  | configZone _ _ | readZone _ _ | configPoint _ _ | readPoints _ _ => exact c.climate.serves rfl hr
  | configLightZone _ _ | readLightZone _ _ | walkStart _ _ | walkStop _ _ => exact c.lighting.serves rfl hr
  | readClock _ _ | addPhase _ _ | dropPhase _ _ | editPhase _ _ | readPhases _ _ | readContext _ _ | setScene _ _
  | setClimateSet _ _ | setProfile _ _ | readTable _ _ | readPending _ _ | cancelPending _ _ | setOverride _ _
  | clearOverride _ _ | readOverrides _ _ | setClock _ _ => exact c.plan.serves rfl hr
  | _ => cases hr

end ServiceClosed

namespace CommandClosed

/-- Every command keeps the property; the three that take notices from the queue only where it survives them. -/
theorem exec_of (c : CommandClosed I) {i : Instr} (fetch : (∃ tag body, i = .fetchNotices tag body) → ∀ u, I u → I (fetchNotices u))
    (power : i = .powerOn → ∀ u, I u → I (powerUp u))
    (full : (∃ tag, i = .restartPlant tag [1] ∨ i = .restartFull tag [1]) → ∀ u, I u → I (startLoading u u.store.image))
    (h : I s) (e : exec i s = .next t) : I t := by
  cases i with
  | powerOn =>
    change execPowerOn s = _ at e
    unfold execPowerOn at e
    obtain rfl := Host.Outcome.next.inj e; exact power rfl s h
  | storeLoadComplete answers =>
    change execStoreLoadComplete answers s = _ at e
    unfold execStoreLoadComplete at e
    split at e
    · obtain rfl := Host.Outcome.next.inj e; exact c.system.finishLoading answers s h
    · obtain rfl := Host.Outcome.next.inj e; exact h
  | firePanelSample asserted =>
    change execFirePanelSample asserted s = _ at e
    unfold execFirePanelSample at e
    split at e
    · obtain rfl := Host.Outcome.next.inj e
      cases asserted with
      | true => exact c.system.fireAsserted s h
      | false => exact c.system.fireCleared s h
    · obtain rfl := Host.Outcome.next.inj e; exact c.system.fireInput asserted s h
  | saveComplete result =>
    change execSaveComplete result s = _ at e
    unfold execSaveComplete at e
    refine whenRunning_keeps (fun hs => ?_) h e
    split
    · next content digest hc => exact c.system.saveEnded result content digest s hc hs
    · exact hs
  | clockAdvance =>
    change execClockAdvance s = _ at e
    unfold execClockAdvance at e
    exact whenRunning_keeps (c.system.tick s) h e
  | frameComplete bytes =>
    change execFrameComplete bytes s = _ at e
    unfold execFrameComplete at e
    obtain rfl := Host.Outcome.next.inj e; exact c.line.frameBytes bytes h
  | frameGapExpiry =>
    change execFrameGapExpiry s = _ at e
    unfold execFrameGapExpiry at e
    obtain rfl := Host.Outcome.next.inj e; exact c.line.gap s h
  | syncReceived byte =>
    change execSyncReceived byte s = _ at e
    unfold execSyncReceived at e
    obtain rfl := Host.Outcome.next.inj e; exact c.line.frameBytes [byte] h
  | lenOutOfRange len =>
    change execLenOutOfRange len s = _ at e
    unfold execLenOutOfRange at e
    obtain rfl := Host.Outcome.next.inj e; exact c.line.frameBytes [len] h
  | resume _ _ | restartPlant _ _ | restartFull _ _ | save _ _ | configChannel _ _ | fetchNotices _ _ | ping _ _ | status _ _
  | setNoticeLevel _ _ => exact (c.services.serves fetch full rfl (by simp)).exec c.line.toRequestClosed h e
  | unknownKindRequest tag kind body =>
    change execUnknownKindRequest tag kind body s = _ at e
    unfold execUnknownKindRequest at e
    split at e
    · exact c.line.reads (fun _ => rfl) h e
    · obtain rfl := Host.Outcome.next.inj e; exact h
  | meterPulse _ | meterSample | minOnExpiry _ | minOffExpiry _ | urgencyExpiry _ | tripSample _ _ | readChannel _ _
  | ackTrip _ _ | setLimits _ _ | readBudget _ _ | readQueue _ _ => exact c.budget.exec c.line.toRequestClosed rfl h e
  | configDoor _ _ | readDoor _ _ | checkBegin _ _ | checkEnd _ _ | readSessions _ _ | readDoorCounters _ _
  | doorInputSample _ _ _ | debounceExpiry _ _ | heldTimerExpiry _ | loopSample _ _ | checkLimitExpiry =>
    exact c.dock.exec c.line.toRequestClosed rfl h e
  | configZone _ _ | readZone _ _ | configPoint _ _ | readPoints _ _ | tempPointSample _ _ | tempPointStaleExpiry _
  | exhaustPointSample _ _ | exhaustPointStaleExpiry _ | zoneEvaluation _ => exact c.climate.exec c.line.toRequestClosed rfl h e
  | configLightZone _ _ | readLightZone _ _ | walkStart _ _ | walkStop _ _ | presencePulse _ | presenceTimerExpiry _
  | dwellExpiry =>
    exact c.lighting.exec c.line.toRequestClosed rfl h e
  | readClock _ _ | addPhase _ _ | dropPhase _ _ | editPhase _ _ | readPhases _ _ | readContext _ _ | setScene _ _
  | setClimateSet _ _ | setProfile _ _ | readTable _ _ | readPending _ _ | cancelPending _ _ | setOverride _ _
  | clearOverride _ _ | readOverrides _ _ | setClock _ _ | timedTurn | overrideExpiry _ => exact c.plan.exec c.line.toRequestClosed rfl h e

/-- A property that every command keeps and that does not speak of the waiting commands is kept by every step. -/
theorem step (c : CommandClosed I) (d : DiscardClosed I) (pending : ∀ s l, I s → I (s.setPending l)) (h : I s)
    (e : step s = .next t) : I t := by
  unfold Machine.step at e
  split at e
  · obtain rfl := Host.Outcome.next.inj e; exact h
  · exact c.exec_of (fun _ => d.fetch) (fun _ => d.powerUp) (fun _ => d.startLoading) (pending s _ h) e

end CommandClosed
end Sys2Proof.Machine
end

section
/-! SUPPORT. The Line Interface over every step: every command completes, the line stays sound, and notices leave the queue only by FETCH
NOTICES, power-on and a FULL restart (R162 to R170). -/

namespace Sys2Proof.Machine

/-! ### Steps and their completion -/

/-- Settles O1: both clauses are the two branches of the step. -/
theorem stepRunsTheFrontCommand : Obligations.StepRunsTheFrontCommand :=
  ⟨fun s c rest h => by simp [step, h], fun s h => by simp [step, h]⟩

theorem request_completes (kind tag : Byte) (body : Bytes) (service : Service) (s : State) :
    ∃ t, request kind tag body service s = .next t := by
  unfold request
  split
  · exact ⟨_, rfl⟩
  · split
    · exact ⟨_, rfl⟩
    · split
      · exact ⟨_, rfl⟩
      · split <;> exact ⟨_, rfl⟩

theorem whenRunning_completes (f : State → State) (s : State) : ∃ t, whenRunning f s = .next t := by
  unfold whenRunning
  split <;> exact ⟨_, rfl⟩

theorem exec_completes (c : Instr) (s : State) : ∃ t, exec c s = .next t := by
  cases c with
  | powerOn | frameComplete _ | frameGapExpiry | syncReceived _ | lenOutOfRange _ => exact ⟨_, rfl⟩
  | storeLoadComplete answers =>
    change ∃ t, execStoreLoadComplete answers s = .next t
    unfold execStoreLoadComplete
    split <;> exact ⟨_, rfl⟩
  | firePanelSample asserted =>
    change ∃ t, execFirePanelSample asserted s = .next t
    unfold execFirePanelSample
    split <;> exact ⟨_, rfl⟩
  | tripSample i asserted =>
    change ∃ t, execTripSample i asserted s = .next t
    unfold execTripSample
    split <;> exact ⟨_, rfl⟩
  | doorInputSample d input active =>
    change ∃ t, execDoorInputSample d input active s = .next t
    unfold execDoorInputSample
    split <;> exact ⟨_, rfl⟩
  | unknownKindRequest tag kind body =>
    change ∃ t, execUnknownKindRequest tag kind body s = .next t
    unfold execUnknownKindRequest
    split
    · exact request_completes _ _ _ _ _
    · exact ⟨_, rfl⟩
  | overrideExpiry target =>
    change ∃ t, execOverrideExpiry target s = .next t
    unfold execOverrideExpiry
    exact whenRunning_completes _ _
  | meterPulse m =>
    change ∃ t, execMeterPulse m s = .next t
    unfold execMeterPulse
    exact whenRunning_completes _ _
  | loopSample d flows =>
    change ∃ t, execLoopSample d flows s = .next t
    unfold execLoopSample
    exact whenRunning_completes _ _
  | checkLimitExpiry =>
    change ∃ t, execCheckLimitExpiry s = .next t
    unfold execCheckLimitExpiry
    exact whenRunning_completes _ _
  | dwellExpiry =>
    change ∃ t, execDwellExpiry s = .next t
    unfold execDwellExpiry
    exact whenRunning_completes _ _
  | saveComplete result =>
    change ∃ t, execSaveComplete result s = .next t
    unfold execSaveComplete
    exact whenRunning_completes _ _
  | tempPointSample p x => rw [exec_tempPointSample]; exact whenRunning_completes _ _
  | tempPointStaleExpiry p => rw [exec_tempPointStaleExpiry]; exact whenRunning_completes _ _
  | exhaustPointSample p x => rw [exec_exhaustPointSample]; exact whenRunning_completes _ _
  | exhaustPointStaleExpiry p => rw [exec_exhaustPointStaleExpiry]; exact whenRunning_completes _ _
  | clockAdvance | timedTurn | meterSample | minOnExpiry _ | minOffExpiry _ | urgencyExpiry _ | debounceExpiry _ _
  | heldTimerExpiry _ | zoneEvaluation _ | presencePulse _ | presenceTimerExpiry _ => exact whenRunning_completes _ _
  | _ => exact request_completes _ _ _ _ _

/-! ### Properties that the units cannot reach but by notices -/

/-- A property kept by every update of the units' state, by Stop Control, the store and the counters, is kept by every command. -/
structure OutsideClosed (I : State → Prop) : Prop where
  unit : UnitClosed I
  budget : BudgetClosed I
  stop : ∀ s c, I s → I (s.setStop c)
  store : ∀ s c, I s → I (s.setStore c)
  second : ∀ s, I s → I s.tick
  start : ∀ s st (c : Snapshot) store stop, I s → I (((s.afresh st c store).setLine { s.line with level := c.level }).setStop stop)

variable {I : State → Prop} {s t : State}

theorem BudgetClosed.tripSampled (c : BudgetClosed I) (i : Fin 128) (b : Bool) (h : I s) : I (tripSampled i b s) :=
  c.tripIfAsserted i (c.putChan i _ h)

namespace OutsideClosed

theorem reconfigure (c : OutsideClosed I) (i : Fin 128) (n : ChannelConfig) (h : I s) : I (reconfigure i n s) :=
  c.budget.tripIfAsserted i (c.budget.reprotect (c.unit.channelBound i (c.budget.applyConfig i _ n (c.budget.bringToZero i h))))

theorem startUpNotices (c : OutsideClosed I) (r : Except StoreReason Snapshot) (h : I s) : I (startUpNotices r s) := by
  have h1 : I (match r with
      | .ok _ => s
      | .error reason => raise .storeInvalid 0 (le8 reason.code) s) := by
    split
    · exact h
    · exact c.unit.notice _ _ _ _ h
  unfold Machine.startUpNotices
  dsimp only
  split
  · exact c.unit.notice _ _ _ _ (c.unit.notice _ _ _ _ h1)
  · exact c.unit.notice _ _ _ _ h1

theorem fireAsserted (c : OutsideClosed I) (h : I s) : I (fireAsserted s) := by
  unfold Machine.fireAsserted
  dsimp only
  split
  · exact c.stop s _ h
  · have h1 : I (raise .plantStop 0 (le8 s.stop.state.code)
        (s.setStop { state := .stopped, fire := true, stopStamp := s.seconds })) := c.unit.notice _ _ _ _ (c.stop s _ h)
    split
    · exact c.unit.lightingStop (c.unit.dockPlantChange (c.unit.climateStop (c.budget.budgetStop h1)))
    · exact h1

theorem fireCleared (c : OutsideClosed I) (h : I s) : I (fireCleared s) := by
  unfold Machine.fireCleared
  split
  · exact c.unit.notice _ _ _ _ (c.stop s _ h)
  · exact c.stop s _ h

theorem saveEnded (c : OutsideClosed I) (r : SaveResult) (content : Snapshot) (digest : Crc16) (h : I s) :
    I (saveEnded r content digest s) := by
  have failed : ∀ reason, I (saveFailed reason content s) := fun reason =>
    c.unit.notice _ _ _ _ (c.unit.draw _ (c.store s _ h))
  unfold Machine.saveEnded
  split
  · exact c.unit.notice _ _ _ _ (c.store s _ h)
  · exact failed _
  · exact failed _

theorem budgetCommands (c : OutsideClosed I) : BudgetCommands I where
  tripInput i _ _ h := c.budget.putChan i _ h
  tripSampled i b _ h := c.budget.tripSampled i b h
  acknowledge i _ h := c.budget.acknowledge i h
  limits _ s h := c.budget.budget s _ h
  meterPulse _ s h := c.budget.budget s _ h
  meterSample _ h := c.budget.meterSample h
  minOnExpired i _ h := c.budget.minOnExpired i h
  minOffExpired i _ h := c.budget.minOffExpired i h
  urgencyReached i _ h := c.budget.urgencyReached i h

theorem dockCommands (c : OutsideClosed I) : DockCommands I where
  configureDoor d n _ _ h := c.unit.configureDoor d n h
  clearCounters d _ h := c.unit.putDoor d _ h
  beginCheck _ h := c.unit.beginCheck h
  endCheck k e _ _ h := c.unit.endCheck k e h
  readSessions _ _ s h := c.unit.dock s _ h
  recordRaw d i a _ h := by cases i <;> exact c.unit.putDoor d _ h
  restartDebounce d i _ h := by cases i <;> exact c.unit.putDoor d _ h
  debounceExpired d i _ h := c.unit.debounceExpired d i h
  heldExpired d _ _ h := c.unit.heldExpired d h
  loopSample _ _ _ s _ h := c.unit.dock s _ h

theorem climateCommands (c : OutsideClosed I) : ClimateCommands I where
  configureZone z n _ h := c.unit.configureZone z n h
  configurePoints _ s h := c.unit.climate s _ h
  clearTemps s h := c.unit.climate s _ h
  clearExhausts s h := c.unit.climate s _ h
  tempSampled _ _ s h := c.unit.sampleNotice _ _ _ (c.unit.climate s _ h)
  tempWentStale _ s h := c.unit.notice _ _ _ _ (c.unit.climate s _ h)
  exhaustSampled _ _ s h := c.unit.sampleNotice _ _ _ (c.unit.climate s _ h)
  exhaustWentStale _ s h := c.unit.notice _ _ _ _ (c.unit.climate s _ h)
  evaluationExpired z _ h := c.unit.evaluationExpired z h

theorem lightingCommands (c : OutsideClosed I) : LightingCommands I where
  configureLight z n _ _ h := c.unit.configureLight z n h
  startWalk n l _ _ h := c.unit.startWalk n l h
  endWalk e _ h := c.unit.endWalk e h
  pulse z _ h := c.unit.pulse z h
  presenceExpired z _ _ h := c.unit.presenceExpired z h
  dwellExpired w _ _ h := c.unit.dwellExpired w h

theorem planCommands (c : OutsideClosed I) : PlanCommands I where
  setClock v _ _ h := c.budget.clockSetEvent v (c.unit.setClockTo v h)
  addRecord r _ _ _ _ h := c.unit.addRecord r h
  dropRecord n _ h := c.unit.dropRecord n h
  editFallback f _ h := c.unit.editFallback f h
  editRecord r _ h := c.unit.editRecord r h
  placeEdit _ s h := c.unit.plan s _ h
  editNow e _ h := c.unit.editNow e h
  cancelEdits s h := c.unit.plan s _ h
  setOverride o _ _ h := c.unit.setOverride o h
  endOverride o k _ h := c.unit.endOverride o k h
  timedTurn _ h := c.unit.timedTurn h

theorem finishLoading (c : OutsideClosed I) (a : Bool) (h : I s) : I (finishLoading a s) := by
  unfold Machine.finishLoading
  exact c.unit.lightingStart (c.budget.budgetStart (c.startUpNotices _ (c.start s _ _ _ _ h)))

theorem resumePlant (c : OutsideClosed I) (h : I s) : I (resumePlant s) := by
  unfold Machine.resumePlant plantResumed
  exact c.unit.deriveLights (c.unit.dockPlantChange (c.unit.climateResume (c.budget.budgetResume
    (c.unit.notice _ _ _ _ (c.stop s _ h)))))

theorem plantRestart (c : OutsideClosed I) (h : I s) : I (plantRestart s) := by
  unfold Machine.plantRestart
  exact c.unit.lightingRestart (c.unit.climateRestart (c.unit.dockRestart (c.budget.budgetRestart (c.unit.plan s _ h))))

theorem systemCommands (c : OutsideClosed I) : SystemCommands I where
  reconfigure i n _ _ h := c.reconfigure i n h
  tick s h := c.second s h
  finishLoading a _ h := c.finishLoading a h
  fireInput _ s h := c.stop s _ h
  fireAsserted _ h := c.fireAsserted h
  fireCleared _ h := c.fireCleared h
  resumePlant _ _ h := c.resumePlant h
  plantRestart _ h := c.plantRestart h
  save s h := c.store s _ h
  saveEnded r k d _ _ h := c.saveEnded r k d h

theorem commands (c : OutsideClosed I) (l : LineClosed I) : CommandClosed I :=
  ⟨l, c.budgetCommands, c.dockCommands, c.climateCommands, c.lightingCommands, c.planCommands, c.systemCommands⟩

end OutsideClosed

/-- A property kept by each update by itself and by every notice is kept by every operation made of them. -/
theorem OutsideClosed.of_updates (notice : ∀ k n b s, I s → I (raise k n b s)) (budget : ∀ s b, I s → I (s.setBudget b))
    (dock : ∀ s k, I s → I (s.setDock k)) (climate : ∀ s k, I s → I (s.setClimate k))
    (lighting : ∀ s k, I s → I (s.setLighting k)) (plan : ∀ s k, I s → I (s.setPlan k)) (draw : ∀ s, I s → I s.draw)
    (stop : ∀ s c, I s → I (s.setStop c)) (store : ∀ s c, I s → I (s.setStore c)) (second : ∀ s, I s → I s.tick)
    (start : ∀ s st (c : Snapshot) store stop, I s →
      I (((s.afresh st c store).setLine { s.line with level := c.level }).setStop stop)) : OutsideClosed I := by
  have accrual : ∀ d s, I s → I (accrue d s) := by
    intro d s h
    unfold accrue
    dsimp only
    split
    · exact dock s _ h
    · split
      · exact plan _ _ (dock s _ h)
      · exact plan _ _ (dock s _ h)
  have curtain : ∀ d v s, I s → I (setCurtainRunning d v s) := by
    intro d v s h
    unfold setCurtainRunning
    split
    · exact h
    · exact dock _ _ (dock _ _ (accrual d s h))
  have closed : BudgetClosed I := ⟨budget, notice, fun s => plan s _, curtain⟩
  exact ⟨⟨fun i r o v m _ => closed.targetChange i r o v m, fun i z v _ => closed.protectedMinimum i z v,
    fun _ => closed.profileChanged, notice, dock, climate, lighting, plan, draw⟩, closed, stop, store, second, start⟩

/-! ### The queue of waiting commands -/

@[simp] theorem raise_pending (k : NoticeKind) (n : Nat) (b : Bytes) (s : State) : (raise k n b s).pending = s.pending := by
  unfold raise
  split <;> rfl

theorem pending_commands (q : List Instr) : CommandClosed fun s => s.pending = q :=
  (OutsideClosed.of_updates (fun _ _ _ _ h => by rw [raise_pending]; exact h) (fun _ _ h => h) (fun _ _ h => h) (fun _ _ h => h)
    (fun _ _ h => h) (fun _ _ h => h) (fun _ h => h) (fun _ _ h => h) (fun _ _ h => h) (fun _ h => h) fun _ _ _ _ _ h => h).commands
    (.of_setLine fun _ _ h => h)

theorem fetchNotices_pending (s : State) : (fetchNotices s).pending = s.pending := by
  unfold fetchNotices
  dsimp only
  split <;> rfl

/-- Settles O2: completion command by command; and no operation of any command writes the queue. -/
theorem everyCommandCompletes : Obligations.EveryCommandCompletes := by
  intro c s
  obtain ⟨t, e⟩ := exec_completes c s
  exact ⟨t, e, (pending_commands s.pending).exec_of (fun _ u h => (fetchNotices_pending u).trans h) (fun _ _ h => h)
    (fun _ _ h => h) rfl e⟩

/-! ### Properties of the line -/

theorem raise_line (k : NoticeKind) (n : Nat) (b : Bytes) (s : State) :
    (raise k n b s).line = if s.line.level.passes k.cls then s.line.join ⟨k, s.plan.clock, n, b⟩ else s.line := by
  unfold raise
  split <;> rfl

/-- The line as the units see it: they reach it by notices alone, and a property that a notice keeps survives them all. -/
theorem OutsideClosed.of_line {P : Line → Prop} (join : ∀ l n, P l → P (l.join n)) (level : ∀ l v, P l → P { l with level := v }) :
    OutsideClosed fun s => P s.line := by
  have notice : ∀ k n b s, P s.line → P (raise k n b s).line := by
    intro k n b s h
    rw [raise_line]
    split
    · exact join _ _ h
    · exact h
  exact .of_updates notice (fun _ _ h => h) (fun _ _ h => h) (fun _ _ h => h) (fun _ _ h => h) (fun _ _ h => h)
    (fun _ h => h) (fun _ _ h => h) (fun _ _ h => h) (fun _ h => h) fun s _ c _ _ h => level s.line c.level h

/-! ### The line stays sound -/

theorem satAdd_le (b x y : Nat) : satAdd b x y ≤ b := by
  unfold satAdd; omega

theorem Line.Sound.join {l : Line} (h : l.Sound) (n : Notice) : (l.join n).Sound := by
  obtain ⟨hn, hb, hl, hf, ho, ha⟩ := h
  unfold Line.join
  split
  · next hlt => exact ⟨by simpa using hlt, hb, hl, hf, ho, by simp⟩
  · exact ⟨hn, hb, satAdd_le _ _ _, hf, ho, ha⟩

theorem Line.Sound.offer {l : Line} (h : l.Sound) (f : Frame) : (l.offer f).Sound := by
  obtain ⟨hn, hb, hl, hf, ho, ha⟩ := h
  unfold Line.offer
  split
  · next hlt => exact ⟨hn, by simpa using hlt, hl, hf, ho, ha⟩
  · exact ⟨hn, hb, hl, hf, satAdd_le _ _ _, ha⟩

theorem Line.Sound.countBad {l : Line} (h : l.Sound) : l.countBad.Sound := by
  obtain ⟨hn, hb, hl, hf, ho, ha⟩ := h
  exact ⟨hn, hb, hl, satAdd_le _ _ _, ho, ha⟩

/-- What the receiver does to the line but for the bytes it collects: it counts a failed frame, or offers a good one (R162, R163). -/
theorem scan_keeps {P : Line → Prop} (bad : ∀ l, P l → P l.countBad) (offer : ∀ l f, P l → P (l.offer f))
    (rx : ∀ l b, P l → P { l with rx := b }) (timeUp : Bool) (skip : Nat) (bytes : Bytes) (l : Line) (h : P l) :
    P (scan timeUp skip bytes l) := by
  induction bytes generalizing skip l with
  | nil => cases skip <;> exact rx l _ h
  | cons b rest ih =>
    cases skip with
    | succ skip => exact ih skip l h
    | zero =>
      unfold scan
      split
      · exact ih 0 l h
      · split
        · split
          · exact ih 0 _ (bad l h)
          · exact rx l _ h
        · exact ih 0 _ (bad l h)
        · exact ih _ _ (offer l _ h)

theorem Line.Sound.scan {l : Line} (h : l.Sound) (timeUp : Bool) (skip : Nat) (bytes : Bytes) :
    (Machine.scan timeUp skip bytes l).Sound :=
  scan_keeps (fun _ h => h.countBad) (fun _ f h => h.offer f) (fun _ _ h => h) timeUp skip bytes l h

theorem Line.Sound.dropNotices {l : Line} (h : l.Sound) (n : Nat) : (l.dropNotices n).Sound := by
  obtain ⟨hn, hb, hl, hf, ho, -⟩ := h
  exact ⟨by simp only [Line.dropNotices, List.length_drop]; omega, hb, hl, hf, ho, rfl⟩

theorem fetchNotices_sound {s : State} (h : s.line.Sound) : (fetchNotices s).line.Sound := by
  unfold fetchNotices
  dsimp only
  split
  · obtain ⟨hn, hb, -, hf, ho, ha⟩ := (h.dropNotices _).join ⟨.noticesLost, s.plan.clock, 0, le16 s.line.lost⟩
    exact ⟨hn, hb, Nat.zero_le _, hf, ho, ha⟩
  · exact h.dropNotices _

theorem startLine_sound (level : NoticeLevel) (sent : List Bytes) : (startLine level sent).Sound :=
  ⟨Nat.zero_le _, Nat.zero_le _, Nat.zero_le _, Nat.zero_le _, Nat.zero_le _, rfl⟩

theorem soundLine_lineClosed : LineClosed fun s => s.line.Sound where
  take s f rest hb h := by
    obtain ⟨hn, hl, hr⟩ := h
    exact ⟨hn, by rw [hb, List.length_cons] at hl; exact Nat.le_of_succ_le hl, hr⟩
  reply _ _ _ _ h := h
  receive _ _ h := h.scan _ _ _
  gap _ h := h.scan _ _ _
  clear _ h := ⟨h.1, h.2.1, h.2.2.1, Nat.zero_le _, Nat.zero_le _, h.2.2.2.2.2⟩
  level _ _ h := h

/-- Settles O7: the units reach the line by notices alone, and each operation of the Line Interface keeps its bounds. -/
theorem lineStaysSound : Obligations.LineStaysSound := by
  intro s t h e
  have units : OutsideClosed fun s : State => s.line.Sound := .of_line (fun _ n h => h.join n) fun _ _ h => h
  exact (units.commands soundLine_lineClosed).step
    ⟨fun _ => fetchNotices_sound, fun _ _ => startLine_sound _ _, fun _ _ => startLine_sound _ _⟩ (fun _ _ h => h) h e

/-! ### Notices leave the queue only by FETCH NOTICES, power-on and a FULL restart -/

theorem scan_notices (timeUp : Bool) (skip : Nat) (bytes : Bytes) (l : Line) :
    (scan timeUp skip bytes l).notices = l.notices :=
  scan_keeps (P := fun m => m.notices = l.notices) (fun _ h => h) (fun m f h => by unfold Line.offer; split <;> exact h)
    (fun _ _ h => h) timeUp skip bytes l rfl

theorem join_prefix (l : Line) (n : Notice) : l.notices <+: (l.join n).notices := by
  unfold Line.join
  split
  · exact List.prefix_append _ _
  · exact List.prefix_rfl

theorem queuePrefix_commands (q : List Notice) : CommandClosed fun s => q <+: s.line.notices :=
  (OutsideClosed.of_line (P := fun l => q <+: l.notices) (fun l n h => h.trans (join_prefix l n)) fun _ _ h => h).commands
    { take := fun _ _ _ _ h => h
      reply := fun _ _ _ _ h => h
      receive := fun _ s h => by simpa [Line.receive, scan_notices] using h
      gap := fun s h => by simpa [Line.gap, scan_notices] using h
      clear := fun _ h => h
      level := fun _ _ h => h }

/-- Settles O12: a request whose body is not the FULL mode's does not discard the state, and no other operation takes from the queue. -/
theorem noticesLeaveOnlyByFetch : Obligations.NoticesLeaveOnlyByFetch := by
  intro c s t wf notPower notFull notFetch e
  refine (queuePrefix_commands s.line.notices).exec_of (fun ⟨tag, body, h⟩ => absurd h (notFetch tag body))
    (fun h => absurd h notPower) (fun ⟨tag, h⟩ => ?_) List.prefix_rfl e
  obtain rfl | rfl := h
  · exact absurd wf (by simp [Instr.wellFormed])
  · exact absurd rfl (notFull tag [1])

end Sys2Proof.Machine
end

section
/-! SUPPORT. The frames of the units' commands: what each family leaves alone (chapter Scope, Block overview). -/

namespace Sys2Proof.Machine

variable {I : State → Prop} {s t : State}

/-! ### From the frame of a unit to a property of what lies outside it -/

theorem BudgetCommands.of_outside (h : ∀ s t, t.outsideBudget = s.outsideBudget → I s → I t) : BudgetCommands I where
  tripInput _ _ s := h s _ (putChan_outside _ _ _)
  tripSampled i b s := h s _ (by unfold Machine.tripSampled tripIfAsserted; split <;> simp)
  acknowledge i s := h s _ (by simp [Machine.acknowledge])
  limits _ s := h s _ (setBudget_outside _ _)
  meterPulse _ s := h s _ (setBudget_outside _ _)
  meterSample s := h s _ (meterSample_outside s)
  minOnExpired i s := h s _ (minOnExpired_outside s i)
  minOffExpired i s := h s _ (minOffExpired_outside s i)
  urgencyReached i s := h s _ (urgencyReached_outside s i)

theorem recordRaw_outsideDock (d : Fin 32) (i : DoorInput) (a : Bool) (s : State) :
    (recordRaw d i a s).outsideDock = s.outsideDock := by
  cases i <;> rfl

theorem restartDebounce_outsideDock (d : Fin 32) (i : DoorInput) (s : State) :
    (restartDebounce d i s).outsideDock = s.outsideDock := by
  cases i <;> rfl

theorem DockCommands.of_outside (h : ∀ s t, t.outsideDock = s.outsideDock → I s → I t) : DockCommands I where
  configureDoor d n s _ := h s _ (configureDoor_outsideDock s d n)
  clearCounters d s := h s _ (putDoor_outsideDock s d _)
  beginCheck s := h s _ (beginCheck_outsideDock s)
  endCheck k e s _ := h s _ (endCheck_outsideDock s k e)
  readSessions _ _ s := h s _ (setDock_outsideDock s _)
  recordRaw d i a s := h s _ (recordRaw_outsideDock d i a s)
  restartDebounce d i s := h s _ (restartDebounce_outsideDock d i s)
  debounceExpired d i s := h s _ (debounceExpired_outsideDock s d i)
  heldExpired d s _ := h s _ (heldExpired_outsideDock s d)
  loopSample _ _ _ s _ := h s _ (setDock_outsideDock s _)

theorem ClimateCommands.of_outside (h : ∀ s t, t.outsideClimate = s.outsideClimate → I s → I t) : ClimateCommands I where
  configureZone z n s := h s _ (configureZone_outsideClimate s z n)
  configurePoints n s := h s _ (configurePoints_outsideClimate s n)
  clearTemps s := h s _ (setClimate_outsideClimate s _)
  clearExhausts s := h s _ (setClimate_outsideClimate s _)
  tempSampled p x s := h s _ (by simp [Machine.tempSampled])
  tempWentStale p s := h s _ (by simp [Machine.tempWentStale])
  exhaustSampled p x s := h s _ (by simp [Machine.exhaustSampled])
  exhaustWentStale p s := h s _ (by simp [Machine.exhaustWentStale])
  evaluationExpired z s := h s _ (evaluationExpired_outsideClimate s z)

theorem LightingCommands.of_outside (h : ∀ s t, t.outsideLighting = s.outsideLighting → I s → I t) : LightingCommands I where
  configureLight z n s _ := h s _ (configureLight_outsideLighting s z n)
  startWalk n l s _ := h s _ (startWalk_outsideLighting s n l)
  endWalk e s := h s _ (endWalk_outsideLighting s e)
  pulse z s := h s _ (pulse_outsideLighting s z)
  presenceExpired z s _ := h s _ (presenceExpired_outsideLighting s z)
  dwellExpired w s _ := h s _ (dwellExpired_outsideLighting s w)

/-! ### The frame of the Shift Plan Unit's commands -/

theorem outsidePlan_of (h : t.outsideLighting = s.outsideLighting) : t.outsidePlan = s.outsidePlan := by
  simp only [State.outsidePlan, h]

@[simp] theorem setPlan_outsidePlan (s : State) (p : PlanUnit) : (s.setPlan p).outsidePlan = s.outsidePlan := rfl

@[simp] theorem raise_outsidePlan (s : State) (k : NoticeKind) (n : Nat) (b : Bytes) :
    (raise k n b s).outsidePlan = s.outsidePlan := outsidePlan_of (raise_outsideLighting s k n b)

@[simp] theorem deriveLight_outsidePlan (s : State) (z : Fin 24) : (deriveLight z s).outsidePlan = s.outsidePlan :=
  outsidePlan_of (deriveLight_outsideLighting s z)

@[simp] theorem deriveLights_outsidePlan (s : State) : (deriveLights s).outsidePlan = s.outsidePlan :=
  outsidePlan_of (deriveLights_outsideLighting s)

@[simp] theorem profileChanged_outsidePlan (s : State) : (profileChanged s).outsidePlan = s.outsidePlan :=
  outsidePlan_of (outsideLighting_of (profileChanged_outside s))

@[simp] theorem clockSetEvent_outsidePlan (s : State) (v : Nat) : (clockSetEvent v s).outsidePlan = s.outsidePlan :=
  outsidePlan_of (outsideLighting_of (clockSetEvent_outside s v))

@[simp] theorem turnEvent_outsidePlan (s : State) : (turnEvent s).outsidePlan = s.outsidePlan :=
  (profileChanged_outsidePlan _).trans (outsidePlan_of (lightingTurn_outsideLighting s))

@[simp] theorem recomputeNext_outsidePlan (s : State) : (recomputeNext s).outsidePlan = s.outsidePlan := rfl
@[simp] theorem recomputeDigest_outsidePlan (s : State) : (recomputeDigest s).outsidePlan = s.outsidePlan := rfl

@[simp] theorem applyEdits_outsidePlan (s : State) : (applyEdits s).outsidePlan = s.outsidePlan := by
  unfold applyEdits
  split <;> simp

@[simp] theorem editNow_outsidePlan (s : State) (e : PendingEdit) : (editNow e s).outsidePlan = s.outsidePlan := by
  unfold editNow
  dsimp only
  split
  · split <;> simp
  · simp
  · split <;> simp

@[simp] theorem overrideChanged_outsidePlan (s : State) (o : OverrideTarget) :
    (overrideChanged o s).outsidePlan = s.outsidePlan := by
  unfold overrideChanged
  split <;> simp

@[simp] theorem endOverride_outsidePlan (s : State) (o : Override) (c : EndCause) :
    (endOverride o c s).outsidePlan = s.outsidePlan := by simp [endOverride]

@[simp] theorem endTurnOverrides_outsidePlan (s : State) : (endTurnOverrides s).outsidePlan = s.outsidePlan :=
  forEach_same (P := State.outsidePlan) (fun o t => endOverride_outsidePlan t o .turn) _ s

@[simp] theorem leaveCurrent_outsidePlan (s : State) (c : TurnCause) : (leaveCurrent c s).outsidePlan = s.outsidePlan := by
  simp [leaveCurrent]

@[simp] theorem takePhase_outsidePlan (s : State) (c : PhaseCopy) : (takePhase c s).outsidePlan = s.outsidePlan := by
  simp [takePhase, enterPhase]

@[simp] theorem timedTurn_outsidePlan (s : State) : (timedTurn s).outsidePlan = s.outsidePlan := by
  unfold timedTurn
  split <;> simp

@[simp] theorem entryTurn_outsidePlan (s : State) : (entryTurn s).outsidePlan = s.outsidePlan := by
  unfold entryTurn
  split
  · rfl
  · split <;> simp

@[simp] theorem setClockTo_outsidePlan (s : State) (v : Nat) : (setClockTo v s).outsidePlan = s.outsidePlan := by
  unfold setClockTo
  dsimp only
  split
  · simp
  · split
    · simp
    · split <;> simp [jumpTurn]

@[simp] theorem addRecord_outsidePlan (s : State) (r : PhaseRec) : (addRecord r s).outsidePlan = s.outsidePlan := by
  unfold addRecord
  dsimp only
  split <;> simp

@[simp] theorem dropRecord_outsidePlan (s : State) (n : Nat) : (dropRecord n s).outsidePlan = s.outsidePlan := by
  unfold dropRecord
  dsimp only
  split
  · split <;> simp [emptyingTurn]
  · simp

@[simp] theorem editFallback_outsidePlan (s : State) (f : PhaseFields) : (editFallback f s).outsidePlan = s.outsidePlan := by
  unfold editFallback
  dsimp only
  split <;> simp [fallbackRefresh]

@[simp] theorem editRecord_outsidePlan (s : State) (r : PhaseRec) : (editRecord r s).outsidePlan = s.outsidePlan := rfl

theorem PlanCommands.of_outside (h : ∀ s t, t.outsidePlan = s.outsidePlan → I s → I t) : PlanCommands I where
  setClock v s _ := h s _ (by simp)
  addRecord r s _ _ _ := h s _ (addRecord_outsidePlan s r)
  dropRecord n s := h s _ (dropRecord_outsidePlan s n)
  editFallback f s := h s _ (editFallback_outsidePlan s f)
  editRecord r s := h s _ (editRecord_outsidePlan s r)
  placeEdit _ s := h s _ (setPlan_outsidePlan s _)
  editNow e s := h s _ (editNow_outsidePlan s e)
  cancelEdits s := h s _ (setPlan_outsidePlan s _)
  setOverride o s _ := h s _ (by simp [Machine.setOverride])
  endOverride o c s := h s _ (endOverride_outsidePlan s o c)
  timedTurn s := h s _ (timedTurn_outsidePlan s)

/-! ### The part's answer to a request put aside -/

/-- A view of the state that shows the line but for its notices. -/
structure ShowsLine (V : State → State) : Prop where
  setLine : ∀ s l, V (s.setLine l) = (V s).setLine l.forgetNotices
  line : ∀ s, (V s).line = s.line.forgetNotices

/-- In the view, u is s with the part's answer to a request put aside. -/
def State.answersIn (V : State → State) (s u : State) : Prop := V u = V (s.traffic u)

namespace ShowsLine

variable {V : State → State} {u v : State}

/-- The view of s with another state's answer. -/
theorem traffic (v : ShowsLine V) (s u : State) :
    V (s.traffic u) = (V s).setLine { s.line.forgetNotices with buffer := u.line.buffer, sent := u.line.sent } :=
  v.setLine s _

theorem answersIn_of_view (w : ShowsLine V) (h : V v = V u) (hu : s.answersIn V u) : s.answersIn V v := by
  have hl : v.line.forgetNotices = u.line.forgetNotices := by rw [← w.line, h, w.line]
  have hb : v.line.buffer = u.line.buffer := (Line.mk.inj hl).2.1
  have hs : v.line.sent = u.line.sent := (Line.mk.inj hl).2.2.2.2.2.2.2.2
  unfold State.answersIn at hu ⊢
  rw [h, hu, w.traffic, w.traffic, hb, hs]

theorem answersIn_setLine (w : ShowsLine V) (buffer : List Frame) (sent : List Bytes) (hu : s.answersIn V u) :
    s.answersIn V (u.setLine { u.line with buffer := buffer, sent := sent }) := by
  have hl := congrArg State.line hu
  rw [w.traffic, w.line] at hl
  unfold State.answersIn at hu ⊢
  rw [w.setLine, hu, w.traffic, w.traffic]
  have hlb : ({ u.line with buffer := buffer, sent := sent } : Line).forgetNotices
      = { u.line.forgetNotices with buffer := buffer, sent := sent } := rfl
  rw [hlb, hl]
  rfl

/-- The view keeps the taking of a frame and the reply apart from everything else. -/
theorem requestClosed (w : ShowsLine V) (s : State) : RequestClosed (s.answersIn V) where
  take u _ rest _ hu := w.answersIn_setLine rest u.line.sent hu
  reply _ _ _ u hu := w.answersIn_setLine u.line.buffer _ hu

end ShowsLine

theorem outsideBudget_showsLine : ShowsLine State.outsideBudget := ⟨fun _ _ => rfl, fun _ => rfl⟩
theorem outsideDock_showsLine : ShowsLine State.outsideDock := ⟨fun _ _ => rfl, fun _ => rfl⟩
theorem outsideClimate_showsLine : ShowsLine State.outsideClimate := ⟨fun _ _ => rfl, fun _ => rfl⟩
theorem outsideLighting_showsLine : ShowsLine State.outsideLighting := ⟨fun _ _ => rfl, fun _ => rfl⟩
theorem outsidePlan_showsLine : ShowsLine State.outsidePlan := ⟨fun _ _ => rfl, fun _ => rfl⟩

/-! ### What the arbiter's events ask of the channels -/

theorem asked_of_unshared (h : t.unshared = s.unshared) (i : Fin 128) : (t.chan i).asked = (s.chan i).asked := by
  have := congrArg (fun p => look p.2 i) h
  simp only [State.unshared, look_map] at this
  exact this

theorem asked_putChan (s : State) (i j : Fin 128) (c : Channel) (h : c.asked = (s.chan i).asked) :
    ((s.putChan i c).chan j).asked = (s.chan j).asked := by
  rw [chan_putChan]
  split
  · next hij => subst hij; exact h
  · rfl

@[simp] theorem sampleEnergy_channels (s : State) : (sampleEnergy s).budget.channels = s.budget.channels := by
  have hr : ∀ k n b u, (raise k n b u).budget = u.budget := by
    intro k n b u
    unfold raise
    split <;> rfl
  unfold sampleEnergy
  dsimp only
  split
  · split
    · rw [hr]; rfl
    · rfl
  · split
    · rfl
    · split
      · split
        · rw [hr]; rfl
        · rfl
      · rfl

@[simp] theorem sampleWindow_channels (s : State) : (sampleWindow s).budget.channels = s.budget.channels := by
  unfold sampleWindow
  dsimp only
  split <;> rfl

@[simp] theorem figure_chan (s : State) (i : Fin 128) : (figure s).chan i = s.chan i := rfl
@[simp] theorem protect_chan (s : State) (i : Fin 128) : (protect s).chan i = s.chan i := rfl
@[simp] theorem ceil_chan (s : State) (i : Fin 128) : (ceil s).chan i = s.chan i := rfl

theorem meterSample_asked (s : State) (i : Fin 128) : ((meterSample s).chan i).asked = (s.chan i).asked := by
  have hc : (sampleWindow (sampleEnergy (s.setBudget (activateLimits s.budget)))).budget.channels = s.budget.channels := by
    rw [sampleWindow_channels, sampleEnergy_channels]
    rfl
  unfold meterSample
  rw [asked_of_unshared (handOver_unshared _ _) i]
  rw [figure_chan, protect_chan, ceil_chan, chan_congr hc i]

@[simp] theorem release_unshared (s : State) (i : Fin 128) : (release i s).unshared = s.unshared := by
  unfold release
  rw [arbitrate_unshared, keepEntry_unshared, setGranted_unshared]
  exact putChan_unshared s i _ rfl

theorem minOnExpired_asked (s : State) (i j : Fin 128) : ((minOnExpired i s).chan j).asked = (s.chan j).asked := by
  have ht := asked_putChan s i j { s.chan i with minOnT := none } rfl
  unfold minOnExpired
  dsimp only
  split
  · exact (asked_of_unshared (release_unshared _ i) j).trans ht
  · exact ht

theorem urgencyReached_asked (s : State) (i j : Fin 128) : ((urgencyReached i s).chan j).asked = (s.chan j).asked := by
  unfold urgencyReached
  split
  · split
    · exact (asked_of_unshared (arbitrate_unshared _) j).trans (asked_putChan s i j _ rfl)
    · rfl
  · rfl

/-- The timers, meters and samples of the Load Budget Unit ask nothing new of any channel. -/
theorem arbiterEvent_asked {c : Instr} (hc : c.isArbiterEvent = true) (hi : ∀ i level, c ≠ .tripSample i level)
    (e : exec c s = .next t) (j : Fin 128) : (t.chan j).asked = (s.chan j).asked := by
  have running : ∀ f : State → State, ((f s).chan j).asked = (s.chan j).asked → whenRunning f s = .next t →
      (t.chan j).asked = (s.chan j).asked :=
    fun f hf => whenRunning_keeps (I := fun u => (u.chan j).asked = (s.chan j).asked) (fun _ => hf) rfl
  cases c with
  | meterPulse m =>
    change execMeterPulse m s = _ at e
    unfold execMeterPulse at e
    exact running _ (by cases m <;> rfl) e
  | meterSample =>
    refine running _ ?_ e
    split
    · exact meterSample_asked s j
    · rfl
  | minOnExpiry i =>
    refine running _ ?_ e
    split
    · exact minOnExpired_asked s i j
    · rfl
  | minOffExpiry i =>
    refine running _ ?_ e
    split
    · exact (asked_of_unshared (arbitrate_unshared _) j).trans (asked_putChan s i j _ rfl)
    · rfl
  | urgencyExpiry i => exact running _ (urgencyReached_asked s i j) e
  | tripSample i level => exact absurd rfl (hi i level)
  | _ => cases hc

/-- Settles O60: each family's operations keep the view that leaves its unit out, and the taking of a request and its reply are the
traffic put aside. -/
theorem eachUnitKeepsToItself : Obligations.EachUnitKeepsToItself := by
  refine ⟨fun c s t hc e => ?_, ⟨fun c s t hc e => ?_, fun c s t hc hi e => arbiterEvent_asked hc hi e⟩, fun c s t hc e => ?_,
    fun c s t hc e => ?_, fun c s t hc e => ?_⟩
  · have w := outsidePlan_showsLine
    exact (PlanCommands.of_outside fun _ _ => w.answersIn_of_view).exec (w.requestClosed s) hc rfl e
  · have w := outsideBudget_showsLine
    exact (BudgetCommands.of_outside fun _ _ => w.answersIn_of_view).exec (w.requestClosed s) hc rfl e
  · have w := outsideDock_showsLine
    exact (DockCommands.of_outside fun _ _ => w.answersIn_of_view).exec (w.requestClosed s) hc rfl e
  · have w := outsideClimate_showsLine
    exact (ClimateCommands.of_outside fun _ _ => w.answersIn_of_view).exec (w.requestClosed s) hc rfl e
  · have w := outsideLighting_showsLine
    exact (LightingCommands.of_outside fun _ _ => w.answersIn_of_view).exec (w.requestClosed s) hc rfl e

end Sys2Proof.Machine
end

section
/-! SUPPORT. The Climate Unit over every step: every sensor point stays sound, and every integral within its bound (R117, R122, R128). -/

namespace Sys2Proof.Machine

variable {s t : State}

/-! ### What CONFIG CHANNEL leaves outside the role units -/

/-- Everything but the Load Budget Unit, the Dock Supervisor, the Lighting Unit, the phase totals and the notice queue. -/
def State.outsideRoles (s : State) : State := { s.outsideDock with lighting := startLighting factorySnapshot }

theorem outsideRoles_of_dock (h : t.outsideDock = s.outsideDock) : t.outsideRoles = s.outsideRoles := by
  simp only [State.outsideRoles, h]

theorem outsideRoles_of_lighting (h : t.outsideLighting = s.outsideLighting) : t.outsideRoles = s.outsideRoles :=
  congrArg (fun u : State => { u with dock := startDock factorySnapshot (fun _ => false) fun _ => false }) h

theorem outsideRoles_of_budget (h : t.outsideBudget = s.outsideBudget) : t.outsideRoles = s.outsideRoles :=
  outsideRoles_of_dock (outsideDock_of h)

@[simp] theorem bringToZero_outside (s : State) (i : Fin 128) : (bringToZero i s).outsideBudget = s.outsideBudget := by
  simp [bringToZero]

@[simp] theorem applyConfig_outside (s : State) (i : Fin 128) (w : Channel) (n : ChannelConfig) :
    (applyConfig i w n s).outsideBudget = s.outsideBudget := rfl

@[simp] theorem tripIfAsserted_outside (s : State) (i : Fin 128) : (tripIfAsserted i s).outsideBudget = s.outsideBudget := by
  unfold tripIfAsserted
  split <;> simp

@[simp] theorem heaterBound_outside (s : State) (i : Fin 128) (z : Fin 12) :
    (heaterBound i z s).outsideBudget = s.outsideBudget := by
  unfold heaterBound
  split <;> simp

@[simp] theorem fanBound_outside (s : State) (i : Fin 128) (z : Fin 12) : (fanBound i z s).outsideBudget = s.outsideBudget := by
  unfold fanBound
  split <;> simp

@[simp] theorem lightBound_outsideLighting (s : State) (i : Fin 128) (z : Fin 24) :
    (lightBound i z s).outsideLighting = s.outsideLighting := by
  unfold lightBound
  dsimp only
  split <;> simp

@[simp] theorem curtainBound_outsideDock (s : State) (i : Fin 128) (d : Fin 32) :
    (curtainBound i d s).outsideDock = s.outsideDock := by
  unfold curtainBound
  dsimp only
  split <;> simp

@[simp] theorem docklightBound_outsideDock (s : State) (i : Fin 128) (d : Fin 32) :
    (docklightBound i d s).outsideDock = s.outsideDock := by
  unfold docklightBound
  dsimp only
  split <;> simp

/-- The role unit that answers a channel-bound event is one of five, or none (R52 step 4). -/
theorem channelBound_cases (i : Fin 128) (s : State) :
    channelBound i s = s
      ∨ (∃ z : Fin 12, (s.chan i).cfg.role = .heater ∧ (s.chan i).cfg.roleTarget = some z.val ∧ channelBound i s = heaterBound i z s)
      ∨ (∃ z : Fin 12, (s.chan i).cfg.role = .fan ∧ (s.chan i).cfg.roleTarget = some z.val ∧ channelBound i s = fanBound i z s)
      ∨ (∃ z : Fin 24, (s.chan i).cfg.role = .light ∧ (s.chan i).cfg.roleTarget = some z.val ∧ channelBound i s = lightBound i z s)
      ∨ (∃ d : Fin 32, (s.chan i).cfg.role = .curtain ∧ (s.chan i).cfg.roleTarget = some d.val
          ∧ channelBound i s = curtainBound i d s)
      ∨ ∃ d : Fin 32, (s.chan i).cfg.role = .docklight ∧ (s.chan i).cfg.roleTarget = some d.val
          ∧ channelBound i s = docklightBound i d s := by
  unfold channelBound
  split
  · next n hr ht =>
    split
    · next z hz => exact .inr (.inl ⟨z, hr, by rw [ht, index?_some hz], rfl⟩)
    · exact .inl rfl
  · next n hr ht =>
    split
    · next z hz => exact .inr (.inr (.inl ⟨z, hr, by rw [ht, index?_some hz], rfl⟩))
    · exact .inl rfl
  · next n hr ht =>
    split
    · next z hz => exact .inr (.inr (.inr (.inl ⟨z, hr, by rw [ht, index?_some hz], rfl⟩)))
    · exact .inl rfl
  · next n hr ht =>
    split
    · next z hz => exact .inr (.inr (.inr (.inr (.inl ⟨z, hr, by rw [ht, index?_some hz], rfl⟩))))
    · exact .inl rfl
  · next n hr ht =>
    split
    · next z hz => exact .inr (.inr (.inr (.inr (.inr ⟨z, hr, by rw [ht, index?_some hz], rfl⟩))))
    · exact .inl rfl
  · exact .inl rfl

@[simp] theorem channelBound_outsideRoles (s : State) (i : Fin 128) : (channelBound i s).outsideRoles = s.outsideRoles := by
  obtain h | ⟨z, -, -, h⟩ | ⟨z, -, -, h⟩ | ⟨z, -, -, h⟩ | ⟨d, -, -, h⟩ | ⟨d, -, -, h⟩ := channelBound_cases i s <;> rw [h]
  · exact outsideRoles_of_budget (heaterBound_outside s i z)
  · exact outsideRoles_of_budget (fanBound_outside s i z)
  · exact outsideRoles_of_lighting (lightBound_outsideLighting s i z)
  · exact outsideRoles_of_dock (curtainBound_outsideDock s i d)
  · exact outsideRoles_of_dock (docklightBound_outsideDock s i d)

theorem reconfigure_outsideRoles (s : State) (i : Fin 128) (n : ChannelConfig) :
    (reconfigure i n s).outsideRoles = s.outsideRoles := by
  unfold reconfigure
  rw [outsideRoles_of_budget (tripIfAsserted_outside _ i), outsideRoles_of_budget (reprotect_outside _),
    channelBound_outsideRoles, outsideRoles_of_budget (applyConfig_outside _ _ _ _),
    outsideRoles_of_budget (bringToZero_outside _ _)]

/-! ### Sensor points (R117, R135) -/

theorem SensorPoint.Sound.take {p : SensorPoint} (h : p.Sound) (lo hi : Int) (stale now : Nat) (x : SensorSample) :
    (p.take lo hi stale now x).Sound := by
  obtain ⟨hu, hg, hv, hb⟩ := h
  unfold SensorPoint.take
  split
  · exact ⟨hu, hg, hv, hb⟩
  · next hp =>
    split
    · exact ⟨fun hc => by simp [SensorPoint.takeGood] at hc, fun _ => rfl, rfl, hb⟩
    · exact ⟨fun hc => absurd hc hp, hg, hv, satAdd_le _ _ _⟩

theorem SensorPoint.Sound.goStale {p : SensorPoint} (h : p.Sound) : p.goStale.Sound :=
  ⟨fun hc => by simp [SensorPoint.goStale] at hc, fun hc => by simp [SensorPoint.goStale] at hc, h.2.2.1, h.2.2.2⟩

theorem SensorPoint.Sound.clearBad {p : SensorPoint} (h : p.Sound) : p.clearBad.Sound :=
  ⟨fun hc => ⟨(h.1 hc).1, (h.1 hc).2.1, rfl⟩, h.2.1, h.2.2.1, Nat.zero_le _⟩

theorem SensorPoint.Sound.tick {p : SensorPoint} (h : p.Sound) : p.tick.Sound :=
  ⟨fun hc => ⟨(h.1 hc).1, by simp [SensorPoint.tick, (h.1 hc).2.1, tickTimer], (h.1 hc).2.2⟩, h.2.1, h.2.2.1, h.2.2.2⟩

theorem startPoint_sound (used : Bool) (stale : Nat) : (startPoint used stale).Sound := by
  cases used <;> simp [startPoint, SensorPoint.Sound]

theorem SensorPoint.Sound.use {p : SensorPoint} (h : p.Sound) (used : Bool) (stale : Nat) : (p.use used stale).Sound := by
  unfold SensorPoint.use
  split
  · exact h
  · exact startPoint_sound used stale

/-! ### Integrals (R128) -/

/-- The integral lies within the bound of its zone. -/
def Zone.Bounded (x : Zone) : Prop := -(x.cfg.imax : Int) ≤ x.integral ∧ x.integral ≤ x.cfg.imax

theorem clampInt_mem (n : Nat) (x : Int) : -(n : Int) ≤ clampInt (-n) n x ∧ clampInt (-n) n x ≤ n := by
  unfold clampInt
  omega

theorem Zone.Bounded.nextIntegral {x : Zone} (h : x.Bounded) (frozen : Option FreezeCondition) (e : Int) :
    -(x.cfg.imax : Int) ≤ x.nextIntegral frozen e ∧ x.nextIntegral frozen e ≤ x.cfg.imax := by
  unfold Zone.nextIntegral
  split
  · exact h
  · exact clampInt_mem _ _

theorem Zone.Bounded.of_same {x y : Zone} (h : x.Bounded) (hc : y.cfg = x.cfg) (hi : y.integral = x.integral) : y.Bounded := by
  unfold Zone.Bounded
  rw [hc, hi]
  exact h

theorem Zone.Bounded.of_zero {x : Zone} (h : x.integral = 0) : x.Bounded := by
  unfold Zone.Bounded
  omega

/-- What the heating steps leave the integral within (R128). -/
theorem heating_integral_bounded (z : Fin 12) (mode : ZoneMode) (h : (s.zone z).Bounded) :
    -((s.zone z).cfg.imax : Int) ≤ (s.heating z mode).integral ∧ (s.heating z mode).integral ≤ (s.zone z).cfg.imax := by
  unfold State.heating
  dsimp only
  split
  · exact h
  · split
    · exact h
    · split
      · exact h.nextIntegral _ _
      · exact h

/-! ### The operations of the Climate Unit -/

/-- The Climate Unit of a state is sound. -/
def State.ClimateSound (s : State) : Prop := s.climate.Sound

theorem climateSound_of_eq (h : t.climate = s.climate) (hs : s.ClimateSound) : t.ClimateSound := by
  unfold State.ClimateSound
  rw [h]
  exact hs

/-- A zone record written with its integral in its bound. -/
theorem putZone_climateSound (z : Fin 12) {x : Zone} (hx : x.Bounded) (h : s.ClimateSound) : (s.putZone z x).ClimateSound := by
  refine ⟨h.1, h.2.1, fun y => ?_⟩
  rw [State.putZone_climate, look_upd]
  split
  · exact hx
  · exact h.2.2 y

theorem zone_bounded (h : s.ClimateSound) (z : Fin 12) : (s.zone z).Bounded := h.2.2 z

/-- A zone record written over with its configuration and integral as they stand. -/
theorem rewriteZone_climateSound (z : Fin 12) {x : Zone} (hc : x.cfg = (s.zone z).cfg) (hi : x.integral = (s.zone z).integral)
    (h : s.ClimateSound) : (s.putZone z x).ClimateSound :=
  putZone_climateSound z ((zone_bounded h z).of_same hc hi) h

theorem climate_of_outside (h : t.outsideBudget = s.outsideBudget) : t.climate = s.climate :=
  show t.outsideBudget.climate = s.outsideBudget.climate by rw [h]

theorem climate_of_outsideDock (h : t.outsideDock = s.outsideDock) : t.climate = s.climate :=
  show t.outsideDock.climate = s.outsideDock.climate by rw [h]

theorem climate_of_outsideLighting (h : t.outsideLighting = s.outsideLighting) : t.climate = s.climate :=
  show t.outsideLighting.climate = s.outsideLighting.climate by rw [h]

theorem climate_of_outsidePlan (h : t.outsidePlan = s.outsidePlan) : t.climate = s.climate :=
  show t.outsidePlan.climate = s.outsidePlan.climate by rw [h]

theorem climate_of_outsideRoles (h : t.outsideRoles = s.outsideRoles) : t.climate = s.climate :=
  show t.outsideRoles.climate = s.outsideRoles.climate by rw [h]

@[simp] theorem targetChange_climate (s : State) (i : Fin 128) (r : Role) (o v : Nat) (m : Bool) :
    (targetChange i r o v m s).climate = s.climate := climate_of_outside (targetChange_outside s i r o v m)

@[simp] theorem raise_climate (s : State) (k : NoticeKind) (n : Nat) (b : Bytes) : (raise k n b s).climate = s.climate :=
  climate_of_outside (raise_outside s k n b)

@[simp] theorem zoneDTEvent_climate (s : State) (z : Fin 12) (v : Nat) : (zoneDTEvent z v s).climate = s.climate :=
  climate_of_outsideDock (zoneDTEvent_outsideDock s z v)

theorem sendHeater_climateSound (z : Fin 12) (v : Nat) (h : s.ClimateSound) : (sendHeater z v s).ClimateSound := by
  have h' := rewriteZone_climateSound z (x := { s.zone z with heaterTarget := v }) rfl rfl h
  unfold sendHeater
  dsimp only
  split
  · exact h
  · split
    · split
      · exact climateSound_of_eq (targetChange_climate _ _ _ _ _ _) h'
      · exact h'
    · exact h'

theorem sendFan_climateSound (z : Fin 12) (v : Nat) (h : s.ClimateSound) : (sendFan z v s).ClimateSound := by
  have h' := rewriteZone_climateSound z (x := { s.zone z with fanTarget := v }) rfl rfl h
  unfold sendFan
  dsimp only
  split
  · exact h
  · split
    · split
      · exact climateSound_of_eq (targetChange_climate _ _ _ _ _ _) h'
      · exact h'
    · exact h'

theorem setVent_climateSound (z : Fin 12) (v : VentState) (h : s.ClimateSound) : (setVent z v s).ClimateSound := by
  unfold setVent
  dsimp only
  split
  · exact climateSound_of_eq (raise_climate _ _ _ _) (rewriteZone_climateSound z rfl rfl h)
  · split
    · exact climateSound_of_eq (raise_climate _ _ _ _) (rewriteZone_climateSound z rfl rfl h)
    · exact rewriteZone_climateSound z rfl rfl h

theorem ventilate_climateSound (z : Fin 12) (h : s.ClimateSound) : (ventilate z s).ClimateSound := by
  have h' := setVent_climateSound z (s.ventNow z) h
  unfold ventilate
  exact sendFan_climateSound z _ (rewriteZone_climateSound z rfl rfl h')

theorem heat_climateSound (z : Fin 12) (h : s.ClimateSound) : (heat z s).ClimateSound := by
  unfold heat
  exact sendHeater_climateSound z _ (putZone_climateSound z (heating_integral_bounded z _ (zone_bounded h z)) h)

theorem evaluate_climateSound (z : Fin 12) (h : s.ClimateSound) : (evaluate z s).ClimateSound := by
  have h' := ventilate_climateSound z (heat_climateSound z h)
  have h2 := rewriteZone_climateSound z (x := { (ventilate z (heat z s)).zone z with deltaT := s.zoneDT z })
    (by dsimp only) (by dsimp only) h'
  unfold evaluate
  exact climateSound_of_eq ((State.draw_climate _).trans (zoneDTEvent_climate _ _ _)) h2

theorem stopZone_climateSound (z : Fin 12) (h : s.ClimateSound) : (stopZone z s).ClimateSound := by
  have h1 := sendHeater_climateSound z 0
    (putZone_climateSound z (x := { s.zone z with mode := .stopped, integral := 0, call := 0 }) (.of_zero rfl) h)
  have h2 := setVent_climateSound z .stopped h1
  unfold stopZone
  exact sendFan_climateSound z _ (rewriteZone_climateSound z rfl rfl h2)

theorem changeHeater_climateSound (z : Fin 12) (n : Option (Fin 128)) (h : s.ClimateSound) :
    (changeHeater z n s).ClimateSound := by
  unfold changeHeater
  dsimp only
  split
  · exact h
  · refine putZone_climateSound z (.of_zero rfl) ?_
    split
    · exact climateSound_of_eq (targetChange_climate _ _ _ _ _ _) h
    · exact h

theorem changeFan_climateSound (z : Fin 12) (n : Option (Fin 128)) (h : s.ClimateSound) :
    (changeFan z n s).ClimateSound := by
  unfold changeFan
  dsimp only
  split
  · exact h
  · have h' : (match (s.zone z).cfg.fan with
        | some i => targetChange i .fan z 0 false s
        | none => s).ClimateSound := by
      split
      · exact climateSound_of_eq (targetChange_climate _ _ _ _ _ _) h
      · exact h
    exact rewriteZone_climateSound z rfl rfl h'

theorem configureZone_climateSound (z : Fin 12) (n : ZoneConfig) (h : s.ClimateSound) : (configureZone z n s).ClimateSound := by
  unfold configureZone
  exact putZone_climateSound z (clampInt_mem _ _) (changeFan_climateSound z _ (changeHeater_climateSound z _ h))

theorem putTemp_climateSound (p : Fin 32) {x : SensorPoint} (hx : x.Sound) (h : s.ClimateSound) :
    (s.setClimate { s.climate with temps := upd s.climate.temps p x }).ClimateSound := by
  refine ⟨fun q => ?_, h.2⟩
  rw [State.setClimate_climate, look_upd]
  split
  · exact hx
  · exact h.1 q

theorem putExhaust_climateSound (p : Fin 12) {x : SensorPoint} (hx : x.Sound) (h : s.ClimateSound) :
    (s.setClimate { s.climate with exhausts := upd s.climate.exhausts p x }).ClimateSound := by
  refine ⟨h.1, fun q => ?_, h.2.2⟩
  rw [State.setClimate_climate, look_upd]
  split
  · exact hx
  · exact h.2.1 q

theorem sampleNotice_climate (a b : SensorPoint) (n : Nat) (s : State) : (sampleNotice a b n s).climate = s.climate := by
  unfold sampleNotice
  split
  · exact raise_climate _ _ _ _
  · rfl

theorem startClimate_sound (c : Snapshot) : (startClimate c).Sound := by
  refine ⟨fun p => ?_, fun p => ?_, fun z => ?_⟩
  · rw [startClimate, look_ofFn]; exact startPoint_sound _ _
  · rw [startClimate, look_ofFn]; exact startPoint_sound _ _
  · rw [startClimate, look_ofFn]; exact Zone.Bounded.of_zero rfl

theorem climateRestart_climateSound (h : s.ClimateSound) : (climateRestart s).ClimateSound := by
  refine ⟨h.1, h.2.1, fun z => ?_⟩
  have hz : look (climateRestart s).climate.zones z = restartZone (s.zone z) := look_map _ _ _
  rw [hz]
  exact Zone.Bounded.of_zero rfl

theorem Climate.Sound.tick {c : Climate} (h : c.Sound) : c.tick.Sound := by
  refine ⟨fun p => ?_, fun p => ?_, fun z => ?_⟩
  · simp only [Climate.tick, look_map]; exact (h.1 p).tick
  · simp only [Climate.tick, look_map]; exact (h.2.1 p).tick
  · simp only [Climate.tick, look_map]; exact h.2.2 z

theorem configurePoints_climateSound (n : PointConfig) (h : s.ClimateSound) : (configurePoints n s).ClimateSound := by
  have temps : ∀ p, (look (configurePoints n s).climate.temps p).Sound := fun p => by
    rw [configurePoints, State.setClimate_climate, look_ofFn]
    exact (h.1 p).use _ _
  have exhausts : ∀ p, (look (configurePoints n s).climate.exhausts p).Sound := fun p => by
    rw [configurePoints, State.setClimate_climate, look_ofFn]
    exact (h.2.1 p).use _ _
  have zones : (configurePoints n s).climate.zones = s.climate.zones := by
    rw [configurePoints, State.setClimate_climate]
  unfold State.ClimateSound
  rw [Climate.Sound, zones]
  exact ⟨temps, exhausts, h.2.2⟩

/-! ### The commands -/

theorem climateSound_climateCommands : ClimateCommands fun s => s.ClimateSound where
  configureZone z n _ h := configureZone_climateSound z n h
  configurePoints n _ h := configurePoints_climateSound n h
  clearTemps s h := by
    unfold State.ClimateSound
    rw [State.setClimate_climate]
    exact ⟨fun p => by rw [look_map]; exact (h.1 p).clearBad, h.2⟩
  clearExhausts s h := by
    unfold State.ClimateSound
    rw [State.setClimate_climate]
    exact ⟨h.1, fun p => by rw [look_map]; exact (h.2.1 p).clearBad, h.2.2⟩
  tempSampled p x s h := by
    unfold tempSampled
    exact climateSound_of_eq (sampleNotice_climate _ _ _ _) (putTemp_climateSound p ((h.1 p).take _ _ _ _ x) h)
  tempWentStale p s h := by
    unfold tempWentStale
    exact climateSound_of_eq (raise_climate _ _ _ _) (putTemp_climateSound p (h.1 p).goStale h)
  exhaustSampled p x s h := by
    unfold exhaustSampled
    exact climateSound_of_eq (sampleNotice_climate _ _ _ _) (putExhaust_climateSound p ((h.2.1 p).take _ _ _ _ x) h)
  exhaustWentStale p s h := by
    unfold exhaustWentStale
    exact climateSound_of_eq (raise_climate _ _ _ _) (putExhaust_climateSound p (h.2.1 p).goStale h)
  evaluationExpired z s h := by
    have h' := evaluate_climateSound z h
    unfold evaluationExpired
    generalize evaluate z s = t at h' ⊢
    exact rewriteZone_climateSound z rfl rfl h'

theorem plantStopped_climateSound (h : s.ClimateSound) : (plantStopped s).ClimateSound := by
  unfold plantStopped
  refine climateSound_of_eq (climate_of_outsideLighting (lightingStop_outsideLighting _)) ?_
  refine climateSound_of_eq (climate_of_outsideDock (dockPlantChange_outsideDock _)) ?_
  exact forEach_keeps (I := fun u => u.ClimateSound) (fun z _ hu => stopZone_climateSound z hu) _ _
    (climateSound_of_eq (climate_of_outside (budgetStop_outside s)) h)

theorem plantResumed_climateSound (h : s.ClimateSound) : (plantResumed s).ClimateSound := by
  unfold plantResumed
  refine climateSound_of_eq (climate_of_outsideLighting (deriveLights_outsideLighting _)) ?_
  refine climateSound_of_eq (climate_of_outsideDock (dockPlantChange_outsideDock _)) ?_
  exact forEach_keeps (I := fun u => u.ClimateSound) (fun z _ hu => evaluate_climateSound z hu) _ _
    (climateSound_of_eq (climate_of_outside (budgetResume_outside s)) h)

theorem startUpNotices_outside (r : Except StoreReason Snapshot) (s : State) :
    (startUpNotices r s).outsideBudget = s.outsideBudget := by
  unfold startUpNotices
  dsimp only
  split <;> split <;> simp

theorem climateSound_systemCommands : SystemCommands fun s => s.ClimateSound where
  reconfigure i n s _ h := climateSound_of_eq (climate_of_outsideRoles (reconfigure_outsideRoles s i n)) h
  tick _ h := h.tick
  finishLoading a s _ := by
    unfold finishLoading
    refine climateSound_of_eq (climate_of_outsideLighting (lightingStart_outsideLighting _)) ?_
    refine climateSound_of_eq (climate_of_outside (budgetStart_outside _)) ?_
    exact climateSound_of_eq (climate_of_outside (startUpNotices_outside _ _)) (startClimate_sound _)
  fireInput _ _ h := h
  fireAsserted s h := by
    unfold fireAsserted
    dsimp only
    split
    · exact h
    · have h1 := climateSound_of_eq (raise_climate (s.setStop { state := .stopped, fire := true, stopStamp := s.seconds })
        .plantStop 0 (le8 s.stop.state.code)) h
      split
      · exact plantStopped_climateSound h1
      · exact h1
  fireCleared s h := by
    unfold fireCleared
    split
    · exact climateSound_of_eq (raise_climate _ _ _ _) h
    · exact h
  resumePlant s _ h := plantResumed_climateSound (climateSound_of_eq (raise_climate _ _ _ _) h)
  plantRestart s h := by
    unfold plantRestart
    refine climateSound_of_eq (climate_of_outsideLighting (lightingRestart_outsideLighting _)) ?_
    refine climateRestart_climateSound ?_
    refine climateSound_of_eq (climate_of_outsideDock (dockRestart_outsideDock _)) ?_
    exact climateSound_of_eq (climate_of_outside (budgetRestart_outside _)) h
  save _ h := h
  saveEnded r c d s _ h := by
    unfold saveEnded saveFailed
    split <;> exact climateSound_of_eq (raise_climate _ _ _ _) h

/-- Settles O46: the other units leave the Climate Unit alone, and each of its operations keeps points and integrals sound. -/
theorem climateStaysSound : Obligations.ClimateStaysSound := by
  intro s t h e
  have closed : CommandClosed fun s : State => s.ClimateSound :=
    { line := .of_setLine fun _ _ h => h
      budget := .of_outside fun _ _ e h => climateSound_of_eq (climate_of_outside e) h
      dock := .of_outside fun _ _ e h => climateSound_of_eq (climate_of_outsideDock e) h
      climate := climateSound_climateCommands
      lighting := .of_outside fun _ _ e h => climateSound_of_eq (climate_of_outsideLighting e) h
      plan := .of_outside fun _ _ e h => climateSound_of_eq (climate_of_outsidePlan e) h
      system := climateSound_systemCommands }
  have fetched : ∀ u, (fetchNotices u).climate = u.climate := by
    intro u
    unfold fetchNotices
    dsimp only
    split <;> rfl
  exact closed.step ⟨fun u hu => climateSound_of_eq (fetched u) hu, fun _ _ => startClimate_sound _, fun _ _ => startClimate_sound _⟩
    (fun _ _ h => h) h e

end Sys2Proof.Machine
end

section
/-! SUPPORT. What a target change asks of a channel, and what the derivation of a lighting zone leaves (R40, R45, R47, R147). -/

namespace Sys2Proof.Machine

variable {s t : State}

/-! ### Lists of operations, one for each index -/

/-- A list of operations, each of which settles its own index to a value the others do not change. -/
theorem forEach_at {α β : Type} [DecidableEq α] {P : α → State → β} {f : α → State → State} {g : State → α → β}
    (own : ∀ a s, P a (f a s) = g s a) (other : ∀ a b s, b ≠ a → P b (f a s) = P b s)
    (later : ∀ a b s, b ≠ a → g (f a s) b = g s b) (l : List α) (hl : l.Nodup) (s : State) (b : α) :
    P b (forEach l f s) = if b ∈ l then g s b else P b s := by
  induction l generalizing s with
  | nil => rfl
  | cons a l ih =>
    obtain ⟨ha, hl⟩ := List.nodup_cons.mp hl
    rw [forEach_cons, ih hl]
    by_cases hba : b = a
    · subst hba
      simp [ha, own]
    · simp [hba, other a b s hba, later a b s hba]

theorem mem_indices {n : Nat} (i : Fin n) : i ∈ indices n := List.mem_finRange i
theorem nodup_indices (n : Nat) : (indices n).Nodup := List.nodup_finRange n

/-- An operation for every index, each of which settles its own. -/
theorem forEach_indices {n : Nat} {β : Type} {P : Fin n → State → β} {f : Fin n → State → State} {g : State → Fin n → β}
    (own : ∀ a s, P a (f a s) = g s a) (other : ∀ a b s, b ≠ a → P b (f a s) = P b s)
    (later : ∀ a b s, b ≠ a → g (f a s) b = g s b) (s : State) (b : Fin n) :
    P b (forEach (indices n) f s) = g s b := by
  rw [forEach_at own other later _ (nodup_indices n), if_pos (mem_indices b)]

/-! ### What a target change asks (R40, R45, R47) -/

theorem Channel.boundTo_iff {c : Channel} {r : Role} {n : Nat} :
    c.boundTo r n = true ↔ c.cfg.role = r ∧ c.cfg.roleTarget = some n := by
  simp [Channel.boundTo]

/-- The target a channel stores for the value a role unit sends: a step channel's is at most its steps. -/
def Channel.takes (c : Channel) (value : Nat) : Nat := if c.cfg.role = .light then value else min value c.cfg.steps

theorem stepTarget_unshared (s : State) (i : Fin 128) (v : Nat) (m : Bool) :
    (stepTarget i v m s).unshared = (s.putChan i { s.chan i with target := v }).unshared := by
  unfold stepTarget
  dsimp only
  split
  · split <;> simp
  · split <;> simp

theorem lightTargetChange_unshared (s : State) (i : Fin 128) (v : Nat) :
    (lightTargetChange i v s).unshared = (s.putChan i { s.chan i with target := v }).unshared := by
  unfold lightTargetChange
  dsimp only
  split
  · split <;> simp
  · split
    · simp
    · split <;> simp

theorem targetChange_of_not_bound {i : Fin 128} {r : Role} {o : Nat} (h : (s.chan i).boundTo r o = false) (v : Nat) (m : Bool) :
    targetChange i r o v m s = s := by
  simp [targetChange, h]

/-- A target change that is taken writes the target of its channel, and beside it only what the arbiter does with grants. -/
theorem targetChange_unshared {i : Fin 128} {r : Role} {o : Nat} (h : (s.chan i).boundTo r o = true) (hr : r ≠ .unused) (v : Nat)
    (m : Bool) :
    (targetChange i r o v m s).unshared = (s.putChan i { s.chan i with target := (s.chan i).takes v }).unshared := by
  have hrole := (Channel.boundTo_iff.mp h).1
  have same : (s.chan i).takes v = (s.chan i).target →
      s.unshared = (s.putChan i { s.chan i with target := (s.chan i).takes v }).unshared := fun e =>
    (putChan_unshared s i _ (by rw [Channel.asked, e]; rfl)).symm
  unfold targetChange
  dsimp only
  rw [h]
  simp only [Bool.not_true, Bool.false_eq_true, ↓reduceIte]
  split
  · exact absurd rfl hr
  · have ht : (s.chan i).takes v = v := by simp [Channel.takes, hrole]
    split
    · next e => exact same (ht.trans e)
    · rw [lightTargetChange_unshared, ht]
  · next hl =>
    have ht : (s.chan i).takes v = min v (s.chan i).cfg.steps := by rw [Channel.takes, hrole, if_neg hl]
    split
    · next e => exact same (ht.trans e)
    · rw [stepTarget_unshared, ht]

/-- A target change writes nothing of any channel's wiring but the target of the channel it names. -/
theorem targetChange_asked (s : State) (i j : Fin 128) (r : Role) (o v : Nat) (m : Bool) :
    ((targetChange i r o v m s).chan j).asked = (s.chan j).asked
      ∨ i = j ∧ (s.chan i).boundTo r o = true
        ∧ ((targetChange i r o v m s).chan j).asked
          = ((s.chan j).cfg, (s.chan j).takes v, (s.chan j).tripIn, (s.chan j).tripped) := by
  by_cases h : (s.chan i).boundTo r o = true
  · by_cases hr : r = .unused
    · left
      subst hr
      simp [targetChange]
    · have ha := asked_of_unshared (targetChange_unshared h hr v m) j
      rw [ha, chan_putChan]
      by_cases hij : i = j
      · subst hij
        exact .inr ⟨rfl, h, by simp [Channel.asked]⟩
      · exact .inl (by simp [hij])
  · exact .inl (by rw [targetChange_of_not_bound (by simpa using h)])

@[simp] theorem targetChange_cfg (s : State) (i j : Fin 128) (r : Role) (o v : Nat) (m : Bool) :
    ((targetChange i r o v m s).chan j).cfg = (s.chan j).cfg := by
  obtain h | ⟨-, -, h⟩ := targetChange_asked s i j r o v m
  · exact congrArg Prod.fst h
  · exact congrArg Prod.fst h

/-- A channel that a target change does not name, or that is not bound to the sender, is asked for nothing. -/
theorem targetChange_asked_of_ne {i j : Fin 128} {r : Role} {o : Nat} (h : i ≠ j ∨ (s.chan i).boundTo r o = false) (v : Nat)
    (m : Bool) : ((targetChange i r o v m s).chan j).asked = (s.chan j).asked := by
  obtain h' | ⟨hij, hb, -⟩ := targetChange_asked s i j r o v m
  · exact h'
  · obtain h | h := h
    · exact absurd hij h
    · simp [h] at hb

/-- A channel bound to the sender stores the value it is sent. -/
theorem targetChange_target {i : Fin 128} {r : Role} {o : Nat} (h : (s.chan i).boundTo r o = true) (hr : r ≠ .unused) (v : Nat)
    (m : Bool) : ((targetChange i r o v m s).chan i).target = (s.chan i).takes v := by
  have ha := asked_of_unshared (targetChange_unshared h hr v m) i
  rw [chan_putChan_self] at ha
  exact congrArg (fun p => p.2.1) ha

/-! ### What a view of the state shows of each unit -/

theorem plan_of_outside (h : t.outsideBudget = s.outsideBudget) : t.plan.forgetTotals = s.plan.forgetTotals :=
  show t.outsideBudget.plan = s.outsideBudget.plan by rw [h]

theorem lighting_of_outside (h : t.outsideBudget = s.outsideBudget) : t.lighting = s.lighting :=
  show t.outsideBudget.lighting = s.outsideBudget.lighting by rw [h]

theorem store_of_outside (h : t.outsideBudget = s.outsideBudget) : t.store = s.store :=
  show t.outsideBudget.store = s.outsideBudget.store by rw [h]

theorem plan_of_outsideLighting (h : t.outsideLighting = s.outsideLighting) : t.plan.forgetTotals = s.plan.forgetTotals :=
  show t.outsideLighting.plan = s.outsideLighting.plan by rw [h]

theorem stop_of_outsideLighting (h : t.outsideLighting = s.outsideLighting) : t.stop = s.stop :=
  show t.outsideLighting.stop = s.outsideLighting.stop by rw [h]

theorem store_of_outsideLighting (h : t.outsideLighting = s.outsideLighting) : t.store = s.store :=
  show t.outsideLighting.store = s.outsideLighting.store by rw [h]

theorem lighting_of_outsideDock (h : t.outsideDock = s.outsideDock) : t.lighting = s.lighting :=
  show t.outsideDock.lighting = s.outsideDock.lighting by rw [h]

theorem stop_of_outsideDock (h : t.outsideDock = s.outsideDock) : t.stop = s.stop :=
  show t.outsideDock.stop = s.outsideDock.stop by rw [h]

theorem plan_of_outsideDock (h : t.outsideDock = s.outsideDock) : t.plan.forgetTotals = s.plan.forgetTotals :=
  show t.outsideDock.plan = s.outsideDock.plan by rw [h]

theorem store_of_outsideDock (h : t.outsideDock = s.outsideDock) : t.store = s.store :=
  show t.outsideDock.store = s.outsideDock.store by rw [h]

theorem lighting_of_outsideClimate (h : t.outsideClimate = s.outsideClimate) : t.lighting = s.lighting :=
  show t.outsideClimate.lighting = s.outsideClimate.lighting by rw [h]

theorem stop_of_outsideClimate (h : t.outsideClimate = s.outsideClimate) : t.stop = s.stop :=
  show t.outsideClimate.stop = s.outsideClimate.stop by rw [h]

theorem plan_of_outsideClimate (h : t.outsideClimate = s.outsideClimate) : t.plan.forgetTotals = s.plan.forgetTotals :=
  show t.outsideClimate.plan = s.outsideClimate.plan by rw [h]

theorem store_of_outsideClimate (h : t.outsideClimate = s.outsideClimate) : t.store = s.store :=
  show t.outsideClimate.store = s.outsideClimate.store by rw [h]

theorem stop_of_outsideRoles (h : t.outsideRoles = s.outsideRoles) : t.stop = s.stop :=
  show t.outsideRoles.stop = s.outsideRoles.stop by rw [h]

theorem plan_of_outsideRoles (h : t.outsideRoles = s.outsideRoles) : t.plan.forgetTotals = s.plan.forgetTotals :=
  show t.outsideRoles.plan = s.outsideRoles.plan by rw [h]

theorem store_of_outsideRoles (h : t.outsideRoles = s.outsideRoles) : t.store = s.store :=
  show t.outsideRoles.store = s.outsideRoles.store by rw [h]

theorem stop_of_outsidePlan (h : t.outsidePlan = s.outsidePlan) : t.stop = s.stop :=
  show t.outsidePlan.stop = s.outsidePlan.stop by rw [h]

theorem store_of_outsidePlan (h : t.outsidePlan = s.outsidePlan) : t.store = s.store :=
  show t.outsidePlan.store = s.outsidePlan.store by rw [h]

@[simp] theorem targetChange_lighting (s : State) (i : Fin 128) (r : Role) (o v : Nat) (m : Bool) :
    (targetChange i r o v m s).lighting = s.lighting := lighting_of_outside (targetChange_outside s i r o v m)

@[simp] theorem targetChange_stop (s : State) (i : Fin 128) (r : Role) (o v : Nat) (m : Bool) :
    (targetChange i r o v m s).stop = s.stop := stop_of_outside (targetChange_outside s i r o v m)

@[simp] theorem protectedMinimum_lighting (s : State) (i : Fin 128) (z v : Nat) :
    (protectedMinimum i z v s).lighting = s.lighting := lighting_of_outside (protectedMinimum_outside s i z v)

@[simp] theorem protectedMinimum_stop (s : State) (i : Fin 128) (z v : Nat) :
    (protectedMinimum i z v s).stop = s.stop := stop_of_outside (protectedMinimum_outside s i z v)

@[simp] theorem raise_lighting (s : State) (k : NoticeKind) (n : Nat) (b : Bytes) : (raise k n b s).lighting = s.lighting :=
  lighting_of_outside (raise_outside s k n b)

@[simp] theorem raise_stop (s : State) (k : NoticeKind) (n : Nat) (b : Bytes) : (raise k n b s).stop = s.stop :=
  stop_of_outside (raise_outside s k n b)

theorem light_of_lighting (h : t.lighting = s.lighting) (z : Fin 24) : t.light z = s.light z := by
  unfold State.light
  rw [h]

/-! ### The derivation of a lighting target (R147) -/

/-- A lighting zone's record after its target is derived (R147). -/
def State.derivedZone (s : State) (z : Fin 24) : LightZone :=
  { s.light z with
    target := s.lightLevel z, source := (s.chosenLevel z).2
    lastSent := if s.lightPresent z then s.lightLevel z else (s.light z).lastSent }

theorem present_some {named : Option (Fin 128)} {r : Role} {n : Nat} (h : s.present named r n = true) :
    ∃ i, named = some i ∧ (s.chan i).boundTo r n = true := by
  unfold State.present at h
  split at h
  · next i => exact ⟨i, rfl, h⟩
  · cases h

/-- The derivation of a zone writes its record, and sends the target to the channel that is present where it differs from the last
sent. -/
theorem deriveLight_cases (z : Fin 24) (s : State) :
    (¬(s.lightPresent z = true ∧ s.lightLevel z ≠ (s.light z).lastSent) ∧ deriveLight z s = s.putLight z (s.derivedZone z))
      ∨ ∃ i, (s.light z).cfg.channel = some i ∧ s.lightPresent z = true ∧ s.lightLevel z ≠ (s.light z).lastSent
        ∧ deriveLight z s = targetChange i .light z (s.lightLevel z) false (s.putLight z (s.derivedZone z)) := by
  have hd : deriveLight z s = match (s.light z).cfg.channel with
      | none => s.putLight z { s.light z with target := s.lightLevel z, source := (s.chosenLevel z).2 }
      | some i =>
        if s.lightLevel z ≠ (s.light z).lastSent ∧ s.lightPresent z then
          targetChange i .light z (s.lightLevel z) false
            (s.putLight z
              { s.light z with
                target := s.lightLevel z, source := (s.chosenLevel z).2, lastSent := s.lightLevel z })
        else s.putLight z { s.light z with target := s.lightLevel z, source := (s.chosenLevel z).2 } := rfl
  have unsent : ¬(s.lightPresent z = true ∧ s.lightLevel z ≠ (s.light z).lastSent) →
      s.derivedZone z = { s.light z with target := s.lightLevel z, source := (s.chosenLevel z).2 } := by
    intro h
    unfold State.derivedZone
    split
    · next hp => rw [not_and_not_right.mp h hp]
    · rfl
  rw [hd]
  split
  · next hc =>
    have hp : ¬(s.lightPresent z = true ∧ s.lightLevel z ≠ (s.light z).lastSent) := by
      intro h
      obtain ⟨i, hi, -⟩ := present_some h.1
      simp [hc] at hi
    exact .inl ⟨hp, by rw [unsent hp]⟩
  · next i hc =>
    split
    · next hs =>
      refine .inr ⟨i, hc, hs.2, hs.1, ?_⟩
      rw [State.derivedZone, if_pos hs.2]
    · next hs =>
      have hp : ¬(s.lightPresent z = true ∧ s.lightLevel z ≠ (s.light z).lastSent) := fun h => hs ⟨h.2, h.1⟩
      exact .inl ⟨hp, by rw [unsent hp]⟩

/-- The derivation of a zone replaces its record and nothing else of the Lighting Unit. -/
theorem deriveLight_lighting (z : Fin 24) (s : State) :
    (deriveLight z s).lighting = { s.lighting with zones := upd s.lighting.zones z (s.derivedZone z) } := by
  obtain ⟨-, h⟩ | ⟨i, -, -, -, h⟩ := deriveLight_cases z s
  · rw [h]; rfl
  · rw [h, targetChange_lighting]; rfl

@[simp] theorem deriveLight_walk (z : Fin 24) (s : State) : (deriveLight z s).lighting.walk = s.lighting.walk := by
  rw [deriveLight_lighting]

@[simp] theorem deriveLight_lastKind (z : Fin 24) (s : State) : (deriveLight z s).lighting.lastKind = s.lighting.lastKind := by
  rw [deriveLight_lighting]

theorem deriveLight_light (z y : Fin 24) (s : State) :
    (deriveLight z s).light y = if z = y then s.derivedZone z else s.light y := by
  unfold State.light
  rw [deriveLight_lighting, look_upd]

@[simp] theorem deriveLight_light_self (z : Fin 24) (s : State) : (deriveLight z s).light z = s.derivedZone z := by
  rw [deriveLight_light, if_pos rfl]

theorem deriveLight_light_ne {z y : Fin 24} (h : y ≠ z) (s : State) : (deriveLight z s).light y = s.light y := by
  rw [deriveLight_light, if_neg (Ne.symm h)]

@[simp] theorem deriveLight_stop (z : Fin 24) (s : State) : (deriveLight z s).stop = s.stop :=
  stop_of_outsideLighting (deriveLight_outsideLighting s z)

theorem deriveLight_plan (z : Fin 24) (s : State) : (deriveLight z s).plan.forgetTotals = s.plan.forgetTotals :=
  plan_of_outsideLighting (deriveLight_outsideLighting s z)

@[simp] theorem deriveLight_cfg (z : Fin 24) (s : State) (i : Fin 128) : ((deriveLight z s).chan i).cfg = (s.chan i).cfg := by
  obtain ⟨-, h⟩ | ⟨j, -, -, -, h⟩ := deriveLight_cases z s
  · rw [h]; rfl
  · rw [h, targetChange_cfg]; rfl

/-! ### What a derived target depends on -/

/-- Two plans that differ in their totals at most choose the same levels. -/
theorem plan_fields_of_forgetTotals {p q : PlanUnit} (h : q.forgetTotals = p.forgetTotals) :
    q = { p with totals := q.totals } := by
  have := congrArg (fun x : PlanUnit => { x with totals := q.totals }) h
  exact this

theorem chosenLevel_congr (hp : t.plan.forgetTotals = s.plan.forgetTotals) (hs : t.stop = s.stop)
    (hw : t.lighting.walk = s.lighting.walk) {z : Fin 24} (hz : t.light z = s.light z) : t.chosenLevel z = s.chosenLevel z := by
  have hp' := plan_fields_of_forgetTotals hp
  unfold State.chosenLevel State.plantRunning State.overrideFor State.sceneLevel
  rw [hs, hw, hz, hp']

theorem lightLevel_congr (hp : t.plan.forgetTotals = s.plan.forgetTotals) (hs : t.stop = s.stop)
    (hw : t.lighting.walk = s.lighting.walk) {z : Fin 24} (hz : t.light z = s.light z) : t.lightLevel z = s.lightLevel z := by
  unfold State.lightLevel
  rw [chosenLevel_congr hp hs hw hz, hz]

theorem present_congr (hc : ∀ i, (t.chan i).cfg = (s.chan i).cfg) (named : Option (Fin 128)) (r : Role) (n : Nat) :
    t.present named r n = s.present named r n := by
  unfold State.present Channel.boundTo
  split
  · rw [hc]
  · rfl

theorem lightPresent_congr (hc : ∀ i, (t.chan i).cfg = (s.chan i).cfg) {z : Fin 24} (hz : t.light z = s.light z) :
    t.lightPresent z = s.lightPresent z := by
  unfold State.lightPresent
  rw [hz, present_congr hc]

theorem derivedZone_congr (hp : t.plan.forgetTotals = s.plan.forgetTotals) (hs : t.stop = s.stop)
    (hw : t.lighting.walk = s.lighting.walk) (hc : ∀ i, (t.chan i).cfg = (s.chan i).cfg) {z : Fin 24} (hz : t.light z = s.light z) :
    t.derivedZone z = s.derivedZone z := by
  unfold State.derivedZone
  rw [lightLevel_congr hp hs hw hz, chosenLevel_congr hp hs hw hz, lightPresent_congr hc hz, hz]

/-- Every zone's record after all the targets are derived. -/
@[simp] theorem deriveLights_light (s : State) (z : Fin 24) : (deriveLights s).light z = s.derivedZone z :=
  forEach_indices (P := fun z s => s.light z) (g := State.derivedZone) (fun z s => deriveLight_light_self z s)
    (fun _ _ s h => deriveLight_light_ne h s)
    (fun a _ s h => derivedZone_congr (deriveLight_plan a s) (deriveLight_stop a s) (deriveLight_walk a s) (deriveLight_cfg a s)
      (deriveLight_light_ne h s)) s z

@[simp] theorem deriveLights_walk (s : State) : (deriveLights s).lighting.walk = s.lighting.walk := by
  unfold deriveLights
  exact forEach_same (P := fun s : State => s.lighting.walk) (fun z s => deriveLight_walk z s) _ s

@[simp] theorem deriveLights_lastKind (s : State) : (deriveLights s).lighting.lastKind = s.lighting.lastKind := by
  unfold deriveLights
  exact forEach_same (P := fun s : State => s.lighting.lastKind) (fun z s => deriveLight_lastKind z s) _ s

@[simp] theorem deriveLights_stop (s : State) : (deriveLights s).stop = s.stop :=
  stop_of_outsideLighting (deriveLights_outsideLighting s)

@[simp] theorem deriveLights_cfg (s : State) (i : Fin 128) : ((deriveLights s).chan i).cfg = (s.chan i).cfg :=
  forEach_same (P := fun s => (s.chan i).cfg) (fun z s => deriveLight_cfg z s i) _ s

end Sys2Proof.Machine
end

section
/-! SUPPORT. What the commands of the Shift Plan Unit keep, and the sound states of the Lighting Unit (R11 to R35, R145 to R154). -/

namespace Sys2Proof.Machine

variable {I J : State → Prop} {s t : State}

/-! ### The commands of the Shift Plan Unit, over a property that a turn may break on its way -/

/-- The operations the Shift Plan Unit is made of keep a property I, where J is what is left of I while a turn replaces the phase and the
tables in use: whatever the plan, the turn event brings I back (R14, R27, R62). -/
structure PlanClosed (J I : State → Prop) : Prop where
  weaken : ∀ s, I s → J s
  anyPlan : ∀ s p, J s → J (s.setPlan p)
  anyNotice : ∀ k n b s, J s → J (raise k n b s)
  anyLight : ∀ z s, J s → J (deriveLight z s)
  turn : ∀ s, J s → I (turnEvent s)
  profile : ∀ s p, I s → I (profileChanged (s.setPlan p))
  plan : ∀ s p, p.current = s.plan.current → (s.setPlan p).profile = s.profile → I s → I (s.setPlan p)
  notice : ∀ k n b s, I s → I (raise k n b s)
  light : ∀ z s, I s → I (deriveLight z s)
  clock : ∀ v s, I s → I (clockSetEvent v s)

/-- A property that does not depend on the plan. -/
theorem PlanClosed.of_anyPlan (plan : ∀ s p, I s → I (s.setPlan p)) (notice : ∀ k n b s, I s → I (raise k n b s))
    (light : ∀ z s, I s → I (deriveLight z s)) (turn : ∀ s, I s → I (lightingTurn s)) (profile : ∀ s, I s → I (profileChanged s))
    (clock : ∀ v s, I s → I (clockSetEvent v s)) : PlanClosed I I :=
  { weaken := fun _ h => h, anyPlan := plan, anyNotice := notice, anyLight := light
    turn := fun s h => profile _ (turn s h)
    profile := fun s p h => profile _ (plan s p h)
    plan := fun s p _ _ => plan s p, notice, light, clock }

namespace PlanClosed

theorem applyEdits (c : PlanClosed J I) (h : J s) : J (applyEdits s) := by
  unfold Machine.applyEdits
  split
  · exact h
  · exact c.anyPlan _ _ (c.anyPlan s _ h)

theorem anyOverrideChanged (c : PlanClosed J I) (o : OverrideTarget) (h : J s) : J (overrideChanged o s) := by
  unfold overrideChanged
  split
  · exact h
  · exact c.anyLight _ _ h

theorem overrideChanged (c : PlanClosed J I) (o : OverrideTarget) (h : I s) : I (overrideChanged o s) := by
  unfold Machine.overrideChanged
  split
  · exact h
  · exact c.light _ _ h

theorem endTurnOverrides (c : PlanClosed J I) (h : J s) : J (endTurnOverrides s) :=
  forEach_keeps (fun _ _ ht => c.anyOverrideChanged _ (c.anyNotice _ _ _ _ (c.anyPlan _ _ ht))) _ s h

theorem leaveCurrent (c : PlanClosed J I) (k : TurnCause) (h : J s) : J (leaveCurrent k s) :=
  c.anyPlan _ _ (c.anyNotice _ _ _ _ h)

theorem takePhase (c : PlanClosed J I) (p : PhaseCopy) (h : J s) : I (takePhase p s) :=
  c.turn _ (c.anyPlan _ _ (c.endTurnOverrides (c.applyEdits (c.anyPlan s _ h))))

theorem deriveLights (c : PlanClosed J I) (h : I s) : I (deriveLights s) := forEach_keeps c.light _ s h

theorem timedTurn (c : PlanClosed J I) (h : I s) : I (timedTurn s) := by
  unfold Machine.timedTurn
  split
  · exact c.takePhase _ (c.leaveCurrent _ (c.weaken _ h))
  · exact h

theorem entryTurn (c : PlanClosed J I) (h : I s) : I (entryTurn s) := by
  unfold Machine.entryTurn
  split
  · exact h
  · split
    · exact c.takePhase _ (c.weaken _ h)
    · exact h

theorem recomputeNext (c : PlanClosed J I) (h : I s) : I (recomputeNext s) := c.plan s _ rfl rfl h

theorem recomputeDigest (c : PlanClosed J I) (h : I s) : I (recomputeDigest s) := c.plan s _ rfl rfl h

theorem setClockTo (c : PlanClosed J I) (v : Nat) (h : I s) : I (setClockTo v s) := by
  have set := c.plan s { s.plan with clock := some v, turnDue := none } rfl rfl h
  unfold Machine.setClockTo
  dsimp only
  split
  · exact set
  · split
    · exact c.entryTurn set
    · split
      · exact c.recomputeNext set
      · exact c.takePhase _ (c.leaveCurrent _ (c.weaken _ set))

theorem addRecord (c : PlanClosed J I) (r : PhaseRec) (h : I s) : I (addRecord r s) := by
  have inserted := c.recomputeDigest (c.plan s { s.plan with phases := insertPhase r s.plan.phases } rfl rfl h)
  unfold Machine.addRecord
  dsimp only
  split
  · exact c.entryTurn inserted
  · exact c.recomputeNext inserted

theorem dropRecord (c : PlanClosed J I) (n : Nat) (h : I s) : I (dropRecord n s) := by
  have dropped := c.recomputeDigest (c.plan s { s.plan with phases := s.plan.phases.filter (·.start ≠ n) } rfl rfl h)
  unfold Machine.dropRecord
  dsimp only
  split
  · split
    · exact c.takePhase _ (c.leaveCurrent _ (c.weaken _ dropped))
    · exact dropped
  · exact c.recomputeNext dropped

theorem editFallback (c : PlanClosed J I) (f : PhaseFields) (h : I s) : I (editFallback f s) := by
  have edited := c.recomputeDigest
    (c.plan s { s.plan with fallback := { f with label := 255, precondition := false } } rfl rfl h)
  unfold Machine.editFallback
  dsimp only
  split
  · exact c.turn _ (c.anyPlan _ _ (c.weaken _ edited))
  · exact edited

theorem editRecord (c : PlanClosed J I) (r : PhaseRec) (h : I s) : I (editRecord r s) :=
  c.recomputeNext (c.recomputeDigest (c.plan s _ rfl rfl h))

theorem editNow (c : PlanClosed J I) (e : PendingEdit) (h : I s) : I (editNow e s) := by
  unfold Machine.editNow
  cases e with
  | scene i v =>
    have edited := c.recomputeDigest (c.plan s (s.plan.apply (.scene i v)) rfl rfl h)
    dsimp only
    split
    · exact c.deriveLights edited
    · exact edited
  | climateSet i v => exact c.recomputeDigest (c.plan s (s.plan.apply (.climateSet i v)) rfl rfl h)
  | profile i v =>
    dsimp only
    split
    · exact c.profile s _ h
    · next hi =>
      refine c.recomputeDigest (c.plan s (s.plan.apply (.profile i v)) rfl ?_ h)
      exact look_upd_ne _ _ (Ne.symm hi)

/-- Every command of the Shift Plan Unit keeps I. -/
theorem commands (c : PlanClosed J I) : PlanCommands I where
  setClock v _ _ h := c.clock v _ (c.setClockTo v h)
  addRecord r _ _ _ _ h := c.addRecord r h
  dropRecord n _ h := c.dropRecord n h
  editFallback f _ h := c.editFallback f h
  editRecord r _ h := c.editRecord r h
  placeEdit _ s h := c.plan s _ rfl rfl h
  editNow e _ h := c.editNow e h
  cancelEdits s h := c.plan s _ rfl rfl h
  setOverride _ s _ h := c.overrideChanged _ (c.plan s _ rfl rfl h)
  endOverride _ _ s h := c.overrideChanged _ (c.notice _ _ _ _ (c.plan s _ rfl rfl h))
  timedTurn _ h := c.timedTurn h

end PlanClosed

/-! ### The sound states of the Lighting Unit -/

/-- A lighting zone's target is at or above its protected minimum (R147). -/
def LightZone.Floored (x : LightZone) : Prop := x.cfg.protMin ≤ x.target

/-- Only a zone with presence enabled is VACANT or times its presence (R146, R148). -/
def LightZone.Timed (x : LightZone) : Prop := x.vacant = true ∨ x.presenceT.isSome = true → x.cfg.presence = true

/-- The lighting part of a sound state: every zone is sound, and no walk runs but in RUNNING (R152, R154). -/
def State.LightingSound (s : State) : Prop :=
  (∀ z, (s.light z).Floored) ∧ (∀ z, (s.light z).Timed) ∧ (s.lighting.walk.isSome → s.stop.state = .running)

/-- Every zone's presence fields are sound and a walk runs in RUNNING alone; the targets are still to be derived. -/
def State.LightsTimed (s : State) : Prop :=
  (∀ z, (s.light z).Timed) ∧ (s.lighting.walk.isSome → s.stop.state = .running)

theorem State.LightingSound.timed (h : s.LightingSound) : s.LightsTimed := h.2

theorem State.LightingSound.congr (hl : t.lighting = s.lighting) (hs : t.stop = s.stop) (h : s.LightingSound) : t.LightingSound := by
  unfold State.LightingSound State.light at *
  rwa [hl, hs]

theorem State.LightsTimed.congr (hl : t.lighting = s.lighting) (hs : t.stop = s.stop) (h : s.LightsTimed) : t.LightsTimed := by
  unfold State.LightsTimed State.light at *
  rwa [hl, hs]

theorem derivedZone_floored (s : State) (z : Fin 24) : (s.derivedZone z).Floored := Nat.le_max_right _ _

theorem derivedZone_timed {z : Fin 24} (h : (s.light z).Timed) : (s.derivedZone z).Timed := h

/-- The derivation of every zone brings the targets above the floors. -/
theorem deriveLights_sound (h : s.LightsTimed) : (deriveLights s).LightingSound := by
  obtain ⟨ht, hw⟩ := h
  refine ⟨fun z => ?_, fun z => ?_, ?_⟩
  · rw [deriveLights_light]
    exact derivedZone_floored s z
  · rw [deriveLights_light]
    exact derivedZone_timed (ht z)
  · rwa [deriveLights_walk, deriveLights_stop]

/-- A zone's record is replaced and its target derived: the other zones stay. -/
theorem deriveLight_putLight_sound (z : Fin 24) {x : LightZone} (hx : x.Timed) (h : s.LightingSound) :
    (deriveLight z (s.putLight z x)).LightingSound := by
  obtain ⟨hf, ht, hw⟩ := h
  have record : ∀ y, (deriveLight z (s.putLight z x)).light y = if z = y then (s.putLight z x).derivedZone z else s.light y := by
    intro y
    rw [deriveLight_light, light_putLight]
    split <;> rfl
  refine ⟨fun y => ?_, fun y => ?_, ?_⟩
  · rw [record]
    split
    · exact derivedZone_floored _ z
    · exact hf y
  · rw [record]
    split
    · exact derivedZone_timed (by rwa [light_putLight_self])
    · exact ht y
  · rw [deriveLight_walk, deriveLight_stop]
    exact hw

theorem deriveLight_sound (z : Fin 24) (h : s.LightingSound) : (deriveLight z s).LightingSound := by
  have same : s.putLight z (s.light z) = s := by
    simp [State.putLight, State.light, State.setLighting]
  have := deriveLight_putLight_sound z (h.2.1 z) h
  rwa [same] at this

/-- The record of one zone changes in its presence fields, with the target kept. -/
theorem putLight_sound (z : Fin 24) {x : LightZone} (hf : x.Floored) (hx : x.Timed) (h : s.LightingSound) :
    (s.putLight z x).LightingSound := by
  obtain ⟨hfs, hts, hw⟩ := h
  refine ⟨fun y => ?_, fun y => ?_, hw⟩
  · rw [light_putLight]
    split
    · exact hf
    · exact hfs y
  · rw [light_putLight]
    split
    · exact hx
    · exact hts y

theorem putLight_timed (z : Fin 24) {x : LightZone} (hx : x.Timed) (h : s.LightsTimed) : (s.putLight z x).LightsTimed := by
  obtain ⟨hts, hw⟩ := h
  refine ⟨fun y => ?_, hw⟩
  rw [light_putLight]
  split
  · exact hx
  · exact hts y

/-- A change of every zone's record that keeps the presence fields, and of the walk. -/
theorem setLighting_timed {l : Lighting} (hz : ∀ z, (look l.zones z).Timed) (hw : l.walk.isSome → s.stop.state = .running) :
    (s.setLighting l).LightsTimed := ⟨hz, hw⟩

theorem pulse_sound (z : Fin 24) (h : s.LightingSound) : (pulse z s).LightingSound := by
  unfold pulse
  dsimp only
  split
  · exact h
  · next hp =>
    have timed : ({ s.light z with presenceT := some (s.holdTime z), vacant := false } : LightZone).Timed :=
      fun _ => by simpa using (not_or.mp hp).1
    split
    · exact deriveLight_putLight_sound z timed h
    · exact putLight_sound z (h.1 z) timed h

theorem presenceExpired_sound (z : Fin 24) (hp : (s.light z).presenceT = some 0) (h : s.LightingSound) :
    (presenceExpired z s).LightingSound :=
  deriveLight_putLight_sound z (fun _ => h.2.1 z (.inr (by rw [hp]; rfl))) h

theorem turnPresence_timed {x : LightZone} (h : x.Timed) (before after : PhaseKind) (hold : Nat) :
    (turnPresence before after hold x).Timed := by
  unfold turnPresence
  split
  · exact h
  · next hp =>
    have on : x.cfg.presence = true := by simpa using hp
    split
    · split
      · exact h
      · exact fun _ => on
    · split
      · exact fun _ => on
      · exact h

theorem lightingTurn_sound (h : s.LightsTimed) : (lightingTurn s).LightingSound := by
  unfold lightingTurn
  dsimp only
  refine deriveLights_sound ?_
  have turned := forEach_keeps (I := State.LightsTimed)
    (f := fun z u => u.putLight z (turnPresence s.lighting.lastKind u.kind (u.holdTime z) (u.light z)))
    (fun z u hu => putLight_timed z (turnPresence_timed (hu.1 z) _ _ _) hu) (indices 24) s h
  exact setLighting_timed turned.1 turned.2

theorem markWalkEnded_timed (e : WalkEnding) (h : ∀ z, (s.light z).Timed) : (markWalkEnded e s).LightsTimed :=
  State.LightsTimed.congr (raise_lighting _ _ _ _) (raise_stop _ _ _ _) (setLighting_timed h fun hw => by cases hw)

theorem endWalk_sound (e : WalkEnding) (h : ∀ z, (s.light z).Timed) : (endWalk e s).LightingSound :=
  deriveLights_sound (markWalkEnded_timed e h)

theorem beginVisit_sound (n : Nat) (z : Fin 24) (r : List (Fin 24)) (b : Nat) (h : ∀ z, (s.light z).Timed)
    (hr : s.stop.state = .running) : (beginVisit n z r b s).LightingSound :=
  deriveLights_sound (setLighting_timed h fun _ => hr)

theorem startWalk_sound (n : Nat) (l : List (Fin 24)) (hr : s.stop.state = .running) (h : s.LightingSound) :
    (startWalk n l s).LightingSound := by
  have timed : ∀ z, ((s.setLighting { s.lighting with zones := s.lighting.zones.map fun x => { x with walkResult := none } }).light z).Timed := by
    intro z
    simp only [State.light, State.setLighting_lighting, look_map]
    exact h.2.1 z
  unfold startWalk
  dsimp only
  split
  · exact endWalk_sound _ timed
  · exact beginVisit_sound _ _ _ _ timed hr

theorem dwellExpired_sound {w : LightWalk} (hw : s.lighting.walk = some w) (h : s.LightingSound) : (dwellExpired w s).LightingSound := by
  have timed := putLight_timed w.visiting (x := { s.light w.visiting with walkResult := some (s.zoneDriven w.visiting) })
    (h.2.1 w.visiting) h.timed
  unfold dwellExpired
  dsimp only
  split
  · exact endWalk_sound _ timed.1
  · exact beginVisit_sound _ _ _ _ timed.1 (h.2.2 (by rw [hw]; rfl))

theorem lightingStop_sound (h : ∀ z, (s.light z).Timed) : (lightingStop s).LightingSound := by
  unfold lightingStop
  split
  · exact endWalk_sound _ h
  · next hw => exact deriveLights_sound ⟨h, fun hs => by simp [hw] at hs⟩

/-- The last sent targets are set to 0 and every target is derived. -/
theorem deriveLights_unsent_sound (h : s.LightsTimed) :
    (deriveLights (s.setLighting { s.lighting with zones := s.lighting.zones.map fun x => { x with lastSent := 0 } })).LightingSound := by
  refine deriveLights_sound (setLighting_timed (fun z => ?_) h.2)
  rw [look_map]
  exact h.1 z

theorem lightingRestart_sound (h : s.LightingSound) : (lightingRestart s).LightingSound := by
  unfold lightingRestart
  dsimp only
  split
  · exact deriveLights_unsent_sound (markWalkEnded_timed _ h.2.1)
  · exact deriveLights_unsent_sound h.timed

@[simp] theorem sendProtected_lighting (z : Fin 24) (s : State) : (sendProtected z s).lighting = s.lighting := by
  unfold sendProtected
  split <;> simp

@[simp] theorem sendProtected_stop (z : Fin 24) (s : State) : (sendProtected z s).stop = s.stop :=
  stop_of_outsideLighting (sendProtected_outsideLighting s z)

theorem lightingStart_sound (h : s.LightsTimed) : (lightingStart s).LightingSound := by
  have timed := forEach_keeps (I := State.LightsTimed)
    (f := fun z u => u.putLight z { u.light z with presenceT := u.startPresence z })
    (fun z u hu => putLight_timed z
      (fun ht => by
        obtain hv | hp := ht
        · exact hu.1 z (.inl hv)
        · unfold State.startPresence at hp
          dsimp only at hp ⊢
          split at hp
          · next on => exact on.1
          · cases hp) hu) (indices 24) s h
  unfold lightingStart
  dsimp only
  refine deriveLights_sound ?_
  exact forEach_keeps (I := State.LightsTimed)
    (fun z u hu => hu.congr (sendProtected_lighting z u) (sendProtected_stop z u)) _ _ (setLighting_timed timed.1 timed.2)

@[simp] theorem releaseLight_lighting (z : Fin 24) (n : Option (Fin 128)) (s : State) : (releaseLight z n s).lighting = s.lighting := by
  unfold releaseLight
  split
  · split <;> simp
  · rfl

@[simp] theorem releaseLight_stop (z : Fin 24) (n : Option (Fin 128)) (s : State) : (releaseLight z n s).stop = s.stop :=
  stop_of_outsideLighting (releaseLight_outsideLighting s z n)

theorem configured_timed {x : LightZone} (h : x.Timed) (n : LightConfig) (timer : Timer) : (x.configured n timer).Timed := by
  unfold LightZone.Timed LightZone.configured at *
  dsimp only
  by_cases same : n.presence = x.cfg.presence
  · simpa [same] using h
  · by_cases on : n.presence = true
    · exact fun _ => on
    · have hn : n.presence = false := by simpa using on
      have hx : x.cfg.presence = true := by simpa [hn] using Ne.symm same
      simp [hn, hx]

theorem configureLight_sound (z : Fin 24) (n : LightConfig) (h : s.LightingSound) : (configureLight z n s).LightingSound := by
  have released := h.congr (releaseLight_lighting z n.channel s) (releaseLight_stop z n.channel s)
  unfold configureLight
  generalize releaseLight z n.channel s = t at released
  dsimp only
  generalize hx : (t.light z).configured n (t.presenceFrom n) = x
  have timed : x.Timed := hx ▸ configured_timed (released.2.1 z) n _
  obtain ⟨hf, ht, hw⟩ := deriveLight_putLight_sound z timed released
  have zones : ∀ y, (deriveLight z (sendProtected z (t.putLight z x))).light y
      = if z = y then (sendProtected z (t.putLight z x)).derivedZone z else t.light y := by
    intro y
    rw [deriveLight_light, light_of_lighting (sendProtected_lighting _ _), light_putLight]
    split <;> rfl
  refine ⟨fun y => ?_, fun y => ?_, ?_⟩
  · rw [zones]
    split
    · exact derivedZone_floored _ z
    · exact released.1 y
  · rw [zones]
    split
    · exact derivedZone_timed (by rwa [light_of_lighting (sendProtected_lighting _ _), light_putLight_self])
    · exact released.2.1 y
  · rw [deriveLight_walk, deriveLight_stop, sendProtected_lighting, sendProtected_stop]
    exact released.2.2

theorem lightBound_sound (i : Fin 128) (z : Fin 24) (h : s.LightingSound) : (lightBound i z s).LightingSound := by
  unfold lightBound
  dsimp only
  split
  · refine State.LightingSound.congr (s := s.putLight z { s.light z with lastSent := (s.light z).target }) (by simp) (by simp) ?_
    exact putLight_sound z (h.1 z) (h.2.1 z) h
  · exact h

theorem channelBound_sound (i : Fin 128) (h : s.LightingSound) : (channelBound i s).LightingSound := by
  have outside : ∀ {u : State}, u.outsideBudget = s.outsideBudget → u.LightingSound := fun e =>
    h.congr (lighting_of_outside e) (stop_of_outside e)
  have docks : ∀ {u : State}, u.outsideDock = s.outsideDock → u.LightingSound := fun e =>
    h.congr (lighting_of_outsideDock e) (stop_of_outsideDock e)
  obtain e | ⟨z, -, -, e⟩ | ⟨z, -, -, e⟩ | ⟨z, -, -, e⟩ | ⟨d, -, -, e⟩ | ⟨d, -, -, e⟩ := channelBound_cases i s <;> rw [e]
  · exact h
  · exact outside (heaterBound_outside s i z)
  · exact outside (fanBound_outside s i z)
  · exact lightBound_sound i z h
  · exact docks (curtainBound_outsideDock s i d)
  · exact docks (docklightBound_outsideDock s i d)

theorem Lighting.tick_timed (h : s.LightsTimed) (z : Fin 24) : (look s.lighting.tick.zones z).Timed := by
  simp only [Lighting.tick, look_map]
  intro hv
  refine h.1 z (hv.imp id fun ht => ?_)
  rw [State.light]
  cases hp : (look s.lighting.zones z).presenceT with
  | none => simp [hp, tickTimer] at ht
  | some _ => rfl

theorem tick_lightingSound (h : s.LightingSound) : s.tick.LightingSound := by
  refine ⟨fun z => ?_, fun z => Lighting.tick_timed h.timed z, ?_⟩
  · have := h.1 z
    simpa [State.tick, State.light, Lighting.tick, LightZone.Floored] using this
  · simpa [State.tick, Lighting.tick] using h.2.2

theorem lightingSound_planClosed : PlanClosed State.LightsTimed State.LightingSound where
  weaken _ h := h.timed
  anyPlan _ _ h := h
  anyNotice _ _ _ _ h := h.congr (raise_lighting _ _ _ _) (raise_stop _ _ _ _)
  anyLight z s h := by
    refine ⟨fun y => ?_, ?_⟩
    · rw [deriveLight_light]
      split
      · exact derivedZone_timed (h.1 z)
      · exact h.1 y
    · rw [deriveLight_walk, deriveLight_stop]
      exact h.2
  turn s h := (lightingTurn_sound h).congr (lighting_of_outside (profileChanged_outside _)) (stop_of_outside (profileChanged_outside _))
  profile s p h := State.LightingSound.congr (s := s.setPlan p) (lighting_of_outside (profileChanged_outside _))
    (stop_of_outside (profileChanged_outside _)) h
  plan _ _ _ _ h := h
  notice _ _ _ _ h := h.congr (raise_lighting _ _ _ _) (raise_stop _ _ _ _)
  light z _ h := deriveLight_sound z h
  clock v s h := h.congr (lighting_of_outside (clockSetEvent_outside s v)) (stop_of_outside (clockSetEvent_outside s v))

theorem reconfigure_sound (i : Fin 128) (n : ChannelConfig) (h : s.LightingSound) : (reconfigure i n s).LightingSound := by
  have frame : ∀ {u v : State}, v.outsideBudget = u.outsideBudget → u.LightingSound → v.LightingSound := fun e hu =>
    hu.congr (lighting_of_outside e) (stop_of_outside e)
  unfold reconfigure
  refine frame (tripIfAsserted_outside _ i) (frame (reprotect_outside _) (channelBound_sound i ?_))
  exact frame (applyConfig_outside _ i _ n) (frame (bringToZero_outside s i) h)

/-- A change of Stop Control while no walk runs. -/
theorem setStop_timed (c : StopControl) (h : s.LightsTimed) (hw : s.lighting.walk = none) : (s.setStop c).LightsTimed :=
  ⟨h.1, fun w => by rw [State.setStop_lighting, hw] at w; cases w⟩

theorem plantStopped_sound (h : ∀ z, (s.light z).Timed) : (plantStopped s).LightingSound := by
  unfold plantStopped
  refine lightingStop_sound fun z => ?_
  have same : (dockPlantChange (climateStop (budgetStop s))).lighting = s.lighting := by
    rw [lighting_of_outsideDock (dockPlantChange_outsideDock _), lighting_of_outsideClimate (climateStop_outsideClimate _),
      lighting_of_outside (budgetStop_outside s)]
  rw [light_of_lighting same]
  exact h z

theorem plantResumed_sound (h : s.LightsTimed) : (plantResumed s).LightingSound := by
  unfold plantResumed
  refine deriveLights_sound (State.LightsTimed.congr ?_ ?_ h)
  · rw [lighting_of_outsideDock (dockPlantChange_outsideDock _), lighting_of_outsideClimate (climateResume_outsideClimate _),
      lighting_of_outside (budgetResume_outside s)]
  · rw [stop_of_outsideDock (dockPlantChange_outsideDock _), stop_of_outsideClimate (climateResume_outsideClimate _),
      stop_of_outside (budgetResume_outside s)]

theorem fireAsserted_sound (h : s.LightingSound) : (fireAsserted s).LightingSound := by
  unfold fireAsserted
  dsimp only
  split
  · exact h
  · next hs =>
    split
    · refine plantStopped_sound fun z => ?_
      rw [light_of_lighting (raise_lighting _ _ _ _)]
      exact h.2.1 z
    · next hr =>
      refine State.LightingSound.congr (raise_lighting _ _ _ _) (raise_stop _ _ _ _) ⟨h.1, h.2.1, fun hw => ?_⟩
      exact absurd (h.2.2 hw) hr

theorem fireCleared_sound (h : s.LightingSound) : (fireCleared s).LightingSound := by
  unfold fireCleared
  split
  · next hs =>
    refine State.LightingSound.congr (raise_lighting _ _ _ _) (raise_stop _ _ _ _) ⟨h.1, h.2.1, fun hw => ?_⟩
    have := h.2.2 hw
    rw [hs] at this
    cases this
  · exact h

theorem startLighting_timed (c : Snapshot) (z : Fin 24) : (look (startLighting c).zones z).Timed := by
  simp [startLighting, startLight, LightZone.Timed]

theorem finishLoading_lightingSound (a : Bool) (s : State) : (finishLoading a s).LightingSound := by
  unfold finishLoading
  dsimp only
  refine lightingStart_sound ?_
  refine State.LightsTimed.congr (lighting_of_outside (budgetStart_outside _)) (stop_of_outside (budgetStart_outside _)) ?_
  refine State.LightsTimed.congr (lighting_of_outside (startUpNotices_outside _ _))
    (stop_of_outside (startUpNotices_outside _ _)) ?_
  exact ⟨startLighting_timed _, fun hw => by cases hw⟩

theorem plantRestart_sound (h : s.LightingSound) : (plantRestart s).LightingSound := by
  unfold plantRestart
  refine lightingRestart_sound (State.LightingSound.congr ?_ ?_ h)
  · rw [lighting_of_outsideClimate (climateRestart_outsideClimate _), lighting_of_outsideDock (dockRestart_outsideDock _),
      lighting_of_outside (budgetRestart_outside _)]
    rfl
  · rw [stop_of_outsideClimate (climateRestart_outsideClimate _), stop_of_outsideDock (dockRestart_outsideDock _),
      stop_of_outside (budgetRestart_outside _)]
    rfl

theorem lightingSound_lightingCommands : LightingCommands State.LightingSound where
  configureLight z n _ _ h := configureLight_sound z n h
  startWalk n l s hr h := startWalk_sound n l (by simpa [State.plantRunning] using hr) h
  endWalk e _ h := endWalk_sound e h.2.1
  pulse z _ h := pulse_sound z h
  presenceExpired z _ hp h := presenceExpired_sound z hp h
  dwellExpired _ _ hw h := dwellExpired_sound hw h

theorem lightingSound_systemCommands : SystemCommands State.LightingSound where
  reconfigure i n _ _ h := reconfigure_sound i n h
  tick _ h := tick_lightingSound h
  finishLoading a s _ := finishLoading_lightingSound a s
  fireInput _ _ h := h
  fireAsserted _ h := fireAsserted_sound h
  fireCleared _ h := fireCleared_sound h
  resumePlant _ _ h := by
    unfold resumePlant
    exact plantResumed_sound (State.LightsTimed.congr (raise_lighting _ _ _ _) (raise_stop _ _ _ _) ⟨h.2.1, fun _ => rfl⟩)
  plantRestart _ h := plantRestart_sound h
  save _ h := h
  saveEnded r c d s _ h := by
    unfold saveEnded saveFailed
    split <;> exact State.LightingSound.congr (raise_lighting _ _ _ _) (raise_stop _ _ _ _) h

theorem lightingSound_startLoading (s : State) (image : StoreImage) : (startLoading s image).LightingSound :=
  ⟨fun z => by simp [startLoading, State.afresh, State.fresh, State.light, startLighting, startLight, LightZone.Floored, factorySnapshot, defaultLight],
    startLighting_timed _, fun hw => by cases hw⟩

theorem fetchNotices_setLine (s : State) : ∃ l, fetchNotices s = s.setLine l := by
  unfold fetchNotices
  dsimp only
  split <;> exact ⟨_, rfl⟩

/-- Settles O51: the other units leave the lighting zones and the plant-stop state alone, each operation of the Lighting Unit keeps the
presence fields sound, and every derivation raises a target to its protected minimum; a walk ends when the plant stops. -/
theorem lightsStaySound : Obligations.LightsStaySound := by
  intro s t h e
  have frame : ∀ {u v : State}, v.lighting = u.lighting → v.stop = u.stop → u.LightingSound → v.LightingSound :=
    fun hl hs hu => hu.congr hl hs
  have closed : CommandClosed State.LightingSound :=
    { line := .of_setLine fun _ _ h => h
      budget := .of_outside fun _ _ e => frame (lighting_of_outside e) (stop_of_outside e)
      dock := .of_outside fun _ _ e => frame (lighting_of_outsideDock e) (stop_of_outsideDock e)
      climate := .of_outside fun _ _ e => frame (lighting_of_outsideClimate e) (stop_of_outsideClimate e)
      lighting := lightingSound_lightingCommands
      plan := lightingSound_planClosed.commands
      system := lightingSound_systemCommands }
  have fetched : ∀ u : State, u.LightingSound → (fetchNotices u).LightingSound := by
    intro u hu
    obtain ⟨l, hl⟩ := fetchNotices_setLine u
    rw [hl]
    exact hu
  exact closed.step ⟨fetched, fun _ _ => lightingSound_startLoading _ _, fun _ _ => lightingSound_startLoading _ _⟩
    (fun _ _ h => h) h e

end Sys2Proof.Machine
end

section
/-! SUPPORT. What the operations of the Shift Plan Unit make of the plan, and its sound states (R1 to R35). -/

namespace Sys2Proof.Machine

variable {s t : State} {p q : PlanUnit}

/-! ### The plan after each operation, its totals apart -/

/-- The plan with next worked out for the present time (R11, R19). -/
def PlanUnit.retimed (p : PlanUnit) : PlanUnit :=
  { p with next := p.nextNow, turnDue := if p.dueRecord.isSome then p.turnDue else none }

/-- The plan with its digest worked out (R20). -/
def PlanUnit.redigested (p : PlanUnit) : PlanUnit := { p with digest := p.digestNow }

/-- The plan with the pending edits applied and the list emptied (R29). -/
def PlanUnit.edited (p : PlanUnit) : PlanUnit :=
  if p.edits.isEmpty then p else ({ p.edits.foldl PlanUnit.apply p with edits := [] } : PlanUnit).redigested

/-- The override table without the records of a list (R35). -/
def removeOverrides (ended l : List Override) : List Override := ended.foldl (fun l o => l.filter (·.target ≠ o.target)) l

/-- The plan with the UNTIL_TURN records ended (R35). -/
def PlanUnit.turnEnded (p : PlanUnit) : PlanUnit :=
  { p with overrides := removeOverrides (p.overrides.filter (·.remaining.isNone)) p.overrides }

/-- The plan after steps 3 to 6 of a turn (R14). -/
def PlanUnit.entered (c : PhaseCopy) (p : PlanUnit) : PlanUnit :=
  ({ p with current := c, totals := {}, turnDue := none } : PlanUnit).edited.turnEnded.retimed

/-- The plan with current moved into previous (R14). -/
def PlanUnit.left (p : PlanUnit) : PlanUnit := { p with previous := some p.current }

/-- The plan after an entry turn, if there is a governing entry (R17). -/
def PlanUnit.entry (p : PlanUnit) : PlanUnit :=
  match p.clock with
  | none => p
  | some t =>
    match governing p.phases t with
    | some r => p.entered (copyOf r)
    | none => p

/-- The plan after its clock is set (R2). -/
def PlanUnit.clockSet (v : Nat) (p : PlanUnit) : PlanUnit :=
  let q : PlanUnit := { p with clock := some v, turnDue := none }
  match governing p.phases v with
  | none => q
  | some r =>
    if p.clock = none then q.entry
    else if p.current.source = some r.start then q.retimed
    else q.left.entered (copyOf r)

/-- The plan with a record added (R5). -/
def PlanUnit.added (r : PhaseRec) (p : PlanUnit) : PlanUnit :=
  let q := ({ p with phases := insertPhase r p.phases } : PlanUnit).redigested
  if p.clock.isSome && p.phases.isEmpty then q.entry else q.retimed

/-- The plan without the record of a start (R6). -/
def PlanUnit.dropped (start : Nat) (p : PlanUnit) : PlanUnit :=
  let q := ({ p with phases := p.phases.filter (·.start ≠ start) } : PlanUnit).redigested
  if q.phases.isEmpty then (if p.clock.isSome then q.left.entered ⟨none, q.fallback⟩ else q) else q.retimed

/-- The plan with another fallback phase (R7, R9). -/
def PlanUnit.fallbackEdited (f : PhaseFields) (p : PlanUnit) : PlanUnit :=
  let q := ({ p with fallback := { f with label := 255, precondition := false } } : PlanUnit).redigested
  if p.current.source = none then { q with current := ⟨none, q.fallback⟩ } else q

/-- The plan with a record edited (R7). -/
def PlanUnit.recordEdited (r : PhaseRec) (p : PlanUnit) : PlanUnit :=
  ({ p with phases := p.phases.map fun x => if x.start = r.start then r else x } : PlanUnit).redigested.retimed

/-- The plan without the override of a target (R35). -/
def PlanUnit.withoutOverride (o : OverrideTarget) (p : PlanUnit) : PlanUnit :=
  { p with overrides := p.overrides.filter (·.target ≠ o) }

@[simp] theorem raise_plan (k : NoticeKind) (n : Nat) (b : Bytes) (s : State) : (raise k n b s).plan = s.plan := by
  unfold raise
  split <;> rfl

@[simp] theorem recomputeNext_plan (s : State) : (recomputeNext s).plan = s.plan.retimed := rfl

@[simp] theorem recomputeDigest_plan (s : State) : (recomputeDigest s).plan = s.plan.redigested := rfl

@[simp] theorem enterPhase_plan (c : PhaseCopy) (s : State) :
    (enterPhase c s).plan = { s.plan with current := c, totals := {}, turnDue := none } := rfl

@[simp] theorem leaveCurrent_plan (c : TurnCause) (s : State) : (leaveCurrent c s).plan = s.plan.left := by
  simp [leaveCurrent, PlanUnit.left]

@[simp] theorem applyEdits_plan (s : State) : (applyEdits s).plan = s.plan.edited := by
  unfold applyEdits PlanUnit.edited
  split <;> rfl

/-- The plan but for its totals, after an operation that is none of the plan's own. -/
theorem deriveLights_plan (s : State) : (deriveLights s).plan.forgetTotals = s.plan.forgetTotals :=
  plan_of_outsideLighting (deriveLights_outsideLighting s)

theorem profileChanged_plan (s : State) : (profileChanged s).plan.forgetTotals = s.plan.forgetTotals :=
  plan_of_outside (profileChanged_outside s)

theorem turnEvent_plan (s : State) : (turnEvent s).plan.forgetTotals = s.plan.forgetTotals := by
  unfold turnEvent
  rw [profileChanged_plan, plan_of_outsideLighting (lightingTurn_outsideLighting s)]

theorem clockSetEvent_plan (v : Nat) (s : State) : (clockSetEvent v s).plan.forgetTotals = s.plan.forgetTotals :=
  plan_of_outside (clockSetEvent_outside s v)

theorem overrideChanged_plan (o : OverrideTarget) (s : State) : (overrideChanged o s).plan.forgetTotals = s.plan.forgetTotals := by
  unfold overrideChanged
  split
  · rfl
  · exact deriveLight_plan _ s

theorem endOverride_plan (o : Override) (c : EndCause) (s : State) :
    (endOverride o c s).plan.forgetTotals = (s.plan.withoutOverride o.target).forgetTotals := by
  unfold endOverride
  dsimp only
  rw [overrideChanged_plan, raise_plan]
  rfl

/-- The ending of a list of records takes them out of the table, and leaves the rest of the plan. -/
theorem endOverrides_plan (l : List Override) (c : EndCause) (s : State) :
    (forEach l (fun o u => endOverride o c u) s).plan.forgetTotals
      = ({ s.plan with overrides := removeOverrides l s.plan.overrides } : PlanUnit).forgetTotals := by
  induction l generalizing s with
  | nil => rfl
  | cons o l ih =>
    have hp := plan_fields_of_forgetTotals (endOverride_plan o c s)
    rw [forEach_cons, ih, hp]
    rfl

theorem endTurnOverrides_plan (s : State) : (endTurnOverrides s).plan.forgetTotals = s.plan.turnEnded.forgetTotals :=
  endOverrides_plan _ _ s

theorem retimed_congr (h : q.forgetTotals = p.forgetTotals) : q.retimed.forgetTotals = p.retimed.forgetTotals := by
  rw [plan_fields_of_forgetTotals h]
  rfl

theorem takePhase_plan (c : PhaseCopy) (s : State) : (takePhase c s).plan.forgetTotals = (s.plan.entered c).forgetTotals := by
  unfold takePhase
  rw [turnEvent_plan, recomputeNext_plan]
  refine (retimed_congr (endTurnOverrides_plan _)).trans ?_
  rw [applyEdits_plan, enterPhase_plan]
  rfl

theorem entryTurn_plan (s : State) : (entryTurn s).plan.forgetTotals = s.plan.entry.forgetTotals := by
  unfold entryTurn PlanUnit.entry
  cases s.plan.clock with
  | none => rfl
  | some v =>
    dsimp only
    cases governing s.plan.phases v with
    | none => rfl
    | some r => exact takePhase_plan _ s

theorem setClockTo_plan (v : Nat) (s : State) : (setClockTo v s).plan.forgetTotals = (s.plan.clockSet v).forgetTotals := by
  unfold setClockTo PlanUnit.clockSet
  dsimp only
  cases governing s.plan.phases v with
  | none => rfl
  | some r =>
    dsimp only
    split
    · rw [entryTurn_plan]
      rfl
    · split
      · rfl
      · unfold jumpTurn
        rw [takePhase_plan, leaveCurrent_plan]
        rfl

theorem addRecord_plan (r : PhaseRec) (s : State) : (addRecord r s).plan.forgetTotals = (s.plan.added r).forgetTotals := by
  unfold addRecord PlanUnit.added
  dsimp only
  split
  · rw [entryTurn_plan]
    rfl
  · rfl

theorem dropRecord_plan (n : Nat) (s : State) : (dropRecord n s).plan.forgetTotals = (s.plan.dropped n).forgetTotals := by
  unfold dropRecord PlanUnit.dropped
  dsimp only
  split
  · next he =>
    have hq : (({ s.plan with phases := s.plan.phases.filter (·.start ≠ n) } : PlanUnit).redigested).phases.isEmpty = true := he
    rw [if_pos hq]
    split
    · unfold emptyingTurn
      rw [takePhase_plan, leaveCurrent_plan]
      rfl
    · rfl
  · next he =>
    have hq : ¬(({ s.plan with phases := s.plan.phases.filter (·.start ≠ n) } : PlanUnit).redigested).phases.isEmpty = true := he
    rw [if_neg hq]
    rfl

theorem editFallback_plan (f : PhaseFields) (s : State) :
    (editFallback f s).plan.forgetTotals = (s.plan.fallbackEdited f).forgetTotals := by
  unfold editFallback PlanUnit.fallbackEdited
  dsimp only
  split
  · unfold fallbackRefresh
    rw [turnEvent_plan]
    rfl
  · rfl

@[simp] theorem editRecord_plan (r : PhaseRec) (s : State) : (editRecord r s).plan = s.plan.recordEdited r := rfl

theorem editNow_plan (e : PendingEdit) (s : State) :
    (editNow e s).plan.forgetTotals = ((s.plan.apply e).redigested).forgetTotals := by
  unfold editNow
  dsimp only
  split
  · split
    · rw [deriveLights_plan]
      rfl
    · rfl
  · rfl
  · split
    · rw [profileChanged_plan]
      rfl
    · rfl

theorem setOverride_plan (o : Override) (s : State) :
    (setOverride o s).plan.forgetTotals = ({ s.plan with overrides := placeOverride o s.plan.overrides } : PlanUnit).forgetTotals := by
  unfold setOverride
  rw [overrideChanged_plan]
  rfl

/-! ### The parts of the plan that an operation leaves -/

theorem retimed_eq (p : PlanUnit) : p.retimed = { p with next := p.retimed.next, turnDue := p.retimed.turnDue } := rfl

theorem redigested_eq (p : PlanUnit) : p.redigested = { p with digest := p.digestNow } := rfl

theorem foldl_apply_eq (l : List PendingEdit) (p : PlanUnit) :
    l.foldl PlanUnit.apply p
      = { p with
          scenes := (l.foldl PlanUnit.apply p).scenes, climateSets := (l.foldl PlanUnit.apply p).climateSets
          profiles := (l.foldl PlanUnit.apply p).profiles } := by
  induction l generalizing p with
  | nil => rfl
  | cons e l ih =>
    rw [List.foldl_cons, ih]
    cases e <;> rfl

/-- The tables after edits do not depend on the rest of the plan. -/
theorem foldl_apply_tables (l : List PendingEdit) (h : q.scenes = p.scenes ∧ q.climateSets = p.climateSets ∧ q.profiles = p.profiles) :
    (l.foldl PlanUnit.apply q).scenes = (l.foldl PlanUnit.apply p).scenes
      ∧ (l.foldl PlanUnit.apply q).climateSets = (l.foldl PlanUnit.apply p).climateSets
      ∧ (l.foldl PlanUnit.apply q).profiles = (l.foldl PlanUnit.apply p).profiles := by
  induction l generalizing p q with
  | nil => exact h
  | cons e l ih =>
    obtain ⟨hs, hc, hp⟩ := h
    refine ih ?_
    cases e <;> simp [PlanUnit.apply, hs, hc, hp]

/-- The application of the edits leaves everything but the tables, the edit list and the digest. -/
theorem edited_eq (p : PlanUnit) :
    p.edited
      = { p with
          scenes := (p.edits.foldl PlanUnit.apply p).scenes, climateSets := (p.edits.foldl PlanUnit.apply p).climateSets
          profiles := (p.edits.foldl PlanUnit.apply p).profiles, edits := []
          digest := if p.edits = [] then p.digest else (p.edits.foldl PlanUnit.apply p).digestNow } := by
  by_cases he : p.edits = []
  · simp [PlanUnit.edited, he]
    cases p
    simp_all
  · have hq : p.edited = ({ p.edits.foldl PlanUnit.apply p with edits := [] } : PlanUnit).redigested := by
      simp [PlanUnit.edited, he]
    rw [if_neg he, hq, foldl_apply_eq]
    rfl

/-- What a turn makes of the plan (R14). -/
theorem entered_eq (c : PhaseCopy) (p : PlanUnit) :
    p.entered c
      = { p with
          current := c, totals := {}, turnDue := none
          scenes := (p.edits.foldl PlanUnit.apply p).scenes, climateSets := (p.edits.foldl PlanUnit.apply p).climateSets
          profiles := (p.edits.foldl PlanUnit.apply p).profiles, edits := []
          digest := if p.edits = [] then p.digest else (p.edits.foldl PlanUnit.apply p).digestNow
          overrides := removeOverrides (p.overrides.filter (·.remaining.isNone)) p.overrides
          next := p.clock.bind (nextAfter p.phases) } := by
  unfold PlanUnit.entered
  obtain ⟨hs, hc, hp⟩ := foldl_apply_tables (p := p) (q := { p with current := c, totals := {}, turnDue := none }) p.edits
    ⟨rfl, rfl, rfl⟩
  have hd : (p.edits.foldl PlanUnit.apply { p with current := c, totals := {}, turnDue := none }).digestNow
      = (p.edits.foldl PlanUnit.apply p).digestNow := by
    unfold PlanUnit.digestNow
    rw [hs, hc, hp, foldl_apply_eq _ p, foldl_apply_eq]
  rw [edited_eq]
  dsimp only
  rw [hs, hc, hp, hd]
  cases hclock : p.clock <;> simp [PlanUnit.retimed, PlanUnit.turnEnded, PlanUnit.nextNow, PlanUnit.dueRecord]

end Sys2Proof.Machine
end

section
/-! SUPPORT. The sound states of the Shift Plan Unit: the phase list and next, the digest, and the keys (R1, R4, R11, R14, R20, R28, R32). -/

namespace Sys2Proof.Machine

variable {s t : State} {p q : PlanUnit} {l : List PhaseRec}

/-! ### A property of the plan and of the snapshots that the store holds -/

/-- The plan satisfies P, and every snapshot the store holds or a save writes satisfies C. -/
def State.planHolds (P : PlanUnit → Prop) (C : Snapshot → Prop) (s : State) : Prop :=
  P s.plan ∧ (∀ c crc, s.store.image = .written c crc → C c) ∧ ∀ x ∈ s.store.saving, C x.1

/-- The operations on the plan keep a property P of it, whatever its totals; a snapshot taken of it satisfies C, and a plan that starts from
such a snapshot satisfies P. -/
structure PlanProperty (P : PlanUnit → Prop) (C : Snapshot → Prop) : Prop where
  congr : ∀ p q, q.forgetTotals = p.forgetTotals → P p → P q
  clockSet : ∀ v p, v < Config.weekSeconds → P p → P (p.clockSet v)
  added : ∀ r p, r.start < Config.weekMinutes → recordAt p.phases r.start = none → p.phases.length < Config.maxPhases → P p →
    P (p.added r)
  dropped : ∀ n p, P p → P (p.dropped n)
  fallbackEdited : ∀ f p, P p → P (p.fallbackEdited f)
  recordEdited : ∀ r p, P p → P (p.recordEdited r)
  editPlaced : ∀ e p, P p → P { p with edits := placeEdit e p.edits }
  editedNow : ∀ e p, P p → P (p.apply e).redigested
  editsCancelled : ∀ p, P p → P { p with edits := [] }
  overridePlaced : ∀ o p, (p.overrides.find? (·.target == o.target)).isSome ∨ p.overrides.length < Config.maxOverrides → P p →
    P { p with overrides := placeOverride o p.overrides }
  overrideEnded : ∀ o p, P p → P (p.withoutOverride o)
  overridesEmptied : ∀ p, P p → P { p with overrides := [] }
  turned : ∀ c p, P p → P (p.left.entered c)
  tick : ∀ p, P p → P p.tick
  snapshot : ∀ s : State, P s.plan → C s.snapshot
  factory : C factorySnapshot
  start : ∀ c, C c → P (startPlan c)

namespace PlanProperty

variable {P : PlanUnit → Prop} {C : Snapshot → Prop}

theorem of_plan (c : PlanProperty P C) (hp : t.plan.forgetTotals = q.forgetTotals) (hs : t.store = s.store) (hq : P q)
    (h : s.planHolds P C) : t.planHolds P C := by
  unfold State.planHolds
  rw [hs]
  exact ⟨c.congr _ _ hp hq, h.2⟩

theorem of_same (c : PlanProperty P C) (hp : t.plan.forgetTotals = s.plan.forgetTotals) (hs : t.store = s.store)
    (h : s.planHolds P C) : t.planHolds P C := c.of_plan hp hs h.1 h

theorem planCommands (c : PlanProperty P C) : PlanCommands (State.planHolds P C) where
  setClock v s hv h := c.of_plan ((clockSetEvent_plan v _).trans (setClockTo_plan v s)) (store_of_outsidePlan (by simp))
    (c.clockSet v _ hv h.1) h
  addRecord r s hr hn hl h := c.of_plan (addRecord_plan r s) (store_of_outsidePlan (by simp)) (c.added r _ hr hn hl h.1) h
  dropRecord n s h := c.of_plan (dropRecord_plan n s) (store_of_outsidePlan (by simp)) (c.dropped n _ h.1) h
  editFallback f s h := c.of_plan (editFallback_plan f s) (store_of_outsidePlan (by simp)) (c.fallbackEdited f _ h.1) h
  editRecord r _ h := ⟨c.recordEdited r _ h.1, h.2⟩
  placeEdit e _ h := ⟨c.editPlaced e _ h.1, h.2⟩
  editNow e s h := c.of_plan (editNow_plan e s) (store_of_outsidePlan (by simp)) (c.editedNow e _ h.1) h
  cancelEdits _ h := ⟨c.editsCancelled _ h.1, h.2⟩
  setOverride o s ho h := by
    refine c.of_plan (setOverride_plan o s) (store_of_outsidePlan (by simp [Machine.setOverride])) (c.overridePlaced o _ ?_ h.1) h
    simpa [State.overrideFor] using ho
  endOverride o k s h := c.of_plan (endOverride_plan o k s) (store_of_outsidePlan (by simp)) (c.overrideEnded o.target _ h.1) h
  timedTurn s h := by
    unfold Machine.timedTurn
    split
    · refine c.of_plan (takePhase_plan _ _) (store_of_outsidePlan (by simp)) ?_ h
      rw [leaveCurrent_plan]
      exact c.turned _ _ h.1
    · exact h

/-- The state that the load of an image installs. -/
theorem of_start (c : PlanProperty P C) {x : Snapshot} (hx : C x) (hp : t.plan = startPlan x) (hs : t.store.image = s.store.image)
    (hv : t.store.saving = s.store.saving) (h : s.planHolds P C) : t.planHolds P C := by
  unfold State.planHolds
  rw [hp, hs, hv]
  exact ⟨c.start x hx, h.2⟩

theorem verified_of_image (h : s.planHolds P C) {x : Snapshot} (hx : s.store.image.verified = some x) : C x := by
  unfold StoreImage.verified at hx
  split at hx
  · cases hx
  · next content crc hi =>
    split at hx
    · cases hx
      exact h.2.1 _ _ hi
    · cases hx

theorem loaded (c : PlanProperty P C) (h : s.planHolds P C) (a : Bool) : C (loadedSnapshot (loadImage a s.store.image)) := by
  unfold loadImage
  split
  · exact c.factory
  · split
    · next x hx => exact verified_of_image h hx
    · exact c.factory

theorem finishLoading (c : PlanProperty P C) (a : Bool) (h : s.planHolds P C) : (finishLoading a s).planHolds P C := by
  unfold Machine.finishLoading
  dsimp only
  refine c.of_same (plan_of_outsideLighting (lightingStart_outsideLighting _)) (store_of_outsideLighting (lightingStart_outsideLighting _)) ?_
  refine c.of_same (plan_of_outside (budgetStart_outside _)) (store_of_outside (budgetStart_outside _)) ?_
  refine c.of_same (plan_of_outside (startUpNotices_outside _ _)) (store_of_outside (startUpNotices_outside _ _)) ?_
  exact c.of_start (s := s) (c.loaded h a) rfl rfl rfl h

theorem startLoading (c : PlanProperty P C) {image : StoreImage} (hi : ∀ x crc, image = .written x crc → C x) (s : State) :
    (startLoading s image).planHolds P C :=
  ⟨c.start _ c.factory, hi, fun x hx => by cases hx⟩

theorem raised (c : PlanProperty P C) (k : NoticeKind) (n : Nat) (b : Bytes) (h : s.planHolds P C) : (raise k n b s).planHolds P C :=
  c.of_same (by rw [raise_plan]) (store_of_outside (raise_outside s k n b)) h

theorem plantStopped (c : PlanProperty P C) (h : s.planHolds P C) : (plantStopped s).planHolds P C := by
  unfold Machine.plantStopped
  refine c.of_same (plan_of_outsideLighting (lightingStop_outsideLighting _)) (store_of_outsideLighting (lightingStop_outsideLighting _)) ?_
  refine c.of_same (plan_of_outsideDock (dockPlantChange_outsideDock _)) (store_of_outsideDock (dockPlantChange_outsideDock _)) ?_
  refine c.of_same (plan_of_outsideClimate (climateStop_outsideClimate _)) (store_of_outsideClimate (climateStop_outsideClimate _)) ?_
  exact c.of_same (plan_of_outside (budgetStop_outside _)) (store_of_outside (budgetStop_outside _)) h

theorem plantResumed (c : PlanProperty P C) (h : s.planHolds P C) : (plantResumed s).planHolds P C := by
  unfold Machine.plantResumed
  refine c.of_same (plan_of_outsideLighting (deriveLights_outsideLighting _)) (store_of_outsideLighting (deriveLights_outsideLighting _)) ?_
  refine c.of_same (plan_of_outsideDock (dockPlantChange_outsideDock _)) (store_of_outsideDock (dockPlantChange_outsideDock _)) ?_
  refine c.of_same (plan_of_outsideClimate (climateResume_outsideClimate _)) (store_of_outsideClimate (climateResume_outsideClimate _)) ?_
  exact c.of_same (plan_of_outside (budgetResume_outside _)) (store_of_outside (budgetResume_outside _)) h

theorem plantRestart (c : PlanProperty P C) (h : s.planHolds P C) : (plantRestart s).planHolds P C := by
  unfold Machine.plantRestart
  refine c.of_same (plan_of_outsideLighting (lightingRestart_outsideLighting _)) (store_of_outsideLighting (lightingRestart_outsideLighting _)) ?_
  refine c.of_same (plan_of_outsideClimate (climateRestart_outsideClimate _)) (store_of_outsideClimate (climateRestart_outsideClimate _)) ?_
  refine c.of_same (plan_of_outsideDock (dockRestart_outsideDock _)) (store_of_outsideDock (dockRestart_outsideDock _)) ?_
  refine c.of_same (plan_of_outside (budgetRestart_outside _)) (store_of_outside (budgetRestart_outside _)) ?_
  exact ⟨c.overridesEmptied _ h.1, h.2⟩

theorem saveEnded (c : PlanProperty P C) (r : SaveResult) {x : Snapshot} (d : Crc16) (hx : C x) (h : s.planHolds P C) :
    (saveEnded r x d s).planHolds P C := by
  have written : ∀ y crc, x.written = .written y crc → C y := fun _ _ e => by
    cases e
    exact hx
  have cut : ∀ y crc, x.cutShort = .written y crc → C y := fun _ _ e => by
    cases e
    exact hx
  have failed : ∀ k, ∀ y crc, failedImage s.store.image x k = .written y crc → C y := by
    intro k
    cases k with
    | previous => exact h.2.1
    | written => exact written
    | failing => exact cut
  have none : ∀ y ∈ (none : Option (Snapshot × Crc16)), C y.1 := fun _ e => by cases e
  unfold Machine.saveEnded saveFailed
  split
  · exact c.raised _ _ _ ⟨h.1, written, none⟩
  · exact c.raised _ _ _ ⟨h.1, failed _, none⟩
  · exact c.raised _ _ _ ⟨h.1, failed _, none⟩

theorem systemCommands (c : PlanProperty P C) : SystemCommands (State.planHolds P C) where
  reconfigure i n s _ h :=
    c.of_same (plan_of_outsideRoles (reconfigure_outsideRoles s i n)) (store_of_outsideRoles (reconfigure_outsideRoles s i n)) h
  tick _ h := ⟨c.tick _ h.1, h.2⟩
  finishLoading a _ h := c.finishLoading a h
  fireInput _ _ h := h
  fireAsserted s h := by
    unfold fireAsserted
    dsimp only
    split
    · exact h
    · have raised := c.raised (s := s.setStop { state := .stopped, fire := true, stopStamp := s.seconds })
        .plantStop 0 (le8 s.stop.state.code) h
      split
      · exact c.plantStopped raised
      · exact raised
  fireCleared s h := by
    unfold fireCleared
    split
    · exact c.raised (s := s.setStop { s.stop with state := .released, fire := false }) _ _ _ h
    · exact h
  resumePlant s _ h := c.plantResumed (c.raised (s := s.setStop { s.stop with state := .running }) _ _ _ h)
  plantRestart _ h := c.plantRestart h
  save s h := ⟨h.1, h.2.1, fun x hx => by
    cases hx
    exact c.snapshot s h.1⟩
  saveEnded r _ d s hs h := c.saveEnded r d (h.2.2 _ hs) h

/-- Every step keeps the plan's property. -/
theorem stays (c : PlanProperty P C) (h : s.planHolds P C) (e : step s = .next t) : t.planHolds P C := by
  have closed : CommandClosed (State.planHolds P C) :=
    { line := .of_setLine fun _ _ h => h
      budget := .of_outside fun _ _ e h => c.of_same (plan_of_outside e) (store_of_outside e) h
      dock := .of_outside fun _ _ e h => c.of_same (plan_of_outsideDock e) (store_of_outsideDock e) h
      climate := .of_outside fun _ _ e h => c.of_same (plan_of_outsideClimate e) (store_of_outsideClimate e) h
      lighting := .of_outside fun _ _ e h => c.of_same (plan_of_outsideLighting e) (store_of_outsideLighting e) h
      plan := c.planCommands
      system := c.systemCommands }
  have fetched : ∀ u : State, u.planHolds P C → (fetchNotices u).planHolds P C := by
    intro u hu
    obtain ⟨l, hl⟩ := fetchNotices_setLine u
    rw [hl]
    exact hu
  have powered : ∀ u : State, u.planHolds P C → (powerUp u).planHolds P C := by
    intro u hu
    refine c.startLoading (fun x crc hx => ?_) u
    unfold SettingStore.imageAtPowerOn at hx
    split at hx
    · next content d hs =>
      cases hx
      exact hu.2.2 _ hs
    · exact hu.2.1 _ _ hx
  exact closed.step ⟨fetched, powered, fun u hu => c.startLoading hu.2.1 u⟩ (fun _ _ h => h) h e

end PlanProperty

end Sys2Proof.Machine
end

section
/-! The settlement of O19: the plan stays sound (R1, R4, R11, R14), its digest current (R20, R21) and its keys apart (R28, R32). -/

namespace Sys2Proof.Machine

variable {s t : State} {p q : PlanUnit} {l : List PhaseRec}

/-! ### The digest -/

/-- The plan's digest is that of the plan (R20). -/
def PlanUnit.Digested (p : PlanUnit) : Prop := p.digest = p.digestNow

theorem PlanUnit.Digested.redigested (p : PlanUnit) : p.redigested.Digested := rfl

theorem PlanUnit.Digested.retimed (h : p.Digested) : p.retimed.Digested := h

theorem PlanUnit.Digested.entered (c : PhaseCopy) (h : p.Digested) : (p.entered c).Digested := by
  have hnow : (p.entered c).digestNow = (p.edits.foldl PlanUnit.apply p).digestNow := by
    rw [entered_eq, foldl_apply_eq]
    rfl
  unfold PlanUnit.Digested at *
  rw [hnow, entered_eq]
  dsimp only
  split
  · next he => rw [he, h, List.foldl_nil]
  · rfl

theorem PlanUnit.Digested.entry (h : p.Digested) : p.entry.Digested := by
  unfold PlanUnit.entry
  split
  · exact h
  · split
    · exact h.entered _
    · exact h

theorem PlanUnit.Digested.clockSet (v : Nat) (h : p.Digested) : (p.clockSet v).Digested := by
  have set : ({ p with clock := some v, turnDue := none } : PlanUnit).Digested := h
  unfold PlanUnit.clockSet
  dsimp only
  split
  · exact set
  · split
    · exact set.entry
    · split
      · exact set.retimed
      · exact PlanUnit.Digested.entered (p := PlanUnit.left { p with clock := some v, turnDue := none }) _ set

theorem PlanUnit.Digested.added (r : PhaseRec) (p : PlanUnit) : (p.added r).Digested := by
  unfold PlanUnit.added
  dsimp only
  split
  · exact (PlanUnit.Digested.redigested _).entry
  · exact (PlanUnit.Digested.redigested _).retimed

theorem PlanUnit.Digested.dropped (n : Nat) (p : PlanUnit) : (p.dropped n).Digested := by
  have base := PlanUnit.Digested.redigested { p with phases := p.phases.filter (·.start ≠ n) }
  unfold PlanUnit.dropped
  dsimp only
  split
  · split
    · exact PlanUnit.Digested.entered (p := PlanUnit.left _) _ base
    · exact base
  · exact base.retimed

theorem PlanUnit.Digested.fallbackEdited (f : PhaseFields) (p : PlanUnit) : (p.fallbackEdited f).Digested := by
  unfold PlanUnit.fallbackEdited
  dsimp only
  split <;> rfl

theorem digested_property : PlanProperty PlanUnit.Digested fun _ => True where
  congr p q h hp := by
    rw [plan_fields_of_forgetTotals h]
    exact hp
  clockSet v _ _ h := h.clockSet v
  added r p _ _ _ _ := PlanUnit.Digested.added r p
  dropped n p _ := PlanUnit.Digested.dropped n p
  fallbackEdited f p _ := PlanUnit.Digested.fallbackEdited f p
  recordEdited _ _ _ := rfl
  editPlaced _ _ h := h
  editedNow _ _ _ := rfl
  editsCancelled _ h := h
  overridePlaced _ _ _ h := h
  overrideEnded _ _ h := h
  overridesEmptied _ h := h
  turned c p h := PlanUnit.Digested.entered (p := p.left) c h
  tick _ h := h
  snapshot _ _ := trivial
  factory := trivial
  start _ _ := rfl

/-! ### The keys -/

/-- The collections of the plan keep their keys apart (R28, R32). -/
def PlanUnit.Keyed (p : PlanUnit) : Prop := p.KeysSound

theorem PlanUnit.Keyed.congr (he : q.edits = p.edits) (ho : q.overrides = p.overrides) (h : p.Keyed) : q.Keyed := by
  unfold PlanUnit.Keyed PlanUnit.KeysSound at *
  rwa [he, ho]

/-- The keys after an edit is placed: those that were there, and a new one at the end. -/
theorem placeEdit_keys (e : PendingEdit) (l : List PendingEdit) :
    (placeEdit e l).map PendingEdit.key
      = if e.key ∈ l.map PendingEdit.key then l.map PendingEdit.key else l.map PendingEdit.key ++ [e.key] := by
  induction l with
  | nil => rfl
  | cons x xs ih =>
    unfold placeEdit
    by_cases hx : x.key = e.key
    · simp [hx]
    · rw [if_neg hx, List.map_cons, ih]
      by_cases hm : e.key ∈ xs.map PendingEdit.key
      · simp only [hm, List.map_cons, List.mem_cons, or_true, if_true]
      · simp only [hm, List.map_cons, List.mem_cons, or_false, if_false, Ne.symm hx, List.cons_append]

/-- The targets after an override is placed: those that were there, and a new one at the end. -/
theorem placeOverride_targets (o : Override) (l : List Override) :
    (placeOverride o l).map Override.target
      = if o.target ∈ l.map Override.target then l.map Override.target else l.map Override.target ++ [o.target] := by
  induction l with
  | nil => rfl
  | cons x xs ih =>
    unfold placeOverride
    by_cases hx : x.target = o.target
    · simp [hx]
    · rw [if_neg hx, List.map_cons, ih]
      by_cases hm : o.target ∈ xs.map Override.target
      · simp only [hm, List.map_cons, List.mem_cons, or_true, if_true]
      · simp only [hm, List.map_cons, List.mem_cons, or_false, if_false, Ne.symm hx, List.cons_append]

/-- A key at the end of a list that does not hold it. -/
theorem nodup_placed {α : Type} {l : List α} (h : l.Nodup) (a : α) [Decidable (a ∈ l)] :
    (if a ∈ l then l else l ++ [a]).Nodup := by
  split
  · exact h
  · next hm => exact List.nodup_append.mpr ⟨h, List.nodup_singleton a, fun x hx y hy => by
      rw [List.mem_singleton] at hy
      rintro rfl
      exact hm (hy ▸ hx)⟩

theorem PlanUnit.Keyed.editPlaced (e : PendingEdit) (h : p.Keyed) : ({ p with edits := placeEdit e p.edits } : PlanUnit).Keyed := by
  obtain ⟨hk, ht⟩ := h
  refine ⟨?_, ht⟩
  dsimp only
  rw [placeEdit_keys]
  exact nodup_placed hk _

theorem PlanUnit.Keyed.overridePlaced (o : Override)
    (ho : (p.overrides.find? (·.target == o.target)).isSome ∨ p.overrides.length < Config.maxOverrides) (h : p.Keyed) :
    ({ p with overrides := placeOverride o p.overrides } : PlanUnit).Keyed := by
  obtain ⟨hk, ht, hl⟩ := h
  have targets := placeOverride_targets o p.overrides
  refine ⟨hk, ?_, ?_⟩
  · dsimp only
    rw [targets]
    exact nodup_placed ht _
  · have hlen := congrArg List.length targets
    dsimp only
    split at hlen
    · simpa using hlen.trans_le (by simpa using hl)
    · next hm =>
      have hnone : (p.overrides.find? (·.target == o.target)).isSome = false := by
        simpa using hm
      have := ho.resolve_left (by simp [hnone])
      simp only [List.length_map, List.length_append, List.length_singleton] at hlen
      omega

theorem PlanUnit.Keyed.fewer {r : List Override} (hr : r.Sublist p.overrides) (h : p.Keyed) :
    ({ p with overrides := r } : PlanUnit).Keyed := by
  obtain ⟨hk, ht, hl⟩ := h
  exact ⟨hk, ht.sublist (hr.map _), hr.length_le.trans hl⟩

theorem removeOverrides_sublist (ended l : List Override) : (removeOverrides ended l).Sublist l := by
  induction ended generalizing l with
  | nil => exact List.Sublist.refl l
  | cons o ended ih => exact (ih _).trans List.filter_sublist

theorem PlanUnit.Keyed.entered (c : PhaseCopy) (h : p.Keyed) : (p.entered c).Keyed := by
  rw [entered_eq]
  obtain ⟨-, ht⟩ := h.fewer (removeOverrides_sublist (p.overrides.filter (·.remaining.isNone)) p.overrides)
  exact ⟨List.nodup_nil, ht⟩

theorem PlanUnit.Keyed.entry (h : p.Keyed) : p.entry.Keyed := by
  unfold PlanUnit.entry
  split
  · exact h
  · split
    · exact h.entered _
    · exact h

theorem PlanUnit.Keyed.clockSet (v : Nat) (h : p.Keyed) : (p.clockSet v).Keyed := by
  have set : ({ p with clock := some v, turnDue := none } : PlanUnit).Keyed := h
  unfold PlanUnit.clockSet
  dsimp only
  split
  · exact set
  · split
    · exact set.entry
    · split
      · exact set.congr rfl rfl
      · exact PlanUnit.Keyed.entered (p := PlanUnit.left { p with clock := some v, turnDue := none }) _ set

theorem PlanUnit.Keyed.added (r : PhaseRec) (h : p.Keyed) : (p.added r).Keyed := by
  have base : ({ p with phases := insertPhase r p.phases } : PlanUnit).redigested.Keyed := h
  unfold PlanUnit.added
  dsimp only
  split
  · exact base.entry
  · exact base.congr rfl rfl

theorem PlanUnit.Keyed.dropped (n : Nat) (h : p.Keyed) : (p.dropped n).Keyed := by
  have base : ({ p with phases := p.phases.filter (·.start ≠ n) } : PlanUnit).redigested.Keyed := h
  unfold PlanUnit.dropped
  dsimp only
  split
  · split
    · exact PlanUnit.Keyed.entered (p := PlanUnit.left _) _ base
    · exact base
  · exact base.congr rfl rfl

theorem PlanUnit.Keyed.fallbackEdited (f : PhaseFields) (h : p.Keyed) : (p.fallbackEdited f).Keyed := by
  unfold PlanUnit.fallbackEdited
  dsimp only
  split <;> exact h

theorem PlanUnit.Keyed.tick (h : p.Keyed) : p.tick.Keyed := by
  obtain ⟨hk, ht, hl⟩ := h
  refine ⟨hk, ?_, ?_⟩
  · simpa [PlanUnit.tick, Function.comp_def] using ht
  · simpa [PlanUnit.tick] using hl

theorem keyed_property : PlanProperty PlanUnit.Keyed fun _ => True where
  congr p q h hp := by
    rw [plan_fields_of_forgetTotals h]
    exact hp
  clockSet v _ _ h := h.clockSet v
  added r _ _ _ _ h := h.added r
  dropped n _ h := h.dropped n
  fallbackEdited f _ h := h.fallbackEdited f
  recordEdited _ _ h := h
  editPlaced e _ h := h.editPlaced e
  editedNow e _ h := by cases e <;> exact h
  editsCancelled _ h := ⟨List.nodup_nil, h.2⟩
  overridePlaced o _ ho h := h.overridePlaced o ho
  overrideEnded _ _ h := h.fewer List.filter_sublist
  overridesEmptied _ h := h.fewer (List.nil_sublist _)
  turned c p h := PlanUnit.Keyed.entered (p := p.left) c h
  tick _ h := h.tick
  snapshot _ _ := trivial
  factory := trivial
  start _ _ := ⟨List.nodup_nil, List.nodup_nil, Nat.zero_le _⟩

/-! ### The phase list -/

theorem insertPhase_perm (r : PhaseRec) (l : List PhaseRec) : (insertPhase r l).Perm (r :: l) := by
  induction l with
  | nil => exact List.Perm.refl _
  | cons x xs ih =>
    unfold insertPhase
    split
    · exact List.Perm.refl _
    · exact (ih.cons x).trans (List.Perm.swap r x xs)

theorem recordAt_eq_none {n : Nat} : recordAt l n = none ↔ ∀ x ∈ l, x.start ≠ n := by
  simp [recordAt]

/-- A record whose start the list does not hold is inserted where the starts go on rising (R5). -/
theorem insertPhase_sorted {r : PhaseRec} (h : l.Pairwise fun a b => a.start < b.start) (hr : ∀ x ∈ l, x.start ≠ r.start) :
    (insertPhase r l).Pairwise fun a b => a.start < b.start := by
  induction l with
  | nil => exact List.pairwise_singleton _ _
  | cons x xs ih =>
    obtain ⟨hx, hxs⟩ := List.pairwise_cons.mp h
    unfold insertPhase
    split
    · next hlt =>
      refine List.pairwise_cons.mpr ⟨fun y hy => ?_, h⟩
      obtain rfl | hy := List.mem_cons.mp hy
      · exact hlt
      · exact hlt.trans (hx y hy)
    · next hge =>
      refine List.pairwise_cons.mpr ⟨fun y hy => ?_, ih hxs fun y hy => hr y (List.mem_cons_of_mem _ hy)⟩
      obtain rfl | hy := List.mem_cons.mp ((insertPhase_perm r xs).mem_iff.mp hy)
      · exact lt_of_le_of_ne (Nat.le_of_not_lt hge) (hr x List.mem_cons_self)
      · exact hx y hy

theorem insertPhase_sound {r : PhaseRec} (h : PhasesSound l) (hr : r.start < Config.weekMinutes) (hn : recordAt l r.start = none)
    (hl : l.length < Config.maxPhases) : PhasesSound (insertPhase r l) := by
  obtain ⟨-, hs, hw⟩ := h
  have perm := insertPhase_perm r l
  refine ⟨?_, insertPhase_sorted hs (recordAt_eq_none.mp hn), fun x hx => ?_⟩
  · rw [perm.length_eq, List.length_cons]
    exact hl
  · obtain rfl | hx := List.mem_cons.mp (perm.mem_iff.mp hx)
    · exact hr
    · exact hw x hx

theorem PhasesSound.sublist {k : List PhaseRec} (h : PhasesSound l) (hk : k.Sublist l) : PhasesSound k := by
  obtain ⟨hl, hs, hw⟩ := h
  exact ⟨hk.length_le.trans hl, hs.sublist hk, fun r hr => hw r (hk.subset hr)⟩

/-- Records that keep their starts keep the list sound (R7). -/
theorem PhasesSound.map {f : PhaseRec → PhaseRec} (h : PhasesSound l) (hf : ∀ x, (f x).start = x.start) : PhasesSound (l.map f) := by
  obtain ⟨hl, hs, hw⟩ := h
  refine ⟨by rwa [List.length_map], ?_, fun r hr => ?_⟩
  · rw [List.pairwise_map]
    simpa only [hf] using hs
  · obtain ⟨x, hx, rfl⟩ := List.mem_map.mp hr
    rw [hf]
    exact hw x hx

theorem governing_eq_none {v : Nat} : governing l v = none ↔ l = [] := by
  unfold governing
  split
  · next r hr =>
    have : r ∈ l := List.mem_of_mem_filter (List.mem_of_getLast? hr)
    constructor
    · intro h
      cases h
    · rintro rfl
      cases this
  · simp

/-! ### Next -/

/-- Next and the clock are sound (R1, R11, R14). -/
def PlanUnit.Timely (p : PlanUnit) : Prop := (∀ t ∈ p.clock, t < Config.weekSeconds) ∧ p.NextSound

theorem PlanUnit.NextSound.due_none (h : p.NextSound) (hc : p.clock = none) : p.next = none ∧ p.turnDue = none := by
  unfold PlanUnit.NextSound at h
  simpa [hc] using h

/-- Over an empty list next is absent. -/
theorem PlanUnit.NextSound.next_of_empty (h : p.NextSound) (he : p.phases = []) : p.next = none := by
  unfold PlanUnit.NextSound at h
  rw [he] at h
  split at h
  · exact h.1
  · exact h
  · obtain ⟨_, hr, -⟩ := h
    cases hr

/-- Next as worked out afresh is sound (R11, R19). -/
theorem retimed_nextSound (h : p.clock = none → p.turnDue = none) : p.retimed.NextSound := by
  unfold PlanUnit.NextSound PlanUnit.retimed
  dsimp only
  cases hc : p.clock with
  | none => simp [PlanUnit.nextNow, PlanUnit.dueRecord, hc, h hc]
  | some v =>
    cases hd : p.dueRecord with
    | none => simp [PlanUnit.nextNow, hc, hd]
    | some r =>
      unfold PlanUnit.dueRecord at hd
      split at hd
      · cases hd
      · next due hdue =>
        have hr := List.find?_some hd
        have hm := List.mem_of_find?_eq_some hd
        simp only [decide_eq_true_eq] at hr
        simp only [Option.isSome_some, if_true, hdue]
        refine ⟨r, hm, hr, ?_⟩
        simp [PlanUnit.nextNow, PlanUnit.dueRecord, hc, hdue, hd]

theorem entered_nextSound (c : PhaseCopy) (p : PlanUnit) : (p.entered c).NextSound :=
  retimed_nextSound fun _ => by
    show ({ p with current := c, totals := {}, turnDue := none } : PlanUnit).edited.turnDue = none
    rw [edited_eq]

/-- The plan is sound but for what the store holds. -/
def PlanUnit.Sound (p : PlanUnit) : Prop := PhasesSound p.phases ∧ (∀ t ∈ p.clock, t < Config.weekSeconds) ∧ p.NextSound

theorem PlanUnit.Sound.entered (c : PhaseCopy) (hp : PhasesSound p.phases) (hc : ∀ t ∈ p.clock, t < Config.weekSeconds) :
    (p.entered c).Sound := by
  refine ⟨?_, ?_, entered_nextSound c p⟩
  · rw [entered_eq]
    exact hp
  · rw [entered_eq]
    exact hc

theorem PlanUnit.Sound.retimed (hp : PhasesSound p.phases) (hc : ∀ t ∈ p.clock, t < Config.weekSeconds)
    (hd : p.clock = none → p.turnDue = none) : p.retimed.Sound := ⟨hp, hc, retimed_nextSound hd⟩

/-- The clock takes a value: over an empty list next is absent before and after. -/
theorem PlanUnit.Sound.clockSet {v : Nat} (hv : v < Config.weekSeconds) (h : p.Sound) : (p.clockSet v).Sound := by
  obtain ⟨hp, -, hn⟩ := h
  have inWeek : ∀ t ∈ (some v : Option Nat), t < Config.weekSeconds := fun t ht => by
    cases ht
    exact hv
  unfold PlanUnit.clockSet
  cases hg : governing p.phases v with
  | none =>
    have he := governing_eq_none.mp hg
    refine ⟨hp, inWeek, ?_⟩
    unfold PlanUnit.NextSound
    dsimp only
    rw [hn.next_of_empty he, he]
    rfl
  | some r =>
    dsimp only
    split
    · have : PlanUnit.entry { p with clock := some v, turnDue := none }
          = PlanUnit.entered (copyOf r) { p with clock := some v, turnDue := none } := by
        simp [PlanUnit.entry, hg]
      rw [this]
      exact PlanUnit.Sound.entered _ hp inWeek
    · split
      · exact PlanUnit.Sound.retimed hp inWeek fun h => by cases h
      · exact PlanUnit.Sound.entered _ hp inWeek

theorem PlanUnit.Sound.added {r : PhaseRec} (hr : r.start < Config.weekMinutes) (hn : recordAt p.phases r.start = none)
    (hl : p.phases.length < Config.maxPhases) (h : p.Sound) : (p.added r).Sound := by
  obtain ⟨hp, hc, hs⟩ := h
  have hp' := insertPhase_sound hp hr hn hl
  unfold PlanUnit.added
  dsimp only
  split
  · unfold PlanUnit.entry
    split
    · next hnone => simp_all [PlanUnit.redigested]
    · next v hv =>
      split
      · exact PlanUnit.Sound.entered _ hp' hc
      · next hg =>
        have : r ∈ insertPhase r p.phases := (insertPhase_perm r p.phases).mem_iff.mpr List.mem_cons_self
        have hnil : insertPhase r p.phases = [] := governing_eq_none.mp hg
        rw [hnil] at this
        cases this
  · exact PlanUnit.Sound.retimed hp' hc fun h => (hs.due_none h).2

theorem PlanUnit.Sound.dropped (n : Nat) (h : p.Sound) : (p.dropped n).Sound := by
  obtain ⟨hp, hc, hs⟩ := h
  have hp' : PhasesSound (p.phases.filter (·.start ≠ n)) := hp.sublist List.filter_sublist
  unfold PlanUnit.dropped
  dsimp only
  split
  · split
    · exact PlanUnit.Sound.entered _ hp' hc
    · next hnone =>
      have hnone : p.clock = none := by simpa using hnone
      refine ⟨hp', hc, ?_⟩
      obtain ⟨hnext, hdue⟩ := hs.due_none hnone
      simp [PlanUnit.NextSound, PlanUnit.redigested, hnone, hnext, hdue]
  · exact PlanUnit.Sound.retimed hp' hc fun h => (hs.due_none h).2

theorem PlanUnit.Sound.recordEdited (r : PhaseRec) (h : p.Sound) : (p.recordEdited r).Sound := by
  obtain ⟨hp, hc, hs⟩ := h
  refine PlanUnit.Sound.retimed (hp.map fun x => ?_) hc fun h => (hs.due_none h).2
  split
  · next hx => exact hx.symm
  · rfl

/-! ### One second (R1, R14) -/

/-- The record that follows is the same one second later, unless the clock reaches its start. -/
theorem nextAfter_succ {v m : Nat} (h : nextAfter l v = some m) (hm : v + 1 ≠ m * 60) : nextAfter l (v + 1) = some m := by
  unfold nextAfter at *
  cases hf : l.find? fun r => v < r.start * 60 with
  | some r =>
    rw [hf] at h
    obtain rfl := Option.some.inj h
    have hr : v < r.start * 60 := by simpa using List.find?_some hf
    have later : l.find? (fun r => v + 1 < r.start * 60) = some r := by
      obtain ⟨-, before, after, hl, hb⟩ := List.find?_eq_some_iff_append.mp hf
      refine List.find?_eq_some_iff_append.mpr ⟨by simp; omega, before, after, hl, fun a ha => ?_⟩
      have := hb a ha
      simp only [Bool.not_eq_true', decide_eq_false_iff_not] at this ⊢
      omega
    rw [later]
  | none =>
    rw [hf] at h
    have later : l.find? (fun r => v + 1 < r.start * 60) = none := by
      simp only [List.find?_eq_none, decide_eq_true_eq] at hf ⊢
      exact fun x hx => by have := hf x hx; omega
    rw [later]
    exact h

/-- At the end of the week the record that follows is the first of the list, and so it is at its beginning. -/
theorem nextAfter_wrap {v m : Nat} (hw : ∀ r ∈ l, r.start < Config.weekMinutes) (hv : Config.weekSeconds ≤ v + 1)
    (h : nextAfter l v = some m) (hm : 0 ≠ m * 60) : nextAfter l 0 = some m := by
  have hnone : l.find? (fun r => v < r.start * 60) = none := by
    simp only [List.find?_eq_none, decide_eq_true_eq]
    intro x hx
    have := hw x hx
    simp only [Config.weekSeconds, Config.weekMinutes] at *
    omega
  unfold nextAfter at *
  rw [hnone] at h
  cases l with
  | nil => cases h
  | cons r l =>
    obtain rfl : r.start = m := by simpa using h
    have : (r :: l).find? (fun r => 0 < r.start * 60) = some r := by
      rw [List.find?_cons_of_pos]
      simpa using Nat.pos_of_ne_zero (Ne.symm hm)
    rw [this]

theorem nextAfter_eq_none {v : Nat} : nextAfter l v = none ↔ l = [] := by
  unfold nextAfter
  split
  · next r hr =>
    have := List.mem_of_find?_eq_some hr
    constructor
    · intro h
      cases h
    · rintro rfl
      cases this
  · simp

theorem nextAfter_mem {v m : Nat} (h : nextAfter l v = some m) : ∃ r ∈ l, r.start = m := by
  unfold nextAfter at h
  split at h
  · next r hr => exact ⟨r, List.mem_of_find?_eq_some hr, Option.some.inj h⟩
  · obtain ⟨r, hr, rfl⟩ := Option.map_eq_some_iff.mp h
    exact ⟨r, List.mem_of_mem_head? hr, rfl⟩

theorem nextAfter_nextSecond {v m : Nat} (hw : ∀ r ∈ l, r.start < Config.weekMinutes) (h : nextAfter l v = some m)
    (hm : nextSecond v ≠ m * 60) : nextAfter l (nextSecond v) = some m := by
  unfold nextSecond at *
  split at hm
  · next hlt =>
    rw [if_pos hlt]
    exact nextAfter_succ h hm
  · next hge =>
    rw [if_neg hge]
    exact nextAfter_wrap hw (Nat.le_of_not_lt hge) h hm

theorem nextSecond_lt (v : Nat) : nextSecond v < Config.weekSeconds := by
  unfold nextSecond
  split
  · assumption
  · decide

theorem PlanUnit.Sound.tick (h : p.Sound) : p.tick.Sound := by
  obtain ⟨hp, hc, hs⟩ := h
  refine ⟨hp, ?_, ?_⟩
  · intro t ht
    simp only [PlanUnit.tick, Option.mem_def, Option.map_eq_some_iff] at ht
    obtain ⟨v, -, rfl⟩ := ht
    exact nextSecond_lt v
  · cases hclock : p.clock with
    | none =>
      obtain ⟨hnext, hdue⟩ := hs.due_none hclock
      simp [PlanUnit.NextSound, PlanUnit.tick, hclock, hnext, hdue]
    | some v =>
      cases hdue : p.turnDue with
      | some due =>
        have : ∃ r ∈ p.phases, r.start * 60 = due ∧ p.next = some r.start := by
          unfold PlanUnit.NextSound at hs
          simpa only [hclock, hdue] using hs
        simpa [PlanUnit.NextSound, PlanUnit.tick, hclock, hdue] using this
      | none =>
        have hnext : p.next = nextAfter p.phases v := by
          unfold PlanUnit.NextSound at hs
          simpa only [hclock, hdue] using hs
        cases hn : p.next with
        | none =>
          have he := nextAfter_eq_none.mp (hnext ▸ hn)
          simp [PlanUnit.NextSound, PlanUnit.tick, hclock, hdue, hn, nextAfter_eq_none.mpr he]
        | some m =>
          rw [hn] at hnext
          by_cases hm : nextSecond v = m * 60
          · obtain ⟨r, hr, rfl⟩ := nextAfter_mem hnext.symm
            simp only [PlanUnit.NextSound, PlanUnit.tick, hclock, hdue, hn, Option.map_some, hm, if_true]
            exact ⟨r, hr, rfl, rfl⟩
          · simp only [PlanUnit.NextSound, PlanUnit.tick, hclock, hdue, hn, Option.map_some, hm, if_false]
            exact (nextAfter_nextSecond hp.2.2 hnext.symm hm).symm

theorem soundPlan_property : PlanProperty PlanUnit.Sound fun c => PhasesSound c.phases where
  congr p q h hp := by
    rw [plan_fields_of_forgetTotals h]
    exact hp
  clockSet _ _ hv h := h.clockSet hv
  added _ _ hr hn hl h := h.added hr hn hl
  dropped n _ h := h.dropped n
  fallbackEdited f p h := by
    unfold PlanUnit.fallbackEdited
    dsimp only
    split <;> exact h
  recordEdited r _ h := h.recordEdited r
  editPlaced _ _ h := h
  editedNow e _ h := by cases e <;> exact h
  editsCancelled _ h := h
  overridePlaced _ _ _ h := h
  overrideEnded _ _ h := h
  overridesEmptied _ h := h
  turned c p h := PlanUnit.Sound.entered (p := p.left) c h.1 h.2.1
  tick _ h := h.tick
  snapshot _ h := h.1
  factory := ⟨Nat.zero_le _, List.Pairwise.nil, fun r hr => by cases hr⟩
  start c h := by
    refine ⟨h, ?_, ?_⟩
    · intro t ht
      cases ht
    · exact ⟨rfl, rfl⟩

theorem planHolds_trivial {P : PlanUnit → Prop} (h : P s.plan) : s.planHolds P fun _ => True :=
  ⟨h, fun _ _ _ => trivial, fun _ _ => trivial⟩

/-- Settles O19: the operations of the Shift Plan Unit keep the plan sound, its digest current and its keys apart, and every other unit
leaves the plan, its totals apart, and the store. -/
theorem planAndKeysStaySound : Obligations.PlanAndKeysStaySound := by
  refine ⟨fun s t h e => ?_, fun s t h e => ?_, fun s t h e => ?_⟩
  · obtain ⟨hp, hc, hn, hi, hs⟩ := h
    obtain ⟨⟨hp, hc, hn⟩, hi, hs⟩ := soundPlan_property.stays ⟨⟨hp, hc, hn⟩, hi, hs⟩ e
    exact ⟨hp, hc, hn, hi, hs⟩
  · exact (digested_property.stays (planHolds_trivial h) e).1
  · exact (keyed_property.stays (planHolds_trivial h) e).1

end Sys2Proof.Machine
end

section
/-! SUPPORT. What the operations of the arbiter do at each channel, and the pool use under grants and shedding (R70 to R85). -/

namespace Sys2Proof.Machine

variable {s t : State}

/-! ### The operations at a channel -/

theorem setGranted_budget (i : Fin 128) (g : Nat) (s : State) :
    (setGranted i g s).budget = (s.putChan i { s.chan i with granted := g }).budget := by
  unfold setGranted
  dsimp only
  split
  · rfl
  · rw [curtainGrant_budget]

@[simp] theorem setGranted_stop (i : Fin 128) (g : Nat) (s : State) : (setGranted i g s).stop = s.stop :=
  stop_of_outside (setGranted_outside s i g)

theorem setGranted_chan (i j : Fin 128) (g : Nat) (s : State) :
    (setGranted i g s).chan j = (s.putChan i { s.chan i with granted := g }).chan j :=
  chan_congr (by rw [setGranted_budget]) j

theorem setGranted_chan_ne {i j : Fin 128} (h : i ≠ j) (g : Nat) (s : State) : (setGranted i g s).chan j = s.chan j := by
  rw [setGranted_chan, chan_putChan_ne _ _ h]

theorem takeSerial_chan (i j : Fin 128) (s : State) :
    (takeSerial i s).chan j = (s.putChan i { s.chan i with serial := satAdd Config.max32 s.budget.lastSerial 1 }).chan j := rfl

theorem takeSerial_chan_ne {i j : Fin 128} (h : i ≠ j) (s : State) : (takeSerial i s).chan j = s.chan j := by
  rw [takeSerial_chan, chan_putChan_ne _ _ h]

/-- The queue entry that the upkeep of the queue leaves a channel (R75 to R77). -/
def State.entryKept (s : State) (mark : Bool) (c : Channel) : Option QueueEntry :=
  if c.wantsEntry s.stop.state then
    match c.entry with
    | none => some ⟨0, mark || s.urgencyTime c == 0⟩
    | some e => some (if mark && !e.urgent then { e with urgent := true } else e)
  else none

/-- The upkeep of the queue writes one entry, unless it stands already. -/
theorem keepEntry_cases (m : Bool) (i : Fin 128) (s : State) :
    keepEntry m i s = s.putChan i { s.chan i with entry := s.entryKept m (s.chan i) }
      ∨ (keepEntry m i s = s ∧ (s.chan i).entry = s.entryKept m (s.chan i)) := by
  unfold keepEntry State.entryKept
  dsimp only
  cases (s.chan i).wantsEntry s.stop.state with
  | true =>
    cases he : (s.chan i).entry with
    | none => exact .inl rfl
    | some e =>
      by_cases hm : (m && !e.urgent) = true
      · simp [hm]
      · simp [hm]
  | false =>
    cases he : (s.chan i).entry with
    | none => exact .inr ⟨rfl, rfl⟩
    | some e => exact .inl rfl

/-- At its channel the upkeep of the queue changes the entry, and at most commands the output afresh. -/
theorem keepEntry_chan_self (m : Bool) (i : Fin 128) (s : State) :
    ∃ o, (keepEntry m i s).chan i = { s.chan i with entry := s.entryKept m (s.chan i), out := o }
      ∧ (o = (s.chan i).command ∨ o = (s.chan i).out) := by
  obtain h | ⟨h, he⟩ := keepEntry_cases m i s
  · refine ⟨(s.chan i).command, ?_, .inl rfl⟩
    rw [h]
    exact chan_putChan_self _ i _
  · exact ⟨_, by rw [h, ← he], .inr rfl⟩

theorem keepEntry_chan_ne {i j : Fin 128} (h : i ≠ j) (m : Bool) (s : State) : (keepEntry m i s).chan j = s.chan j := by
  obtain e | ⟨e, -⟩ := keepEntry_cases m i s
  · rw [e, chan_putChan_ne _ _ h]
  · rw [e]

theorem keepEntry_entry (m : Bool) (i : Fin 128) (s : State) : ((keepEntry m i s).chan i).entry = s.entryKept m (s.chan i) := by
  obtain ⟨o, h, -⟩ := keepEntry_chan_self m i s
  rw [h]

/-- Where the output is commanded as the channel stands, it stays so. -/
theorem keepEntry_chan (m : Bool) (i : Fin 128) (h : (s.chan i).out = (s.chan i).command) :
    (keepEntry m i s).chan i = { s.chan i with entry := s.entryKept m (s.chan i) } := by
  obtain ⟨o, hc, ho⟩ := keepEntry_chan_self m i s
  rw [hc]
  obtain rfl | rfl := ho
  · rw [← h]
  · rfl

/-- A field of a channel that is neither its entry nor its output stands while the queue is kept. -/
theorem keepEntry_field {α : Type} (f : Channel → α) (hf : ∀ c e o, f { c with entry := e, out := o } = f c) (m : Bool) (i j : Fin 128)
    (s : State) : f ((keepEntry m i s).chan j) = f (s.chan j) := by
  by_cases h : i = j
  · subst h
    obtain ⟨o, hc, -⟩ := keepEntry_chan_self m i s
    rw [hc, hf]
  · rw [keepEntry_chan_ne h]

@[simp] theorem keepEntry_stop (m : Bool) (i : Fin 128) (s : State) : (keepEntry m i s).stop = s.stop :=
  stop_of_outside (keepEntry_outside s m i)

@[simp] theorem takeSerial_stop (i : Fin 128) (s : State) : (takeSerial i s).stop = s.stop := rfl

@[simp] theorem figure_stop (s : State) : (figure s).stop = s.stop := rfl
@[simp] theorem protect_stop (s : State) : (protect s).stop = s.stop := rfl
@[simp] theorem ceil_stop (s : State) : (ceil s).stop = s.stop := rfl

/-! ### What the figures of the arbiter depend on -/

/-- What pool use depends on: the wiring and the grant of every channel, the reserves, the pool and the plant-stop state (R70, R71). -/
def State.holdings (s : State) : Table (ChannelConfig × Nat) 128 × PerClass Nat × Nat × PlantState :=
  (s.budget.channels.map fun c => (c.cfg, c.granted), s.budget.reserve, s.budget.pool, s.stop.state)

theorem holdings_of_budget (hb : t.budget = s.budget) (hs : t.stop.state = s.stop.state) : t.holdings = s.holdings := by
  unfold State.holdings
  rw [hb, hs]

theorem holdings_putChan (i : Fin 128) {c : Channel} (hc : c.cfg = (s.chan i).cfg) (hg : c.granted = (s.chan i).granted) :
    (s.putChan i c).holdings = s.holdings := by
  have same : (({ c with out := c.command } : Channel).cfg, ({ c with out := c.command } : Channel).granted)
      = look (s.budget.channels.map fun x => (x.cfg, x.granted)) i := by
    rw [look_map]
    exact Prod.ext hc hg
  simp only [State.holdings, State.putChan_budget, State.putChan_stop, map_upd, same, upd_look]

theorem keepEntry_holdings (m : Bool) (i : Fin 128) (s : State) : (keepEntry m i s).holdings = s.holdings := by
  obtain e | ⟨e, -⟩ := keepEntry_cases m i s
  · rw [e]
    exact holdings_putChan i rfl rfl
  · rw [e]

theorem takeSerial_holdings (i : Fin 128) (s : State) : (takeSerial i s).holdings = s.holdings := by
  unfold takeSerial
  dsimp only
  exact (holdings_putChan i (by rfl) (by rfl)).trans rfl

theorem setGranted_holdings (i : Fin 128) (g : Nat) (s : State) :
    (setGranted i g s).holdings = (s.putChan i { s.chan i with granted := g }).holdings :=
  holdings_of_budget (setGranted_budget i g s) (by simp)

@[simp] theorem raise_budget (k : NoticeKind) (n : Nat) (b : Bytes) (s : State) : (raise k n b s).budget = s.budget := by
  unfold raise
  split <;> rfl

@[simp] theorem raise_holdings (k : NoticeKind) (n : Nat) (b : Bytes) (s : State) : (raise k n b s).holdings = s.holdings :=
  holdings_of_budget (raise_budget k n b s) (by simp)

@[simp] theorem settleShed_holdings (s : State) : (settleShed s).holdings = s.holdings := by
  unfold settleShed
  split <;> rfl

@[simp] theorem settleTight_holdings (s : State) : (settleTight s).holdings = s.holdings := by
  unfold settleTight
  dsimp only
  split
  · rfl
  · rw [raise_holdings]
    rfl

@[simp] theorem endEvent_holdings (s : State) : (endEvent s).holdings = s.holdings := by
  unfold endEvent
  simp

theorem holdings_cfg (h : t.holdings = s.holdings) (i : Fin 128) : (t.chan i).cfg = (s.chan i).cfg := by
  have := congrArg (fun v => (look v.1 i).1) h
  unfold State.chan
  simpa only [State.holdings, look_map] using this

theorem holdings_granted (h : t.holdings = s.holdings) (i : Fin 128) : (t.chan i).granted = (s.chan i).granted := by
  have := congrArg (fun v => (look v.1 i).2) h
  unfold State.chan
  simpa only [State.holdings, look_map] using this

theorem holdings_reserve (h : t.holdings = s.holdings) : t.budget.reserve = s.budget.reserve := congrArg (fun v => v.2.1) h
theorem holdings_pool (h : t.holdings = s.holdings) : t.budget.pool = s.budget.pool := congrArg (fun v => v.2.2.1) h
theorem holdings_stop (h : t.holdings = s.holdings) : t.stop.state = s.stop.state := congrArg (fun v => v.2.2.2) h

/-- The share of a class's grant that a channel holds (R70). -/
def Channel.classShare (plant : PlantState) (k : LoadClass) (c : Channel) : Nat := if c.inClass k then c.nonProtected plant else 0

theorem classGrant_eq (s : State) (k : LoadClass) : s.classGrant k = sumTable (Channel.classShare s.stop.state k) s.budget.channels :=
  rfl

theorem classShare_congr {c d : Channel} (hc : c.cfg = d.cfg) (hg : c.granted = d.granted) (p : PlantState) (k : LoadClass) :
    c.classShare p k = d.classShare p k := by
  unfold Channel.classShare Channel.inClass Channel.nonProtected Channel.protPart
  rw [hc, hg]

theorem classGrant_of_holdings (h : t.holdings = s.holdings) (k : LoadClass) : t.classGrant k = s.classGrant k := by
  rw [classGrant_eq, classGrant_eq, holdings_stop h]
  exact sumTable_congr fun i => classShare_congr (holdings_cfg h i) (holdings_granted h i) _ k

theorem poolUsed_of_holdings (h : t.holdings = s.holdings) (k : LoadClass) : t.poolUsed k = s.poolUsed k := by
  unfold State.poolUsed
  rw [classGrant_of_holdings h, holdings_reserve h]

theorem poolUse_of_holdings (h : t.holdings = s.holdings) : t.poolUse = s.poolUse := by
  unfold State.poolUse
  simp only [poolUsed_of_holdings h]

theorem poolSafe_of_holdings (h : t.holdings = s.holdings) (hs : s.PoolSafe) : t.PoolSafe := by
  unfold State.PoolSafe at *
  rwa [poolUse_of_holdings h, holdings_pool h]

theorem free_of_holdings (h : t.holdings = s.holdings) : t.free = s.free := by
  unfold State.free
  rw [poolUse_of_holdings h, holdings_pool h]

theorem isTight_of_holdings (h : t.holdings = s.holdings) (hp : t.profile = s.profile) : t.isTight = s.isTight := by
  unfold State.isTight
  rw [free_of_holdings h, holdings_pool h, hp]

/-! ### Pool use when a grant changes (R70, R71, R73) -/

theorem classGrant_putChan (i : Fin 128) (c : Channel) (k : LoadClass) :
    (s.putChan i c).classGrant k + (s.chan i).classShare s.stop.state k = s.classGrant k + c.classShare s.stop.state k :=
  sumTable_upd (Channel.classShare s.stop.state k) s.budget.channels i { c with out := c.command }

/-- A channel that holds at most g hW more raises the grant of its class by at most g, and no other's. -/
theorem classGrant_putChan_le (i : Fin 128) {c : Channel} {g : Nat} (hc : c.cfg = (s.chan i).cfg)
    (hn : c.nonProtected s.stop.state ≤ (s.chan i).nonProtected s.stop.state + g) (k : LoadClass) :
    (s.putChan i c).classGrant k ≤ s.classGrant k + if (s.chan i).cfg.role.cls = some k then g else 0 := by
  have sum := classGrant_putChan (s := s) i c k
  unfold Channel.classShare Channel.inClass at sum
  rw [hc] at sum
  by_cases hk : (s.chan i).cfg.role.cls = some k
  · simp only [hk, beq_self_eq_true, if_true] at sum ⊢
    omega
  · have hk' : ((s.chan i).cfg.role.cls == some k) = false := by simpa using hk
    simp only [hk', hk, if_false, Bool.false_eq_true] at sum ⊢
    omega

theorem avail_le (s : State) (k : LoadClass) : s.avail k ≤ (s.budget.reserve.get k - s.classGrant k) + s.free.toNat := by
  unfold State.avail
  split
  · exact Nat.add_le_add_left (Nat.min_le_left _ _) _
  · exact le_rfl

/-- Class grants that rise by at most g in one class, and in no other, raise the pool use by what the reserve of that class does not
cover. -/
theorem poolUse_le_of_grants {k : LoadClass} {g : Nat} (hr : t.budget.reserve = s.budget.reserve)
    (hg : ∀ m, t.classGrant m ≤ s.classGrant m + if k = m then g else 0) :
    t.poolUse ≤ s.poolUse + (g - (s.budget.reserve.get k - s.classGrant k)) := by
  have used : ∀ m, t.poolUsed m ≤ s.poolUsed m + if k = m then g - (s.budget.reserve.get k - s.classGrant k) else 0 := by
    intro m
    have hm := hg m
    unfold State.poolUsed
    rw [hr]
    split at hm
    · next h =>
      subst h
      rw [if_pos rfl]
      omega
    · next h =>
      rw [if_neg h]
      omega
  have light := used .light
  have heat := used .heat
  have air := used .air
  have dock := used .dock
  unfold State.poolUse
  cases k <;> simp only [reduceCtorEq, if_true, if_false] at light heat air dock <;> omega

/-- Class grants that do not rise leave the pool use no higher. -/
theorem poolUse_le_of_lower (hr : t.budget.reserve = s.budget.reserve) (hg : ∀ m, t.classGrant m ≤ s.classGrant m) :
    t.poolUse ≤ s.poolUse := by
  have := poolUse_le_of_grants (k := .light) (g := 0) hr fun m => (hg m).trans (Nat.le_add_right _ _)
  omega

/-- A grant of what is available to the channel's class keeps the pool use within the pool (R73). -/
theorem poolSafe_grant (i : Fin 128) {c : Channel} {g : Nat} (hc : c.cfg = (s.chan i).cfg)
    (hn : c.nonProtected s.stop.state ≤ (s.chan i).nonProtected s.stop.state + g)
    (hg : ∀ k, (s.chan i).cfg.role.cls = some k → g ≤ s.avail k) (h : s.PoolSafe) : (s.putChan i c).PoolSafe := by
  have grants := classGrant_putChan_le i hc hn
  have pool : (s.putChan i c).budget.pool = s.budget.pool := rfl
  unfold State.PoolSafe
  rw [pool]
  cases hk : (s.chan i).cfg.role.cls with
  | none =>
    refine (poolUse_le_of_lower (s := s) (t := s.putChan i c) rfl fun m => ?_).trans h
    have := grants m
    rwa [hk, if_neg (by simp), Nat.add_zero] at this
  | some k =>
    have use := poolUse_le_of_grants (s := s) (t := s.putChan i c) (k := k) (g := g) rfl fun m => by
      have := grants m
      simpa only [hk, Option.some.injEq] using this
    have ha := (hg k hk).trans (avail_le s k)
    have free : s.free.toNat = s.budget.pool - s.poolUse := by
      unfold State.free
      omega
    have h' : s.poolUse ≤ s.budget.pool := h
    omega

/-- A channel that holds no more than before keeps the pool use within the pool. -/
theorem poolSafe_lower (i : Fin 128) {c : Channel} (hc : c.cfg = (s.chan i).cfg)
    (hn : c.nonProtected s.stop.state ≤ (s.chan i).nonProtected s.stop.state) (h : s.PoolSafe) : (s.putChan i c).PoolSafe :=
  poolSafe_grant (g := 0) i hc hn (fun _ _ => Nat.zero_le _) h

/-- A grant that is lowered lowers the non-protected grant. -/
theorem nonProtected_mono {c : Channel} {g : Nat} (h : g ≤ c.granted) (p : PlantState) :
    ({ c with granted := g } : Channel).nonProtected p ≤ c.nonProtected p := by
  unfold Channel.nonProtected
  dsimp only
  split
  · exact le_rfl
  · exact Nat.sub_le_sub_right h _
  · exact Nat.mul_le_mul_right _ h

/-- A grant that is raised by n raises the non-protected grant by no more than what n steps, or n hW, are worth. -/
theorem nonProtected_raise {c : Channel} {n g : Nat} (hl : c.cfg.role = .light → n ≤ g) (hs : c.cfg.role ≠ .light → n * c.cfg.rating ≤ g)
    (p : PlantState) : ({ c with granted := c.granted + n } : Channel).nonProtected p ≤ c.nonProtected p + g := by
  have part : ({ c with granted := c.granted + n } : Channel).protPart p = c.protPart p := rfl
  unfold Channel.nonProtected
  rw [part]
  dsimp only
  split
  · exact Nat.zero_le _
  · next h =>
    have := hl h
    omega
  · next h =>
    rw [Nat.add_mul]
    exact Nat.add_le_add_left (hs h) _

theorem setGranted_poolSafe_lower (i : Fin 128) {g : Nat} (hg : g ≤ (s.chan i).granted) (h : s.PoolSafe) : (setGranted i g s).PoolSafe :=
  poolSafe_of_holdings (setGranted_holdings i g s) (poolSafe_lower i rfl (nonProtected_mono hg _) h)

/-! ### The walk stays within the pool (R79 to R81) -/

theorem deficit_of_not_light {c : Channel} (h : c.cfg.role ≠ .light) : c.deficit = 0 := by
  unfold Channel.deficit
  split
  · next hl => exact absurd hl h
  · rfl

theorem lightVisit_poolSafe (i : Fin 128) (h : s.PoolSafe) : (lightVisit i s).PoolSafe := by
  unfold lightVisit
  dsimp only
  split
  · exact h
  · next hg =>
    have hl : (s.chan i).cfg.role = .light := by
      by_contra hl
      rw [deficit_of_not_light hl] at hg
      exact hg (Nat.zero_min _)
    refine poolSafe_of_holdings (takeSerial_holdings i _) (poolSafe_grant (g := min (s.chan i).deficit (s.avail .light)) i rfl ?_ ?_ h)
    · exact nonProtected_raise (fun _ => le_rfl) (fun hn => absurd hl hn) _
    · intro k hk
      rw [hl] at hk
      obtain rfl : k = .light := by simpa [Role.cls] using hk.symm
      exact Nat.min_le_right _ _

theorem stepUp_holdings (i : Fin 128) (k : Nat) (s : State) :
    (stepUp i k s).holdings = (s.putChan i { s.chan i with granted := (s.chan i).granted + k }).holdings := by
  unfold stepUp
  dsimp only
  rw [keepEntry_holdings, setGranted_holdings]
  simp only [State.holdings, State.putChan_budget, State.putChan_stop, takeSerial_stop, map_upd]
  rw [takeSerial_chan]
  simp only [chan_putChan_self]
  have table := congrArg (fun v => v.1) (takeSerial_holdings i (s.putChan i { s.chan i with minOnT := startTimer (s.chan i).cfg.minOn }))
  have put := congrArg (fun v => v.1) (holdings_putChan (s := s) i (c := { s.chan i with minOnT := startTimer (s.chan i).cfg.minOn }) rfl rfl)
  simp only [State.holdings] at table put
  rw [table, put]
  rfl

theorem stepUp_poolSafe (i : Fin 128) {k : Nat} (hk : k ≤ s.payable (s.chan i)) (h : s.PoolSafe) : (stepUp i k s).PoolSafe := by
  refine poolSafe_of_holdings (stepUp_holdings i k s) (poolSafe_grant (g := k * (s.chan i).cfg.rating) i rfl ?_ ?_ h)
  · refine nonProtected_raise (fun _ => ?_) (fun _ => le_rfl) _
    obtain hr | hr := Nat.eq_zero_or_pos (s.chan i).cfg.rating
    · have : s.payable (s.chan i) = 0 := by
        unfold State.payable
        split
        · rw [hr, Nat.div_zero]
        · rfl
      omega
    · exact Nat.le_mul_of_pos_right k hr
  · intro c hc
    unfold State.payable at hk
    rw [hc] at hk
    exact (Nat.mul_le_mul_right _ hk).trans (Nat.div_mul_le_self _ _)

theorem visitQueue_poolSafe (l : List (Fin 128)) (h : s.PoolSafe) : (visitQueue l s).PoolSafe := by
  induction l generalizing s with
  | nil => exact h
  | cons i rest ih =>
    unfold visitQueue
    dsimp only
    split
    · exact ih h
    · split
      · exact ih h
      · split
        · next hw => exact ih (stepUp_poolSafe i hw h)
        · have part : (if 0 < s.payable (s.chan i) then stepUp i (s.payable (s.chan i)) s else s).PoolSafe := by
            split
            · exact stepUp_poolSafe i le_rfl h
            · exact h
          split
          · exact part
          · exact ih part

theorem walk_poolSafe (h : s.PoolSafe) : (walk s).PoolSafe :=
  visitQueue_poolSafe _ (forEach_keeps (I := fun u => u.PoolSafe) (fun i _ hu => lightVisit_poolSafe i hu) _ s h)

theorem endEvent_poolSafe (h : s.PoolSafe) : (endEvent s).PoolSafe := poolSafe_of_holdings (endEvent_holdings s) h

theorem arbitrate_poolSafe (h : s.PoolSafe) : (arbitrate s).PoolSafe := endEvent_poolSafe (walk_poolSafe h)

end Sys2Proof.Machine
end

section
/-! SUPPORT. Shedding (R82 to R84): a pass lowers the pool use while it exceeds the pool, so the loop ends within the pool. -/

namespace Sys2Proof.Machine

variable {s t : State}

/-! ### The first item in order -/

theorem firstBy_fold_mem {α : Type} (p : α → α → Bool) (l : List α) (best : Option α) (x : α)
    (h : l.foldl (fun best x => match best with
      | none => some x
      | some b => if p x b then some x else some b) best = some x) : x ∈ l ∨ best = some x := by
  induction l generalizing best with
  | nil => exact .inr h
  | cons y l ih =>
    obtain h | h := ih _ h
    · exact .inl (List.mem_cons_of_mem _ h)
    · dsimp only at h
      split at h
      · exact .inl (by simp_all)
      · split at h
        · exact .inl (by simp_all)
        · exact .inr h

theorem firstBy_mem {α : Type} {p : α → α → Bool} {l : List α} {x : α} (h : firstBy p l = some x) : x ∈ l :=
  (firstBy_fold_mem p l none x h).resolve_right (by simp)

theorem firstBy_fold_isSome {α : Type} (p : α → α → Bool) (l : List α) (x : α) :
    (l.foldl (fun best x => match best with
      | none => some x
      | some b => if p x b then some x else some b) (some x)).isSome := by
  induction l generalizing x with
  | nil => rfl
  | cons y l ih =>
    rw [List.foldl_cons]
    dsimp only
    split
    · exact ih y
    · exact ih x

theorem firstBy_ne_none {α : Type} {p : α → α → Bool} {l : List α} (h : l ≠ []) : ∃ x, firstBy p l = some x := by
  obtain ⟨y, l, rfl⟩ := List.exists_cons_of_ne_nil h
  exact Option.isSome_iff_exists.mp (firstBy_fold_isSome p l y)

/-! ### Candidates -/

/-- A shedding candidate: a channel with a non-protected grant whose class holds more than its reserve (R82). -/
def State.Candidate (s : State) (i : Fin 128) : Prop :=
  0 < (s.chan i).nonProtected s.stop.state ∧ ∃ k, (s.chan i).cfg.role.cls = some k ∧ s.budget.reserve.get k < s.classGrant k

theorem get_build {α : Type} (f : LoadClass → α) (k : LoadClass) : (PerClass.build f).get k = f k := by
  cases k <;> rfl

theorem mem_shedCandidates {i : Fin 128} : i ∈ s.shedCandidates ↔ s.Candidate i := by
  unfold State.shedCandidates State.Candidate
  simp only [List.mem_filter, mem_indices, true_and, Bool.and_eq_true, decide_eq_true_eq]
  refine and_congr_right fun _ => ?_
  cases (s.chan i).cfg.role.cls with
  | none => simp
  | some k => simp [get_build]

/-- Where the pool use exceeds the pool there is a candidate. -/
theorem exists_candidate (h : s.budget.pool < s.poolUse) : ∃ i, s.Candidate i := by
  have exceeds : ∃ k, s.budget.reserve.get k < s.classGrant k := by
    by_contra none
    have each : ∀ k, s.poolUsed k = 0 := fun k => Nat.sub_eq_zero_of_le (not_lt.mp fun hk => none ⟨k, hk⟩)
    have : s.poolUse = 0 := by simp [State.poolUse, each]
    omega
  obtain ⟨k, hk⟩ := exceeds
  have held : ∃ i, (s.chan i).classShare s.stop.state k ≠ 0 := by
    by_contra none
    push Not at none
    have : s.classGrant k = 0 := by
      rw [classGrant_eq, sumTable_eq]
      exact Finset.sum_eq_zero fun i _ => none i
    omega
  obtain ⟨i, hi⟩ := held
  unfold Channel.classShare Channel.inClass at hi
  split at hi
  · next hc => exact ⟨i, Nat.pos_of_ne_zero hi, k, by simpa using hc, hk⟩
  · exact absurd rfl hi

/-! ### One candidate (R48, R83) -/

/-- What a candidate is left with (R48, R83). -/
def State.shedLeft (s : State) (i : Fin 128) : Nat :=
  if (s.chan i).cfg.role = .light then
    (s.chan i).granted - min (s.shedNeed (s.chan i)) ((s.chan i).nonProtected s.stop.state)
  else (s.chan i).granted - min (ceilDiv (s.shedNeed (s.chan i)) (s.chan i).cfg.rating) (s.chan i).granted

theorem shedLeft_le (s : State) (i : Fin 128) : s.shedLeft i ≤ (s.chan i).granted := by
  unfold State.shedLeft
  split <;> exact Nat.sub_le _ _

theorem shedOne_holdings (i : Fin 128) (s : State) :
    (shedOne i s).holdings = (s.putChan i { s.chan i with granted := s.shedLeft i }).holdings := by
  have step : ∀ g, (keepEntry false i (setGranted i g (s.putChan i { s.chan i with minOffT := startTimer (s.chan i).cfg.minOff }))).holdings
      = (s.putChan i { s.chan i with granted := g }).holdings := by
    intro g
    rw [keepEntry_holdings, setGranted_holdings]
    simp only [State.holdings, State.putChan_budget, State.putChan_stop, map_upd, chan_putChan_self]
    refine Prod.ext (table_ext fun j => ?_) rfl
    simp only [look_upd]
    split <;> rfl
  unfold shedOne State.shedLeft
  dsimp only
  split
  · next hr =>
    rw [if_pos hr]
    exact setGranted_holdings i _ s
  · next hr =>
    rw [if_neg hr]
    exact step _

theorem shedOne_chan_ne {i j : Fin 128} (h : i ≠ j) (s : State) : (shedOne i s).chan j = s.chan j := by
  unfold shedOne
  dsimp only
  split
  · exact setGranted_chan_ne h _ s
  · rw [keepEntry_chan_ne h, setGranted_chan_ne h, chan_putChan_ne _ _ h]

theorem shedOne_granted (i : Fin 128) (s : State) : ((shedOne i s).chan i).granted = s.shedLeft i := by
  rw [holdings_granted (shedOne_holdings i s), chan_putChan_self]

theorem shedOne_granted_le (i j : Fin 128) (s : State) : ((shedOne i s).chan j).granted ≤ (s.chan j).granted := by
  by_cases h : i = j
  · subst h
    rw [shedOne_granted]
    exact shedLeft_le s i
  · rw [shedOne_chan_ne h]

theorem shedNeed_eq {c : Channel} {k : LoadClass} (h : c.cfg.role.cls = some k) :
    s.shedNeed c = min (s.poolUse - s.budget.pool) (s.classGrant k - s.budget.reserve.get k) := by
  unfold State.shedNeed
  rw [h]

theorem shedNeed_pos {i : Fin 128} (h : s.budget.pool < s.poolUse) (hi : s.Candidate i) : 0 < s.shedNeed (s.chan i) := by
  obtain ⟨-, k, hk, hr⟩ := hi
  rw [shedNeed_eq hk]
  omega

theorem ceilDiv_pos {a b : Nat} (ha : 0 < a) (hb : 0 < b) : 0 < ceilDiv a b := by
  unfold ceilDiv
  exact Nat.div_pos (by omega) hb

/-- A candidate loses at least 1 hW of its non-protected grant. -/
theorem shedLeft_nonProtected_lt {i : Fin 128} (h : s.budget.pool < s.poolUse) (hi : s.Candidate i) :
    ({ s.chan i with granted := s.shedLeft i } : Channel).nonProtected s.stop.state < (s.chan i).nonProtected s.stop.state := by
  have need := shedNeed_pos h hi
  obtain ⟨np, -⟩ := hi
  have part : ({ s.chan i with granted := s.shedLeft i } : Channel).protPart s.stop.state = (s.chan i).protPart s.stop.state := rfl
  cases hr : (s.chan i).cfg.role with
  | unused => simp [Channel.nonProtected, hr] at np
  | light =>
    simp only [Channel.nonProtected, hr] at np ⊢
    rw [part]
    simp only [State.shedLeft, Channel.nonProtected, hr, if_true]
    omega
  | heater | fan | curtain | docklight =>
    simp only [Channel.nonProtected, State.shedLeft, hr, reduceCtorEq, if_false] at np ⊢
    have held := Nat.pos_of_mul_pos_right np
    have rating := Nat.pos_of_mul_pos_left np
    have lost := ceilDiv_pos need rating
    exact Nat.mul_lt_mul_of_pos_right (by omega) rating

theorem shedLeft_lt {i : Fin 128} (h : s.budget.pool < s.poolUse) (hi : s.Candidate i) : s.shedLeft i < (s.chan i).granted := by
  by_contra ge
  have eq : s.shedLeft i = (s.chan i).granted := le_antisymm (shedLeft_le s i) (not_lt.mp ge)
  have := shedLeft_nonProtected_lt h hi
  rw [eq] at this
  exact lt_irrefl _ this

/-- A pass takes at least 1 hW off the excess (R82). -/
theorem shedOne_poolUse_lt {i : Fin 128} (h : s.budget.pool < s.poolUse) (hi : s.Candidate i) : (shedOne i s).poolUse < s.poolUse := by
  have less := shedLeft_nonProtected_lt h hi
  obtain ⟨-, k, hk, hr⟩ := hi
  rw [poolUse_of_holdings (shedOne_holdings i s)]
  have cfg : ({ s.chan i with granted := s.shedLeft i } : Channel).cfg = (s.chan i).cfg := rfl
  generalize ({ s.chan i with granted := s.shedLeft i } : Channel) = c at less cfg ⊢
  have own : (s.putChan i c).poolUsed k < s.poolUsed k := by
    have sum := classGrant_putChan (s := s) i c k
    simp only [Channel.classShare, Channel.inClass, cfg, hk, beq_self_eq_true, if_true] at sum
    unfold State.poolUsed
    show _ - s.budget.reserve.get k < _
    omega
  have others : ∀ m, (s.putChan i c).poolUsed m ≤ s.poolUsed m := by
    intro m
    have grant := classGrant_putChan_le (s := s) i (g := 0) cfg (by omega) m
    rw [ite_self, Nat.add_zero] at grant
    exact Nat.sub_le_sub_right grant _
  have light := others .light
  have heat := others .heat
  have air := others .air
  have dock := others .dock
  unfold State.poolUse
  cases k <;> omega

theorem shedOne_figures (i : Fin 128) (s : State) :
    (shedOne i s).budget.pool = s.budget.pool ∧ (shedOne i s).budget.reserve = s.budget.reserve := by
  obtain ⟨-, -, reserve, pool⟩ := figures_of_unshared (shedOne_unshared s i)
  exact ⟨pool, reserve⟩

/-! ### The loop (R82) -/

theorem shedLoop_of_safe (n : Nat) (h : s.PoolSafe) : shedLoop n s = s := by
  cases n with
  | zero => rfl
  | succ n =>
    unfold shedLoop
    rw [if_pos h]

/-- A pass over a pool that is exceeded takes from a candidate. -/
theorem shedLoop_succ (n : Nat) (h : s.budget.pool < s.poolUse) : ∃ i, s.Candidate i ∧ shedLoop (n + 1) s = shedLoop n (shedOne i s) := by
  obtain ⟨j, hj⟩ := exists_candidate h
  obtain ⟨i, hi⟩ := firstBy_ne_none (p := shedPrecedes s) (List.ne_nil_of_mem (mem_shedCandidates.mpr hj))
  refine ⟨i, mem_shedCandidates.mp (firstBy_mem hi), ?_⟩
  rw [shedLoop, if_neg (Nat.not_le.mpr h), hi]

/-- Enough passes bring the pool use within the pool. -/
theorem shedLoop_poolSafe (n : Nat) (h : s.poolUse - s.budget.pool ≤ n) : (shedLoop n s).PoolSafe := by
  induction n generalizing s with
  | zero => exact Nat.le_of_sub_eq_zero (Nat.le_zero.mp h)
  | succ n ih =>
    obtain safe | exceeded := le_or_gt s.poolUse s.budget.pool
    · rw [shedLoop_of_safe _ safe]
      exact safe
    · obtain ⟨i, hi, e⟩ := shedLoop_succ n exceeded
      rw [e]
      refine ih ?_
      have less := shedOne_poolUse_lt exceeded hi
      rw [(shedOne_figures i s).1]
      omega

theorem shedLoop_granted_le (n : Nat) (s : State) (j : Fin 128) : ((shedLoop n s).chan j).granted ≤ (s.chan j).granted := by
  induction n generalizing s with
  | zero => exact le_rfl
  | succ n ih =>
    unfold shedLoop
    split
    · exact le_rfl
    · split
      · exact le_rfl
      · next i _ => exact (ih _).trans (shedOne_granted_le i j s)

/-- A loop over a pool that is exceeded takes from some channel. -/
theorem shedCount_pos (h : s.budget.pool < s.poolUse) : 0 < shedCount s (shedLoop (s.poolUse - s.budget.pool) s) := by
  obtain ⟨n, hn⟩ : ∃ n, s.poolUse - s.budget.pool = n + 1 := ⟨s.poolUse - s.budget.pool - 1, by omega⟩
  obtain ⟨i, hi, e⟩ := shedLoop_succ n h
  unfold shedCount
  refine List.length_pos_of_mem (a := i) (List.mem_filter.mpr ⟨mem_indices i, ?_⟩)
  rw [hn, e, decide_eq_true_eq]
  calc ((shedLoop n (shedOne i s)).chan i).granted ≤ ((shedOne i s).chan i).granted := shedLoop_granted_le n _ i
    _ = s.shedLeft i := shedOne_granted i s
    _ < (s.chan i).granted := shedLeft_lt h hi

theorem shedCount_self (s : State) : shedCount s s = 0 := by
  simp [shedCount]

/-- Within the pool nothing is shed. -/
theorem shedding_of_safe (cause : ShedCause) (h : s.PoolSafe) : shedding cause s = s := by
  unfold shedding
  dsimp only
  rw [shedLoop_of_safe _ h, shedCount_self, if_pos rfl]

/-- Over the pool the loop sheds, and the notice, the report and the shed condition follow (R84). -/
theorem shedding_of_exceeded (cause : ShedCause) (h : s.budget.pool < s.poolUse) :
    ∃ u, u = shedLoop (s.poolUse - s.budget.pool) s ∧ 0 < shedCount s u ∧
      shedding cause s
        = (reportShed (raise .shed 0 (le8 cause.code ++ le8 (shedCount s u) ++ le32 (s.managedDraw - u.managedDraw)) u)).setBudget
            { u.budget with shed := true } := by
  refine ⟨_, rfl, shedCount_pos h, ?_⟩
  unfold shedding
  dsimp only
  rw [if_neg (Nat.pos_iff_ne_zero.mp (shedCount_pos h))]
  have : ∀ v : State, (reportShed v).budget = v.budget := fun _ => rfl
  rw [this, raise_budget]

theorem reportShed_setBudget_holdings (b : Bool) (k : NoticeKind) (n : Nat) (d : Bytes) (u : State) :
    ((reportShed (raise k n d u)).setBudget { u.budget with shed := b }).holdings = u.holdings := by
  have stop : (reportShed (raise k n d u)).stop = u.stop := raise_stop u k n d
  simp only [State.holdings, State.setBudget_budget, State.setBudget_stop, stop]

/-- Shedding brings the pool use within the pool (R82). -/
theorem shedding_poolSafe (cause : ShedCause) (s : State) : (shedding cause s).PoolSafe := by
  obtain safe | exceeded := le_or_gt s.poolUse s.budget.pool
  · rw [shedding_of_safe cause safe]
    exact safe
  · obtain ⟨u, hu, -, e⟩ := shedding_of_exceeded cause exceeded
    rw [e]
    refine poolSafe_of_holdings (reportShed_setBudget_holdings _ _ _ _ u) ?_
    rw [hu]
    exact shedLoop_poolSafe _ le_rfl

/-- A hand-over of figures leaves the pool use within the pool, whatever it was (R63). -/
theorem handOver_poolSafe (cause : ShedCause) (s : State) : (handOver cause s).PoolSafe := by
  unfold handOver
  exact arbitrate_poolSafe (shedding_poolSafe cause s)

end Sys2Proof.Machine
end

section
/-! SUPPORT. Properties that the operations of the three role units keep, one record at a time: each operation on a door, a climate zone or a
lighting zone writes that record, asks the channels it names for a target, and raises notices and reports (R93 to R107, R125 to R143,
R145 to R154). -/

namespace Sys2Proof.Machine

variable {I : State → Prop} {s t : State}

/-! ### One door -/

/-- A channel is the one a door names in a role (R88). -/
def State.doorNames (s : State) (d : Fin 32) (r : Role) (i : Fin 128) : Prop :=
  (r = .curtain ∧ (s.door d).cfg.curtain = some i) ∨ (r = .docklight ∧ (s.door d).cfg.light = some i)

/-- The property survives what an operation at door d writes: the door's record with its configuration kept, the session log, the phase
totals, notices, and targets of the channels the door names. -/
structure DoorClosed (d : Fin 32) (I : State → Prop) : Prop where
  target : ∀ i r v s, s.doorNames d r i → I s → I (targetChange i r d v false s)
  door : ∀ x s, x.cfg = (s.door d).cfg → I s → I (s.putDoor d x)
  log : ∀ s l n b k, I s → I (s.setDock { s.dock with log := l, lost := n, lossReported := b, nextSession := k })
  totals : ∀ s p, I s → I (s.setTotals p)
  notice : ∀ k n b s, I s → I (raise k n b s)

namespace DoorClosed

variable {d : Fin 32}

theorem accrue (c : DoorClosed d I) (h : I s) : I (accrue d s) := by
  unfold Machine.accrue
  dsimp only
  have put := c.door { s.door d with
    stamp := s.seconds
    session := (s.door d).session.map (fun y => y.accrued (s.accruedEnergy d) (s.seconds - (s.door d).stamp) (s.door d).state) }
    s rfl h
  split
  · exact put
  · split
    · exact c.totals _ _ put
    · exact c.totals _ _ put

theorem refreshRate (c : DoorClosed d I) (h : I s) : I (refreshRate d s) := c.door _ s rfl h

theorem setCurtainRunning (c : DoorClosed d I) (b : Bool) (h : I s) : I (setCurtainRunning d b s) := by
  unfold Machine.setCurtainRunning
  split
  · exact h
  · exact c.refreshRate (c.door _ _ rfl (c.accrue h))

theorem openSession (c : DoorClosed d I) (h : I s) : I (openSession d s) := by
  unfold Machine.openSession
  exact c.log _ _ _ _ _ (c.door _ s rfl h)

theorem offerSession (c : DoorClosed d I) (r : SessionRecord) (h : I s) : I (offerSession r s) := by
  unfold Machine.offerSession
  split
  · exact c.log s _ _ _ _ h
  · dsimp only
    split
    · exact c.log s _ _ _ _ h
    · exact c.notice _ _ _ _ (c.log s _ _ _ _ h)

theorem closeSession (c : DoorClosed d I) (r : EndReason) (h : I s) : I (closeSession d r s) := by
  unfold Machine.closeSession
  split
  · exact h
  · exact c.offerSession _ (c.door _ s rfl h)

theorem sendLight (c : DoorClosed d I) (h : I s) : I (sendLight d s) := by
  unfold Machine.sendLight
  dsimp only
  split
  · exact h
  · next i hi =>
    split
    · exact h
    · exact c.target i _ _ _ (.inr ⟨rfl, by rw [door_putDoor_self]; exact hi⟩) (c.door _ s rfl h)

theorem sendCurtain (c : DoorClosed d I) (h : I s) : I (sendCurtain d s) := by
  unfold Machine.sendCurtain
  dsimp only
  split
  · exact h
  · next i hi =>
    split
    · exact h
    · exact c.target i _ _ _ (.inl ⟨rfl, by rw [door_putDoor_self]; exact hi⟩) (c.door _ s rfl h)

theorem sendDoorTargets (c : DoorClosed d I) (h : I s) : I (sendDoorTargets d s) := c.sendCurtain (c.sendLight h)

theorem enterState (c : DoorClosed d I) (new : DoorState) (r : EndReason) (h : I s) : I (enterState d new r s) := by
  have closed : I (if new.docked then Machine.accrue d s else Machine.closeSession d r (Machine.accrue d s)) := by
    split
    · exact c.accrue h
    · exact c.closeSession r (c.accrue h)
  unfold Machine.enterState
  dsimp only
  refine c.refreshRate ?_
  split
  · exact c.openSession (c.door _ _ rfl closed)
  · exact c.door _ _ rfl closed

theorem countCycle (c : DoorClosed d I) (h : I s) : I (countCycle d s) := c.totals _ _ (c.door _ s rfl h)

theorem moveDoor (c : DoorClosed d I) (new : DoorState) (h : I s) : I (moveDoor d new s) := by
  unfold Machine.moveDoor
  dsimp only
  split
  · exact c.countCycle (c.enterState new _ h)
  · exact c.enterState new _ h

theorem trailerNotice (c : DoorClosed d I) (arrived : Bool) (closed : Option Nat) (h : I s) : I (trailerNotice d arrived closed s) := by
  unfold Machine.trailerNotice
  split <;> exact c.notice _ _ _ _ h

theorem takeRaw (c : DoorClosed d I) (input : DoorInput) (h : I s) : I (takeRaw d input s) := by
  unfold Machine.takeRaw
  cases input <;> exact c.door _ s rfl h

theorem debounceExpired (c : DoorClosed d I) (input : DoorInput) (h : I s) : I (debounceExpired d input s) := by
  have raw := c.takeRaw input h
  have moved := fun new => c.moveDoor new raw
  unfold Machine.debounceExpired
  dsimp only
  split
  · exact raw
  · exact c.sendDoorTargets (moved _)
  · split
    · exact c.trailerNotice _ _ raw
    · exact raw
  · split
    · exact raw
    · refine c.sendDoorTargets ?_
      split
      · exact c.trailerNotice _ _ (moved _)
      · exact moved _

theorem heldExpired (c : DoorClosed d I) (h : I s) : I (heldExpired d s) := by
  unfold Machine.heldExpired
  exact c.sendDoorTargets (c.notice _ _ _ _ (c.totals _ _ (c.door _ _ rfl (c.enterState _ _ h))))

theorem startDebounce (c : DoorClosed d I) (h : I s) : I (startDebounce d s) := c.door _ s rfl h

theorem clearCounters (c : DoorClosed d I) (h : I s) : I (clearCounters d s) := c.door _ s rfl h

theorem recordRaw (c : DoorClosed d I) (input : DoorInput) (b : Bool) (h : I s) : I (recordRaw d input b s) := by
  unfold Machine.recordRaw
  cases input <;> exact c.door _ s rfl h

theorem restartDebounce (c : DoorClosed d I) (input : DoorInput) (h : I s) : I (restartDebounce d input s) := by
  unfold Machine.restartDebounce
  cases input <;> exact c.door _ s rfl h

theorem endCheckAt (c : DoorClosed d I) (k : ContactCheck) (h : I s) : I (endCheckAt k d s) := by
  unfold Machine.endCheckAt
  dsimp only
  split
  · have put := c.door { s.door d with loop := .connected } s rfl h
    split
    · exact c.sendDoorTargets (c.enterState _ _ (c.door _ _ rfl put))
    · exact c.startDebounce put
  · have put := c.door { s.door d with loop := .openLoop } s rfl h
    refine c.startDebounce ?_
    split
    · exact put
    · exact c.sendDoorTargets (c.notice _ _ _ _ (c.enterState _ _ put))

theorem restartDoor (c : DoorClosed d I) (h : I s) : I (restartDoor d s) := by
  unfold Machine.restartDoor
  exact c.refreshRate (c.door _ _ rfl (c.closeSession _ (c.accrue h)))

theorem enablingChange (c : DoorClosed d I) (was now : Bool) (h : I s) : I (enablingChange d was now s) := by
  unfold Machine.enablingChange
  split
  · exact c.startDebounce (c.door _ s rfl h)
  · exact c.door _ _ rfl (c.closeSession _ h)
  · exact h

theorem curtainBound (c : DoorClosed d I) (i : Fin 128) (h : I s) : I (curtainBound i d s) := by
  unfold Machine.curtainBound
  dsimp only
  split
  · next hi => exact c.target i _ _ _ (.inl ⟨rfl, by rw [door_putDoor_self]; exact hi⟩) (c.door _ s rfl h)
  · exact h

theorem docklightBound (c : DoorClosed d I) (i : Fin 128) (h : I s) : I (docklightBound i d s) := by
  unfold Machine.docklightBound
  dsimp only
  split
  · next hi => exact c.target i _ _ _ (.inr ⟨rfl, by rw [door_putDoor_self]; exact hi⟩) (c.door _ s rfl h)
  · exact h

theorem offerCurtain (c : DoorClosed d I) (h : I s) : I (offerCurtain d s) := by
  unfold Machine.offerCurtain
  dsimp only
  split
  · next i hi => exact c.target i _ _ _ (.inl ⟨rfl, by rw [door_putDoor_self]; exact hi⟩) (c.door _ s rfl h)
  · exact c.door _ s rfl h

theorem offerLight (c : DoorClosed d I) (h : I s) : I (offerLight d s) := by
  unfold Machine.offerLight
  dsimp only
  split
  · next i hi => exact c.target i _ _ _ (.inr ⟨rfl, by rw [door_putDoor_self]; exact hi⟩) (c.door _ s rfl h)
  · exact c.door _ s rfl h

/-- A changed curtain channel; `release` is target 0 to the old one. -/
theorem changeCurtain (c : DoorClosed d I) (old : Option (Fin 128))
    (release : ∀ i s, old = some i → I s → I (targetChange i .curtain d 0 false s)) (h : I s) : I (changeCurtain d old s) := by
  unfold Machine.changeCurtain
  split
  · exact h
  · refine c.setCurtainRunning _ (c.offerCurtain ?_)
    unfold releaseOld
    split
    · exact release _ s rfl h
    · exact h

/-- A changed dock light channel; `release` is target 0 to the old one. -/
theorem changeLight (c : DoorClosed d I) (old : Option (Fin 128))
    (release : ∀ i s, old = some i → I s → I (targetChange i .docklight d 0 false s)) (h : I s) : I (changeLight d old s) := by
  unfold Machine.changeLight
  split
  · exact h
  · refine c.offerLight ?_
    unfold releaseOld
    split
    · exact release _ s rfl h
    · exact h

/-- An accepted CONFIG DOOR (R91): `config` is the storing of the configuration, the releases are targets 0 to the channels it replaces. -/
theorem configureDoor (c : DoorClosed d I) (n : DoorConfig)
    (config : ∀ u, I u → (u.door d).cfg = (s.door d).cfg → I (u.putDoor d { u.door d with cfg := n }))
    (curtain : ∀ i u, (s.door d).cfg.curtain = some i → I u → I (targetChange i .curtain d 0 false u))
    (light : ∀ i u, (s.door d).cfg.light = some i → I u → I (targetChange i .docklight d 0 false u)) (h : I s) :
    I (configureDoor d n s) := by
  have same : ((Machine.accrue d s).door d).cfg = (s.door d).cfg := by
    unfold Machine.accrue
    dsimp only
    split
    · rw [door_putDoor_self]
    · split
      · exact (congrArg Door.cfg (door_putDoor_self s d _) :)
      · exact (congrArg Door.cfg (door_putDoor_self s d _) :)
  unfold Machine.configureDoor
  dsimp only
  exact c.refreshRate (c.sendDoorTargets (c.changeLight _ light (c.changeCurtain _ curtain
    (c.enablingChange _ _ (config _ (c.accrue h) same)))))

end DoorClosed

/-- The property survives the operations at every door, a change of a door's configuration, and the contact check. -/
structure DockClosed (I : State → Prop) : Prop where
  doors : ∀ d, DoorClosed d I
  config : ∀ d n s, I s → I (s.putDoor d { s.door d with cfg := n })
  target : ∀ d i r s, r = .curtain ∨ r = .docklight → I s → I (targetChange i r (d : Fin 32) 0 false s)
  check : ∀ s k, I s → I (s.setDock { s.dock with check := k })

namespace DockClosed

theorem dockPlantChange (c : DockClosed I) (h : I s) : I (dockPlantChange s) :=
  forEach_keeps (fun d _ hu => (c.doors d).sendDoorTargets hu) _ s h

theorem dockRestart (c : DockClosed I) (h : I s) : I (dockRestart s) := by
  unfold Machine.dockRestart
  dsimp only
  refine forEach_keeps (fun d _ hu => (c.doors d).restartDoor hu) _ _ ?_
  split
  · exact h
  · exact (c.doors 0).notice _ _ _ _ (c.check s _ h)

theorem configureDoor (c : DockClosed I) (d : Fin 32) (n : DoorConfig) (h : I s) : I (configureDoor d n s) :=
  (c.doors d).configureDoor n (fun u hu _ => c.config d n u hu) (fun i u _ hu => c.target d i _ u (.inl rfl) hu)
    (fun i u _ hu => c.target d i _ u (.inr rfl) hu) h

theorem commands (c : DockClosed I) : DockCommands I where
  configureDoor d n _ _ h := c.configureDoor d n h
  clearCounters d _ h := (c.doors d).clearCounters h
  beginCheck s h := by
    unfold Machine.beginCheck
    exact forEach_keeps (fun d u hu =>
      (c.doors d).door { u.door d with contactT := none, presenceT := none } u rfl hu) _ _ (c.check s _ h)
  endCheck k e s _ h := by
    unfold Machine.endCheck
    exact (c.doors 0).notice _ _ _ _ (forEach_keeps (fun d _ hu => (c.doors d).endCheckAt k hu) _ _ (c.check s _ h))
  readSessions _ _ s h := (c.doors 0).log s _ _ _ _ h
  recordRaw d i a _ h := (c.doors d).recordRaw i a h
  restartDebounce d i _ h := (c.doors d).restartDebounce i h
  debounceExpired d i _ h := (c.doors d).debounceExpired i h
  heldExpired d _ _ h := (c.doors d).heldExpired h
  loopSample _ _ _ s _ h := c.check s _ h

end DockClosed

/-! ### One climate zone -/

/-- A channel is the one a climate zone names in a role (R122). -/
def State.zoneNames (s : State) (z : Fin 12) (r : Role) (i : Fin 128) : Prop :=
  (r = .heater ∧ (s.zone z).cfg.heater = some i) ∨ (r = .fan ∧ (s.zone z).cfg.fan = some i)

/-- The property survives what an operation at climate zone z writes: the zone's record with its configuration kept, the zone ΔT event, the
free-value counter, notices, and targets of the channels the zone names. -/
structure ZoneClosed (z : Fin 12) (I : State → Prop) : Prop where
  target : ∀ i r v m s, s.zoneNames z r i → I s → I (targetChange i r z v m s)
  zone : ∀ x s, x.cfg = (s.zone z).cfg → I s → I (s.putZone z x)
  deltaT : ∀ v s, I s → I (zoneDTEvent z v s)
  draw : ∀ s, I s → I s.draw
  notice : ∀ k n b s, I s → I (raise k n b s)

namespace ZoneClosed

variable {z : Fin 12}

theorem sendHeater (c : ZoneClosed z I) (v : Nat) (h : I s) : I (sendHeater z v s) := by
  unfold Machine.sendHeater
  dsimp only
  split
  · exact h
  · have put := c.zone { s.zone z with heaterTarget := v } s rfl h
    split
    · next i hi =>
      split
      · exact c.target i _ _ _ _ (.inl ⟨rfl, by rw [zone_putZone_self]; exact hi⟩) put
      · exact put
    · exact put

theorem sendFan (c : ZoneClosed z I) (v : Nat) (h : I s) : I (sendFan z v s) := by
  unfold Machine.sendFan
  dsimp only
  split
  · exact h
  · have put := c.zone { s.zone z with fanTarget := v } s rfl h
    split
    · next i hi =>
      split
      · exact c.target i _ _ _ _ (.inr ⟨rfl, by rw [zone_putZone_self]; exact hi⟩) put
      · exact put
    · exact put

theorem setVent (c : ZoneClosed z I) (v : VentState) (h : I s) : I (setVent z v s) := by
  unfold Machine.setVent
  dsimp only
  split
  · exact c.notice _ _ _ _ (c.zone _ s rfl h)
  · split
    · exact c.notice _ _ _ _ (c.zone _ s rfl h)
    · exact c.zone _ s rfl h

theorem ventilate (c : ZoneClosed z I) (h : I s) : I (ventilate z s) := c.sendFan _ (c.zone _ _ rfl (c.setVent _ h))

theorem heat (c : ZoneClosed z I) (h : I s) : I (heat z s) := c.sendHeater _ (c.zone _ s rfl h)

theorem evaluate (c : ZoneClosed z I) (h : I s) : I (evaluate z s) := by
  unfold Machine.evaluate
  dsimp only
  have u := c.ventilate (c.heat h)
  generalize Machine.ventilate z (Machine.heat z s) = t at u ⊢
  exact c.draw _ (c.deltaT _ _ (c.zone _ t rfl u))

theorem evaluationExpired (c : ZoneClosed z I) (h : I s) : I (evaluationExpired z s) := by
  have u := c.evaluate h
  unfold Machine.evaluationExpired
  dsimp only
  generalize Machine.evaluate z s = t at u ⊢
  exact c.zone _ t rfl u

theorem stopZone (c : ZoneClosed z I) (h : I s) : I (stopZone z s) := by
  unfold Machine.stopZone
  exact c.sendFan _ (c.zone _ _ rfl (c.setVent _ (c.sendHeater _ (c.zone _ s rfl h))))

theorem heaterBound (c : ZoneClosed z I) (i : Fin 128) (h : I s) : I (heaterBound i z s) := by
  unfold Machine.heaterBound
  split
  · next hi => exact c.target i _ _ _ s (.inl ⟨rfl, hi⟩) h
  · exact h

theorem fanBound (c : ZoneClosed z I) (i : Fin 128) (h : I s) : I (fanBound i z s) := by
  unfold Machine.fanBound
  split
  · next hi => exact c.target i _ _ _ s (.inr ⟨rfl, hi⟩) h
  · exact h

theorem changeHeater (c : ZoneClosed z I) (n : Option (Fin 128)) (h : I s) : I (changeHeater z n s) := by
  unfold Machine.changeHeater
  dsimp only
  split
  · exact h
  · refine c.zone _ _ rfl ?_
    split
    · next i hi => exact c.target i _ _ _ s (.inl ⟨rfl, hi⟩) h
    · exact h

theorem changeFan (c : ZoneClosed z I) (n : Option (Fin 128)) (h : I s) : I (changeFan z n s) := by
  unfold Machine.changeFan
  dsimp only
  split
  · exact h
  · refine c.zone _ _ rfl ?_
    split
    · next i hi => exact c.target i _ _ _ s (.inr ⟨rfl, hi⟩) h
    · exact h

end ZoneClosed

/-- The property survives the operations at every climate zone, a change of the zone records, and of the points. -/
structure ClimateClosed (I : State → Prop) : Prop where
  zones : ∀ z, ZoneClosed z I
  climate : ∀ s k, I s → I (s.setClimate k)

namespace ClimateClosed

theorem climateStop (c : ClimateClosed I) (h : I s) : I (climateStop s) := forEach_keeps (fun z _ hu => (c.zones z).stopZone hu) _ s h

theorem climateResume (c : ClimateClosed I) (h : I s) : I (climateResume s) := forEach_keeps (fun z _ hu => (c.zones z).evaluate hu) _ s h

theorem climateRestart (c : ClimateClosed I) (h : I s) : I (climateRestart s) := c.climate s _ h

theorem sampleNotice (c : ClimateClosed I) (a b : SensorPoint) (n : Nat) (h : I s) : I (sampleNotice a b n s) := by
  unfold Machine.sampleNotice
  split
  · exact (c.zones 0).notice _ _ _ _ h
  · exact h

theorem commands (c : ClimateClosed I) : ClimateCommands I where
  configureZone z n s h := c.climate _ _ ((c.zones z).changeFan _ ((c.zones z).changeHeater _ h))
  configurePoints _ s h := c.climate s _ h
  clearTemps s h := c.climate s _ h
  clearExhausts s h := c.climate s _ h
  tempSampled p x s h := by
    unfold Machine.tempSampled
    exact c.sampleNotice _ _ _ (c.climate s _ h)
  tempWentStale p s h := by
    unfold Machine.tempWentStale
    exact (c.zones 0).notice _ _ _ _ (c.climate s _ h)
  exhaustSampled p x s h := by
    unfold Machine.exhaustSampled
    exact c.sampleNotice _ _ _ (c.climate s _ h)
  exhaustWentStale p s h := by
    unfold Machine.exhaustWentStale
    exact (c.zones 0).notice _ _ _ _ (c.climate s _ h)
  evaluationExpired z _ h := (c.zones z).evaluationExpired h

end ClimateClosed

/-! ### One lighting zone -/

/-- The property survives what an operation at lighting zone z writes: the zone's record with its configuration kept, and the target and
protected minimum of the channel the zone names. -/
structure LightClosed (z : Fin 24) (I : State → Prop) : Prop where
  target : ∀ i v s, (s.light z).cfg.channel = some i → I s → I (targetChange i .light z v false s)
  minimum : ∀ i v s, (s.light z).cfg.channel = some i → v = 0 ∨ v = (s.light z).cfg.protMin → I s → I (protectedMinimum i z v s)
  light : ∀ x s, x.cfg = (s.light z).cfg → I s → I (s.putLight z x)

namespace LightClosed

variable {z : Fin 24}

theorem deriveLight (c : LightClosed z I) (h : I s) : I (deriveLight z s) := by
  have put := c.light (s.derivedZone z) s rfl h
  obtain ⟨-, e⟩ | ⟨i, hi, -, -, e⟩ := deriveLight_cases z s
  · rw [e]
    exact put
  · rw [e]
    exact c.target i _ _ (by rw [light_putLight_self]; exact hi) put

theorem pulse (c : LightClosed z I) (h : I s) : I (pulse z s) := by
  unfold Machine.pulse
  dsimp only
  split
  · exact h
  · split
    · exact c.deriveLight (c.light _ s rfl h)
    · exact c.light _ s rfl h

theorem presenceExpired (c : LightClosed z I) (h : I s) : I (presenceExpired z s) := c.deriveLight (c.light _ s rfl h)

theorem sendProtected (c : LightClosed z I) (h : I s) : I (sendProtected z s) := by
  unfold Machine.sendProtected
  split
  · next i hi => exact c.minimum i _ s hi (.inr rfl) h
  · exact h

theorem lightBound (c : LightClosed z I) (i : Fin 128) (h : I s) : I (lightBound i z s) := by
  unfold Machine.lightBound
  dsimp only
  split
  · next hi =>
    have name : ((s.putLight z { s.light z with lastSent := (s.light z).target }).light z).cfg.channel = some i := by
      rw [light_putLight_self]
      exact hi
    refine c.target i _ _ ?_ (c.minimum i _ _ name (.inr (by rw [light_putLight_self])) (c.light _ s rfl h))
    rw [light_of_lighting (protectedMinimum_lighting _ _ _ _)]
    exact name
  · exact h

theorem releaseLight (c : LightClosed z I) (n : Option (Fin 128)) (h : I s) : I (releaseLight z n s) := by
  unfold Machine.releaseLight
  split
  · next i hi =>
    split
    · exact h
    · refine c.minimum i _ _ ?_ (.inl rfl) (c.target i _ s hi h)
      rw [light_of_lighting (targetChange_lighting _ _ _ _ _ _)]
      exact hi
  · exact h

/-- An accepted CONFIG LIGHT ZONE (R146): `config` is the storing of the configuration. -/
theorem configureLight (c : LightClosed z I) (n : LightConfig)
    (config : ∀ x u, x.cfg = n → I u → I (u.putLight z x)) (h : I s) : I (configureLight z n s) := by
  unfold Machine.configureLight
  exact c.deriveLight (c.sendProtected (config _ _ rfl (c.releaseLight _ h)))

end LightClosed

/-- The property survives the operations at every lighting zone, and of the commissioning walk. -/
structure LightingClosed (I : State → Prop) : Prop where
  zones : ∀ z, LightClosed z I
  unit : ∀ s l, (∀ z, (look l.zones z).cfg = (s.light z).cfg) → I s → I (s.setLighting l)
  notice : ∀ k n b s, I s → I (raise k n b s)

namespace LightingClosed

theorem deriveLights (c : LightingClosed I) (h : I s) : I (deriveLights s) :=
  forEach_keeps (fun z _ hu => (c.zones z).deriveLight hu) _ s h

theorem lightingTurn (c : LightingClosed I) (h : I s) : I (lightingTurn s) := by
  have kept : ∀ before after hold (x : LightZone), (turnPresence before after hold x).cfg = x.cfg := by
    intro before after hold x
    unfold turnPresence
    split
    · rfl
    · split
      · split <;> rfl
      · split <;> rfl
  unfold Machine.lightingTurn
  dsimp only
  refine c.deriveLights (c.unit _ _ (fun _ => rfl) ?_)
  exact forEach_keeps (fun z u hu => (c.zones z).light _ u (kept _ _ _ _) hu) _ s h

theorem markWalkEnded (c : LightingClosed I) (e : WalkEnding) (h : I s) : I (markWalkEnded e s) :=
  c.notice _ _ _ _ (c.unit s _ (fun _ => rfl) h)

theorem endWalk (c : LightingClosed I) (e : WalkEnding) (h : I s) : I (endWalk e s) := c.deriveLights (c.markWalkEnded e h)

theorem beginVisit (c : LightingClosed I) (n : Nat) (z : Fin 24) (r : List (Fin 24)) (b : Nat) (h : I s) : I (beginVisit n z r b s) :=
  c.deriveLights (c.unit s _ (fun _ => rfl) h)

theorem startWalk (c : LightingClosed I) (n : Nat) (l : List (Fin 24)) (h : I s) : I (startWalk n l s) := by
  have cleared := c.unit s { s.lighting with zones := s.lighting.zones.map fun x => { x with walkResult := none } }
    (fun z => by rw [look_map]; rfl) h
  unfold Machine.startWalk
  dsimp only
  split
  · exact c.endWalk _ cleared
  · exact c.beginVisit _ _ _ _ cleared

theorem dwellExpired (c : LightingClosed I) (w : LightWalk) (h : I s) : I (dwellExpired w s) := by
  have put := (c.zones w.visiting).light { s.light w.visiting with walkResult := some (s.zoneDriven w.visiting) } s rfl h
  unfold Machine.dwellExpired
  dsimp only
  split
  · exact c.endWalk _ put
  · exact c.beginVisit _ _ _ _ put

theorem lightingStop (c : LightingClosed I) (h : I s) : I (lightingStop s) := by
  unfold Machine.lightingStop
  split
  · exact c.endWalk _ h
  · exact c.deriveLights h

theorem lightingRestart (c : LightingClosed I) (h : I s) : I (lightingRestart s) := by
  have unsent : ∀ u, I u →
      I (u.setLighting { u.lighting with zones := u.lighting.zones.map fun x => { x with lastSent := 0 } }) :=
    fun u hu => c.unit u _ (fun z => by rw [look_map]; rfl) hu
  unfold Machine.lightingRestart
  dsimp only
  split
  · exact c.deriveLights (unsent _ (c.markWalkEnded _ h))
  · exact c.deriveLights (unsent _ h)

theorem lightingStart (c : LightingClosed I) (h : I s) : I (lightingStart s) := by
  unfold Machine.lightingStart
  dsimp only
  have timed := forEach_keeps (I := I) (f := fun z u => u.putLight z { u.light z with presenceT := u.startPresence z })
    (fun z u hu => (c.zones z).light _ u rfl hu) (indices 24) s h
  generalize forEach (indices 24) _ s = t at timed ⊢
  exact c.deriveLights (forEach_keeps (fun z _ hu => (c.zones z).sendProtected hu) _ _ (c.unit t _ (fun _ => rfl) timed))

theorem commands (c : LightingClosed I) (config : ∀ z x n s, n.protMin ≤ 1000 → x.cfg = n → I s → I (s.putLight z x)) :
    LightingCommands I where
  configureLight z n _ hn h := (c.zones z).configureLight n (fun x u hx hu => config z x n u hn hx hu) h
  startWalk n l _ _ h := c.startWalk n l h
  endWalk e _ h := c.endWalk e h
  pulse z _ h := (c.zones z).pulse h
  presenceExpired z _ _ h := (c.zones z).presenceExpired h
  dwellExpired w _ _ h := c.dwellExpired w h

end LightingClosed

/-- The role unit that a channel is bound to answers (R52, R100, R133, R150). -/
theorem channelBound_keeps (dock : ∀ d, DoorClosed d I) (climate : ∀ z, ZoneClosed z I) (lighting : ∀ z, LightClosed z I) (i : Fin 128)
    (h : I s) : I (channelBound i s) := by
  obtain e | ⟨z, -, -, e⟩ | ⟨z, -, -, e⟩ | ⟨z, -, -, e⟩ | ⟨d, -, -, e⟩ | ⟨d, -, -, e⟩ := channelBound_cases i s <;> rw [e]
  · exact h
  · exact (climate z).heaterBound i h
  · exact (climate z).fanBound i h
  · exact (lighting z).lightBound i h
  · exact (dock d).curtainBound i h
  · exact (dock d).docklightBound i h

end Sys2Proof.Machine
end

section
/-! SUPPORT. Four laws that every channel obeys between commands, and how the operations of the Load Budget Unit keep them: an operation at a
channel writes that channel in steps between which its queue entry may be behind, and ends with the upkeep of the queue (R38, R44, R47,
R53, R75). -/

namespace Sys2Proof.Machine

variable {s t : State}

/-! ### The laws -/

/-- The output is commanded as the channel stands (R53); the queue entry is exact (R75); a step channel stays within its steps (R38, R44); a
LIGHT channel holds its protected part, and no protected minimum is above 1000 ‰ (R47). -/
inductive ChannelLaw
  | output
  | queue
  | steps
  | protectedPart

/-- A channel obeys a law while the plant is in a plant-stop state. -/
def Channel.Obeys (p : PlantState) (c : Channel) : ChannelLaw → Prop
  | .output => c.out = c.command
  | .queue => c.entry.isSome = c.wantsEntry p
  | .steps => c.cfg.role.isStep = true → c.target ≤ c.cfg.steps ∧ c.granted ≤ c.cfg.steps
  | .protectedPart => (c.cfg.role = .light → c.protPart p ≤ c.granted) ∧ c.cfg.protMin ≤ 1000

/-- Every channel obeys a law. -/
def State.Obeys (L : ChannelLaw) (s : State) : Prop := ∀ i, (s.chan i).Obeys s.stop.state L

/-- Every channel obeys a law, but that the queue entry of channel i may be behind. -/
def State.ObeysBut (i : Fin 128) (L : ChannelLaw) (s : State) : Prop :=
  (∀ j, i ≠ j → (s.chan j).Obeys s.stop.state L) ∧ (L ≠ .queue → (s.chan i).Obeys s.stop.state L)

variable {L : ChannelLaw}

theorem obeys_of_commanded {c : Channel} {p : PlantState} (h : L ≠ .output → c.Obeys p L) :
    ({ c with out := c.command } : Channel).Obeys p L := by
  cases L with
  | output => rfl
  | queue => exact h (by simp)
  | steps => exact h (by simp)
  | protectedPart => exact h (by simp)

/-- Only whether the plant is RUNNING counts. -/
theorem Channel.Obeys.congr_plant {c : Channel} {p q : PlantState} (hp : p ≠ .running) (hq : q ≠ .running) (h : c.Obeys p L) :
    c.Obeys q L := by
  cases L with
  | output => exact h
  | queue =>
    have off : ∀ r : PlantState, r ≠ .running → c.wantsEntry r = false := by
      intro r hr
      simp [Channel.wantsEntry, hr]
    exact h.trans ((off p hp).trans (off q hq).symm)
  | steps => exact h
  | protectedPart => simpa [Channel.Obeys, Channel.protPart, hp, hq] using h

theorem units_mono {r a b : Nat} (h : a ≤ b) : units r a ≤ units r b := by
  unfold units ceilDiv
  have := Nat.mul_le_mul_left r h
  omega

/-- The laws but that of the queue ask no more of a channel in RUNNING than in any plant-stop state. -/
theorem Channel.Obeys.running {c : Channel} {p : PlantState} (hL : L ≠ .queue) (h : c.Obeys p L) : c.Obeys .running L := by
  cases L with
  | output => exact h
  | queue => exact absurd rfl hL
  | steps => exact h
  | protectedPart =>
    refine ⟨fun hl => ?_, h.2⟩
    have part := h.1 hl
    simp only [Channel.protPart, hl] at part ⊢
    have := units_mono (r := c.cfg.rating) h.2
    split at part
    · simpa using part
    · simpa using this.trans part

namespace State.Obeys

theorem of_chan (h : s.Obeys L) (hc : ∀ i, t.chan i = s.chan i) (hs : t.stop.state = s.stop.state) : t.Obeys L := by
  intro i
  rw [hc, hs]
  exact h i

theorem of_budget (h : s.Obeys L) (hb : t.budget = s.budget) (hs : t.stop.state = s.stop.state) : t.Obeys L :=
  h.of_chan (fun i => chan_congr (by rw [hb]) i) hs

theorem but (h : s.Obeys L) (i : Fin 128) : s.ObeysBut i L := ⟨fun j _ => h j, fun _ => h i⟩

/-- An operation that writes one channel. -/
theorem write (h : s.Obeys L) {i : Fin 128} (hne : ∀ j, i ≠ j → t.chan j = s.chan j) (hs : t.stop.state = s.stop.state)
    (hi : (t.chan i).Obeys s.stop.state L) : t.Obeys L := by
  intro j
  rw [hs]
  by_cases hij : i = j
  · exact hij ▸ hi
  · exact hne j hij ▸ h j

theorem putChan (h : s.Obeys L) (i : Fin 128) {c : Channel} (hc : L ≠ .output → c.Obeys s.stop.state L) : (s.putChan i c).Obeys L :=
  h.write (fun _ hj => chan_putChan_ne s _ hj) rfl (by rw [chan_putChan_self]; exact obeys_of_commanded hc)

theorem setGranted (h : s.Obeys L) (i : Fin 128) {g : Nat} (hg : L ≠ .output → ({ s.chan i with granted := g } : Channel).Obeys s.stop.state L) :
    (setGranted i g s).Obeys L :=
  (h.putChan i hg).of_chan (fun j => setGranted_chan i j g s) (by simp)

end State.Obeys

/-- At its channel the upkeep of the queue asks nothing of the entry that was there. -/
theorem keepEntry_obeys_self (m : Bool) (i : Fin 128) (h : L ≠ .queue → (s.chan i).Obeys s.stop.state L) :
    ((keepEntry m i s).chan i).Obeys s.stop.state L := by
  obtain ⟨o, hc, ho⟩ := keepEntry_chan_self m i s
  rw [hc]
  cases L with
  | queue =>
    change (s.entryKept m (s.chan i)).isSome = (s.chan i).wantsEntry s.stop.state
    unfold State.entryKept
    cases (s.chan i).wantsEntry s.stop.state <;> cases (s.chan i).entry <;> rfl
  | output =>
    obtain rfl | rfl := ho
    · rfl
    · exact h (by simp)
  | steps => exact h (by simp)
  | protectedPart => exact h (by simp)

namespace State.ObeysBut

variable {i : Fin 128}

theorem write (h : s.ObeysBut i L) (hne : ∀ j, i ≠ j → t.chan j = s.chan j) (hs : t.stop.state = s.stop.state)
    (hi : L ≠ .queue → (t.chan i).Obeys s.stop.state L) : t.ObeysBut i L :=
  ⟨fun j hj => by rw [hs, hne j hj]; exact h.1 j hj, fun hq => by rw [hs]; exact hi hq⟩

theorem putChan (h : s.ObeysBut i L) {c : Channel} (hc : L ≠ .queue → L ≠ .output → c.Obeys s.stop.state L) : (s.putChan i c).ObeysBut i L :=
  h.write (fun _ hj => chan_putChan_ne s _ hj) rfl (fun hq => by rw [chan_putChan_self]; exact obeys_of_commanded (hc hq))

theorem setGranted (h : s.ObeysBut i L) {g : Nat}
    (hg : L ≠ .queue → L ≠ .output → ({ s.chan i with granted := g } : Channel).Obeys s.stop.state L) : (setGranted i g s).ObeysBut i L :=
  (h.putChan hg).write (fun j _ => setGranted_chan i j g s) (by simp)
    (fun hq => by rw [setGranted_chan]; exact (h.putChan hg).2 hq)

/-- The upkeep of the queue brings the entry of its channel up. -/
theorem keepEntry (h : s.ObeysBut i L) (m : Bool) : (keepEntry m i s).Obeys L := by
  intro j
  rw [keepEntry_stop]
  by_cases hij : i = j
  · subst hij
    exact keepEntry_obeys_self m i h.2
  · rw [keepEntry_chan_ne hij]
    exact h.1 j hij

end State.ObeysBut

theorem keepEntry_obeys (m : Bool) (i : Fin 128) (h : s.Obeys L) : (keepEntry m i s).Obeys L := (h.but i).keepEntry m

/-! ### The walk -/

/-- The two laws of amounts: where the wiring stands, they ask only that a step channel's amounts stay within its steps and that a LIGHT
channel keeps its protected part. -/
theorem Channel.Obeys.amounts {c d : Channel} {p : PlantState} (h : c.Obeys p L) (hcfg : d.cfg = c.cfg)
    (hstep : c.cfg.role.isStep = true → c.target ≤ c.cfg.steps → c.granted ≤ c.cfg.steps → d.target ≤ c.cfg.steps ∧ d.granted ≤ c.cfg.steps)
    (hlight : c.cfg.role = .light → c.protPart p ≤ c.granted → c.protPart p ≤ d.granted) (hq : L ≠ .queue) (ho : L ≠ .output) :
    d.Obeys p L := by
  cases L with
  | output => exact absurd rfl ho
  | queue => exact absurd rfl hq
  | steps =>
    simp only [Channel.Obeys, hcfg] at h ⊢
    exact fun hr => hstep hr (h hr).1 (h hr).2
  | protectedPart =>
    have part : d.protPart p = c.protPart p := by simp only [Channel.protPart, hcfg]
    simp only [Channel.Obeys, hcfg, part] at h ⊢
    exact ⟨fun hr => hlight hr (h.1 hr), h.2⟩

/-- The two laws of amounts ask nothing of timers, serials and trips. -/
theorem Channel.Obeys.same_amounts {c d : Channel} {p : PlantState} (h : c.Obeys p L) (hcfg : d.cfg = c.cfg) (ht : d.target = c.target)
    (hg : d.granted = c.granted) (hq : L ≠ .queue) (ho : L ≠ .output) : d.Obeys p L :=
  h.amounts hcfg (fun _ a b => ⟨ht ▸ a, hg ▸ b⟩) (fun _ a => hg ▸ a) hq ho

/-- A LIGHT or UNUSED channel's queue entry is not its grant's affair. -/
theorem Channel.Obeys.queue_of_not_step {c d : Channel} {p : PlantState} (h : c.Obeys p .queue) (hcfg : d.cfg = c.cfg)
    (hr : c.cfg.role.isStep = false) (he : d.entry = c.entry) : d.Obeys p .queue := by
  simp only [Channel.Obeys, Channel.wantsEntry, hcfg, he, hr, Bool.false_and] at h ⊢
  exact h

theorem State.ObeysBut.takeSerial {i : Fin 128} (h : s.ObeysBut i L) : (takeSerial i s).ObeysBut i L := by
  have put := h.putChan (c := { s.chan i with serial := satAdd Config.max32 s.budget.lastSerial 1 })
    fun hq ho => (h.2 hq).same_amounts rfl rfl rfl hq ho
  exact put.write (fun j _ => takeSerial_chan i j s) rfl (fun hq => by rw [takeSerial_chan]; exact put.2 hq)

theorem takeSerial_chan_self (i : Fin 128) (s : State) : ∃ n o, (takeSerial i s).chan i = { s.chan i with serial := n, out := o } :=
  ⟨_, _, (takeSerial_chan i i s).trans (chan_putChan_self s i _)⟩

theorem takeSerial_obeys (i : Fin 128) (h : s.Obeys L) : (takeSerial i s).Obeys L := by
  refine (h.putChan i (c := { s.chan i with serial := satAdd Config.max32 s.budget.lastSerial 1 }) fun ho => ?_).of_chan
    (fun j => takeSerial_chan i j s) rfl
  cases L with
  | queue => exact h i
  | output => exact absurd rfl ho
  | steps => exact h i
  | protectedPart => exact h i

theorem stepUp_obeys (i : Fin 128) {k : Nat} (hk : k ≤ (s.chan i).wanted) (h : s.Obeys L) : (stepUp i k s).Obeys L := by
  have timed := (h.but i).putChan (c := { s.chan i with minOnT := startTimer (s.chan i).cfg.minOn })
    fun hq ho => (h i).same_amounts rfl rfl rfl hq ho
  unfold stepUp
  dsimp only
  refine (timed.takeSerial.setGranted fun hq ho => ?_).keepEntry false
  obtain ⟨n, o, hc⟩ := takeSerial_chan_self i (s.putChan i { s.chan i with minOnT := startTimer (s.chan i).cfg.minOn })
  rw [hc, chan_putChan_self]
  refine (h i).amounts rfl (fun _ ht hg => ⟨ht, ?_⟩) (fun _ hp => Nat.le_add_right_of_le hp) hq ho
  unfold Channel.wanted at hk
  dsimp only
  omega

theorem lightVisit_obeys (i : Fin 128) (h : s.Obeys L) : (lightVisit i s).Obeys L := by
  unfold lightVisit
  dsimp only
  split
  · exact h
  · next hg =>
    have hl : (s.chan i).cfg.role = .light := by
      by_contra hl
      rw [deficit_of_not_light hl, Nat.zero_min] at hg
      exact hg rfl
    refine takeSerial_obeys i (h.putChan i fun ho => ?_)
    by_cases hq : L = .queue
    · subst hq
      exact (h i).queue_of_not_step rfl (by rw [hl]; rfl) rfl
    · exact (h i).amounts rfl (fun hr => by rw [hl] at hr; cases hr) (fun _ hp => Nat.le_add_right_of_le hp) hq ho

theorem visitQueue_obeys (l : List (Fin 128)) (h : s.Obeys L) : (visitQueue l s).Obeys L := by
  induction l generalizing s with
  | nil => exact h
  | cons i l ih =>
    have some_steps : ¬ (s.chan i).wanted ≤ s.payable (s.chan i) →
        (if 0 < s.payable (s.chan i) then stepUp i (s.payable (s.chan i)) s else s).Obeys L := by
      intro hw
      split
      · exact stepUp_obeys i (by omega) h
      · exact h
    unfold visitQueue
    dsimp only
    split
    · exact ih h
    · split
      · exact ih h
      · split
        · exact ih (stepUp_obeys i le_rfl h)
        · next hw =>
          split
          · exact some_steps hw
          · exact ih (some_steps hw)

theorem walk_obeys (h : s.Obeys L) : (walk s).Obeys L :=
  visitQueue_obeys _ (forEach_keeps (fun i _ hu => lightVisit_obeys i hu) _ s h)

theorem raise_obeys (k : NoticeKind) (n : Nat) (b : Bytes) (h : s.Obeys L) : (raise k n b s).Obeys L := h.of_budget (by simp) (by simp)

theorem settleShed_obeys (h : s.Obeys L) : (settleShed s).Obeys L := by
  unfold settleShed
  split
  · exact h.of_chan (fun _ => rfl) rfl
  · exact h

theorem settleTight_obeys (h : s.Obeys L) : (settleTight s).Obeys L := by
  unfold settleTight
  dsimp only
  split
  · exact h
  · exact raise_obeys _ _ _ (h.of_chan (fun _ => rfl) rfl)

theorem endEvent_obeys (h : s.Obeys L) : (endEvent s).Obeys L := settleTight_obeys (settleShed_obeys h)

theorem arbitrate_obeys (h : s.Obeys L) : (arbitrate s).Obeys L := endEvent_obeys (walk_obeys h)

/-! ### Shedding -/

theorem shedOne_obeys (i : Fin 128) (h : s.Obeys L) : (shedOne i s).Obeys L := by
  unfold shedOne
  dsimp only
  split
  · next hl =>
    refine h.setGranted i fun ho => ?_
    by_cases hq : L = .queue
    · subst hq
      exact (h i).queue_of_not_step rfl (by rw [hl]; rfl) rfl
    · refine (h i).amounts rfl (fun hr => by rw [hl] at hr; cases hr) (fun _ hp => ?_) hq ho
      have part : (s.chan i).nonProtected s.stop.state = (s.chan i).granted - (s.chan i).protPart s.stop.state := by
        simp only [Channel.nonProtected, hl]
      rw [part]
      dsimp only
      omega
  · next hl =>
    have timed := (h.but i).putChan (c := { s.chan i with minOffT := startTimer (s.chan i).cfg.minOff })
      fun hq ho => (h i).same_amounts rfl rfl rfl hq ho
    refine (timed.setGranted fun hq ho => ?_).keepEntry false
    rw [chan_putChan_self]
    exact (h i).amounts rfl (fun _ ht hg => ⟨ht, (Nat.sub_le _ _).trans hg⟩) (fun hr => absurd hr hl) hq ho

theorem shedLoop_obeys (n : Nat) (h : s.Obeys L) : (shedLoop n s).Obeys L := by
  induction n generalizing s with
  | zero => exact h
  | succ n ih =>
    unfold shedLoop
    split
    · exact h
    · split
      · exact h
      · exact ih (shedOne_obeys _ h)

theorem shedding_obeys (cause : ShedCause) (h : s.Obeys L) : (shedding cause s).Obeys L := by
  unfold shedding
  dsimp only
  split
  · exact h
  · exact (raise_obeys _ _ _ (shedLoop_obeys _ h)).of_chan (fun _ => rfl) rfl

theorem handOver_obeys (cause : ShedCause) (h : s.Obeys L) : (handOver cause s).Obeys L := arbitrate_obeys (shedding_obeys cause h)

theorem figures_obeys (b : LoadBudget) (hb : b.channels = s.budget.channels) (h : s.Obeys L) : (s.setBudget b).Obeys L :=
  h.of_chan (fun i => chan_congr hb i) rfl

theorem reprotect_obeys (h : s.Obeys L) : (reprotect s).Obeys L := handOver_obeys _ (h.of_chan (fun _ => rfl) rfl)

/-! ### Releases and targets -/

/-- A release (R45). -/
theorem release_obeys (i : Fin 128) (hr : (s.chan i).cfg.role ≠ .light) (h : s.Obeys L) : (release i s).Obeys L := by
  have timed := (h.but i).putChan (c := { s.chan i with minOffT := startTimer (s.chan i).cfg.minOff })
    fun hq ho => (h i).same_amounts rfl rfl rfl hq ho
  unfold release
  dsimp only
  refine arbitrate_obeys ((timed.setGranted fun hq ho => ?_).keepEntry false)
  rw [chan_putChan_self]
  exact (h i).amounts rfl (fun _ ht _ => ⟨ht, ht⟩) (fun hl => absurd hl hr) hq ho

theorem stepTarget_obeys (i : Fin 128) {v : Nat} (m : Bool) (hv : v ≤ (s.chan i).cfg.steps) (hr : (s.chan i).cfg.role ≠ .light)
    (h : s.Obeys L) : (stepTarget i v m s).Obeys L := by
  have kept := fun b => ((h.but i).putChan (c := { s.chan i with target := v })
    fun hq ho => (h i).amounts rfl (fun _ _ hg => ⟨hv, hg⟩) (fun hl => absurd hl hr) hq ho).keepEntry b
  have role : ∀ b, ((keepEntry b i (s.putChan i { s.chan i with target := v })).chan i).cfg.role ≠ .light := by
    intro b
    rw [keepEntry_field (·.cfg.role) (fun _ _ _ => rfl), chan_putChan_self]
    exact hr
  unfold stepTarget
  dsimp only
  split
  · split
    · exact release_obeys i (role _) (kept _)
    · exact settleShed_obeys (kept _)
  · split
    · exact arbitrate_obeys (kept _)
    · exact settleShed_obeys (kept _)

theorem lightTargetChange_obeys (i : Fin 128) (v : Nat) (hr : (s.chan i).cfg.role = .light) (h : s.Obeys L) :
    (lightTargetChange i v s).Obeys L := by
  have put : (s.putChan i { s.chan i with target := v }).Obeys L := by
    refine h.putChan i fun ho => ?_
    by_cases hq : L = .queue
    · subst hq
      exact (h i).queue_of_not_step rfl (by rw [hr]; rfl) rfl
    · exact (h i).amounts rfl (fun hs => by rw [hr] at hs; cases hs) (fun _ hp => hp) hq ho
  unfold lightTargetChange
  dsimp only
  split
  · split
    · exact arbitrate_obeys put
    · exact settleShed_obeys put
  · split
    · refine arbitrate_obeys (put.setGranted i fun ho => ?_)
      rw [chan_putChan_self]
      by_cases hq : L = .queue
      · subst hq
        exact (h i).queue_of_not_step rfl (by rw [hr]; rfl) rfl
      · exact (h i).amounts rfl (fun hs => by rw [hr] at hs; cases hs) (fun _ _ => Nat.le_max_right _ _) hq ho
    · split
      · exact arbitrate_obeys put
      · exact settleShed_obeys put

theorem targetChange_obeys (i : Fin 128) (r : Role) (o v : Nat) (m : Bool) (h : s.Obeys L) : (targetChange i r o v m s).Obeys L := by
  by_cases hb : (s.chan i).boundTo r o = true
  · have hr := (Channel.boundTo_iff.mp hb).1
    unfold targetChange
    dsimp only
    split
    · exact h
    · split
      · exact h
      · split
        · exact h
        · exact lightTargetChange_obeys i v hr h
      · next hl =>
        split
        · exact h
        · exact stepTarget_obeys i m (Nat.min_le_right _ _) (fun e => hl (hr.symm.trans e)) h
  · rw [targetChange_of_not_bound (by simpa using hb)]
    exact h

/-- A protected minimum is taken by a LIGHT channel, which then holds its protected part (R40, R47). -/
theorem protectedMinimum_obeys (i : Fin 128) (z v : Nat) (hv : L = .protectedPart → v ≤ 1000) (h : s.Obeys L) :
    (protectedMinimum i z v s).Obeys L := by
  unfold protectedMinimum
  dsimp only
  split
  · exact h
  · next hb =>
    have hr : (s.chan i).cfg.role = .light := (Channel.boundTo_iff.mp (by simpa using hb)).1
    split
    · exact h
    · refine reprotect_obeys (h.putChan i fun ho => ?_)
      cases L with
      | output => exact absurd rfl ho
      | queue =>
        have he := h i
        simp only [Channel.Obeys, Channel.wantsEntry, hr] at he ⊢
        exact he
      | steps => exact fun hs => by rw [hr] at hs; cases hs
      | protectedPart => exact ⟨fun _ => Nat.le_max_right _ _, hv rfl⟩

end Sys2Proof.Machine
end

section
/-! SUPPORT. A property of the Load Budget Unit that survives target changes and protected minimums survives whatever the three role units do
(R93 to R107, R125 to R143, R145 to R154). -/

namespace Sys2Proof.Machine

variable {I : State → Prop} {s t u : State}

/-- The Load Budget Unit stands, with what its figures read elsewhere: Stop Control, the store, the profile in use; and no lighting zone
has a protected minimum above 1000 ‰ that had none. -/
structure State.SameBudget (s t : State) : Prop where
  budget : t.budget = s.budget
  stop : t.stop = s.stop
  store : t.store = s.store
  profile : t.profile = s.profile
  minimums : (∀ z, (s.light z).cfg.protMin ≤ 1000) → ∀ z, (t.light z).cfg.protMin ≤ 1000

namespace State.SameBudget

theorem refl (s : State) : s.SameBudget s := ⟨rfl, rfl, rfl, rfl, fun h => h⟩

theorem trans (a : s.SameBudget t) (b : t.SameBudget u) : s.SameBudget u :=
  ⟨b.budget.trans a.budget, b.stop.trans a.stop, b.store.trans a.store, b.profile.trans a.profile, fun h => b.minimums (a.minimums h)⟩

theorem dock (s : State) (k : Dock) : s.SameBudget (s.setDock k) := ⟨rfl, rfl, rfl, rfl, fun h => h⟩
theorem climate (s : State) (k : Climate) : s.SameBudget (s.setClimate k) := ⟨rfl, rfl, rfl, rfl, fun h => h⟩
theorem line (s : State) (l : Line) : s.SameBudget (s.setLine l) := ⟨rfl, rfl, rfl, rfl, fun h => h⟩
theorem totals (s : State) (p : PhaseTotals) : s.SameBudget (s.setTotals p) := ⟨rfl, rfl, rfl, rfl, fun h => h⟩

theorem raise (k : NoticeKind) (n : Nat) (b : Bytes) (s : State) : s.SameBudget (raise k n b s) := by
  unfold Machine.raise
  split
  · exact line s _
  · exact refl s

theorem lighting (s : State) (l : Lighting) (h : ∀ z, (look l.zones z).cfg = (s.light z).cfg) : s.SameBudget (s.setLighting l) :=
  ⟨rfl, rfl, rfl, rfl, fun hm z => (congrArg LightConfig.protMin (h z)).le.trans (hm z)⟩

theorem light (s : State) (z : Fin 24) (x : LightZone) (h : x.cfg.protMin ≤ max 1000 (s.light z).cfg.protMin) : s.SameBudget (s.putLight z x) := by
  refine ⟨rfl, rfl, rfl, rfl, fun hm y => ?_⟩
  by_cases hy : z = y
  · subst hy
    rw [light_putLight_self]
    have := hm z
    omega
  · rw [light_putLight, if_neg hy]
    exact hm y

theorem accrue (d : Fin 32) (s : State) : s.SameBudget (accrue d s) := by
  unfold Machine.accrue
  dsimp only
  split
  · exact dock s _
  · split
    · exact (dock s _).trans (totals _ _)
    · exact (dock s _).trans (totals _ _)

theorem zoneDTEvent (z : Fin 12) (v : Nat) (s : State) : s.SameBudget (zoneDTEvent z v s) := by
  unfold Machine.zoneDTEvent
  dsimp only
  refine forEach_keeps (I := fun u => s.SameBudget u) (fun d u hu => hu.trans (dock u _)) _ _ (State.SameBudget.trans ?_ (dock _ _))
  exact forEach_keeps (I := fun u => s.SameBudget u) (fun d u hu => hu.trans (accrue d u)) _ _ (refl s)

theorem setCurtainRunning (d : Fin 32) (b : Bool) (s : State) : s.SameBudget (setCurtainRunning d b s) := by
  unfold Machine.setCurtainRunning
  split
  · exact refl s
  · exact ((accrue d s).trans (dock _ _)).trans (dock _ _)

end State.SameBudget

/-- A property of the Load Budget Unit: target changes and the protected minimums of the lighting zones keep it, and so does whatever
leaves the unit alone. -/
structure BudgetProperty (I : State → Prop) : Prop where
  target : ∀ i r o v m s, I s → I (targetChange i r o v m s)
  minimum : ∀ i (z : Fin 24) v s, v = 0 ∨ v = (s.light z).cfg.protMin → I s → I (protectedMinimum i z v s)
  other : ∀ s t, s.SameBudget t → I s → I t

namespace BudgetProperty

theorem notice (c : BudgetProperty I) (k : NoticeKind) (n : Nat) (b : Bytes) (h : I s) : I (raise k n b s) := c.other s _ (.raise k n b s) h

theorem doors (c : BudgetProperty I) (d : Fin 32) : DoorClosed d I where
  target i r v s _ h := c.target i r d v false s h
  door _ s _ h := c.other s _ (.dock s _) h
  log s _ _ _ _ h := c.other s _ (.dock s _) h
  totals s _ h := c.other s _ (.totals s _) h
  notice _ _ _ _ h := c.notice _ _ _ h

theorem dock (c : BudgetProperty I) : DockClosed I where
  doors := c.doors
  config _ _ s h := c.other s _ (.dock s _) h
  target d i r s _ h := c.target i r d 0 false s h
  check s _ h := c.other s _ (.dock s _) h

theorem zones (c : BudgetProperty I) (z : Fin 12) : ZoneClosed z I where
  target i r v m s _ h := c.target i r z v m s h
  zone _ s _ h := c.other s _ (.climate s _) h
  deltaT v s h := c.other s _ (.zoneDTEvent z v s) h
  draw s h := c.other s _ ⟨rfl, rfl, rfl, rfl, fun h => h⟩ h
  notice _ _ _ _ h := c.notice _ _ _ h

theorem climate (c : BudgetProperty I) : ClimateClosed I where
  zones := c.zones
  climate s _ h := c.other s _ (.climate s _) h

theorem lights (c : BudgetProperty I) (z : Fin 24) : LightClosed z I where
  target i v s _ h := c.target i .light z v false s h
  minimum i v s _ hv h := c.minimum i z v s hv h
  light x s hx h := c.other s _ (.light s z x (by rw [hx]; exact Nat.le_max_right _ _)) h

theorem lighting (c : BudgetProperty I) : LightingClosed I where
  zones := c.lights
  unit s l hl h := c.other s _ (.lighting s l hl) h
  notice _ _ _ _ h := c.notice _ _ _ h

theorem lightingCommands (c : BudgetProperty I) : LightingCommands I :=
  c.lighting.commands fun z x n s hn hx h =>
    c.other s _ (.light s z x (by rw [hx]; exact hn.trans (Nat.le_max_left _ _))) h

theorem channelBound (c : BudgetProperty I) (i : Fin 128) (h : I s) : I (channelBound i s) :=
  channelBound_keeps c.doors c.zones c.lights i h

theorem startUpNotices (c : BudgetProperty I) (r : Except StoreReason Snapshot) (h : I s) : I (startUpNotices r s) := by
  have needed : ∀ u, I u → I (if s.stop.state = .stopped then raise .plantStop 0 (le8 PlantState.running.code) (raise .clockNeeded 0 [] u)
      else raise .clockNeeded 0 [] u) := by
    intro u hu
    split
    · exact c.notice _ _ _ (c.notice _ _ _ hu)
    · exact c.notice _ _ _ hu
  unfold Machine.startUpNotices
  dsimp only
  cases r with
  | ok _ => exact needed s h
  | error reason => exact needed _ (c.notice _ _ _ h)

theorem line (c : BudgetProperty I) : LineClosed I := .of_setLine fun s l h => c.other s _ (.line s l) h

theorem fetchNotices (c : BudgetProperty I) (h : I s) : I (fetchNotices s) := by
  obtain ⟨l, hl⟩ := fetchNotices_setLine s
  rw [hl]
  exact c.other s _ (.line s l) h

/-- What the Dock, Climate and Lighting Units do when the plant stops. -/
theorem rolesStop (c : BudgetProperty I) (h : I s) : I (lightingStop (dockPlantChange (climateStop s))) :=
  c.lighting.lightingStop (c.dock.dockPlantChange (c.climate.climateStop h))

/-- What they do when it runs again. -/
theorem rolesResume (c : BudgetProperty I) (h : I s) : I (deriveLights (dockPlantChange (climateResume s))) :=
  c.lighting.deriveLights (c.dock.dockPlantChange (c.climate.climateResume h))

/-- What they do at a PLANT restart. -/
theorem rolesRestart (c : BudgetProperty I) (h : I s) : I (lightingRestart (climateRestart (dockRestart s))) :=
  c.lighting.lightingRestart (c.climate.climateRestart (c.dock.dockRestart h))

end BudgetProperty

end Sys2Proof.Machine
end

section
/-! The channel laws at every step: the output chain, the start queue, the steps and the protected parts (R38, R44, R47, R53, R75). -/

namespace Sys2Proof.Machine

variable {s t : State} {L : ChannelLaw}

/-! ### The Load Budget Unit's other operations -/

/-- A list of operations, each of which brings its own index from Q to P and leaves the others at either. -/
theorem forEach_settles {α : Type} [DecidableEq α] {P Q : α → State → Prop} {f : α → State → State} (own : ∀ a s, Q a s → P a (f a s))
    (settled : ∀ a b s, b ≠ a → P b s → P b (f a s)) (waiting : ∀ a b s, b ≠ a → Q b s → Q b (f a s)) (l : List α) (hl : l.Nodup) :
    ∀ s, (∀ a ∈ l, Q a s) → ∀ b, (b ∈ l ∨ P b s) → P b (forEach l f s) := by
  induction l with
  | nil => exact fun s _ b hb => hb.resolve_left List.not_mem_nil
  | cons a l ih =>
    obtain ⟨ha, hl⟩ := List.nodup_cons.mp hl
    intro s hq b hb
    rw [forEach_cons]
    refine ih hl _ (fun c hc => waiting a c s (fun e => ha (e ▸ hc)) (hq c (List.mem_cons_of_mem _ hc))) b ?_
    by_cases hba : b = a
    · subst hba
      exact .inr (own b s (hq b List.mem_cons_self))
    · exact hb.imp (fun h => (List.mem_cons.mp h).resolve_left hba) (settled a b s hba)

/-- An operation at each channel that leaves Stop Control and the other channels alone brings every channel to a law. -/
theorem forEach_obeys {f : Fin 128 → State → State} {Q : PlantState → Channel → Prop}
    (own : ∀ i s, Q s.stop.state (s.chan i) → ((f i s).chan i).Obeys s.stop.state L)
    (ne : ∀ i j s, i ≠ j → (f i s).chan j = s.chan j) (stop : ∀ i s, (f i s).stop = s.stop) (h : ∀ i, Q s.stop.state (s.chan i)) :
    (forEach (indices 128) f s).Obeys L := by
  intro i
  refine forEach_settles (P := fun i s => (s.chan i).Obeys s.stop.state L) (Q := fun i s => Q s.stop.state (s.chan i)) ?_ ?_ ?_ _
    (nodup_indices 128) s (fun i _ => h i) i (.inl (mem_indices i))
  · intro i s hq
    rw [stop]
    exact own i s hq
  · intro a b s hb hp
    rw [stop, ne a b s (Ne.symm hb)]
    exact hp
  · intro a b s hb hq
    rw [stop, ne a b s (Ne.symm hb)]
    exact hq

theorem Role.ne_light_of_isStep {r : Role} (h : r.isStep = true) : r ≠ .light := by
  rintro rfl
  cases h

theorem minOnExpired_obeys (i : Fin 128) (h : s.Obeys L) : (minOnExpired i s).Obeys L := by
  have put : (s.putChan i { s.chan i with minOnT := none }).Obeys L := by
    refine h.putChan i fun ho => ?_
    cases L with
    | output => exact absurd rfl ho
    | queue => exact h i
    | steps => exact h i
    | protectedPart => exact h i
  unfold minOnExpired
  dsimp only
  split
  · next hs =>
    refine release_obeys i ?_ put
    rw [chan_putChan_self]
    exact Role.ne_light_of_isStep (Bool.and_eq_true_iff.mp hs).1
  · exact put

theorem minOffExpired_obeys (i : Fin 128) (h : s.Obeys L) : (minOffExpired i s).Obeys L := by
  refine arbitrate_obeys (h.putChan i fun ho => ?_)
  cases L with
  | output => exact absurd rfl ho
  | queue => exact h i
  | steps => exact h i
  | protectedPart => exact h i

theorem urgencyReached_obeys (i : Fin 128) (h : s.Obeys L) : (urgencyReached i s).Obeys L := by
  unfold urgencyReached
  split
  · next e he =>
    split
    · refine arbitrate_obeys (h.putChan i fun ho => ?_)
      cases L with
      | output => exact absurd rfl ho
      | queue => exact (show _ = _ by rw [he]; rfl : _ = (s.chan i).entry.isSome).trans (h i)
      | steps => exact h i
      | protectedPart => exact h i
    · exact h
  · exact h

theorem remeasureUrgency_obeys (h : s.Obeys L) : (remeasureUrgency s).Obeys L := by
  refine forEach_keeps (fun i u hu => ?_) _ s h
  split
  · next e he =>
    split
    · refine State.Obeys.putChan hu i fun ho => ?_
      cases L with
      | output => exact absurd rfl ho
      | queue => exact (show _ = _ by rw [he]; rfl : _ = (u.chan i).entry.isSome).trans (hu i)
      | steps => exact hu i
      | protectedPart => exact hu i
    · exact hu
  · exact hu

/-- A channel that trips holds nothing and waits for nothing (R50). -/
theorem trip_obeys (i : Fin 128) (hr : (s.chan i).cfg.role ≠ .light) (h : s.Obeys L) : (trip i s).Obeys L := by
  have tripped : (s.putChan i { s.chan i with tripped := true, entry := none, minOnT := none, minOffT := none }).Obeys L := by
    refine h.putChan i fun ho => ?_
    by_cases hq : L = .queue
    · subst hq
      simp [Channel.Obeys, Channel.wantsEntry]
    · exact (h i).same_amounts rfl rfl rfl hq ho
  unfold trip
  dsimp only
  refine arbitrate_obeys (raise_obeys _ _ _ (tripped.setGranted i fun ho => ?_))
  rw [chan_putChan_self]
  by_cases hq : L = .queue
  · subst hq
    simp [Channel.Obeys, Channel.wantsEntry]
  · exact (h i).amounts rfl (fun _ ht _ => ⟨ht, Nat.zero_le _⟩) (fun hl => absurd hl hr) hq ho

theorem tripIfAsserted_obeys (i : Fin 128) (h : s.Obeys L) : (tripIfAsserted i s).Obeys L := by
  unfold tripIfAsserted
  split
  · next ht =>
    simp only [Channel.tripsNow, Bool.and_eq_true] at ht
    obtain ⟨⟨⟨hstep, -⟩, -⟩, -⟩ := ht
    exact trip_obeys i (Role.ne_light_of_isStep hstep) h
  · exact h

theorem tripInput_obeys (i : Fin 128) (b : Bool) (h : s.Obeys L) : (s.putChan i { s.chan i with tripIn := b }).Obeys L := by
  refine h.putChan i fun ho => ?_
  cases L with
  | output => exact absurd rfl ho
  | queue => exact h i
  | steps => exact h i
  | protectedPart => exact h i

theorem acknowledge_obeys (i : Fin 128) (h : s.Obeys L) : (acknowledge i s).Obeys L := by
  have put := (h.but i).putChan (c := { s.chan i with tripped := false, minOffT := startTimer (s.chan i).cfg.minOff })
    fun hq ho => (h i).same_amounts rfl rfl rfl hq ho
  unfold acknowledge
  dsimp only
  exact arbitrate_obeys (put.keepEntry false)

theorem ceil_obeys (h : s.Obeys L) : (ceil s).Obeys L := figures_obeys _ rfl h
theorem protect_obeys (h : s.Obeys L) : (protect s).Obeys L := figures_obeys _ rfl h
theorem figure_obeys (h : s.Obeys L) : (figure s).Obeys L := figures_obeys _ rfl h

theorem meterSample_obeys (h : s.Obeys L) : (meterSample s).Obeys L := by
  have sampled : (sampleWindow (sampleEnergy (s.setBudget (activateLimits s.budget)))).Obeys L := by
    refine (figures_obeys (activateLimits s.budget) rfl h).of_chan (fun i => chan_congr (by simp) i) ?_
    rw [stop_of_outside (sampleWindow_outside _), stop_of_outside (sampleEnergy_outside _)]
  exact handOver_obeys _ (figure_obeys (protect_obeys (ceil_obeys sampled)))

theorem clockSetEvent_obeys (v : Nat) (h : s.Obeys L) : (clockSetEvent v s).Obeys L := by
  unfold clockSetEvent
  dsimp only
  refine handOver_obeys _ (figure_obeys (ceil_obeys (figures_obeys _ ?_ h)))
  change (if s.budget.silent = true then _ else _ : LoadBudget).channels = s.budget.channels
  split <;> rfl

theorem profileChanged_obeys (h : s.Obeys L) : (profileChanged s).Obeys L :=
  handOver_obeys _ (remeasureUrgency_obeys (figure_obeys h))

/-! ### Plant stop, restart and start -/

theorem stopChannel_chan_ne {i j : Fin 128} (h : i ≠ j) (s : State) : (stopChannel i s).chan j = s.chan j := by
  unfold stopChannel
  dsimp only
  split
  · rfl
  · rw [chan_putChan_ne _ _ h]
  · rw [keepEntry_chan_ne h]
    split
    · rw [setGranted_chan_ne h, chan_putChan_ne _ _ h]
    · rfl

/-- A channel that obeyed a law while the plant ran obeys it again when its part of the stop is done (R49, R78). -/
theorem stopChannel_obeys_self (i : Fin 128) (hp : s.stop.state ≠ .running) (h : (s.chan i).Obeys .running L) :
    ((stopChannel i s).chan i).Obeys s.stop.state L := by
  have unqueued : ∀ c : Channel, c.wantsEntry s.stop.state = false := fun c => by simp [Channel.wantsEntry, hp]
  have not_step : L = .queue → (s.chan i).cfg.role.isStep = false → (s.chan i).entry = none := by
    rintro rfl hr
    simpa [Channel.Obeys, Channel.wantsEntry, hr] using h
  unfold stopChannel
  dsimp only
  split
  · next hr =>
    cases L with
    | output => exact h
    | queue => exact (congrArg Option.isSome (not_step rfl (by rw [hr]; rfl))).trans (unqueued _).symm
    | steps => exact h
    | protectedPart => exact ⟨fun hl => absurd (hr.symm.trans hl) (by simp), h.2⟩
  · next hr =>
    rw [chan_putChan_self]
    refine obeys_of_commanded fun ho => ?_
    cases L with
    | output => exact absurd rfl ho
    | queue => exact (congrArg Option.isSome (not_step rfl (by rw [hr]; rfl))).trans (unqueued _).symm
    | steps => exact fun hs => by rw [hr] at hs; cases hs
    | protectedPart => exact ⟨fun _ => Nat.le_max_right _ _, h.2⟩
  · next hu hl =>
    have amounts : ∀ d : Channel, d.cfg = (s.chan i).cfg → d.target = (s.chan i).target → d.granted ≤ (s.chan i).granted →
        L ≠ .queue → L ≠ .output → d.Obeys s.stop.state L := by
      intro d hc ht hg hq ho
      have := h.amounts (d := d) hc (fun _ a b => ⟨ht ▸ a, hg.trans b⟩) (fun e => absurd e hl) hq ho
      cases L with
      | output => exact this
      | queue => exact absurd rfl hq
      | steps => exact this
      | protectedPart => exact ⟨fun e => absurd (hc ▸ e) hl, this.2⟩
    have of_stop : ∀ {u : State} {c : Channel}, c.Obeys u.stop.state L → u.stop = s.stop → c.Obeys s.stop.state L :=
      fun hc hu => hu ▸ hc
    split
    · refine of_stop (keepEntry_obeys_self false i fun hq => ?_) (by simp)
      rw [setGranted_stop, setGranted_chan, chan_putChan_self, chan_putChan_self]
      exact obeys_of_commanded fun ho => amounts _ rfl rfl (Nat.zero_le _) hq ho
    · refine keepEntry_obeys_self false i fun hq => ?_
      cases L with
      | output => exact h
      | queue => exact absurd rfl hq
      | steps => exact h
      | protectedPart => exact amounts _ rfl rfl le_rfl hq (by simp)

/-- The Load Budget Unit takes the change from RUNNING (R49, R78). -/
theorem budgetStop_obeys (hp : s.stop.state ≠ .running) (h : ∀ i, (s.chan i).Obeys .running L) : (budgetStop s).Obeys L := by
  unfold budgetStop
  refine reprotect_obeys (forEach_obeys (Q := fun p c => p ≠ .running ∧ c.Obeys .running L) ?_ (fun i j s hj => stopChannel_chan_ne hj s)
    (fun i s => stop_of_outside (stopChannel_outside s i)) fun i => ⟨hp, h i⟩)
  rintro i s ⟨hp, hi⟩
  exact stopChannel_obeys_self i hp hi

/-- The Load Budget Unit takes RESUME (R49, R78). -/
theorem budgetResume_obeys (h : ∀ i, L ≠ .queue → (s.chan i).Obeys s.stop.state L) : (budgetResume s).Obeys L := by
  unfold budgetResume
  refine reprotect_obeys (forEach_obeys (Q := fun p c => L ≠ .queue → c.Obeys p L) ?_ (fun i j s hj => keepEntry_chan_ne hj false s)
    (fun i s => keepEntry_stop false i s) fun i => h i)
  intro i s hi
  exact keepEntry_obeys_self false i hi

end Sys2Proof.Machine
end

section
/-! The channel laws at every step: restart, start and reconfiguration, and the laws with the protected minimums that the lighting zones and
the store hold (R38, R43, R47, R52, R145, R158). -/

namespace Sys2Proof.Machine

variable {s t : State} {L : ChannelLaw}

/-! ### Restart, start and reconfiguration of a channel -/

theorem restartChannel_chan_ne {i j : Fin 128} (h : i ≠ j) (s : State) : (restartChannel i s).chan j = s.chan j := by
  unfold restartChannel
  dsimp only
  rw [setGranted_chan_ne h, chan_putChan_ne _ _ h]

/-- A channel that asks for nothing, holds its protected part and waits for nothing obeys every law. -/
theorem obeys_of_idle {c : Channel} {p : PlantState} (ho : c.out = c.command) (he : c.entry = none) (hg : c.granted = c.protPart p)
    (ht : c.cfg.role.isStep = true → c.target = 0) (hm : L = .protectedPart → c.cfg.protMin ≤ 1000) : c.Obeys p L := by
  have unheld : c.cfg.role.isStep = true → c.granted = 0 := by
    intro hs
    rw [hg, Channel.protPart]
    split
    · next hl => exact absurd hl (Role.ne_light_of_isStep hs)
    · rfl
  cases L with
  | output => exact ho
  | queue =>
    have unwanted : c.wantsEntry p = false := by
      unfold Channel.wantsEntry
      cases hs : c.cfg.role.isStep with
      | false => rfl
      | true => simp [ht hs]
    exact (congrArg Option.isSome he).trans unwanted.symm
  | steps => exact fun hs => by rw [ht hs, unheld hs]; exact ⟨Nat.zero_le _, Nat.zero_le _⟩
  | protectedPart => exact ⟨fun _ => hg.ge, hm rfl⟩

theorem restartChannel_obeys (i : Fin 128) (h : s.Obeys L) : (restartChannel i s).Obeys L := by
  refine h.write (fun j hj => restartChannel_chan_ne hj s) (congrArg _ (stop_of_outside (restartChannel_outside s i))) ?_
  unfold restartChannel
  dsimp only
  rw [setGranted_chan, chan_putChan_self, chan_putChan_self]
  refine obeys_of_idle rfl rfl rfl (fun _ => rfl) fun hL => ?_
  subst hL
  exact (h i).2

theorem budgetRestart_obeys (h : s.Obeys L) : (budgetRestart s).Obeys L := by
  unfold budgetRestart
  exact endEvent_obeys (forEach_keeps (fun i _ hu => restartChannel_obeys i hu) _ s h)

/-- What a channel starts from (R43). -/
def Channel.Blank (L : ChannelLaw) (c : Channel) : Prop :=
  c.target = 0 ∧ c.granted = 0 ∧ c.entry = none ∧ (L = .protectedPart → c.cfg.protMin ≤ 1000)

theorem startUpChannel_chan_ne {i j : Fin 128} (h : i ≠ j) (s : State) : (startUpChannel i s).chan j = s.chan j := by
  unfold startUpChannel
  dsimp only
  split
  · rw [raise_chan, chan_putChan_ne _ _ h]
  · rw [chan_putChan_ne _ _ h]

theorem startUpChannel_obeys_self (i : Fin 128) (h : (s.chan i).Blank L) : ((startUpChannel i s).chan i).Obeys s.stop.state L := by
  obtain ⟨ht, hg, he, hm⟩ := h
  unfold startUpChannel
  dsimp only
  split
  · next hn =>
    simp only [Channel.tripsNow, Bool.and_eq_true] at hn
    obtain ⟨⟨⟨hstep, -⟩, -⟩, -⟩ := hn
    have unprotected : (s.chan i).protPart s.stop.state = 0 := by
      unfold Channel.protPart
      split
      · next hl => exact absurd hl (Role.ne_light_of_isStep hstep)
      · rfl
    rw [raise_chan, chan_putChan_self]
    exact obeys_of_idle rfl he (hg.trans unprotected.symm) (fun _ => ht) hm
  · rw [chan_putChan_self]
    exact obeys_of_idle rfl he rfl (fun _ => ht) hm

theorem budgetStart_obeys (h : ∀ i, (s.chan i).Blank L) : (budgetStart s).Obeys L := by
  unfold budgetStart
  refine handOver_obeys _ (figure_obeys (ceil_obeys (protect_obeys ?_)))
  exact forEach_obeys (Q := fun _ c => c.Blank L) (fun i _ hi => startUpChannel_obeys_self i hi)
    (fun i j s hj => startUpChannel_chan_ne hj s) (fun i s => stop_of_outside (startUpChannel_outside s i)) h

theorem bringToZero_chan_ne {i j : Fin 128} (h : i ≠ j) (s : State) : (bringToZero i s).chan j = s.chan j := by
  unfold bringToZero
  rw [setGranted_chan_ne h, chan_putChan_ne _ _ h]

/-- A channel brought to zero waits for nothing (R52 step 1). -/
theorem bringToZero_entry (i : Fin 128) (s : State) : ((bringToZero i s).chan i).entry = none := by
  unfold bringToZero
  rw [setGranted_chan, chan_putChan_self, chan_putChan_self]

/-- A channel that takes its new configuration is idle until its unit answers (R52 steps 1 to 4). -/
theorem applyConfig_obeys (i : Fin 128) (n : ChannelConfig) (hn : L = .protectedPart → n.protMin ≤ 1000) (h : s.Obeys L) :
    (applyConfig i (s.chan i) n (bringToZero i s)).Obeys L := by
  have stop : (bringToZero i s).stop = s.stop := stop_of_outside (bringToZero_outside s i)
  unfold applyConfig
  dsimp only
  refine h.write (i := i) (fun j hj => ?_) (congrArg _ stop) ?_
  · rw [chan_putChan_ne _ _ hj, bringToZero_chan_ne hj]
  · rw [chan_putChan_self, ← stop]
    exact obeys_of_idle rfl (bringToZero_entry i s) rfl (fun hs => if_neg (Role.ne_light_of_isStep hs)) hn

/-! ### The laws with the protected minimums held elsewhere -/

/-- Every protected minimum that a lighting zone or the store holds is at most 1000 ‰. -/
def State.MinimumsFit (s : State) : Prop :=
  (∀ z, (s.light z).cfg.protMin ≤ 1000) ∧ s.store.image.MinimumsFit ∧ ∀ x ∈ s.store.saving, x.1.MinimumsFit

/-- Every channel obeys a law, that of the protected parts together with the minimums that will be sent. -/
def State.Lawful (L : ChannelLaw) (s : State) : Prop := s.Obeys L ∧ (L = .protectedPart → s.MinimumsFit)

theorem State.MinimumsFit.of_view (h : s.MinimumsFit) (hl : t.lighting = s.lighting) (hs : t.store = s.store) : t.MinimumsFit := by
  obtain ⟨hz, hi, hv⟩ := h
  unfold State.MinimumsFit
  rw [hs]
  exact ⟨fun z => by rw [light_of_lighting hl]; exact hz z, hi, hv⟩

theorem State.Lawful.of_outside (h : s.Lawful L) (e : t.outsideBudget = s.outsideBudget) (ht : t.Obeys L) : t.Lawful L :=
  ⟨ht, fun hL => (h.2 hL).of_view (lighting_of_outside e) (store_of_outside e)⟩

theorem lawful_budgetProperty (L : ChannelLaw) : BudgetProperty (State.Lawful L) where
  target i r o v m s h := h.of_outside (targetChange_outside s i r o v m) (targetChange_obeys i r o v m h.1)
  minimum i z v s hv h := by
    refine h.of_outside (protectedMinimum_outside s i z v) (protectedMinimum_obeys i z v (fun hL => ?_) h.1)
    obtain rfl | rfl := hv
    · exact Nat.zero_le _
    · exact (h.2 hL).1 z
  other s t e h := by
    refine ⟨h.1.of_budget e.budget (by rw [e.stop]), fun hL => ?_⟩
    obtain ⟨hz, hi, hv⟩ := h.2 hL
    exact ⟨e.minimums hz, by rw [e.store]; exact hi, by rw [e.store]; exact hv⟩

theorem lawful_budgetCommands (L : ChannelLaw) : BudgetCommands (State.Lawful L) where
  tripInput i b s h := h.of_outside (putChan_outside s _ _) (tripInput_obeys i b h.1)
  tripSampled i b s h := h.of_outside (by unfold tripSampled; simp) (tripIfAsserted_obeys i (tripInput_obeys i b h.1))
  acknowledge i s h := h.of_outside (by unfold acknowledge; simp) (acknowledge_obeys i h.1)
  limits l s h := h.of_outside (setBudget_outside s _) (figures_obeys _ rfl h.1)
  meterPulse m s h := by
    refine h.of_outside (setBudget_outside s _) (figures_obeys _ ?_ h.1)
    cases m <;> rfl
  meterSample s h := h.of_outside (meterSample_outside s) (meterSample_obeys h.1)
  minOnExpired i s h := h.of_outside (minOnExpired_outside s i) (minOnExpired_obeys i h.1)
  minOffExpired i s h := h.of_outside (minOffExpired_outside s i) (minOffExpired_obeys i h.1)
  urgencyReached i s h := h.of_outside (urgencyReached_outside s i) (urgencyReached_obeys i h.1)

theorem lawful_planCommands (L : ChannelLaw) : PlanCommands (State.Lawful L) :=
  (PlanClosed.of_anyPlan (fun _ _ h => h) (fun k n b _ h => (lawful_budgetProperty L).notice k n b h)
    (fun z _ h => ((lawful_budgetProperty L).lights z).deriveLight h) (fun _ h => (lawful_budgetProperty L).lighting.lightingTurn h)
    (fun s h => h.of_outside (profileChanged_outside s) (profileChanged_obeys h.1))
    (fun v s h => h.of_outside (clockSetEvent_outside s v) (clockSetEvent_obeys v h.1))).commands

/-- A stop between states that are both not RUNNING, or both RUNNING. -/
theorem State.Lawful.setStop (h : s.Lawful L) (c : StopControl) (hc : c.state = s.stop.state ∨ c.state ≠ .running ∧ s.stop.state ≠ .running) :
    (s.setStop c).Lawful L := by
  refine ⟨fun i => ?_, h.2⟩
  obtain hc | ⟨hc, hs⟩ := hc
  · exact (congrArg (fun p => (s.chan i).Obeys p L) hc).mpr (h.1 i)
  · exact (h.1 i).congr_plant hs hc

theorem fireAsserted_lawful (h : s.Lawful L) : (fireAsserted s).Lawful L := by
  have c := lawful_budgetProperty L
  unfold fireAsserted
  dsimp only
  split
  · exact h.setStop _ (.inl rfl)
  · split
    · next hr =>
      unfold plantStopped
      refine c.rolesStop ⟨budgetStop_obeys (by simp) fun i => ?_, fun hL => (h.2 hL).of_view ?_ ?_⟩
      · rw [raise_chan, ← hr]
        exact h.1 i
      · rw [lighting_of_outside (budgetStop_outside _), raise_lighting]
        rfl
      · rw [store_of_outside (budgetStop_outside _), store_of_outside (raise_outside _ _ _ _)]
        rfl
    · next hr => exact c.notice _ _ _ (h.setStop _ (.inr ⟨by simp, hr⟩))

theorem fireCleared_lawful (h : s.Lawful L) : (fireCleared s).Lawful L := by
  unfold fireCleared
  split
  · next hs => exact (lawful_budgetProperty L).notice _ _ _ (h.setStop _ (.inr ⟨by simp, by simp [hs]⟩))
  · exact h.setStop _ (.inl rfl)

theorem resumePlant_lawful (h : s.Lawful L) : (resumePlant s).Lawful L := by
  unfold resumePlant plantResumed
  refine (lawful_budgetProperty L).rolesResume ⟨budgetResume_obeys fun i hq => ?_, fun hL => (h.2 hL).of_view ?_ ?_⟩
  · rw [raise_chan, raise_stop]
    exact (h.1 i).running hq
  · rw [lighting_of_outside (budgetResume_outside _), raise_lighting]
    rfl
  · rw [store_of_outside (budgetResume_outside _), store_of_outside (raise_outside _ _ _ _)]
    rfl

theorem plantRestart_lawful (h : s.Lawful L) : (plantRestart s).Lawful L := by
  have cleared : (s.setPlan { s.plan with overrides := [] }).Lawful L := h
  exact (lawful_budgetProperty L).rolesRestart (cleared.of_outside (budgetRestart_outside _) (budgetRestart_obeys cleared.1))

theorem reconfigure_lawful (i : Fin 128) (n : ChannelConfig) (hn : n.protMin ≤ 1000) (h : s.Lawful L) : (reconfigure i n s).Lawful L := by
  have applied : (applyConfig i (s.chan i) n (bringToZero i s)).Lawful L :=
    h.of_outside (by simp) (applyConfig_obeys i n (fun _ => hn) h.1)
  have bound := (lawful_budgetProperty L).channelBound i applied
  have figured : (reprotect (channelBound i (applyConfig i (s.chan i) n (bringToZero i s)))).Lawful L :=
    bound.of_outside (reprotect_outside _) (reprotect_obeys bound.1)
  unfold reconfigure
  exact figured.of_outside (tripIfAsserted_outside _ i) (tripIfAsserted_obeys i figured.1)

theorem tick_lawful (h : s.Lawful L) : s.tick.Lawful L := by
  refine ⟨fun i => ?_, fun hL => ?_⟩
  · have ticked : s.tick.chan i = (s.chan i).tick := look_map _ _ _
    rw [ticked]
    cases L with
    | output => exact h.1 i
    | queue => exact (Option.isSome_map).trans (h.1 i)
    | steps => exact h.1 i
    | protectedPart => exact h.1 i
  · obtain ⟨hz, hi, hv⟩ := h.2 hL
    refine ⟨fun z => ?_, hi, hv⟩
    rw [show s.tick.light z = { s.light z with presenceT := tickTimer (s.light z).presenceT } from look_map _ _ _]
    exact hz z

/-- A configuration whose protected minimums fit, where the law asks it. -/
def Snapshot.Suits (c : Snapshot) (L : ChannelLaw) : Prop := L = .protectedPart → c.MinimumsFit

theorem factorySnapshot_suits : factorySnapshot.Suits L := by
  intro _
  constructor
  · intro i
    simp [factorySnapshot, defaultChannel]
  · intro z
    simp [factorySnapshot, defaultLight]

theorem loadedSnapshot_suits (a : Bool) (h : s.Lawful L) : (loadedSnapshot (loadImage a s.store.image)).Suits L := by
  unfold loadImage
  split
  · exact factorySnapshot_suits
  · split
    · next c hc =>
      intro hL
      have hi := (h.2 hL).2.1
      unfold StoreImage.verified at hc
      split at hc
      · cases hc
      · next e =>
        split at hc
        · cases hc
          rw [e] at hi
          exact hi
        · cases hc
    · exact factorySnapshot_suits

theorem startBudget_blank {c : Snapshot} (hc : c.Suits L) (tripIn : Fin 128 → Bool) (i : Fin 128) :
    (look (startBudget c tripIn).channels i).Blank L := by
  have started : look (startBudget c tripIn).channels i = startChannel (look c.channels i) (tripIn i) := by
    simp [startBudget, look]
  rw [started]
  exact ⟨rfl, rfl, rfl, fun hL => (hc hL).1 i⟩

theorem startLighting_cfg (c : Snapshot) (z : Fin 24) : (look (startLighting c).zones z).cfg = look c.lights z := by
  simp [startLighting, startLight]

theorem startUpNotices_chan (r : Except StoreReason Snapshot) (s : State) (i : Fin 128) : (startUpNotices r s).chan i = s.chan i := by
  unfold startUpNotices
  dsimp only
  cases r <;> split <;> simp only [raise_chan]

theorem finishLoading_lawful (a : Bool) (h : s.Lawful L) : (finishLoading a s).Lawful L := by
  have hc := loadedSnapshot_suits a h
  have fit : ∀ u : State, L = .protectedPart → u.lighting = startLighting (loadedSnapshot (loadImage a s.store.image)) →
      u.store.image = s.store.image → u.store.saving = s.store.saving → u.MinimumsFit := by
    intro u hL hl hi hv
    unfold State.MinimumsFit
    rw [hi, hv]
    refine ⟨fun z => ?_, (h.2 hL).2⟩
    rw [State.light, hl, startLighting_cfg]
    exact (hc hL).2 z
  unfold finishLoading
  dsimp only
  refine (lawful_budgetProperty L).lighting.lightingStart ⟨budgetStart_obeys fun i => ?_, fun hL => fit _ hL ?_ ?_ ?_⟩
  · rw [startUpNotices_chan]
    exact startBudget_blank hc _ i
  · rw [lighting_of_outside (budgetStart_outside _), lighting_of_outside (startUpNotices_outside _ _)]
    rfl
  · rw [store_of_outside (budgetStart_outside _), store_of_outside (startUpNotices_outside _ _)]
    rfl
  · rw [store_of_outside (budgetStart_outside _), store_of_outside (startUpNotices_outside _ _)]
    rfl

theorem saveEnded_lawful (r : SaveResult) {c : Snapshot} {d : Crc16} (hs : s.store.saving = some (c, d)) (h : s.Lawful L) :
    (saveEnded r c d s).Lawful L := by
  have saved : L = .protectedPart → c.MinimumsFit := fun hL => (h.2 hL).2.2 (c, d) hs
  have failed : ∀ k, L = .protectedPart → (failedImage s.store.image c k).MinimumsFit := by
    intro k hL
    cases k with
    | previous => exact (h.2 hL).2.1
    | written => exact saved hL
    | failing => exact saved hL
  have stored : ∀ x : SettingStore, (L = .protectedPart → x.image.MinimumsFit) → x.saving = none → (s.setStore x).Lawful L :=
    fun x hx hn => ⟨h.1, fun hL => ⟨(h.2 hL).1, hx hL, fun y hy => by rw [State.setStore_store, hn] at hy; cases hy⟩⟩
  have c := lawful_budgetProperty L
  unfold saveEnded saveFailed
  cases r with
  | compared => exact c.notice _ _ _ (stored _ saved rfl)
  | compareFailed => exact c.notice _ _ _ (stored _ (failed _) rfl)
  | noAnswer => exact c.notice _ _ _ (stored _ (failed _) rfl)

theorem save_lawful (h : s.Lawful L) : (s.setStore { s.store with saving := some (s.snapshot, s.plan.digest) }).Lawful L := by
  refine ⟨h.1, fun hL => ?_⟩
  obtain ⟨hz, hi, -⟩ := h.2 hL
  refine ⟨hz, hi, fun x hx => ?_⟩
  cases hx
  subst hL
  constructor
  · intro i
    rw [show look s.snapshot.channels i = (s.chan i).cfg from look_map _ _ _]
    exact (h.1 i).2
  · intro z
    rw [show look s.snapshot.lights z = (s.light z).cfg from look_map _ _ _]
    exact hz z

theorem lawful_systemCommands (L : ChannelLaw) : SystemCommands (State.Lawful L) where
  reconfigure i n _ hn h := reconfigure_lawful i n hn h
  tick _ h := tick_lawful h
  finishLoading a _ h := finishLoading_lawful a h
  fireInput _ _ h := h.setStop _ (.inl rfl)
  fireAsserted _ h := fireAsserted_lawful h
  fireCleared _ h := fireCleared_lawful h
  resumePlant _ _ h := resumePlant_lawful h
  plantRestart _ h := plantRestart_lawful h
  save _ h := save_lawful h
  saveEnded r _ _ _ hs h := saveEnded_lawful r hs h

/-- The state that begins a load: no channel asks for, holds or waits for anything, under the factory configuration. -/
theorem startLoading_lawful (s : State) {image : StoreImage} (hi : L = .protectedPart → image.MinimumsFit) :
    (startLoading s image).Lawful L := by
  refine ⟨fun i => ?_, fun hL => ⟨fun z => ?_, hi hL, fun x hx => by cases hx⟩⟩
  · have started : (startLoading s image).chan i = startChannel defaultChannel (s.chan i).tripIn := by
      simp [State.chan, startLoading, State.afresh, State.fresh, startBudget, look, factorySnapshot]
    rw [started]
    exact obeys_of_idle rfl rfl rfl (fun _ => rfl) fun _ => Nat.zero_le _
  · rw [show ((startLoading s image).light z).cfg = look factorySnapshot.lights z from startLighting_cfg factorySnapshot z]
    exact (factorySnapshot_suits hL).2 z

theorem powerUp_lawful (h : s.Lawful L) : (powerUp s).Lawful L := by
  refine startLoading_lawful s fun hL => ?_
  obtain ⟨-, hi, hv⟩ := h.2 hL
  unfold SettingStore.imageAtPowerOn
  split
  · next x d e => exact hv (x, d) e
  · exact hi

/-- Each law holds after every step where it held before. -/
theorem step_lawful (h : s.Lawful L) (e : step s = .next t) : t.Lawful L := by
  have c := lawful_budgetProperty L
  have closed : CommandClosed (State.Lawful L) :=
    { line := c.line
      budget := lawful_budgetCommands L
      dock := c.dock.commands
      climate := c.climate.commands
      lighting := c.lightingCommands
      plan := lawful_planCommands L
      system := lawful_systemCommands L }
  exact closed.step ⟨fun _ h => c.fetchNotices h, fun _ h => powerUp_lawful h, fun _ h => startLoading_lawful _ fun hL => (h.2 hL).2.1⟩
    (fun _ _ h => h) h e

/-- A law but that of the protected parts, which needs the minimums that will be sent. -/
theorem step_obeys (hL : L ≠ .protectedPart) (h : s.Obeys L) (e : step s = .next t) : t.Obeys L :=
  (step_lawful ⟨h, fun he => absurd he hL⟩ e).1

/-- Settles O27: every write of a channel commands its output, and no operation asks for or grants a step above a channel's steps. -/
theorem outputsAndStepsStaySound : Obligations.OutputsAndStepsStaySound :=
  ⟨fun _ _ h e => step_obeys (L := .output) (by simp) h e, fun _ _ h e => step_obeys (L := .steps) (by simp) h e⟩

/-- Settles O28: a LIGHT channel is never shed below its protected part, and the part grows only with a grant that follows it. -/
theorem lightsKeepTheirProtectedPart : Obligations.LightsKeepTheirProtectedPart := by
  intro s t h e
  obtain ⟨hg, hm, hz, hi, hv⟩ := h
  have lawful : s.Lawful .protectedPart := ⟨fun i => ⟨fun hl => (hg i).resolve_right (fun hn => hn hl), hm i⟩, fun _ => ⟨hz, hi, hv⟩⟩
  obtain ⟨ho, hf⟩ := step_lawful lawful e
  obtain ⟨hz', hi', hv'⟩ := hf rfl
  refine ⟨fun i => ?_, fun i => (ho i).2, hz', hi', hv'⟩
  by_cases hl : (t.chan i).cfg.role = .light
  · exact .inl ((ho i).1 hl)
  · exact .inr hl

end Sys2Proof.Machine
end

section
/-! SUPPORT. A property that holds at the end of every event the arbiter handles: what has to be known of the walk, of shedding and of the end of
an event, and that every command then keeps it (R63, R71, R72, R79, R85). -/

namespace Sys2Proof.Machine

variable {J I : State → Prop} {s t : State}

/-- Nothing that the arbiter's conditions read has changed: the holdings, the flags, the profile, the targets, and which channels wait. -/
structure State.SameConditions (s t : State) : Prop where
  holdings : t.holdings = s.holdings
  tight : t.budget.tight = s.budget.tight
  shed : t.budget.shed = s.budget.shed
  profile : t.profile = s.profile
  target : ∀ i, (t.chan i).target = (s.chan i).target
  waiting : ∀ i, (t.chan i).entry.isSome = (s.chan i).entry.isSome

theorem State.SameConditions.of_budget (hb : t.budget = s.budget) (hs : t.stop.state = s.stop.state) (hp : t.profile = s.profile) :
    s.SameConditions t := by
  have same : ∀ i, t.chan i = s.chan i := chan_congr (by rw [hb])
  exact ⟨holdings_of_budget hb hs, by rw [hb], by rw [hb], hp, fun i => by rw [same], fun i => by rw [same]⟩

/-- A write of a channel's timers, trip input or queue mark. -/
theorem State.SameConditions.putChan (i : Fin 128) {c : Channel} (hc : c.cfg = (s.chan i).cfg) (hg : c.granted = (s.chan i).granted)
    (ht : c.target = (s.chan i).target) (he : c.entry.isSome = (s.chan i).entry.isSome) : s.SameConditions (s.putChan i c) := by
  refine ⟨holdings_putChan i hc hg, rfl, rfl, rfl, fun j => ?_, fun j => ?_⟩
  · rw [chan_putChan]
    split
    · next hij => exact ht.trans (by rw [hij])
    · rfl
  · rw [chan_putChan]
    split
    · next hij => exact he.trans (by rw [hij])
    · rfl

/-- I holds at the end of every event the arbiter handles, and is known when J held before the walk; J is a matter of the holdings, and
lowering a grant keeps it. -/
structure EventProperty (J I : State → Prop) : Prop where
  weaken : ∀ s, I s → J s
  same : ∀ s t, t.holdings = s.holdings → J s → J t
  lower : ∀ i c s, c.cfg = (s.chan i).cfg → c.nonProtected s.stop.state ≤ (s.chan i).nonProtected s.stop.state → J s → J (s.putChan i c)
  arbitrate : ∀ s, J s → I (arbitrate s)
  endEvent : ∀ s, J s → I (endEvent s)
  handOver : ∀ cause s, I (handOver cause s)
  settle : ∀ s t, t.holdings = s.holdings → t.budget.tight = s.budget.tight → t.profile = s.profile → I s → I (settleShed t)
  quiet : ∀ s t, s.SameConditions t → I s → I t
  stop : ∀ s c, s.stop.state ≠ .running → c.state ≠ .running → I s → I (s.setStop c)
  start : ∀ s image, I (startLoading s image)

namespace EventProperty

/-! ### The hand-overs of figures -/

theorem reprotect (c : EventProperty J I) (s : State) : I (reprotect s) := by
  unfold Machine.reprotect
  exact c.handOver _ _

theorem meterSample (c : EventProperty J I) (s : State) : I (meterSample s) := by
  unfold Machine.meterSample
  exact c.handOver _ _

theorem clockSetEvent (c : EventProperty J I) (v : Nat) (s : State) : I (clockSetEvent v s) := by
  unfold Machine.clockSetEvent
  exact c.handOver _ _

theorem profileChanged (c : EventProperty J I) (s : State) : I (profileChanged s) := by
  unfold Machine.profileChanged
  exact c.handOver _ _

theorem budgetStart (c : EventProperty J I) (s : State) : I (budgetStart s) := by
  unfold Machine.budgetStart
  exact c.handOver _ _

theorem budgetStop (c : EventProperty J I) (s : State) : I (budgetStop s) := by
  unfold Machine.budgetStop
  exact c.reprotect _

theorem budgetResume (c : EventProperty J I) (s : State) : I (budgetResume s) := by
  unfold Machine.budgetResume
  exact c.reprotect _

/-! ### Releases, targets, timers and trips -/

theorem putSame (c : EventProperty J I) (i : Fin 128) {x : Channel} (hc : x.cfg = (s.chan i).cfg) (hg : x.granted = (s.chan i).granted)
    (h : J s) : J (s.putChan i x) := c.same _ _ (holdings_putChan i hc hg) h

theorem setGranted (c : EventProperty J I) (i : Fin 128) {g : Nat} (hg : g ≤ (s.chan i).granted) (h : J s) : J (setGranted i g s) :=
  c.same _ _ (setGranted_holdings i g s) (c.lower i _ s rfl (nonProtected_mono hg _) h)

theorem release (c : EventProperty J I) (i : Fin 128) (ht : (s.chan i).target ≤ (s.chan i).granted) (h : J s) : I (release i s) := by
  unfold Machine.release
  dsimp only
  refine c.arbitrate _ (c.same _ _ (keepEntry_holdings false i _) (c.setGranted i ?_ (c.putSame i rfl rfl h)))
  rw [chan_putChan_self]
  exact ht

theorem stepTarget (c : EventProperty J I) (i : Fin 128) (v : Nat) (m : Bool) (h : I s) : I (stepTarget i v m s) := by
  have asked : (s.putChan i { s.chan i with target := v }).holdings = s.holdings := holdings_putChan i rfl rfl
  have kept : ∀ b, (keepEntry b i (s.putChan i { s.chan i with target := v })).holdings = s.holdings :=
    fun b => (keepEntry_holdings b i _).trans asked
  have chan : ∀ b, ((keepEntry b i (s.putChan i { s.chan i with target := v })).chan i).target = v
      ∧ ((keepEntry b i (s.putChan i { s.chan i with target := v })).chan i).granted = (s.chan i).granted := by
    intro b
    rw [keepEntry_field (·.target) (fun _ _ _ => rfl), keepEntry_field (·.granted) (fun _ _ _ => rfl), chan_putChan_self]
    exact ⟨rfl, rfl⟩
  have settled : ∀ b, I (settleShed (keepEntry b i (s.putChan i { s.chan i with target := v }))) := by
    intro b
    refine c.settle s _ (kept b) ?_ ?_ h
    · obtain e | ⟨e, -⟩ := keepEntry_cases b i (s.putChan i { s.chan i with target := v }) <;> rw [e] <;> rfl
    · obtain e | ⟨e, -⟩ := keepEntry_cases b i (s.putChan i { s.chan i with target := v }) <;> rw [e] <;> rfl
  unfold Machine.stepTarget
  dsimp only
  split
  · next hv =>
    split
    · refine c.release i ?_ (c.same _ _ (kept _) (c.weaken _ h))
      rw [(chan _).1, (chan _).2]
      exact hv.le
    · exact settled _
  · split
    · exact c.arbitrate _ (c.same _ _ (kept _) (c.weaken _ h))
    · exact settled _

theorem lightTargetChange (c : EventProperty J I) (i : Fin 128) (v : Nat) (h : I s) : I (lightTargetChange i v s) := by
  have asked : (s.putChan i { s.chan i with target := v }).holdings = s.holdings := holdings_putChan i rfl rfl
  have mid := c.same _ _ asked (c.weaken _ h)
  have settled : I (settleShed (s.putChan i { s.chan i with target := v })) := c.settle s _ asked rfl rfl h
  unfold Machine.lightTargetChange
  dsimp only
  split
  · split
    · exact c.arbitrate _ mid
    · exact settled
  · split
    · next hk =>
      refine c.arbitrate _ (c.setGranted i ?_ mid)
      rw [chan_putChan_self]
      simp only [Bool.and_eq_true, decide_eq_true_eq] at hk
      exact hk.2.le
    · split
      · exact c.arbitrate _ mid
      · exact settled

theorem targetChange (c : EventProperty J I) (i : Fin 128) (r : Role) (o v : Nat) (m : Bool) (h : I s) : I (targetChange i r o v m s) := by
  unfold Machine.targetChange
  dsimp only
  split
  · exact h
  · split
    · exact h
    · split
      · exact h
      · exact c.lightTargetChange i v h
    · split
      · exact h
      · exact c.stepTarget i _ m h

theorem protectedMinimum (c : EventProperty J I) (i : Fin 128) (z v : Nat) (h : I s) : I (protectedMinimum i z v s) := by
  unfold Machine.protectedMinimum
  dsimp only
  split
  · exact h
  · split
    · exact h
    · exact c.reprotect _

theorem budgetProperty (c : EventProperty J I) : BudgetProperty I where
  target i r o v m _ h := c.targetChange i r o v m h
  minimum i z v _ _ h := c.protectedMinimum i z v h
  other s t e h := c.quiet s t (.of_budget e.budget (by rw [e.stop]) e.profile) h

theorem trip (c : EventProperty J I) (i : Fin 128) (h : J s) : I (trip i s) := by
  unfold Machine.trip
  dsimp only
  exact c.arbitrate _ (c.same _ _ (raise_holdings _ _ _ _) (c.setGranted i (Nat.zero_le _) (c.putSame i rfl rfl h)))

theorem tripIfAsserted (c : EventProperty J I) (i : Fin 128) (h : I s) : I (tripIfAsserted i s) := by
  unfold Machine.tripIfAsserted
  split
  · exact c.trip i (c.weaken _ h)
  · exact h

theorem minOnExpired (c : EventProperty J I) (i : Fin 128) (h : I s) : I (minOnExpired i s) := by
  unfold Machine.minOnExpired
  dsimp only
  split
  · next ht =>
    simp only [Bool.and_eq_true, decide_eq_true_eq] at ht
    refine c.release i ?_ (c.putSame i rfl rfl (c.weaken _ h))
    rw [chan_putChan_self]
    exact ht.2.le
  · exact c.quiet _ _ (.putChan i rfl rfl rfl rfl) h

theorem urgencyReached (c : EventProperty J I) (i : Fin 128) (h : I s) : I (urgencyReached i s) := by
  unfold Machine.urgencyReached
  split
  · split
    · exact c.arbitrate _ (c.putSame i rfl rfl (c.weaken _ h))
    · exact h
  · exact h

theorem budgetCommands (c : EventProperty J I) : BudgetCommands I where
  tripInput i _ s h := c.quiet s _ (.putChan i rfl rfl rfl rfl) h
  tripSampled i _ s h := c.tripIfAsserted i (c.quiet s _ (.putChan i rfl rfl rfl rfl) h)
  acknowledge i s h := by
    unfold Machine.acknowledge
    dsimp only
    exact c.arbitrate _ (c.same _ _ (keepEntry_holdings false i _) (c.putSame i rfl rfl (c.weaken _ h)))
  limits _ s h := c.quiet s _ ⟨rfl, rfl, rfl, rfl, fun _ => rfl, fun _ => rfl⟩ h
  meterPulse m s h := by
    refine c.quiet s _ ?_ h
    cases m <;> exact ⟨rfl, rfl, rfl, rfl, fun _ => rfl, fun _ => rfl⟩
  meterSample s _ := c.meterSample s
  minOnExpired i _ h := c.minOnExpired i h
  minOffExpired i s h := c.arbitrate _ (c.putSame i rfl rfl (c.weaken _ h))
  urgencyReached i _ h := c.urgencyReached i h

theorem planCommands (c : EventProperty J I) : PlanCommands I :=
  PlanClosed.commands (J := fun _ => True)
    { weaken := fun _ _ => trivial, anyPlan := fun _ _ _ => trivial, anyNotice := fun _ _ _ _ _ => trivial, anyLight := fun _ _ _ => trivial
      turn := fun s _ => c.profileChanged (lightingTurn s)
      profile := fun _ _ _ => c.profileChanged _
      plan := fun s _ _ hp h => c.quiet s _ (.of_budget rfl rfl hp) h
      notice := fun k n b _ h => c.budgetProperty.notice k n b h
      light := fun z _ h => (c.budgetProperty.lights z).deriveLight h
      clock := fun v s _ => c.clockSetEvent v s }

/-! ### The commands that reach several units -/

theorem fireAsserted (c : EventProperty J I) (h : I s) : I (fireAsserted s) := by
  unfold Machine.fireAsserted
  dsimp only
  split
  · exact c.quiet s _ (.of_budget rfl rfl rfl) h
  · split
    · unfold plantStopped
      exact c.budgetProperty.rolesStop (c.budgetStop _)
    · next hr => exact c.budgetProperty.notice _ _ _ (c.stop s _ hr (by simp) h)

theorem fireCleared (c : EventProperty J I) (h : I s) : I (fireCleared s) := by
  unfold Machine.fireCleared
  split
  · next hs => exact c.budgetProperty.notice _ _ _ (c.stop s _ (by simp [hs]) (by simp) h)
  · exact c.quiet s _ (.of_budget rfl rfl rfl) h

theorem restartChannel (c : EventProperty J I) (i : Fin 128) (h : J s) : J (restartChannel i s) := by
  unfold Machine.restartChannel
  dsimp only
  have asked := c.putSame i (x := { s.chan i with target := 0, minOnT := none, entry := none }) rfl rfl h
  refine c.same _ _ (setGranted_holdings i _ _) (c.lower i _ _ rfl ?_ asked)
  rw [chan_putChan_self]
  have freed : ({ s.chan i with granted := (s.chan i).protPart s.stop.state } : Channel).nonProtected s.stop.state = 0 := by
    unfold Channel.nonProtected
    cases hr : (s.chan i).cfg.role <;> simp [hr, Channel.protPart]
  exact (le_of_eq freed).trans (Nat.zero_le _)

theorem plantRestart (c : EventProperty J I) (h : I s) : I (plantRestart s) := by
  have cleared : J (s.setPlan { s.plan with overrides := [] }) := c.same s _ rfl (c.weaken _ h)
  unfold Machine.plantRestart Machine.budgetRestart
  exact c.budgetProperty.rolesRestart (c.endEvent _ (forEach_keeps (fun i _ hu => c.restartChannel i hu) _ _ cleared))

theorem systemCommands (c : EventProperty J I) : SystemCommands I where
  reconfigure i n _ _ _ := by
    unfold Machine.reconfigure
    exact c.tripIfAsserted i (c.reprotect _)
  tick s h := by
    have ticked : ∀ i, s.tick.chan i = (s.chan i).tick := fun i => look_map _ _ _
    refine c.quiet s _ ⟨?_, rfl, rfl, rfl, fun i => by rw [ticked]; rfl, fun i => by rw [ticked]; exact Option.isSome_map⟩ h
    simp only [State.holdings, State.tick, LoadBudget.tick, Vector.map_map]
    rfl
  finishLoading _ _ _ := by
    unfold Machine.finishLoading
    exact c.budgetProperty.lighting.lightingStart (c.budgetStart _)
  fireInput _ s h := c.quiet s _ (.of_budget rfl rfl rfl) h
  fireAsserted _ h := c.fireAsserted h
  fireCleared _ h := c.fireCleared h
  resumePlant _ _ _ := by
    unfold Machine.resumePlant plantResumed
    exact c.budgetProperty.rolesResume (c.budgetResume _)
  plantRestart _ h := c.plantRestart h
  save s h := c.quiet s _ (.of_budget rfl rfl rfl) h
  saveEnded r _ _ s _ h := by
    have stored := fun x => c.quiet s (s.setStore x) (.of_budget rfl rfl rfl) h
    have drawn := fun x => c.quiet s (s.setStore x).draw (.of_budget rfl rfl rfl) h
    unfold Machine.saveEnded saveFailed
    cases r with
    | compared => exact c.budgetProperty.notice _ _ _ (stored _)
    | compareFailed => exact c.budgetProperty.notice _ _ _ (drawn _)
    | noAnswer => exact c.budgetProperty.notice _ _ _ (drawn _)

/-- The property holds after every step where it held before. -/
theorem stays (c : EventProperty J I) (h : I s) (e : step s = .next t) : I t := by
  have closed : CommandClosed I :=
    { line := c.budgetProperty.line
      budget := c.budgetCommands
      dock := c.budgetProperty.dock.commands
      climate := c.budgetProperty.climate.commands
      lighting := c.budgetProperty.lightingCommands
      plan := c.planCommands
      system := c.systemCommands }
  exact closed.step ⟨fun _ h => c.budgetProperty.fetchNotices h, fun _ _ => c.start _ _, fun _ _ => c.start _ _⟩
    (fun s _ h => c.quiet s _ (.of_budget rfl rfl rfl) h) h e

end EventProperty

end Sys2Proof.Machine
end

section
/-! SUPPORT. The operations of the Load Budget Unit that write nothing but channels, the step-up serial and what a curtain grant reaches: the
walk, the shedding passes, the upkeep of the queue (R44, R75 to R83). -/

namespace Sys2Proof.Machine

variable {I : State → Prop} {s t : State}

/-- The property survives a write of a channel, of the last serial, and of the curtain-running flag of a door that names a curtain. -/
structure GrantClosed (I : State → Prop) : Prop where
  put : ∀ i c s, I s → I (s.putChan i c)
  serial : ∀ n s, I s → I (s.setBudget { s.budget with lastSerial := n })
  curtain : ∀ d b s, (s.door d).cfg.curtain ≠ none → I s → I (setCurtainRunning d b s)

namespace GrantClosed

theorem setGranted (c : GrantClosed I) (i : Fin 128) (g : Nat) (h : I s) : I (setGranted i g s) := by
  have put := c.put i { s.chan i with granted := g } s h
  unfold Machine.setGranted
  dsimp only
  split
  · exact put
  · unfold curtainGrant
    split
    · split
      · split
        · next hc => exact c.curtain _ _ _ (by rw [hc]; exact Option.some_ne_none i) put
        · exact put
      · exact put
    · exact put

theorem keepEntry (c : GrantClosed I) (m : Bool) (i : Fin 128) (h : I s) : I (keepEntry m i s) := by
  obtain e | ⟨e, -⟩ := keepEntry_cases m i s
  · rw [e]
    exact c.put i _ s h
  · rw [e]
    exact h

theorem remeasureUrgency (c : GrantClosed I) (h : I s) : I (remeasureUrgency s) := by
  refine forEach_keeps (fun i u hu => ?_) _ s h
  split
  · split
    · exact c.put i _ u hu
    · exact hu
  · exact hu

theorem takeSerial (c : GrantClosed I) (i : Fin 128) (h : I s) : I (takeSerial i s) := c.put i _ _ (c.serial _ s h)

theorem stepUp (c : GrantClosed I) (i : Fin 128) (k : Nat) (h : I s) : I (stepUp i k s) :=
  c.keepEntry false i (c.setGranted i _ (c.takeSerial i (c.put i _ s h)))

theorem lightVisit (c : GrantClosed I) (i : Fin 128) (h : I s) : I (lightVisit i s) := by
  unfold Machine.lightVisit
  dsimp only
  split
  · exact h
  · exact c.takeSerial i (c.put i _ s h)

theorem visitQueue (c : GrantClosed I) (l : List (Fin 128)) (h : I s) : I (visitQueue l s) := by
  induction l generalizing s with
  | nil => exact h
  | cons i l ih =>
    have some_steps : I (if 0 < s.payable (s.chan i) then Machine.stepUp i (s.payable (s.chan i)) s else s) := by
      split
      · exact c.stepUp i _ h
      · exact h
    unfold Machine.visitQueue
    dsimp only
    split
    · exact ih h
    · split
      · exact ih h
      · split
        · exact ih (c.stepUp i _ h)
        · split
          · exact some_steps
          · exact ih some_steps

theorem walk (c : GrantClosed I) (h : I s) : I (walk s) := c.visitQueue _ (forEach_keeps (fun i _ hu => c.lightVisit i hu) _ s h)

theorem shedOne (c : GrantClosed I) (i : Fin 128) (h : I s) : I (shedOne i s) := by
  unfold Machine.shedOne
  dsimp only
  split
  · exact c.setGranted i _ h
  · exact c.keepEntry false i (c.setGranted i _ (c.put i _ s h))

theorem shedLoop (c : GrantClosed I) (n : Nat) (h : I s) : I (shedLoop n s) := by
  induction n generalizing s with
  | zero => exact h
  | succ n ih =>
    unfold Machine.shedLoop
    split
    · exact h
    · split
      · exact h
      · exact ih (c.shedOne _ h)

theorem stopChannel (c : GrantClosed I) (i : Fin 128) (h : I s) : I (stopChannel i s) := by
  unfold Machine.stopChannel
  dsimp only
  split
  · exact h
  · exact c.put i _ s h
  · refine c.keepEntry false i ?_
    split
    · exact c.setGranted i 0 (c.put i _ s h)
    · exact h

theorem restartChannel (c : GrantClosed I) (i : Fin 128) (h : I s) : I (restartChannel i s) :=
  c.setGranted i _ (c.put i _ s h)

theorem bringToZero (c : GrantClosed I) (i : Fin 128) (h : I s) : I (bringToZero i s) := c.setGranted i 0 (c.put i _ s h)

theorem applyConfig (c : GrantClosed I) (i : Fin 128) (w : Channel) (n : ChannelConfig) (h : I s) : I (applyConfig i w n s) :=
  c.put i _ s h

end GrantClosed

/-! ### What those operations leave alone -/

@[simp] theorem setCurtainRunning_line (d : Fin 32) (b : Bool) (s : State) : (setCurtainRunning d b s).line = s.line := by
  unfold setCurtainRunning accrue
  dsimp only
  split
  · rfl
  · split
    · rfl
    · split <;> rfl

/-- Two Load Budget Units with the same window, figures and flags: they differ in channels and the last serial at most. -/
def LoadBudget.SameFigures (a b : LoadBudget) : Prop := b = { a with channels := b.channels, lastSerial := b.lastSerial }

namespace LoadBudget.SameFigures

variable {a b c : LoadBudget}

theorem refl (a : LoadBudget) : a.SameFigures a := rfl

theorem trans (h : a.SameFigures b) (k : b.SameFigures c) : a.SameFigures c :=
  (show c = _ from k).trans
    (congrArg (fun x : LoadBudget => { x with channels := c.channels, lastSerial := c.lastSerial }) (show b = _ from h))

theorem tight (h : a.SameFigures b) : b.tight = a.tight := (congrArg LoadBudget.tight (show b = _ from h) :)
theorem shed (h : a.SameFigures b) : b.shed = a.shed := (congrArg LoadBudget.shed (show b = _ from h) :)
theorem pool (h : a.SameFigures b) : b.pool = a.pool := (congrArg LoadBudget.pool (show b = _ from h) :)
theorem reserve (h : a.SameFigures b) : b.reserve = a.reserve := (congrArg LoadBudget.reserve (show b = _ from h) :)
theorem pProt (h : a.SameFigures b) : b.pProt = a.pProt := (congrArg LoadBudget.pProt (show b = _ from h) :)
theorem shareable (h : a.SameFigures b) : b.shareable = a.shareable := (congrArg LoadBudget.shareable (show b = _ from h) :)
theorem managed (h : a.SameFigures b) : b.managed = a.managed := (congrArg LoadBudget.managed (show b = _ from h) :)

end LoadBudget.SameFigures

/-- A state with the same line and the same figures. -/
theorem grantClosed_figures (s : State) : GrantClosed fun u => u.line = s.line ∧ s.budget.SameFigures u.budget where
  put _ _ _ h := ⟨h.1, h.2.trans rfl⟩
  serial _ _ h := ⟨h.1, h.2.trans rfl⟩
  curtain d b u _ h := by
    rw [setCurtainRunning_line, setCurtainRunning_budget]
    exact h

@[simp] theorem setGranted_line (i : Fin 128) (g : Nat) (s : State) : (setGranted i g s).line = s.line :=
  ((grantClosed_figures s).setGranted i g ⟨rfl, .refl _⟩).1

theorem setGranted_figures (i : Fin 128) (g : Nat) (s : State) : s.budget.SameFigures (setGranted i g s).budget :=
  ((grantClosed_figures s).setGranted i g ⟨rfl, .refl _⟩).2

@[simp] theorem keepEntry_line (m : Bool) (i : Fin 128) (s : State) : (keepEntry m i s).line = s.line :=
  ((grantClosed_figures s).keepEntry m i ⟨rfl, .refl _⟩).1

theorem keepEntry_figures (m : Bool) (i : Fin 128) (s : State) : s.budget.SameFigures (keepEntry m i s).budget :=
  ((grantClosed_figures s).keepEntry m i ⟨rfl, .refl _⟩).2

@[simp] theorem walk_line (s : State) : (walk s).line = s.line := ((grantClosed_figures s).walk ⟨rfl, .refl _⟩).1

theorem walk_figures (s : State) : s.budget.SameFigures (walk s).budget := ((grantClosed_figures s).walk ⟨rfl, .refl _⟩).2

@[simp] theorem shedLoop_line (n : Nat) (s : State) : (shedLoop n s).line = s.line :=
  ((grantClosed_figures s).shedLoop n ⟨rfl, .refl _⟩).1

theorem shedLoop_figures (n : Nat) (s : State) : s.budget.SameFigures (shedLoop n s).budget :=
  ((grantClosed_figures s).shedLoop n ⟨rfl, .refl _⟩).2

end Sys2Proof.Machine
end

section
/-! The pool, the tight flag and the shed condition at every step, and the notices of the tight flag (R71, R72, R75, R79, R85). -/

namespace Sys2Proof.Machine

variable {s t m : State}

/-! ### The pool -/

/-- Only whether the plant is RUNNING counts for the pool use. -/
theorem poolUse_setStop {c : StopControl} (hs : s.stop.state ≠ .running) (hc : c.state ≠ .running) : (s.setStop c).poolUse = s.poolUse := by
  have share : ∀ k, Channel.classShare c.state k = Channel.classShare s.stop.state k := by
    intro k
    funext x
    simp [Channel.classShare, Channel.nonProtected, Channel.protPart, hs, hc]
  have grant : ∀ k, (s.setStop c).classGrant k = s.classGrant k := by
    intro k
    rw [classGrant_eq, classGrant_eq]
    exact congrArg (fun f => sumTable f s.budget.channels) (share k)
  simp only [State.poolUse, State.poolUsed, grant, State.setStop_budget]

theorem startLoading_poolUse (s : State) (image : StoreImage) : (startLoading s image).poolUse = 0 := by
  have grant : ∀ k, (startLoading s image).classGrant k = 0 := by
    intro k
    rw [classGrant_eq]
    rw [sumTable_eq]
    refine Finset.sum_eq_zero fun i _ => ?_
    simp [startLoading, State.afresh, State.fresh, startBudget, look, factorySnapshot, startChannel, defaultChannel, Channel.classShare,
      Channel.inClass, Role.cls]
  simp [State.poolUse, State.poolUsed, grant]

theorem poolSafe_event : EventProperty State.PoolSafe State.PoolSafe where
  weaken _ h := h
  same _ _ e h := poolSafe_of_holdings e h
  lower i _ _ hc hn h := poolSafe_lower i hc hn h
  arbitrate _ h := arbitrate_poolSafe h
  endEvent _ h := endEvent_poolSafe h
  handOver cause s := handOver_poolSafe cause s
  settle _ t e _ _ h := poolSafe_of_holdings ((settleShed_holdings t).trans e) h
  quiet _ _ e h := poolSafe_of_holdings e.holdings h
  stop _ _ hs hc h := (poolUse_setStop hs hc).le.trans h
  start s image := (startLoading_poolUse s image).le.trans (Nat.zero_le _)

/-- Settles O26: the walk grants what its class can take and shedding ends within the pool; every operation that changes what a channel
wants ends with the upkeep of its queue entry. -/
theorem grantsAndQueueStayExact : Obligations.GrantsAndQueueStayExact :=
  ⟨fun _ _ h e => poolSafe_event.stays h e, fun _ _ h e => step_obeys (L := .queue) (by simp) h e⟩

/-! ### The flags at the end of an event -/

theorem isTight_iff (s : State) :
    s.isTight = true ↔ s.budget.pool * 1000 < s.budget.pool * s.profile.tight + s.poolUse * 1000 := by
  unfold State.isTight State.free
  rw [decide_eq_true_iff]
  constructor
  · intro h
    zify
    linarith
  · intro h
    zify at h
    linarith

/-- The tight flag takes the condition as it stands (R72). -/
theorem settleTight_budget (s : State) : (settleTight s).budget = { s.budget with tight := s.isTight } := by
  unfold settleTight
  dsimp only
  split
  · next h => rw [h]
  · rw [raise_budget]
    rfl

theorem profile_of_plan (h : t.plan = s.plan) : t.profile = s.profile := by
  unfold State.profile
  rw [h]

theorem settleTight_plan (s : State) : (settleTight s).plan = s.plan := by
  unfold settleTight
  dsimp only
  split
  · rfl
  · exact raise_plan _ _ _ _

theorem settleTight_current (s : State) : (settleTight s).TightCurrent := by
  unfold State.TightCurrent
  rw [isTight_of_holdings (settleTight_holdings s) (profile_of_plan (settleTight_plan s)), settleTight_budget]

theorem settleTight_of_current (h : s.TightCurrent) : settleTight s = s := by
  unfold settleTight
  rw [if_pos h.symm]

/-- A flag that changes is reported (R72). -/
theorem settleTight_of_changed (h : s.isTight ≠ s.budget.tight) :
    settleTight s = raise (if s.isTight then .budgetTight else .budgetEased) 0 s.tightData
      (s.setBudget { s.budget with tight := s.isTight }) := by
  unfold settleTight
  rw [if_neg h]

/-- The shed condition waits for something (R85). -/
theorem settleShed_idle_iff (s : State) :
    (s.queued.isEmpty && s.deficitMembers.isEmpty) = true ↔ ∀ i, (s.chan i).entry = none ∧ (s.chan i).deficit = 0 := by
  simp only [State.queued, State.deficitMembers, Bool.and_eq_true, List.isEmpty_iff, List.filter_eq_nil_iff, mem_indices, forall_const,
    Bool.not_eq_true, Option.isSome_eq_false_iff, Option.isNone_iff_eq_none, not_lt, Nat.le_zero, decide_eq_true_eq]
  exact ⟨fun h i => ⟨h.1 i, h.2 i⟩, fun h => ⟨fun i => (h i).1, fun i => (h i).2⟩⟩

theorem settleShed_of_idle (h : ∀ i, (s.chan i).entry = none ∧ (s.chan i).deficit = 0) :
    settleShed s = s.setBudget { s.budget with shed := false } := by
  unfold settleShed
  rw [if_pos ((settleShed_idle_iff s).mpr h)]

theorem settleShed_of_waiting (h : ∃ i, (s.chan i).entry.isSome = true ∨ 0 < (s.chan i).deficit) : settleShed s = s := by
  unfold settleShed
  rw [if_neg]
  rw [settleShed_idle_iff]
  intro idle
  obtain ⟨i, hi | hi⟩ := h
  · rw [(idle i).1] at hi
    cases hi
  · rw [(idle i).2] at hi
    exact absurd hi (by simp)

/-- Something waits in the queue or the deficit set, or nothing does. -/
theorem waiting_or_idle (s : State) :
    (∃ i, (s.chan i).entry.isSome = true ∨ 0 < (s.chan i).deficit) ∨ ∀ i, (s.chan i).entry = none ∧ (s.chan i).deficit = 0 := by
  by_cases h : ∃ i, (s.chan i).entry.isSome = true ∨ 0 < (s.chan i).deficit
  · exact .inl h
  · refine .inr fun i => ?_
    have hi := not_or.mp (not_exists.mp h i)
    exact ⟨by simpa using hi.1, by simpa using hi.2⟩

theorem settleShed_waits (s : State) : (settleShed s).ShedWaits := by
  obtain h | h := waiting_or_idle s
  · rw [settleShed_of_waiting h]
    exact fun _ => h
  · rw [settleShed_of_idle h]
    exact fun hs => by cases hs

@[simp] theorem settleShed_line (s : State) : (settleShed s).line = s.line := by
  unfold settleShed
  split <;> rfl

@[simp] theorem settleShed_plan (s : State) : (settleShed s).plan = s.plan := by
  unfold settleShed
  split <;> rfl

@[simp] theorem settleShed_tight (s : State) : (settleShed s).budget.tight = s.budget.tight := by
  unfold settleShed
  split <;> rfl

theorem shedWaits_congr (hs : t.budget.shed = s.budget.shed) (hc : ∀ i, (t.chan i).cfg = (s.chan i).cfg ∧ (t.chan i).target = (s.chan i).target
    ∧ (t.chan i).granted = (s.chan i).granted ∧ (t.chan i).entry.isSome = (s.chan i).entry.isSome) (h : s.ShedWaits) : t.ShedWaits := by
  have deficit : ∀ i, (t.chan i).deficit = (s.chan i).deficit := by
    intro i
    obtain ⟨hcfg, ht, hg, -⟩ := hc i
    simp only [Channel.deficit, hcfg, ht, hg]
  intro ht
  obtain ⟨i, hi⟩ := h (hs ▸ ht)
  refine ⟨i, ?_⟩
  obtain ⟨-, -, -, he⟩ := hc i
  rw [he, deficit]
  exact hi

theorem endEvent_waits (s : State) : (endEvent s).ShedWaits :=
  shedWaits_congr (by unfold endEvent; rw [settleTight_budget]) (fun i => by unfold endEvent; simp) (settleShed_waits s)

theorem endEvent_current (s : State) : (endEvent s).TightCurrent := by
  unfold endEvent
  exact settleTight_current _

theorem arbitrate_eq (s : State) : arbitrate s = endEvent (walk s) := rfl

theorem handOver_eq (cause : ShedCause) (s : State) : handOver cause s = endEvent (walk (shedding cause s)) := rfl

theorem tightCurrent_event : EventProperty (fun _ => True) State.TightCurrent where
  weaken _ _ := trivial
  same _ _ _ _ := trivial
  lower _ _ _ _ _ _ := trivial
  arbitrate s _ := by
    rw [arbitrate_eq]
    exact endEvent_current _
  endEvent s _ := endEvent_current s
  handOver cause s := by
    rw [handOver_eq]
    exact endEvent_current _
  settle s t e ht hp h := by
    have kept : (settleShed t).isTight = s.isTight :=
      isTight_of_holdings ((settleShed_holdings t).trans e)
        ((profile_of_plan (settleShed_plan t)).trans hp)
    unfold State.TightCurrent
    rw [kept, settleShed_tight, ht]
    exact h
  quiet s t e h := by
    unfold State.TightCurrent
    rw [isTight_of_holdings e.holdings e.profile, e.tight]
    exact h
  stop s c hs hc h := by
    have kept : (s.setStop c).isTight = s.isTight := by
      simp only [State.isTight, State.free, poolUse_setStop hs hc]
      rfl
    exact h.trans kept.symm
  start s image := by
    have loose : (startLoading s image).isTight = false := by
      rw [← Bool.not_eq_true, isTight_iff]
      simp [show (startLoading s image).budget.pool = 0 from rfl, startLoading_poolUse]
    exact loose.symm

theorem shedWaits_event : EventProperty (fun _ => True) State.ShedWaits where
  weaken _ _ := trivial
  same _ _ _ _ := trivial
  lower _ _ _ _ _ _ := trivial
  arbitrate s _ := by
    rw [arbitrate_eq]
    exact endEvent_waits _
  endEvent s _ := endEvent_waits s
  handOver cause s := by
    rw [handOver_eq]
    exact endEvent_waits _
  settle _ t _ _ _ _ := settleShed_waits t
  quiet s t e h := shedWaits_congr e.shed (fun i => ⟨holdings_cfg e.holdings i, e.target i, holdings_granted e.holdings i, e.waiting i⟩) h
  stop _ _ _ _ h := h
  start _ _ := fun h => by cases h

/-! ### The notices of the tight flag -/

/-- A notice that is raised joins the queue when it is admitted (R167, R168). -/
theorem raise_notices (k : NoticeKind) (n : Nat) (b : Bytes) (s : State) :
    (raise k n b s).line.notices = if s.admits k then s.line.notices ++ [⟨k, s.plan.clock, n, b⟩] else s.line.notices := by
  unfold raise Line.join
  by_cases hp : s.line.level.passes k.cls = true
  · by_cases hl : s.line.notices.length < Config.maxNotices
    · simp [State.admits, hp, hl]
    · simp [State.admits, hp, hl]
  · simp [State.admits, hp]

@[simp] theorem raise_level (k : NoticeKind) (n : Nat) (b : Bytes) (s : State) : (raise k n b s).line.level = s.line.level := by
  unfold raise Line.join
  split
  · split <;> rfl
  · rfl

/-- Between s and m the tight flag stands, and neither of its notices has joined the queue. -/
structure State.FlagSilent (s m : State) : Prop where
  level : m.line.level = s.line.level
  tight : m.budget.tight = s.budget.tight
  joined : ∃ l, m.line.notices = s.line.notices ++ l ∧ ∀ n ∈ l, n.kind ≠ .budgetTight ∧ n.kind ≠ .budgetEased

namespace State.FlagSilent

theorem of_line (h : s.FlagSilent m) (hl : t.line = m.line) (ht : t.budget.tight = m.budget.tight) : s.FlagSilent t :=
  ⟨hl ▸ h.level, ht.trans h.tight, hl ▸ h.joined⟩

theorem refl (s : State) : s.FlagSilent s := ⟨rfl, rfl, [], (List.append_nil _).symm, fun _ h => absurd h List.not_mem_nil⟩

theorem raise (h : s.FlagSilent m) {k : NoticeKind} (hk : k ≠ .budgetTight ∧ k ≠ .budgetEased) (n : Nat) (b : Bytes) :
    s.FlagSilent (raise k n b m) := by
  obtain ⟨l, hl, hn⟩ := h.joined
  refine ⟨(raise_level _ _ _ _).trans h.level, (congrArg LoadBudget.tight (raise_budget _ _ _ _)).trans h.tight, ?_⟩
  rw [raise_notices]
  split
  · refine ⟨l ++ [⟨k, m.plan.clock, n, b⟩], by rw [hl, List.append_assoc], fun x hx => ?_⟩
    obtain hx | hx := List.mem_append.mp hx
    · exact hn x hx
    · rw [List.mem_singleton.mp hx]
      exact hk
  · exact ⟨l, hl, hn⟩

theorem walk (h : s.FlagSilent m) : s.FlagSilent (walk m) := h.of_line (walk_line m) (walk_figures m).tight

theorem shedding (h : s.FlagSilent m) (cause : ShedCause) : s.FlagSilent (shedding cause m) := by
  unfold Machine.shedding
  dsimp only
  split
  · exact h
  · exact ((h.of_line (shedLoop_line _ m) (shedLoop_figures _ m).tight).raise (by simp) _ _).of_line rfl rfl

theorem setGranted (h : s.FlagSilent m) (i : Fin 128) (g : Nat) : s.FlagSilent (setGranted i g m) :=
  h.of_line (setGranted_line i g m) (setGranted_figures i g m).tight

theorem keepEntry (h : s.FlagSilent m) (b : Bool) (i : Fin 128) : s.FlagSilent (keepEntry b i m) :=
  h.of_line (keepEntry_line b i m) (keepEntry_figures b i m).tight

end State.FlagSilent

/-- Between s and t the notice of the tight flag came last where the flag changed, and none came where it did not (R72). -/
def State.FlagReported (s t : State) : Prop :=
  (t.budget.tight ≠ s.budget.tight →
      s.reportsLast t
        ⟨if t.budget.tight then .budgetTight else .budgetEased, t.plan.clock, 0,
          leInt32 ((t.budget.pool : Int) - t.poolUse) ++ le32 t.budget.pool ++ le8 t.plan.current.fields.profile⟩)
    ∧ (t.budget.tight = s.budget.tight → ∀ n ∈ s.joined t, n.kind ≠ .budgetTight ∧ n.kind ≠ .budgetEased)

theorem State.FlagSilent.reported (h : s.FlagSilent t) : s.FlagReported t := by
  refine ⟨fun hn => absurd h.tight hn, fun _ => ?_⟩
  obtain ⟨l, hl, hn⟩ := h.joined
  simpa [State.joined, hl] using hn

/-- What is raised last stands last in the queue, if it joined. -/
theorem raise_reportsLast (k : NoticeKind) (n : Nat) (b : Bytes) {u : State} (h : ∃ l, u.line.notices = s.line.notices ++ l) :
    s.reportsLast (raise k n b u) ⟨k, u.plan.clock, n, b⟩ := by
  obtain ⟨l, hl⟩ := h
  intro hp hroom
  have joins := raise_notices k n b u
  rw [raise_level] at hp
  by_cases ha : u.admits k
  · rw [if_pos ha, hl, List.append_assoc] at joins
    simp [State.joined, joins]
  · rw [if_neg ha] at joins
    rw [joins] at hroom
    exact absurd ⟨hp, hroom⟩ ha

/-- The end of an event reports the flag. -/
theorem endEvent_reported (h : s.FlagSilent m) : s.FlagReported (endEvent m) := by
  have settled : s.FlagSilent (settleShed m) := h.of_line (settleShed_line m) (settleShed_tight m)
  unfold endEvent
  generalize settleShed m = u at settled
  by_cases hu : u.isTight = u.budget.tight
  · rw [settleTight_of_current hu.symm]
    exact settled.reported
  · have changed : (settleTight u).budget.tight ≠ s.budget.tight := by
      rw [settleTight_budget, ← settled.tight]
      exact hu
    refine ⟨fun _ => ?_, fun he => absurd he changed⟩
    have notice : ((⟨if (settleTight u).budget.tight then .budgetTight else .budgetEased, (settleTight u).plan.clock, 0,
          leInt32 (((settleTight u).budget.pool : Int) - (settleTight u).poolUse) ++ le32 (settleTight u).budget.pool
            ++ le8 (settleTight u).plan.current.fields.profile⟩ : Notice))
        = ⟨if u.isTight then .budgetTight else .budgetEased, u.plan.clock, 0, u.tightData⟩ := by
      rw [poolUse_of_holdings (settleTight_holdings u), settleTight_budget, settleTight_plan]
      rfl
    obtain ⟨l, hn, -⟩ := settled.joined
    rw [notice, settleTight_of_changed hu]
    exact raise_reportsLast _ _ _ (u := u.setBudget { u.budget with tight := u.isTight }) ⟨l, hn⟩

/-! ### The events of the Load Budget Unit -/

theorem tripIfAsserted_reported (i : Fin 128) (h : s.FlagSilent m) : s.FlagReported (tripIfAsserted i m) := by
  unfold tripIfAsserted
  split
  · unfold trip
    dsimp only
    rw [arbitrate_eq]
    exact endEvent_reported (((h.of_line (t := m.putChan i _) rfl rfl).setGranted i 0).raise (by simp) _ _).walk
  · exact h.reported

theorem release_reported (i : Fin 128) (h : s.FlagSilent m) : s.FlagReported (release i m) := by
  unfold release
  dsimp only
  rw [arbitrate_eq]
  exact endEvent_reported (((h.of_line (t := m.putChan i _) rfl rfl).setGranted i _).keepEntry false i).walk

theorem handOver_reported (cause : ShedCause) (h : s.FlagSilent m) : s.FlagReported (handOver cause m) := by
  rw [handOver_eq]
  exact endEvent_reported (h.shedding cause).walk

theorem sampleEnergy_silent (h : s.FlagSilent m) : s.FlagSilent (sampleEnergy m) := by
  unfold sampleEnergy
  dsimp only
  split
  · split
    · refine State.FlagSilent.raise ?_ (by simp) _ _
      exact h.of_line rfl rfl
    · exact h.of_line rfl rfl
  · split
    · exact h.of_line rfl rfl
    · split
      · split
        · refine State.FlagSilent.raise ?_ (by simp) _ _
          exact h.of_line rfl rfl
        · exact h.of_line rfl rfl
      · exact h.of_line rfl rfl

theorem sampleWindow_silent (h : s.FlagSilent m) : s.FlagSilent (sampleWindow m) := by
  unfold sampleWindow
  dsimp only
  split <;> exact h.of_line rfl rfl

theorem meterSample_reported (s : State) : s.FlagReported (meterSample s) := by
  have limited : s.FlagSilent (s.setBudget (activateLimits s.budget)) := (State.FlagSilent.refl s).of_line rfl rfl
  have sampled := sampleWindow_silent (sampleEnergy_silent limited)
  unfold meterSample
  generalize sampleWindow (sampleEnergy (s.setBudget (activateLimits s.budget))) = u at sampled ⊢
  exact handOver_reported _ (sampled.of_line rfl rfl)

/-- An event of the Load Budget Unit reports the flag last, and only where it changed. -/
theorem arbiterEvent_reported {c : Instr} (hc : c.isArbiterEvent = true) (e : exec c s = .next t) : s.FlagReported t := by
  have silent := State.FlagSilent.refl s
  have running : ∀ f : State → State, s.FlagReported (f s) → whenRunning f s = .next t → s.FlagReported t := by
    intro f hf e
    obtain rfl | ⟨-, rfl⟩ := whenRunning_cases e
    · exact (State.FlagSilent.refl _).reported
    · exact hf
  cases c with
  | meterPulse m =>
    change execMeterPulse m s = _ at e
    unfold execMeterPulse at e
    refine running _ (State.FlagSilent.reported (silent.of_line rfl ?_)) e
    cases m <;> rfl
  | meterSample =>
    refine running _ ?_ e
    split
    · exact meterSample_reported s
    · exact silent.reported
  | minOnExpiry i =>
    refine running _ ?_ e
    have stopped : s.FlagSilent (s.putChan i { s.chan i with minOnT := none }) := silent.of_line rfl rfl
    split
    · unfold minOnExpired
      dsimp only
      split
      · exact release_reported i stopped
      · exact stopped.reported
    · exact silent.reported
  | minOffExpiry i =>
    refine running _ ?_ e
    split
    · unfold minOffExpired
      rw [arbitrate_eq]
      exact endEvent_reported (silent.of_line (t := s.putChan i _) rfl rfl).walk
    · exact silent.reported
  | urgencyExpiry i =>
    refine running _ ?_ e
    unfold urgencyReached
    split
    · split
      · rw [arbitrate_eq]
        exact endEvent_reported (silent.of_line (t := s.putChan i _) rfl rfl).walk
      · exact silent.reported
    · exact silent.reported
  | tripSample i level =>
    change execTripSample i level s = _ at e
    unfold execTripSample at e
    have sampled : s.FlagSilent (s.putChan i { s.chan i with tripIn := level }) := silent.of_line rfl rfl
    split at e
    · obtain rfl := Host.Outcome.next.inj e
      exact tripIfAsserted_reported i sampled
    · obtain rfl := Host.Outcome.next.inj e
      exact sampled.reported
  | _ => cases hc

/-- The notice of a tight flag that changes (R72). -/
theorem settleTight_notices {k : NoticeKind} (h : s.isTight ≠ s.budget.tight) (hk : (if s.isTight then .budgetTight else .budgetEased) = k)
    (ha : s.admits k) :
    (settleTight s).line.notices
      = s.line.notices ++ [⟨k, s.plan.clock, 0,
          leInt32 ((s.budget.pool : Int) - s.poolUse) ++ le32 s.budget.pool ++ le8 s.plan.current.fields.profile⟩] := by
  rw [settleTight_of_changed h, hk, raise_notices]
  exact if_pos ha

theorem exec_minOffExpiry {i : Fin 128} (hs : s.stage = .running) (hi : (s.chan i).minOffT = some 0) :
    exec (.minOffExpiry i) s = .next (arbitrate (s.putChan i { s.chan i with minOffT := none })) := by
  change whenRunning _ s = _
  simp only [whenRunning, hs, hi, if_true, minOffExpired]

/-- Settles O42: every event the arbiter handles ends with settleShed and settleTight, and nothing before that end touches the flag or
raises its notices. -/
theorem arbiterFlagsFollow : Obligations.ArbiterFlagsFollow := by
  refine ⟨fun _ _ h e => tightCurrent_event.stays h e, fun _ _ h e => shedWaits_event.stays h e, fun s => ?_, fun s => ?_, ?_, ?_⟩
  · have cond : s.isTight = true ↔ ((s.budget.pool : Int) - s.poolUse) * 1000 < (s.budget.pool * s.profile.tight : Nat) := by
      unfold State.isTight State.free
      rw [decide_eq_true_iff]
      push_cast
      rfl
    rw [← cond]
    exact Bool.eq_iff_iff
  · have settled := settleTight_budget s
    refine ⟨fun hn ht => ?_, fun hn ht => ?_, fun hn ht => ?_, fun hn ht => ?_, settleShed_of_waiting, settleShed_of_idle⟩
    · exact settleTight_of_current (ht.trans ((isTight_iff s).mpr hn).symm)
    · exact settleTight_of_current (ht.trans (Bool.eq_false_iff.mpr (mt (isTight_iff s).mp hn)).symm)
    · have hi := (isTight_iff s).mpr hn
      exact ⟨by rw [settled, hi], settleTight_notices (by rw [hi, ht]; simp) (by rw [hi]; rfl)⟩
    · have hi : s.isTight = false := Bool.eq_false_iff.mpr (mt (isTight_iff s).mp hn)
      exact ⟨by rw [settled, hi], settleTight_notices (by rw [hi, ht]; simp) (by rw [hi]; rfl)⟩
  · intro s i hs hi
    rw [exec_minOffExpiry hs hi]
    rfl
  · intro c s t hc _ e
    exact arbiterEvent_reported hc e

end Sys2Proof.Machine
end

section
/-! SUPPORT. Properties of the doors' losses and sessions: what has to be known of an accrual, of a write of a door's record that ends with a
fresh rate, and of the sessions' opening and closing; and that every command then keeps them (R94 to R115). -/

namespace Sys2Proof.Machine

variable {I J K : State → Prop} {s t : State} {d : Fin 32}

/-- A door's record but for its debounced inputs, its timers, its loop result, its sent targets and its counters: what loss accrual and the
sessions depend on. -/
structure Door.SameLoss (x y : Door) : Prop where
  cfg : y.cfg = x.cfg
  stamp : y.stamp = x.stamp
  session : y.session = x.session
  state : y.state = x.state
  curtain : y.curtainRunning = x.curtainRunning
  rate : y.rate = x.rate

theorem Door.SameLoss.refl (x : Door) : x.SameLoss x := ⟨rfl, rfl, rfl, rfl, rfl, rfl⟩

/-- I survives what the Dock Supervisor does at door d. J is I while the rate of door d may be behind: an accrual keeps both, any write of the
door that keeps its configuration, stamp and session keeps J, and a fresh rate brings I back. -/
structure LossClosed (d : Fin 32) (J I : State → Prop) : Prop where
  weaken : ∀ s, I s → J s
  accrue : ∀ s, J s → J (accrue d s)
  accrued : ∀ s, I s → I (Machine.accrue d s)
  write : ∀ x s, x.cfg = (s.door d).cfg → x.stamp = (s.door d).stamp → x.session = (s.door d).session → J s → J (s.putDoor d x)
  config : ∀ n s, J s → J (s.putDoor d { s.door d with cfg := n })
  refresh : ∀ s, J s → I (refreshRate d s)
  same : ∀ x s, (s.door d).SameLoss x → I s → I (s.putDoor d x)
  opens : ∀ s, J s → J (openSession d s)
  closes : ∀ r s, J s → J (closeSession d r s)
  cycle : ∀ s, I s → I (countCycle d s)
  aim : ∀ i r v s, J s → J (targetChange i r d v false s)
  target : ∀ i r v s, I s → I (targetChange i r d v false s)
  other : ∀ s t, t.dock = s.dock → t.seconds = s.seconds → I s → I t

/-- The two targets of a door are sent (R99). -/
theorem sendDoorTargets_keeps (target : ∀ i r v s, K s → K (targetChange i r d v false s))
    (sent : ∀ a b s, K s → K (s.putDoor d { s.door d with sentLight := a, sentCurtain := b })) (h : K s) : K (sendDoorTargets d s) := by
  have light : K (sendLight d s) := by
    unfold sendLight
    dsimp only
    split
    · exact h
    · split
      · exact h
      · exact target _ _ _ _ (sent _ _ _ h)
  unfold sendDoorTargets sendCurtain
  dsimp only
  split
  · exact light
  · split
    · exact light
    · exact target _ _ _ _ (sent _ _ _ light)

namespace LossClosed

theorem setCurtainRunning (c : LossClosed d J I) (b : Bool) (h : I s) : I (setCurtainRunning d b s) := by
  unfold Machine.setCurtainRunning
  split
  · exact h
  · exact c.refresh _ (c.write _ _ rfl rfl rfl (c.weaken _ (c.accrued _ h)))

/-- The same while the rate may be behind: it is not behind afterwards, or nothing was done. -/
theorem setCurtainRunning_behind (c : LossClosed d J I) (b : Bool) (h : J s) : J (Machine.setCurtainRunning d b s) := by
  unfold Machine.setCurtainRunning
  split
  · exact h
  · exact c.weaken _ (c.refresh _ (c.write _ _ rfl rfl rfl (c.accrue _ h)))

theorem sendDoorTargets (c : LossClosed d J I) (h : I s) : I (sendDoorTargets d s) :=
  sendDoorTargets_keeps c.target (fun _ _ u hu => c.same _ u ⟨rfl, rfl, rfl, rfl, rfl, rfl⟩ hu) h

theorem notice (c : LossClosed d J I) (k : NoticeKind) (n : Nat) (b : Bytes) (h : I s) : I (raise k n b s) := by
  unfold raise
  split
  · exact c.other s _ rfl rfl h
  · exact h

theorem enterState (c : LossClosed d J I) (new : DoorState) (r : EndReason) (h : I s) : I (enterState d new r s) := by
  have left : J (if new.docked then Machine.accrue d s else closeSession d r (Machine.accrue d s)) := by
    split
    · exact c.weaken _ (c.accrued _ h)
    · exact c.closes r _ (c.weaken _ (c.accrued _ h))
  unfold Machine.enterState
  dsimp only
  refine c.refresh _ ?_
  split
  · exact c.opens _ (c.write _ _ rfl rfl rfl left)
  · exact c.write _ _ rfl rfl rfl left

theorem moveDoor (c : LossClosed d J I) (new : DoorState) (h : I s) : I (moveDoor d new s) := by
  unfold Machine.moveDoor
  dsimp only
  split
  · exact c.cycle _ (c.enterState new _ h)
  · exact c.enterState new _ h

theorem trailerNotice (c : LossClosed d J I) (arrived : Bool) (closed : Option Nat) (h : I s) : I (trailerNotice d arrived closed s) := by
  unfold Machine.trailerNotice
  split <;> exact c.notice _ _ _ h

theorem takeRaw (c : LossClosed d J I) (input : DoorInput) (h : I s) : I (takeRaw d input s) := by
  unfold Machine.takeRaw
  cases input <;> exact c.same _ s ⟨rfl, rfl, rfl, rfl, rfl, rfl⟩ h

theorem debounceExpired (c : LossClosed d J I) (input : DoorInput) (h : I s) : I (debounceExpired d input s) := by
  have raw := c.takeRaw input h
  unfold Machine.debounceExpired
  dsimp only
  split
  · exact raw
  · exact c.sendDoorTargets (c.moveDoor _ raw)
  · split
    · exact c.trailerNotice _ _ raw
    · exact raw
  · split
    · exact raw
    · refine c.sendDoorTargets ?_
      split
      · exact c.trailerNotice _ _ (c.moveDoor _ raw)
      · exact c.moveDoor _ raw

theorem heldExpired (c : LossClosed d J I) (h : I s) : I (heldExpired d s) := by
  unfold Machine.heldExpired
  dsimp only
  have entered := c.enterState .held .departed h
  generalize Machine.enterState d .held .departed s = u at entered ⊢
  have counted := c.same { u.door d with heldEpisodes := satAdd 255 (u.door d).heldEpisodes 1 } u ⟨rfl, rfl, rfl, rfl, rfl, rfl⟩ entered
  exact c.sendDoorTargets (c.notice _ _ _ (c.other (u.putDoor d _) _ rfl rfl counted))

theorem startDebounce (c : LossClosed d J I) (h : I s) : I (startDebounce d s) := c.same _ s ⟨rfl, rfl, rfl, rfl, rfl, rfl⟩ h

theorem endCheckAt (c : LossClosed d J I) (k : ContactCheck) (h : I s) : I (endCheckAt k d s) := by
  have looped := fun l => c.same { s.door d with loop := l } s ⟨rfl, rfl, rfl, rfl, rfl, rfl⟩ h
  unfold Machine.endCheckAt
  dsimp only
  split
  · split
    · exact c.sendDoorTargets (c.enterState _ _ (c.same _ _ ⟨rfl, rfl, rfl, rfl, rfl, rfl⟩ (looped _)))
    · exact c.startDebounce (looped _)
  · refine c.startDebounce ?_
    split
    · exact looped _
    · exact c.sendDoorTargets (c.notice _ _ _ (c.enterState _ _ (looped _)))

theorem restartDoor (c : LossClosed d J I) (h : I s) : I (restartDoor d s) := by
  unfold Machine.restartDoor
  dsimp only
  exact c.refresh _ (c.write _ _ rfl rfl rfl (c.closes _ _ (c.weaken _ (c.accrued _ h))))

theorem curtainBound (c : LossClosed d J I) (i : Fin 128) (h : I s) : I (curtainBound i d s) := by
  unfold Machine.curtainBound
  dsimp only
  split
  · exact c.target _ _ _ _ (c.same _ s ⟨rfl, rfl, rfl, rfl, rfl, rfl⟩ h)
  · exact h

theorem docklightBound (c : LossClosed d J I) (i : Fin 128) (h : I s) : I (docklightBound i d s) := by
  unfold Machine.docklightBound
  dsimp only
  split
  · exact c.target _ _ _ _ (c.same _ s ⟨rfl, rfl, rfl, rfl, rfl, rfl⟩ h)
  · exact h

/-! ### CONFIG DOOR -/

theorem enablingChange (c : LossClosed d J I) (was now : Bool) (h : J s) : J (enablingChange d was now s) := by
  unfold Machine.enablingChange
  split
  · exact c.write _ _ rfl rfl rfl (c.write _ s rfl rfl rfl h)
  · exact c.write _ _ rfl rfl rfl (c.closes _ _ h)
  · exact h

theorem releaseOld (c : LossClosed d J I) (old : Option (Fin 128)) (r : Role) (h : J s) : J (releaseOld old r d s) := by
  unfold Machine.releaseOld
  split
  · exact c.aim _ _ _ _ h
  · exact h

theorem changeCurtain (c : LossClosed d J I) (old : Option (Fin 128)) (h : J s) : J (changeCurtain d old s) := by
  unfold Machine.changeCurtain
  split
  · exact h
  · refine c.setCurtainRunning_behind _ ?_
    unfold offerCurtain
    dsimp only
    split
    · exact c.aim _ _ _ _ (c.write _ _ rfl rfl rfl (c.releaseOld _ _ h))
    · exact c.write _ _ rfl rfl rfl (c.releaseOld _ _ h)

theorem changeLight (c : LossClosed d J I) (old : Option (Fin 128)) (h : J s) : J (changeLight d old s) := by
  unfold Machine.changeLight
  split
  · exact h
  · unfold offerLight
    dsimp only
    split
    · exact c.aim _ _ _ _ (c.write _ _ rfl rfl rfl (c.releaseOld _ _ h))
    · exact c.write _ _ rfl rfl rfl (c.releaseOld _ _ h)

theorem configureDoor (c : LossClosed d J I) (n : DoorConfig) (h : I s) : I (configureDoor d n s) := by
  unfold Machine.configureDoor
  dsimp only
  refine c.refresh _ (sendDoorTargets_keeps c.aim (fun _ _ u hu => c.write _ u rfl rfl rfl hu) (c.changeLight _ (c.changeCurtain _ ?_)))
  exact c.enablingChange _ _ (c.config n _ (c.weaken _ (c.accrued _ h)))

end LossClosed

/-- A property of the Dock Supervisor's losses and sessions. -/
structure LossProperty (I : State → Prop) : Prop where
  doors : ∀ d, ∃ J, LossClosed d J I
  budget : BudgetClosed I
  deltaT : ∀ z v s, I s → I (zoneDTEvent z v s)
  other : ∀ s t, t.dock = s.dock → t.seconds = s.seconds → I s → I t
  check : ∀ s k, I s → I (s.setDock { s.dock with check := k })
  sessions : ∀ s n b, I s → I (s.setDock { s.dock with log := s.dock.log.drop n, lossReported := b })
  tick : ∀ s, I s → I s.tick
  fresh : ∀ (s : State) st c store, I (s.afresh st c store)

namespace LossProperty

theorem door (c : LossProperty I) (d : Fin 32) {P : Prop} (h : ∀ J, LossClosed d J I → P) : P := by
  obtain ⟨J, hJ⟩ := c.doors d
  exact h J hJ

theorem notice (c : LossProperty I) (k : NoticeKind) (n : Nat) (b : Bytes) (h : I s) : I (raise k n b s) := c.budget.notice k n b s h

theorem setLine (c : LossProperty I) (l : Line) (h : I s) : I (s.setLine l) := c.other s _ rfl rfl h
theorem setStop (c : LossProperty I) (x : StopControl) (h : I s) : I (s.setStop x) := c.other s _ rfl rfl h

theorem dockPlantChange (c : LossProperty I) (h : I s) : I (dockPlantChange s) :=
  forEach_keeps (fun d _ hu => c.door d fun _ w => w.sendDoorTargets hu) _ s h

theorem dockRestart (c : LossProperty I) (h : I s) : I (dockRestart s) := by
  unfold Machine.dockRestart
  dsimp only
  refine forEach_keeps (fun d _ hu => c.door d fun _ w => w.restartDoor hu) _ _ ?_
  split
  · exact h
  · exact c.notice _ _ _ (c.check s _ h)

theorem dockCommands (c : LossProperty I) : DockCommands I where
  configureDoor d n _ _ h := c.door d fun _ w => w.configureDoor n h
  clearCounters d s h := c.door d fun _ w => w.same _ s ⟨rfl, rfl, rfl, rfl, rfl, rfl⟩ h
  beginCheck s h := by
    unfold Machine.beginCheck
    exact forEach_keeps (fun d u hu => c.door d fun _ w =>
      w.same { u.door d with contactT := none, presenceT := none } u ⟨rfl, rfl, rfl, rfl, rfl, rfl⟩ hu) _ _ (c.check s _ h)
  endCheck k _ s _ h := by
    unfold Machine.endCheck
    exact c.notice _ _ _ (forEach_keeps (fun d _ hu => c.door d fun _ w => w.endCheckAt k hu) _ _ (c.check s _ h))
  readSessions n b s h := c.sessions s n b h
  recordRaw d i a s h := by
    unfold Machine.recordRaw
    cases i <;> exact c.door d fun _ w => w.same _ s ⟨rfl, rfl, rfl, rfl, rfl, rfl⟩ h
  restartDebounce d i s h := by
    unfold Machine.restartDebounce
    cases i <;> exact c.door d fun _ w => w.same _ s ⟨rfl, rfl, rfl, rfl, rfl, rfl⟩ h
  debounceExpired d i _ h := c.door d fun _ w => w.debounceExpired i h
  heldExpired d _ _ h := c.door d fun _ w => w.heldExpired h
  loopSample _ _ _ s _ h := c.check s _ h

theorem zones (c : LossProperty I) (z : Fin 12) : ZoneClosed z I where
  target i r v m _ _ h := c.budget.targetChange i r z v m h
  zone _ s _ h := c.other s _ rfl rfl h
  deltaT v s h := c.deltaT z v s h
  draw s h := c.other s _ rfl rfl h
  notice _ _ _ _ h := c.notice _ _ _ h

theorem climate (c : LossProperty I) : ClimateClosed I where
  zones := c.zones
  climate s _ h := c.other s _ rfl rfl h

theorem lights (c : LossProperty I) (z : Fin 24) : LightClosed z I where
  target i v _ _ h := c.budget.targetChange i .light z v false h
  minimum i v _ _ _ h := c.budget.protectedMinimum i z v h
  light _ s _ h := c.other s _ rfl rfl h

theorem lighting (c : LossProperty I) : LightingClosed I where
  zones := c.lights
  unit s _ _ h := c.other s _ rfl rfl h
  notice _ _ _ _ h := c.notice _ _ _ h

theorem channelBound (c : LossProperty I) (i : Fin 128) (h : I s) : I (channelBound i s) := by
  obtain e | ⟨z, -, -, e⟩ | ⟨z, -, -, e⟩ | ⟨z, -, -, e⟩ | ⟨d, -, -, e⟩ | ⟨d, -, -, e⟩ := channelBound_cases i s <;> rw [e]
  · exact h
  · exact (c.zones z).heaterBound i h
  · exact (c.zones z).fanBound i h
  · exact (c.lights z).lightBound i h
  · exact c.door d fun _ w => w.curtainBound i h
  · exact c.door d fun _ w => w.docklightBound i h

theorem planCommands (c : LossProperty I) : PlanCommands I :=
  (PlanClosed.of_anyPlan (fun s _ h => c.other s _ rfl rfl h) (fun k n b _ h => c.notice k n b h)
    (fun z _ h => (c.lights z).deriveLight h) (fun _ h => c.lighting.lightingTurn h) (fun _ h => c.budget.profileChanged h)
    (fun v _ h => c.budget.clockSetEvent v h)).commands

theorem budgetCommands (c : LossProperty I) : BudgetCommands I where
  tripInput i _ _ h := c.budget.putChan i _ h
  tripSampled i _ _ h := c.budget.tripIfAsserted i (c.budget.putChan i _ h)
  acknowledge i _ h := c.budget.acknowledge i h
  limits _ s h := c.budget.budget s _ h
  meterPulse _ s h := c.budget.budget s _ h
  meterSample _ h := c.budget.meterSample h
  minOnExpired i _ h := c.budget.minOnExpired i h
  minOffExpired i _ h := c.budget.minOffExpired i h
  urgencyReached i _ h := c.budget.urgencyReached i h

theorem startUpNotices (c : LossProperty I) (r : Except StoreReason Snapshot) (h : I s) : I (startUpNotices r s) := by
  have needed : ∀ u, I u → I (if s.stop.state = .stopped then raise .plantStop 0 (le8 PlantState.running.code) (raise .clockNeeded 0 [] u)
      else raise .clockNeeded 0 [] u) := by
    intro u hu
    split
    · exact c.notice _ _ _ (c.notice _ _ _ hu)
    · exact c.notice _ _ _ hu
  unfold Machine.startUpNotices
  dsimp only
  cases r with
  | ok _ => exact needed s h
  | error reason => exact needed _ (c.notice _ _ _ h)

theorem systemCommands (c : LossProperty I) : SystemCommands I where
  reconfigure i n s _ h := by
    unfold Machine.reconfigure
    exact c.budget.tripIfAsserted i (c.budget.reprotect (c.channelBound i (c.budget.applyConfig i _ n (c.budget.bringToZero i h))))
  tick s h := c.tick s h
  finishLoading a s _ := by
    unfold Machine.finishLoading
    exact c.lighting.lightingStart (c.budget.budgetStart (c.startUpNotices _ (c.setStop _ (c.setLine _ (c.fresh s _ _ _)))))
  fireInput _ s h := c.other s _ rfl rfl h
  fireAsserted s h := by
    have stopped := c.other s (s.setStop { state := .stopped, fire := true, stopStamp := s.seconds }) rfl rfl h
    unfold Machine.fireAsserted
    dsimp only
    split
    · exact c.other s _ rfl rfl h
    · split
      · unfold plantStopped
        exact c.lighting.lightingStop (c.dockPlantChange (c.climate.climateStop (c.budget.budgetStop (c.notice _ _ _ stopped))))
      · exact c.notice _ _ _ stopped
  fireCleared s h := by
    unfold Machine.fireCleared
    split
    · exact c.notice _ _ _ (c.other s _ rfl rfl h)
    · exact c.other s _ rfl rfl h
  resumePlant s _ h := by
    unfold Machine.resumePlant plantResumed
    exact c.lighting.deriveLights (c.dockPlantChange (c.climate.climateResume (c.budget.budgetResume (c.notice _ _ _ (c.other s _ rfl rfl h)))))
  plantRestart s h := by
    unfold Machine.plantRestart
    exact c.lighting.lightingRestart (c.climate.climateRestart (c.dockRestart (c.budget.budgetRestart (c.other s _ rfl rfl h))))
  save s h := c.other s _ rfl rfl h
  saveEnded r k _ s _ h := by
    unfold Machine.saveEnded saveFailed
    cases r with
    | compared => exact c.notice _ _ _ (c.other s _ rfl rfl h)
    | compareFailed => exact c.notice _ _ _ (c.other s _ rfl rfl h)
    | noAnswer => exact c.notice _ _ _ (c.other s _ rfl rfl h)

/-- The property holds after every step where it held before. -/
theorem stays (c : LossProperty I) (h : I s) (e : step s = .next t) : I t := by
  have closed : CommandClosed I :=
    { line := .of_setLine fun s _ h => c.other s _ rfl rfl h
      budget := c.budgetCommands
      dock := c.dockCommands
      climate := c.climate.commands
      lighting := c.lighting.commands fun _ _ _ s _ _ h => c.other s _ rfl rfl h
      plan := c.planCommands
      system := c.systemCommands }
  have fetched : ∀ u, I u → I (fetchNotices u) := by
    intro u hu
    obtain ⟨l, hl⟩ := fetchNotices_setLine u
    rw [hl]
    exact c.other u _ rfl rfl hu
  exact closed.step ⟨fetched, fun _ _ => c.fresh _ _ _ _, fun _ _ => c.fresh _ _ _ _⟩ (fun s _ h => c.other s _ rfl rfl h) h e

end LossProperty

end Sys2Proof.Machine
end

section
/-! The sessions and the loss rates at every step (R108 to R115). -/

namespace Sys2Proof.Machine

variable {s t : State} {d e : Fin 32}

/-! ### The operations at a door -/

theorem door_of_dock (h : t.dock = s.dock) (d : Fin 32) : t.door d = s.door d := by
  unfold State.door
  rw [h]

/-- A door's record after its accrual (R109, R113). -/
def State.accruedDoor (s : State) (d : Fin 32) : Door :=
  { s.door d with
    stamp := s.seconds
    session := (s.door d).session.map (fun y => y.accrued (s.accruedEnergy d) (s.seconds - (s.door d).stamp) (s.door d).state) }

theorem accrue_dock (d : Fin 32) (s : State) : (accrue d s).dock = (s.putDoor d (s.accruedDoor d)).dock := by
  unfold accrue
  dsimp only
  split
  · rfl
  · split <;> rfl

@[simp] theorem accrue_seconds (d : Fin 32) (s : State) : (accrue d s).seconds = s.seconds := by
  unfold accrue
  dsimp only
  split
  · rfl
  · split <;> rfl

theorem accrue_door (d e : Fin 32) (s : State) : (accrue d s).door e = if d = e then s.accruedDoor d else s.door e :=
  (door_of_dock (accrue_dock d s) e).trans (door_putDoor _ d e _)

/-! ### Sessions (R112, R113, R115) -/

/-- The sessions and the session log are sound. -/
def State.SessionsSound (s : State) : Prop := s.dock.SessionsSound

theorem State.SessionsSound.of_dock (h : s.SessionsSound) (e : t.dock = s.dock) : t.SessionsSound := by
  unfold State.SessionsSound
  rw [e]
  exact h

/-- A write of a door with sound sessions. -/
theorem State.SessionsSound.putDoor (h : s.SessionsSound) (d : Fin 32) {x : Door} (hx : ∀ y ∈ x.session, y.Sound) :
    (s.putDoor d x).SessionsSound := by
  obtain ⟨hl, hn, hk, hr, hs⟩ := h
  refine ⟨hl, hn, hk, hr, fun e y hy => ?_⟩
  change y ∈ ((s.putDoor d x).door e).session at hy
  rw [door_putDoor] at hy
  split at hy
  · exact hx y hy
  · exact hs e y hy

theorem State.SessionsSound.door (h : s.SessionsSound) (d : Fin 32) : ∀ y ∈ (s.door d).session, y.Sound := h.2.2.2.2 d

theorem State.SessionsSound.same (h : s.SessionsSound) (d : Fin 32) {x : Door} (hx : x.session = (s.door d).session) :
    (s.putDoor d x).SessionsSound := h.putDoor d (by rw [hx]; exact h.door d)

theorem accrue_sessionsSound (d : Fin 32) (h : s.SessionsSound) : (accrue d s).SessionsSound := by
  refine State.SessionsSound.of_dock (h.putDoor d fun y hy => ?_) (accrue_dock d s)
  obtain ⟨x, hx, rfl⟩ := Option.mem_map.mp hy
  obtain ⟨hn, ho, hc, hl⟩ := h.door d x hx
  refine ⟨hn, ?_, hc, satAdd_le _ _ _⟩
  simp only [Session.accrued]
  split
  · exact satAdd_le _ _ _
  · exact ho

theorem openSession_sessionsSound (d : Fin 32) (h : s.SessionsSound) : (openSession d s).SessionsSound := by
  have numbered := h.2.2.1
  obtain ⟨hl, hn, -, hr, hs⟩ := h.putDoor d (x := { s.door d with
    session := some ⟨s.dock.nextSession, s.plan.clock, s.plan.current.fields.label, 0, 0, 0⟩ }) (by
      intro y hy
      cases hy
      exact ⟨numbered, Nat.zero_le _, Nat.zero_le _, Nat.zero_le _⟩)
  refine ⟨hl, hn, ?_, hr, hs⟩
  change (if s.dock.nextSession < 65534 then s.dock.nextSession + 1 else 0) ≤ 65534
  split <;> omega

theorem offerSession_sessionsSound {r : SessionRecord} (hr : r.session.Sound) (h : s.SessionsSound) : (offerSession r s).SessionsSound := by
  obtain ⟨hl, hn, hk, hlog, hs⟩ := h
  unfold offerSession
  split
  · next hroom =>
    refine ⟨?_, hn, hk, fun x hx => ?_, hs⟩
    · change (s.dock.log ++ [r]).length ≤ Config.maxSessions
      rw [List.length_append]
      exact hroom
    · obtain hx | hx := List.mem_append.mp hx
      · exact hlog x hx
      · rw [List.mem_singleton.mp hx]
        exact hr
  · have counted : (s.setDock { s.dock with lost := satAdd Config.max16 s.dock.lost 1, lossReported := true }).SessionsSound :=
      ⟨hl, satAdd_le _ _ _, hk, hlog, hs⟩
    dsimp only
    split
    · exact counted
    · refine counted.of_dock ?_
      unfold raise
      split <;> rfl

theorem closeSession_sessionsSound (d : Fin 32) (r : EndReason) (h : s.SessionsSound) : (closeSession d r s).SessionsSound := by
  unfold closeSession
  split
  · exact h
  · next x hx =>
    exact offerSession_sessionsSound (h.door d x hx) (h.putDoor d fun y hy => by cases hy)

theorem countCycle_sessionsSound (d : Fin 32) (h : s.SessionsSound) : (countCycle d s).SessionsSound := by
  refine State.SessionsSound.of_dock (h.putDoor d (x := { s.door d with
    cycles := satAdd Config.max16 (s.door d).cycles 1
    session := (s.door d).session.map fun y => { y with cycles := satAdd Config.max16 y.cycles 1 } }) fun y hy => ?_) rfl
  obtain ⟨x, hx, rfl⟩ := Option.mem_map.mp hy
  obtain ⟨hn, ho, -, hl⟩ := h.door d x hx
  exact ⟨hn, ho, satAdd_le _ _ _, hl⟩

theorem refreshRate_sessionsSound (d : Fin 32) (h : s.SessionsSound) : (refreshRate d s).SessionsSound := h.same d (by rfl)

theorem sessionsSound_budget : BudgetClosed State.SessionsSound where
  budget _ _ h := h
  notice k n b s h := h.of_dock (by unfold raise; split <;> rfl)
  shed _ h := h
  curtain d b s h := by
    unfold setCurtainRunning
    split
    · exact h
    · exact refreshRate_sessionsSound d ((accrue_sessionsSound d h).same d (by rfl))

theorem sessionsSound_door (d : Fin 32) : LossClosed d State.SessionsSound State.SessionsSound where
  weaken _ h := h
  accrue _ h := accrue_sessionsSound d h
  accrued _ h := accrue_sessionsSound d h
  write _ _ _ _ hs h := h.same d hs
  config _ _ h := h.same d rfl
  refresh _ h := h.same d rfl
  same _ _ hx h := h.same d hx.session
  opens _ h := openSession_sessionsSound d h
  closes r _ h := closeSession_sessionsSound d r h
  cycle _ h := countCycle_sessionsSound d h
  aim i r v _ h := sessionsSound_budget.targetChange i r d v false h
  target i r v _ h := sessionsSound_budget.targetChange i r d v false h
  other _ _ e _ h := h.of_dock e

theorem sessionsSound_loss : LossProperty State.SessionsSound where
  doors d := ⟨_, sessionsSound_door d⟩
  budget := sessionsSound_budget
  deltaT z v s h := by
    unfold zoneDTEvent
    dsimp only
    refine forEach_keeps (fun d _ hu => refreshRate_sessionsSound d hu) _ _ ?_
    exact (forEach_keeps (fun d _ hu => accrue_sessionsSound d hu) (s.doorsOfZone z) s h : State.SessionsSound _)
  other _ _ e _ h := h.of_dock e
  check _ _ h := h
  sessions s n _ h := by
    obtain ⟨hl, hn, hk, hr, hs⟩ := h
    exact ⟨((List.drop_sublist n _).length_le).trans hl, hn, hk, fun r hx => hr r (List.mem_of_mem_drop hx), hs⟩
  tick s h := by
    obtain ⟨hl, hn, hk, hr, hs⟩ := h
    refine ⟨hl, hn, hk, hr, fun d => ?_⟩
    rw [show look s.tick.dock.doors d = (s.door d).tick from look_map _ _ _]
    exact hs d
  fresh s st c store := by
    refine ⟨Nat.zero_le _, Nat.zero_le _, Nat.zero_le _, fun r hr => absurd hr List.not_mem_nil, fun d y hy => ?_⟩
    simp [State.afresh, State.fresh, startDock, startDoor, look] at hy

/-! ### Loss rates (R108, R109) -/

/-- Every door's rate is the one its record calls for, but that of door d may be behind; no stamp is ahead. -/
def State.RatesBut (s : State) (d : Fin 32) : Prop :=
  ∀ e, (e ≠ d → (s.door e).rate = s.lossRate (s.door e)) ∧ (s.door e).stamp ≤ s.seconds

/-- Every door's rate is the one its record calls for. -/
def State.Rated (s : State) : Prop := s.RatesCurrent

theorem lossRate_congr {x y : Door} (hz : t.dock.zoneDT = s.dock.zoneDT) (hc : y.cfg = x.cfg) (hs : y.state = x.state)
    (hr : y.curtainRunning = x.curtainRunning) : t.lossRate y = s.lossRate x := by
  simp only [State.lossRate, Door.factor, hz, hc, hs, hr]

theorem State.Rated.but (h : s.Rated) (d : Fin 32) : s.RatesBut d := fun e => ⟨fun _ => (h e).1, (h e).2⟩

theorem State.Rated.of_dock (h : s.Rated) (e : t.dock = s.dock) (hs : t.seconds = s.seconds) : t.Rated := by
  intro d
  rw [door_of_dock e, hs, lossRate_congr (s := s) (by rw [e]) rfl rfl rfl]
  exact h d

theorem State.RatesBut.of_dock (h : s.RatesBut d) (e : t.dock = s.dock) (hs : t.seconds = s.seconds) : t.RatesBut d := by
  intro e'
  rw [door_of_dock e, hs, lossRate_congr (s := s) (by rw [e]) rfl rfl rfl]
  exact h e'

/-- A write of the door that may be behind. -/
theorem State.RatesBut.putDoor (h : s.RatesBut d) {x : Door} (hx : x.stamp ≤ s.seconds) : (s.putDoor d x).RatesBut d := by
  intro e
  rw [door_putDoor]
  split
  · next hde => exact ⟨fun hn => absurd hde.symm hn, hx⟩
  · exact h e

/-- A fresh rate brings the door up. -/
theorem State.RatesBut.refresh (h : s.RatesBut d) : (refreshRate d s).Rated := by
  intro e
  unfold refreshRate
  dsimp only
  rw [door_putDoor]
  split
  · exact ⟨rfl, (h d).2⟩
  · next hde => exact ⟨(h e).1 (Ne.symm hde), (h e).2⟩

/-- A write that the rate does not depend on. -/
theorem State.Rated.same (h : s.Rated) {x : Door} (hx : (s.door d).SameLoss x) : (s.putDoor d x).Rated := by
  intro e
  rw [door_putDoor]
  split
  · rw [hx.rate, hx.stamp, lossRate_congr (t := s.putDoor d x) (s := s) rfl hx.cfg hx.state hx.curtain]
    exact h d
  · exact h e

theorem accrue_rated (d : Fin 32) (h : s.Rated) : (accrue d s).Rated := by
  refine State.Rated.of_dock (s := s.putDoor d (s.accruedDoor d)) (fun e => ?_) (accrue_dock d s) (accrue_seconds d s)
  rw [door_putDoor]
  split
  · exact ⟨(h d).1, le_rfl⟩
  · exact h e

theorem accrue_ratesBut (d e : Fin 32) (h : s.RatesBut d) : (accrue e s).RatesBut d := by
  refine State.RatesBut.of_dock (s := s.putDoor e (s.accruedDoor e)) (fun f => ?_) (accrue_dock e s) (accrue_seconds e s)
  rw [door_putDoor]
  split
  · next hef =>
    subst hef
    exact ⟨(h e).1, le_rfl⟩
  · exact h f

/-- A curtain grant at any door leaves no other door behind. -/
theorem setCurtainRunning_ratesBut (e : Fin 32) (b : Bool) (h : s.RatesBut d) : (setCurtainRunning e b s).RatesBut d := by
  unfold setCurtainRunning
  split
  · exact h
  · have h' := accrue_ratesBut d e h
    generalize accrue e s = u at h'
    intro f
    unfold refreshRate
    dsimp only
    rw [door_putDoor, door_putDoor_self]
    split
    · exact ⟨fun _ => rfl, (h' e).2⟩
    · next hef =>
      rw [door_putDoor, if_neg hef]
      exact h' f

theorem setCurtainRunning_rated (e : Fin 32) (b : Bool) (h : s.Rated) : (setCurtainRunning e b s).Rated := by
  have h' := accrue_rated e h
  unfold setCurtainRunning
  split
  · exact h
  · exact State.RatesBut.refresh ((h'.but e).putDoor (h' e).2)

theorem raise_dock (k : NoticeKind) (n : Nat) (b : Bytes) (s : State) : (raise k n b s).dock = s.dock := by
  unfold raise
  split <;> rfl

theorem raise_seconds (k : NoticeKind) (n : Nat) (b : Bytes) (s : State) : (raise k n b s).seconds = s.seconds := by
  unfold raise
  split <;> rfl

theorem rated_budget : BudgetClosed State.Rated where
  budget _ _ h := h
  notice _ _ _ _ h := h.of_dock (raise_dock _ _ _ _) (raise_seconds _ _ _ _)
  shed _ h := h
  curtain d b _ h := setCurtainRunning_rated d b h

theorem ratesBut_budget (d : Fin 32) : BudgetClosed fun s => s.RatesBut d where
  budget _ _ h := h
  notice _ _ _ _ h := h.of_dock (raise_dock _ _ _ _) (raise_seconds _ _ _ _)
  shed _ h := h
  curtain e b _ h := setCurtainRunning_ratesBut e b h

theorem offerSession_ratesBut (r : SessionRecord) (h : s.RatesBut d) : (offerSession r s).RatesBut d := by
  unfold offerSession
  split
  · exact h
  · dsimp only
    split
    · exact h
    · have counted : (s.setDock { s.dock with lost := satAdd Config.max16 s.dock.lost 1, lossReported := true }).RatesBut d := h
      exact counted.of_dock (raise_dock _ _ _ _) (raise_seconds _ _ _ _)

theorem rated_door (d : Fin 32) : LossClosed d (fun s => s.RatesBut d) State.Rated where
  weaken _ h := h.but d
  accrue _ h := accrue_ratesBut d d h
  accrued _ h := accrue_rated d h
  write x s _ hs _ h := h.putDoor (hs ▸ (h d).2)
  config _ _ h := h.putDoor (h d).2
  refresh _ h := h.refresh
  same _ _ hx h := h.same hx
  opens s h := h.putDoor (x := { s.door d with session := _ }) (h d).2
  closes r s h := by
    unfold closeSession
    split
    · exact h
    · exact offerSession_ratesBut _ (h.putDoor (h d).2)
  cycle s h := by
    refine State.Rated.of_dock (s := s.putDoor d { s.door d with
      cycles := satAdd Config.max16 (s.door d).cycles 1
      session := (s.door d).session.map fun y => { y with cycles := satAdd Config.max16 y.cycles 1 } }) (fun e => ?_) rfl rfl
    rw [door_putDoor]
    split
    · exact h d
    · exact h e
  aim i r v _ h := (ratesBut_budget d).targetChange i r d v false h
  target i r v _ h := rated_budget.targetChange i r d v false h
  other _ _ e hs h := h.of_dock e hs

theorem refreshRate_door_ne (h : d ≠ e) (s : State) : (refreshRate d s).door e = s.door e := by
  unfold refreshRate
  dsimp only
  rw [door_putDoor, if_neg h]

/-- A zone ΔT event brings the doors of the zone up, and the rates of the others do not depend on it (R111). -/
theorem zoneDTEvent_rated (z : Fin 12) (v : Nat) (h : s.Rated) : (zoneDTEvent z v s).Rated := by
  have accrued : (forEach (s.doorsOfZone z) accrue s).Rated := forEach_keeps (fun d _ hu => accrue_rated d hu) _ s h
  have cfg : ∀ e, ((forEach (s.doorsOfZone z) accrue s).door e).cfg = (s.door e).cfg := by
    intro e
    refine forEach_same (P := fun u : State => (u.door e).cfg) (fun d u => ?_) _ s
    rw [accrue_door]
    split
    · next hde => rw [← hde]; rfl
    · rfl
  unfold zoneDTEvent
  dsimp only
  generalize forEach (s.doorsOfZone z) accrue s = t at accrued cfg ⊢
  intro e
  refine forEach_settles (P := fun e u => (u.door e).rate = u.lossRate (u.door e) ∧ (u.door e).stamp ≤ u.seconds)
    (Q := fun e u => (u.door e).stamp ≤ u.seconds) ?own ?settled ?waiting (s.doorsOfZone z) ?nodup
    (t.setDock { t.dock with zoneDT := upd t.dock.zoneDT z v }) (fun e _ => (accrued e).2) e ?here
  case own =>
    intro e u hu
    unfold refreshRate
    dsimp only
    rw [door_putDoor_self]
    exact ⟨rfl, hu⟩
  case settled =>
    intro a b u hb hu
    rw [refreshRate_door_ne (Ne.symm hb)]
    exact hu
  case waiting =>
    intro a b u hb hu
    rw [refreshRate_door_ne (Ne.symm hb)]
    exact hu
  case nodup => exact (nodup_indices 32).filter _
  case here =>
    by_cases he : e ∈ s.doorsOfZone z
    · exact .inl he
    · have zone : z ≠ (t.door e).cfg.zone := by
        intro hz
        rw [cfg] at hz
        exact he (List.mem_filter.mpr ⟨mem_indices e, by simpa using hz.symm⟩)
      refine .inr ⟨?_, (accrued e).2⟩
      have same : (t.setDock { t.dock with zoneDT := upd t.dock.zoneDT z v }).lossRate (t.door e) = t.lossRate (t.door e) := by
        simp only [State.lossRate, State.setDock_dock, look_upd_ne _ _ zone]
      exact (accrued e).1.trans same.symm

theorem rated_loss : LossProperty State.Rated where
  doors d := ⟨_, rated_door d⟩
  budget := rated_budget
  deltaT z v _ h := zoneDTEvent_rated z v h
  other _ _ e hs h := h.of_dock e hs
  check _ _ h := h
  sessions _ _ _ h := h
  tick s h d := by
    rw [show s.tick.door d = (s.door d).tick from look_map _ _ _]
    exact ⟨(h d).1, (h d).2.trans (Nat.le_succ _)⟩
  fresh s st c store d := by
    have started : (s.afresh st c store).door d = startDoor (look c.doors d) (s.door d).rawOpen (s.door d).rawPresent := by
      simp [State.door, State.afresh, State.fresh, startDock, look]
    rw [started]
    refine ⟨?_, le_rfl⟩
    simp [State.lossRate, State.afresh, State.fresh, startDock, startDoor, look]

/-- Settles O39: every operation that changes a door's state, curtain, configuration or ΔT copy ends with a fresh rate. -/
theorem lossRatesStayCurrent : Obligations.LossRatesStayCurrent := fun _ _ h e => rated_loss.stays h e

/-- The sessions and the log stay sound at every step. -/
theorem step_sessionsSound (h : s.dock.SessionsSound) (e : step s = .next t) : t.dock.SessionsSound := sessionsSound_loss.stays h e

end Sys2Proof.Machine
end

section
/-! What the operations of the Dock Supervisor leave of a door's record but for loss and curtain running, and the soundness of the doors at every
step (R89 to R106, R112). -/

namespace Sys2Proof.Machine

variable {s t : State} {d e : Fin 32}

/-! ### The record of a door but for what loss accrual writes -/

/-- A door's record but for its loss fields and its curtain-running flag. -/
def State.shape (s : State) (d : Fin 32) : Door := (s.door d).forgetLoss

theorem shape_of_forgetLoss (h : t.dock.forgetLoss = s.dock.forgetLoss) (d : Fin 32) : t.shape d = s.shape d := by
  have shape : ∀ u : State, u.shape d = look u.dock.forgetLoss.doors d := fun u => (look_map Door.forgetLoss u.dock.doors d).symm
  rw [shape, shape, h]

theorem forgetLoss_of_outside (h : t.outsideBudget = s.outsideBudget) : t.dock.forgetLoss = s.dock.forgetLoss :=
  show t.outsideBudget.dock = s.outsideBudget.dock by rw [h]

theorem shape_of_outside (h : t.outsideBudget = s.outsideBudget) (d : Fin 32) : t.shape d = s.shape d :=
  shape_of_forgetLoss (forgetLoss_of_outside h) d

theorem shape_of_dock (h : t.dock = s.dock) (d : Fin 32) : t.shape d = s.shape d := by
  unfold State.shape
  rw [door_of_dock h]

theorem check_of_outside (h : t.outsideBudget = s.outsideBudget) : t.dock.check = s.dock.check :=
  show t.dock.forgetLoss.check = s.dock.forgetLoss.check by rw [forgetLoss_of_outside h]

@[simp] theorem shape_putDoor_self (d : Fin 32) (x : Door) (s : State) : (s.putDoor d x).shape d = x.forgetLoss := by
  unfold State.shape
  rw [door_putDoor_self]

theorem shape_putDoor_ne (h : d ≠ e) (x : Door) (s : State) : (s.putDoor d x).shape e = s.shape e := by
  unfold State.shape
  rw [door_putDoor, if_neg h]

@[simp] theorem accrue_shape (d e : Fin 32) (s : State) : (accrue d s).shape e = s.shape e := shape_of_outside (accrue_outside s d) e
@[simp] theorem refreshRate_shape (d e : Fin 32) (s : State) : (refreshRate d s).shape e = s.shape e :=
  shape_of_outside (refreshRate_outside s d) e
@[simp] theorem raise_shape (k : NoticeKind) (n : Nat) (b : Bytes) (s : State) (e : Fin 32) : (raise k n b s).shape e = s.shape e :=
  shape_of_outside (raise_outside s k n b) e
@[simp] theorem setCurtainRunning_shape (d e : Fin 32) (b : Bool) (s : State) : (setCurtainRunning d b s).shape e = s.shape e :=
  shape_of_outside (setCurtainRunning_outside s d b) e
@[simp] theorem targetChange_shape (i : Fin 128) (r : Role) (o v : Nat) (m : Bool) (s : State) (e : Fin 32) :
    (targetChange i r o v m s).shape e = s.shape e := shape_of_outside (targetChange_outside s i r o v m) e

/-! ### Sessions -/

theorem offerSession_shape (r : SessionRecord) (s : State) (e : Fin 32) : (offerSession r s).shape e = s.shape e := by
  unfold offerSession
  split
  · rfl
  · dsimp only
    split
    · rfl
    · rw [raise_shape]
      rfl

theorem closeSession_shape (d : Fin 32) (r : EndReason) (s : State) : (closeSession d r s).shape d = { s.shape d with session := none } := by
  unfold closeSession
  split
  · next h =>
    unfold State.shape Door.forgetLoss
    rw [h]
    rfl
  · rw [offerSession_shape, shape_putDoor_self]
    rfl

theorem closeSession_shape_ne (h : d ≠ e) (r : EndReason) (s : State) : (closeSession d r s).shape e = s.shape e := by
  unfold closeSession
  split
  · rfl
  · rw [offerSession_shape, shape_putDoor_ne h]

/-- The session that an opening begins (R112). -/
def State.newSession (s : State) : Session := ⟨s.dock.nextSession, s.plan.clock, s.plan.current.fields.label, 0, 0, 0⟩

theorem openSession_shape (d : Fin 32) (s : State) : (openSession d s).shape d = { s.shape d with session := some s.newSession } :=
  shape_putDoor_self d _ s

theorem openSession_shape_ne (h : d ≠ e) (s : State) : (openSession d s).shape e = s.shape e := shape_putDoor_ne h _ s

/-! ### Targets (R99) -/

/-- A door's record with the targets it calls for sent. -/
def State.aimed (s : State) (x : Door) : Door :=
  { x with
    sentLight := if x.cfg.light = none then x.sentLight else s.lightTarget x
    sentCurtain := if x.cfg.curtain = none then x.sentCurtain else s.curtainTarget x }

theorem lightTarget_forgetLoss (s : State) (x : Door) : s.lightTarget x.forgetLoss = s.lightTarget x := rfl
theorem curtainTarget_forgetLoss (s : State) (x : Door) : s.curtainTarget x.forgetLoss = s.curtainTarget x := rfl

theorem sendLight_shape (d : Fin 32) (s : State) :
    (sendLight d s).shape d
      = { s.shape d with
          sentLight := if (s.door d).cfg.light = none then (s.door d).sentLight else s.lightTarget (s.door d) } := by
  unfold sendLight
  dsimp only
  split
  · next h => rw [if_pos h]; rfl
  · next i h =>
    have named : (s.door d).cfg.light ≠ none := by
      rw [h]
      simp
    rw [if_neg named]
    split
    · next hv => rw [hv]; rfl
    · rw [targetChange_shape, shape_putDoor_self]
      rfl

theorem sendLight_shape_ne (h : d ≠ e) (s : State) : (sendLight d s).shape e = s.shape e := by
  unfold sendLight
  dsimp only
  split
  · rfl
  · split
    · rfl
    · rw [targetChange_shape, shape_putDoor_ne h]

theorem sendCurtain_shape (d : Fin 32) (s : State) :
    (sendCurtain d s).shape d
      = { s.shape d with
          sentCurtain := if (s.door d).cfg.curtain = none then (s.door d).sentCurtain else s.curtainTarget (s.door d) } := by
  unfold sendCurtain
  dsimp only
  split
  · next h => rw [if_pos h]; rfl
  · next i h =>
    have named : (s.door d).cfg.curtain ≠ none := by
      rw [h]
      simp
    rw [if_neg named]
    split
    · next hv => rw [hv]; rfl
    · rw [targetChange_shape, shape_putDoor_self]
      rfl

theorem sendCurtain_shape_ne (h : d ≠ e) (s : State) : (sendCurtain d s).shape e = s.shape e := by
  unfold sendCurtain
  dsimp only
  split
  · rfl
  · split
    · rfl
    · rw [targetChange_shape, shape_putDoor_ne h]

@[simp] theorem sendLight_stop (d : Fin 32) (s : State) : (sendLight d s).stop = s.stop := stop_of_outsideDock (by simp)
@[simp] theorem sendDoorTargets_stop (d : Fin 32) (s : State) : (sendDoorTargets d s).stop = s.stop := stop_of_outsideDock (by simp)

theorem sendDoorTargets_shape (d : Fin 32) (s : State) : (sendDoorTargets d s).shape d = s.aimed (s.shape d) := by
  have light := sendLight_shape d s
  have cfg : ((sendLight d s).door d).cfg = (s.door d).cfg := (congrArg Door.cfg light :)
  have curtain : ((sendLight d s).door d).sentCurtain = (s.door d).sentCurtain := (congrArg Door.sentCurtain light :)
  have state : ((sendLight d s).door d).state = (s.door d).state := (congrArg Door.state light :)
  have target : (sendLight d s).curtainTarget ((sendLight d s).door d) = s.curtainTarget (s.door d) := by
    unfold State.curtainTarget State.plantRunning
    rw [sendLight_stop, state]
  unfold sendDoorTargets
  rw [sendCurtain_shape, light, cfg, curtain, target]
  rfl

theorem sendDoorTargets_shape_ne (h : d ≠ e) (s : State) : (sendDoorTargets d s).shape e = s.shape e := by
  unfold sendDoorTargets
  rw [sendCurtain_shape_ne h, sendLight_shape_ne h]

/-! ### Moves (R94, R95, R112) -/

/-- A door's record after its move to a state: the held timer and the session of that state. -/
def State.movedTo (s : State) (x : Door) (new : DoorState) (length : Nat) : Door :=
  { x with
    state := new
    heldT := if new = .openBare then some length else none
    heldLength := if new = .openBare then length else x.heldLength
    session := if new.docked then (if x.state.docked then x.session else some s.newSession) else none }

@[simp] theorem accrue_plan_current (d : Fin 32) (s : State) : (accrue d s).plan.current = s.plan.current := by
  unfold accrue
  dsimp only
  split
  · rfl
  · split <;> rfl

@[simp] theorem accrue_plan_clock (d : Fin 32) (s : State) : (accrue d s).plan.clock = s.plan.clock := by
  unfold accrue
  dsimp only
  split
  · rfl
  · split <;> rfl

theorem offerSession_plan (r : SessionRecord) (s : State) : (offerSession r s).plan = s.plan := by
  unfold offerSession
  split
  · rfl
  · dsimp only
    split
    · rfl
    · exact raise_plan _ _ _ _

theorem offerSession_nextSession (r : SessionRecord) (s : State) : (offerSession r s).dock.nextSession = s.dock.nextSession := by
  unfold offerSession
  split
  · rfl
  · dsimp only
    split
    · rfl
    · rw [raise_dock]
      rfl

@[simp] theorem closeSession_plan (d : Fin 32) (r : EndReason) (s : State) : (closeSession d r s).plan = s.plan := by
  unfold closeSession
  split
  · rfl
  · exact offerSession_plan _ _

@[simp] theorem closeSession_nextSession (d : Fin 32) (r : EndReason) (s : State) :
    (closeSession d r s).dock.nextSession = s.dock.nextSession := by
  unfold closeSession
  split
  · rfl
  · exact offerSession_nextSession _ _

/-- The session that a move to a state leaves behind is closed after its accrual. -/
def leaveSession (d : Fin 32) (new : DoorState) (r : EndReason) (s : State) : State :=
  if new.docked then accrue d s else closeSession d r (accrue d s)

theorem leaveSession_shape (d : Fin 32) (new : DoorState) (r : EndReason) (s : State) :
    (leaveSession d new r s).shape d = if new.docked then s.shape d else { s.shape d with session := none } := by
  unfold leaveSession
  split
  · rw [accrue_shape]
  · rw [closeSession_shape, accrue_shape]

theorem leaveSession_shape_ne (h : d ≠ e) (new : DoorState) (r : EndReason) (s : State) : (leaveSession d new r s).shape e = s.shape e := by
  unfold leaveSession
  split
  · rw [accrue_shape]
  · rw [closeSession_shape_ne h, accrue_shape]

theorem leaveSession_newSession (d : Fin 32) (new : DoorState) (r : EndReason) (s : State) :
    (leaveSession d new r s).newSession = s.newSession := by
  have next : (accrue d s).dock.nextSession = s.dock.nextSession := by rw [accrue_dock]; rfl
  unfold leaveSession State.newSession
  split <;> simp [next]

theorem leaveSession_heldLengthNow (d : Fin 32) (new : DoorState) (r : EndReason) (s : State) :
    (leaveSession d new r s).heldLengthNow d = s.heldLengthNow d := by
  have cfg : ((leaveSession d new r s).door d).cfg = (s.door d).cfg := by
    have shape := congrArg Door.cfg (leaveSession_shape d new r s)
    have same : (if new.docked then s.shape d else { s.shape d with session := none }).cfg = (s.door d).cfg := by split <;> rfl
    exact shape.trans same
  have kind : (leaveSession d new r s).kind = s.kind := by
    unfold leaveSession State.kind
    split <;> simp
  simp only [State.heldLengthNow, cfg, kind]

theorem enterState_eq (d : Fin 32) (new : DoorState) (r : EndReason) (s : State) :
    enterState d new r s
      = refreshRate d
          (let u := leaveSession d new r s
           let v := u.putDoor d { u.door d with
             state := new
             heldT := if new = .openBare then some (u.heldLengthNow d) else none
             heldLength := if new = .openBare then u.heldLengthNow d else (u.door d).heldLength }
           if new.docked && !(s.door d).state.docked then openSession d v else v) := rfl

theorem enterState_shape (d : Fin 32) (new : DoorState) (r : EndReason) (s : State) :
    (enterState d new r s).shape d = s.movedTo (s.shape d) new (s.heldLengthNow d) := by
  have left := leaveSession_shape d new r s
  rw [enterState_eq, refreshRate_shape]
  dsimp only
  rw [leaveSession_heldLengthNow]
  have moved : ((leaveSession d new r s).putDoor d { (leaveSession d new r s).door d with
      state := new
      heldT := if new = .openBare then some (s.heldLengthNow d) else none
      heldLength := if new = .openBare then s.heldLengthNow d else ((leaveSession d new r s).door d).heldLength }).shape d
      = { (leaveSession d new r s).shape d with
          state := new
          heldT := if new = .openBare then some (s.heldLengthNow d) else none
          heldLength := if new = .openBare then s.heldLengthNow d else ((leaveSession d new r s).shape d).heldLength } := by
    rw [shape_putDoor_self]
    rfl
  have number : ∀ x, ((leaveSession d new r s).putDoor d x).newSession = s.newSession := fun _ => leaveSession_newSession d new r s
  unfold State.movedTo
  cases hn : new.docked with
  | false =>
    rw [hn] at left
    simp only [Bool.false_and, Bool.false_eq_true, ↓reduceIte] at left ⊢
    rw [moved, left]
  | true =>
    rw [hn] at left
    cases ho : (s.door d).state.docked with
    | false =>
      have hs : (s.shape d).state.docked = false := ho
      simp only [Bool.not_false, Bool.and_self, ↓reduceIte, hs, Bool.false_eq_true] at left ⊢
      rw [openSession_shape, number, moved, left]
    | true =>
      have hs : (s.shape d).state.docked = true := ho
      simp only [Bool.not_true, Bool.and_false, Bool.false_eq_true, ↓reduceIte, hs] at left ⊢
      rw [moved, left]

theorem enterState_shape_ne (h : d ≠ e) (new : DoorState) (r : EndReason) (s : State) : (enterState d new r s).shape e = s.shape e := by
  rw [enterState_eq, refreshRate_shape]
  dsimp only
  split
  · rw [openSession_shape_ne h, shape_putDoor_ne h, leaveSession_shape_ne h]
  · rw [shape_putDoor_ne h, leaveSession_shape_ne h]

/-- A door's record with a cycle counted (R97). -/
def Door.cycled (x : Door) : Door :=
  { x with
    cycles := satAdd Config.max16 x.cycles 1
    session := x.session.map fun y => { y with cycles := satAdd Config.max16 y.cycles 1 } }

theorem countCycle_shape (d : Fin 32) (s : State) : (countCycle d s).shape d = (s.shape d).cycled := by
  change (s.putDoor d (s.door d).cycled).shape d = _
  rw [shape_putDoor_self]
  unfold State.shape Door.forgetLoss Door.cycled
  cases (s.door d).session <;> rfl

theorem countCycle_shape_ne (h : d ≠ e) (s : State) : (countCycle d s).shape e = s.shape e := shape_putDoor_ne h _ s

/-- A move on the inputs of a door (R94, R97). -/
theorem moveDoor_shape (d : Fin 32) (new : DoorState) (s : State) :
    (moveDoor d new s).shape d
      = if (s.door d).state.shutType && new.isOpen then (s.movedTo (s.shape d) new (s.heldLengthNow d)).cycled
        else s.movedTo (s.shape d) new (s.heldLengthNow d) := by
  unfold moveDoor
  dsimp only
  split
  · rw [countCycle_shape, enterState_shape]
  · exact enterState_shape d new _ s

theorem moveDoor_shape_ne (h : d ≠ e) (new : DoorState) (s : State) : (moveDoor d new s).shape e = s.shape e := by
  unfold moveDoor
  dsimp only
  split
  · rw [countCycle_shape_ne h, enterState_shape_ne h]
  · exact enterState_shape_ne h new _ s

end Sys2Proof.Machine
end

section
/-! The doors at every step: a session exactly at the docked doors, disabled doors UNUSED, the held timer in OPEN_BARE alone, enabled doors under
test (R89, R91, R95, R104, R112). -/

namespace Sys2Proof.Machine

variable {s t : State} {d e : Fin 32}

/-- A door's part of the soundness of the doors. -/
def Door.Sound (x : Door) : Prop :=
  x.session.isSome = x.state.docked ∧ (x.cfg.enabled = false → x.state = .unused) ∧ (x.heldT.isSome → x.state = .openBare)

theorem Door.sound_forgetLoss {x : Door} : x.forgetLoss.Sound ↔ x.Sound := by
  simp [Door.Sound, Door.forgetLoss]

/-- The doors are sound. -/
def State.DoorsOk (s : State) : Prop := s.DoorsSound

theorem doorsOk_iff : s.DoorsOk ↔ (∀ d, (s.shape d).Sound) ∧ ∀ d, s.underTest d → (s.shape d).cfg.enabled = true := by
  constructor
  · rintro ⟨h1, h2, h3, h4⟩
    exact ⟨fun d => Door.sound_forgetLoss.mpr ⟨h1 d, h2 d, h3 d⟩, h4⟩
  · rintro ⟨h, h4⟩
    have sound : ∀ d, (s.door d).Sound := fun d => Door.sound_forgetLoss.mp (h d)
    exact ⟨fun d => (sound d).1, fun d => (sound d).2.1, fun d => (sound d).2.2, h4⟩

theorem underTest_of_check (h : t.dock.check = s.dock.check) (d : Fin 32) : t.underTest d = s.underTest d := by
  unfold State.underTest
  rw [h]

namespace State.DoorsOk

theorem sound (h : s.DoorsOk) (d : Fin 32) : (s.shape d).Sound := (doorsOk_iff.mp h).1 d

/-- An operation that leaves every door's record but for its loss fields, and the check. -/
theorem of_shape (h : s.DoorsOk) (hs : ∀ d, t.shape d = s.shape d) (hc : t.dock.check = s.dock.check) : t.DoorsOk := by
  obtain ⟨hd, ht⟩ := doorsOk_iff.mp h
  refine doorsOk_iff.mpr ⟨fun d => by rw [hs]; exact hd d, fun d hu => ?_⟩
  rw [hs]
  exact ht d (underTest_of_check hc d ▸ hu)

theorem of_forgetLoss (h : s.DoorsOk) (e : t.dock.forgetLoss.doors = s.dock.forgetLoss.doors) (hc : t.dock.check = s.dock.check) :
    t.DoorsOk := by
  refine h.of_shape (fun d => ?_) hc
  have shape : ∀ u : State, u.shape d = look u.dock.forgetLoss.doors d := fun u => (look_map Door.forgetLoss u.dock.doors d).symm
  rw [shape, shape, e]

theorem of_outside (h : s.DoorsOk) (e : t.outsideBudget = s.outsideBudget) : t.DoorsOk :=
  h.of_shape (shape_of_outside e) (check_of_outside e)

theorem of_dock (h : s.DoorsOk) (e : t.dock = s.dock) : t.DoorsOk := h.of_shape (shape_of_dock e) (by rw [e])

/-- An operation that writes one door. -/
theorem write (h : s.DoorsOk) (d : Fin 32) (hne : ∀ e, d ≠ e → t.shape e = s.shape e) (hc : t.dock.check = s.dock.check)
    (hd : (t.shape d).Sound) (hcfg : (t.shape d).cfg = (s.shape d).cfg) : t.DoorsOk := by
  obtain ⟨ho, ht⟩ := doorsOk_iff.mp h
  refine doorsOk_iff.mpr ⟨fun e => ?_, fun e hu => ?_⟩
  · by_cases hde : d = e
    · exact hde ▸ hd
    · rw [hne e hde]
      exact ho e
  · have enabled := ht e (underTest_of_check hc e ▸ hu)
    by_cases hde : d = e
    · subst hde
      rw [hcfg]
      exact enabled
    · rw [hne e hde]
      exact enabled

end State.DoorsOk

/-- The contact check stands over what an operation at a door does. -/
theorem doorClosed_check (d : Fin 32) (s : State) : DoorClosed d fun u => u.dock.check = s.dock.check where
  target i r v u _ h := (check_of_outside (targetChange_outside u i r d v false)).trans h
  door _ _ _ h := h
  log _ _ _ _ _ h := h
  totals _ _ h := h
  notice k n b u h := (check_of_outside (raise_outside u k n b)).trans h

/-! ### The soundness of one door -/

theorem sound_movedTo {x : Door} (hs : x.session.isSome = x.state.docked) (he : x.cfg.enabled = true) (new : DoorState) (n : Nat) :
    (s.movedTo x new n).Sound := by
  refine ⟨?_, fun hd => absurd (he.symm.trans hd) (by simp), fun hh => ?_⟩
  · change (if new.docked then (if x.state.docked then x.session else some s.newSession) else none : Option Session).isSome = new.docked
    cases new.docked with
    | false => rfl
    | true =>
      cases hx : x.state.docked with
      | false => rfl
      | true => exact hs.trans hx
  · by_contra hn
    have hn : new ≠ .openBare := hn
    simp [State.movedTo, hn] at hh

theorem sound_cycled {x : Door} (h : x.Sound) : x.cycled.Sound := by
  simpa [Door.Sound, Door.cycled] using h

theorem sound_aimed {x : Door} (h : x.Sound) : (s.aimed x).Sound := h

/-- A door in a state other than UNUSED is enabled. -/
theorem Door.Sound.enabled {x : Door} (h : x.Sound) (hs : x.state ≠ .unused) : x.cfg.enabled = true := by
  by_contra he
  exact hs (h.2.1 (by simpa using he))

/-! ### The operations of the Dock Supervisor -/

theorem sendDoorTargets_doorsOk (d : Fin 32) (h : s.DoorsOk) : (sendDoorTargets d s).DoorsOk := by
  refine h.write d (fun e he => sendDoorTargets_shape_ne he s) ((doorClosed_check d s).sendDoorTargets rfl) ?_ ?_
  · rw [sendDoorTargets_shape]
    exact h.sound d
  · rw [sendDoorTargets_shape]
    rfl

theorem enterState_doorsOk (d : Fin 32) (new : DoorState) (r : EndReason) (he : (s.door d).cfg.enabled = true) (h : s.DoorsOk) :
    (enterState d new r s).DoorsOk := by
  refine h.write d (fun e he => enterState_shape_ne he new r s) ((doorClosed_check d s).enterState new r rfl) ?_ ?_
  · rw [enterState_shape]
    exact sound_movedTo (h.sound d).1 he _ _
  · rw [enterState_shape]
    rfl

theorem moveDoor_doorsOk (d : Fin 32) (new : DoorState) (he : (s.door d).cfg.enabled = true) (h : s.DoorsOk) : (moveDoor d new s).DoorsOk := by
  have moved := sound_movedTo (s := s) (h.sound d).1 he new (s.heldLengthNow d)
  refine h.write d (fun e he => moveDoor_shape_ne he new s) ((doorClosed_check d s).moveDoor new rfl) ?_ ?_
  · rw [moveDoor_shape]
    split
    · exact sound_cycled moved
    · exact moved
  · rw [moveDoor_shape]
    split <;> rfl

/-- A write of what the soundness of a door does not depend on. -/
theorem State.DoorsOk.same (h : s.DoorsOk) (d : Fin 32) {x : Door} (hc : x.cfg = (s.door d).cfg) (hs : x.state = (s.door d).state)
    (hh : x.heldT.isSome = (s.door d).heldT.isSome) (hx : x.session.isSome = (s.door d).session.isSome) : (s.putDoor d x).DoorsOk := by
  refine h.write d (fun e he => shape_putDoor_ne he x s) rfl ?_ ?_
  · have sound := Door.sound_forgetLoss.mp (h.sound d)
    rw [shape_putDoor_self, Door.sound_forgetLoss]
    unfold Door.Sound at sound ⊢
    rw [hc, hs, hh, hx]
    exact sound
  · rw [shape_putDoor_self]
    exact hc

theorem raise_doorsOk (k : NoticeKind) (n : Nat) (b : Bytes) (h : s.DoorsOk) : (raise k n b s).DoorsOk := h.of_outside (raise_outside s k n b)

theorem takeRaw_doorsOk (d : Fin 32) (i : DoorInput) (h : s.DoorsOk) : (takeRaw d i s).DoorsOk := by
  unfold takeRaw
  cases i <;> exact h.same d rfl rfl rfl rfl

theorem trailerNotice_doorsOk (d : Fin 32) (a : Bool) (c : Option Nat) (h : s.DoorsOk) : (trailerNotice d a c s).DoorsOk := by
  unfold trailerNotice
  split <;> exact raise_doorsOk _ _ _ h

theorem takeRaw_cfg (d : Fin 32) (i : DoorInput) (s : State) : ((takeRaw d i s).door d).cfg = (s.door d).cfg := by
  unfold takeRaw
  cases i <;> simp

theorem debounceExpired_doorsOk (d : Fin 32) (i : DoorInput) (h : s.DoorsOk) : (debounceExpired d i s).DoorsOk := by
  have raw := takeRaw_doorsOk d i h
  have sound := Door.sound_forgetLoss.mp (h.sound d)
  have enabled : (s.door d).state ≠ .unused → ((takeRaw d i s).door d).cfg.enabled = true := by
    intro hs
    rw [takeRaw_cfg]
    exact sound.enabled hs
  unfold debounceExpired
  dsimp only
  split
  · exact raw
  · next hs => exact sendDoorTargets_doorsOk d (moveDoor_doorsOk d _ (enabled (by simp [hs])) raw)
  · split
    · exact trailerNotice_doorsOk d _ _ raw
    · exact raw
  · next hu _ _ =>
    split
    · exact raw
    · refine sendDoorTargets_doorsOk d ?_
      split
      · exact trailerNotice_doorsOk d _ _ (moveDoor_doorsOk d _ (enabled hu) raw)
      · exact moveDoor_doorsOk d _ (enabled hu) raw

theorem heldExpired_doorsOk (d : Fin 32) (hh : (s.door d).heldT = some 0) (h : s.DoorsOk) : (heldExpired d s).DoorsOk := by
  have sound := Door.sound_forgetLoss.mp (h.sound d)
  have bare : (s.door d).state = .openBare := sound.2.2 (by simp [hh])
  have entered := enterState_doorsOk d .held .departed (sound.enabled (by simp [bare])) h
  unfold heldExpired
  dsimp only
  generalize enterState d .held .departed s = u at entered ⊢
  have counted : (u.putDoor d { u.door d with heldEpisodes := satAdd 255 (u.door d).heldEpisodes 1 }).DoorsOk :=
    entered.same d rfl rfl rfl rfl
  exact sendDoorTargets_doorsOk d (raise_doorsOk _ _ _ (counted.of_dock rfl))

theorem startDebounce_doorsOk (d : Fin 32) (h : s.DoorsOk) : (startDebounce d s).DoorsOk := h.same d rfl rfl rfl rfl

theorem endCheckAt_doorsOk (k : ContactCheck) (d : Fin 32) (he : (s.door d).cfg.enabled = true) (h : s.DoorsOk) :
    (endCheckAt k d s).DoorsOk := by
  have looped : ∀ l, (s.putDoor d { s.door d with loop := l }).DoorsOk := fun l => h.same d rfl rfl rfl rfl
  unfold endCheckAt
  dsimp only
  split
  · split
    · refine sendDoorTargets_doorsOk d (enterState_doorsOk d _ _ ?_ ((looped _).same d rfl rfl rfl rfl))
      rw [door_putDoor_self, door_putDoor_self]
      exact he
    · exact startDebounce_doorsOk d (looped _)
  · refine startDebounce_doorsOk d ?_
    split
    · exact looped _
    · refine sendDoorTargets_doorsOk d (raise_doorsOk _ _ _ (enterState_doorsOk d _ _ ?_ (looped _)))
      rw [door_putDoor_self]
      exact he

/-- What happens at a door keeps the configuration of every door. -/
theorem doorClosed_cfg (d e : Fin 32) (c : DoorConfig) : DoorClosed d fun u => (u.door e).cfg = c where
  target i r v u _ h := by
    have same := congrArg Door.cfg (targetChange_shape i r d v false u e)
    exact Eq.trans same h
  door x u hx h := by
    show ((u.putDoor d x).door e).cfg = c
    rw [door_putDoor]
    split
    · next hde => exact hx.trans (hde ▸ h)
    · exact h
  log _ _ _ _ _ h := h
  totals _ _ h := h
  notice k n b u h := by
    have same := congrArg Door.cfg (raise_shape k n b u e)
    exact Eq.trans same h

theorem forEach_keeps_of_mem {α : Type} {I : State → Prop} {f : α → State → State} {l : List α} (h : ∀ a ∈ l, ∀ u, I u → I (f a u)) (s : State)
    (hs : I s) : I (forEach l f s) := by
  induction l generalizing s with
  | nil => exact hs
  | cons a l ih =>
    rw [forEach_cons]
    exact ih (fun b hb => h b (List.mem_cons_of_mem _ hb)) _ (h a List.mem_cons_self s hs)

theorem endCheck_doorsOk (k : ContactCheck) (e : CheckEnding) (hk : s.dock.check = some k) (h : s.DoorsOk) : (endCheck k e s).DoorsOk := by
  have unchecked : (s.setDock { s.dock with check := none }).DoorsOk := by
    refine doorsOk_iff.mpr ⟨fun d => h.sound d, fun d hu => ?_⟩
    cases hu
  have tested : ∀ d ∈ k.doors, (s.door d).cfg.enabled = true := by
    intro d hd
    refine (doorsOk_iff.mp h).2 d ?_
    unfold State.underTest
    rw [hk]
    exact (List.mem_filter.mp hd).2
  unfold endCheck
  refine raise_doorsOk _ _ _ ?_
  refine (forEach_keeps_of_mem (I := fun u => u.DoorsOk ∧ ∀ d, (u.door d).cfg = (s.door d).cfg) (fun d hd u hu => ?_) _
    ⟨unchecked, fun _ => rfl⟩).1
  exact ⟨endCheckAt_doorsOk k d (by rw [hu.2 d]; exact tested d hd) hu.1,
    fun e => (doorClosed_cfg d e _).endCheckAt k (hu.2 e)⟩

theorem beginCheck_doorsOk (h : s.DoorsOk) : (beginCheck s).DoorsOk := by
  unfold beginCheck
  dsimp only
  refine forEach_keeps (fun d u hu => State.DoorsOk.same hu d (x := { u.door d with contactT := none, presenceT := none }) rfl rfl rfl rfl)
    _ _ ?_
  refine doorsOk_iff.mpr ⟨fun d => h.sound d, fun d hu => ?_⟩
  have enabled : (look s.dock.doors d).cfg.enabled = true := by simpa [State.underTest, look_map] using hu
  exact enabled

theorem restartDoor_doorsOk (d : Fin 32) (h : s.DoorsOk) : (restartDoor d s).DoorsOk := by
  have closed := (closeSession_shape d .restart (accrue d s)).trans (congrArg (fun x : Door => { x with session := none }) (accrue_shape d d s))
  have cfg : ((closeSession d .restart (accrue d s)).door d).cfg = (s.door d).cfg := (congrArg Door.cfg closed :)
  have none_open : ((closeSession d .restart (accrue d s)).door d).session = none := by
    have := congrArg Door.session closed
    simpa [State.shape, Door.forgetLoss] using this
  refine h.write d (fun e he => ?_) ((doorClosed_check d s).restartDoor rfl) ?_ ?_
  · unfold restartDoor
    dsimp only
    rw [refreshRate_shape, shape_putDoor_ne he, closeSession_shape_ne he, accrue_shape]
  · unfold restartDoor
    dsimp only
    rw [refreshRate_shape, shape_putDoor_self, Door.sound_forgetLoss]
    refine ⟨?_, fun hd => if_neg (by rw [show _ = false from hd]; simp), fun hh => by cases hh⟩
    change ((closeSession d .restart (accrue d s)).door d).session.isSome = _
    rw [none_open]
    dsimp only
    split <;> rfl
  · unfold restartDoor
    dsimp only
    rw [refreshRate_shape, shape_putDoor_self]
    exact cfg

theorem dockRestart_doorsOk (h : s.DoorsOk) : (dockRestart s).DoorsOk := by
  unfold dockRestart
  dsimp only
  refine forEach_keeps (fun d u hu => restartDoor_doorsOk d hu) _ _ ?_
  split
  · exact h
  · refine raise_doorsOk _ _ _ (doorsOk_iff.mpr ⟨fun d => h.sound d, fun d hu => ?_⟩)
    cases hu

theorem dockPlantChange_doorsOk (h : s.DoorsOk) : (dockPlantChange s).DoorsOk :=
  forEach_keeps (fun d _ hu => sendDoorTargets_doorsOk d hu) _ s h

end Sys2Proof.Machine
end

section
/-! CONFIG DOOR over a door's record, and the soundness of the doors over every command (R89 to R91, R104, R112). -/

namespace Sys2Proof.Machine

variable {s t : State} {d e : Fin 32}

/-! ### CONFIG DOOR (R91) -/

/-- A door's record after step 3 of R91. -/
def Door.switched (x : Door) (was now : Bool) : Door :=
  match was, now with
  | false, true =>
    { x with debOpen := x.rawOpen, debPresent := x.rawPresent, state := .unknown, contactT := some x.cfg.debounce,
             presenceT := some x.cfg.debounce }
  | true, false => { x with session := none, state := .unused, contactT := none, presenceT := none, heldT := none }
  | _, _ => x

theorem enablingChange_shape (d : Fin 32) (was now : Bool) (s : State) :
    (enablingChange d was now s).shape d = (s.shape d).switched was now := by
  unfold enablingChange Door.switched
  cases was <;> cases now <;> dsimp only
  · unfold startDebounce
    dsimp only
    rw [shape_putDoor_self, door_putDoor_self]
    rfl
  · rw [shape_putDoor_self]
    have closed := closeSession_shape d .disabled s
    unfold State.shape at closed
    rw [show ∀ y : Door, { y with state := .unused, contactT := none, presenceT := none, heldT := none : Door }.forgetLoss
      = { y.forgetLoss with state := .unused, contactT := none, presenceT := none, heldT := none } from fun _ => rfl, closed]
    rfl

theorem enablingChange_shape_ne (h : d ≠ e) (was now : Bool) (s : State) : (enablingChange d was now s).shape e = s.shape e := by
  unfold enablingChange
  cases was <;> cases now <;> dsimp only
  · unfold startDebounce
    rw [shape_putDoor_ne h, shape_putDoor_ne h]
  · rw [shape_putDoor_ne h, closeSession_shape_ne h]

@[simp] theorem releaseOld_shape (old : Option (Fin 128)) (r : Role) (d e : Fin 32) (s : State) : (releaseOld old r d s).shape e = s.shape e := by
  unfold releaseOld
  split
  · exact targetChange_shape _ _ _ _ _ _ _
  · rfl

@[simp] theorem releaseOld_stop (old : Option (Fin 128)) (r : Role) (d : Fin 32) (s : State) : (releaseOld old r d s).stop = s.stop := by
  unfold releaseOld
  split
  · exact targetChange_stop _ _ _ _ _ _
  · rfl

theorem lightTarget_congr {x y : Door} (hs : t.stop = s.stop) (hx : y.state = x.state) : t.lightTarget y = s.lightTarget x := by
  unfold State.lightTarget State.plantRunning
  rw [hs, hx]

theorem curtainTarget_congr {x y : Door} (hs : t.stop = s.stop) (hx : y.state = x.state) : t.curtainTarget y = s.curtainTarget x := by
  unfold State.curtainTarget State.plantRunning
  rw [hs, hx]

theorem state_of_shape (h : t.shape d = s.shape d) : (t.door d).state = (s.door d).state := (congrArg Door.state h :)
theorem cfg_of_shape (h : t.shape d = s.shape d) : (t.door d).cfg = (s.door d).cfg := (congrArg Door.cfg h :)

/-- The new curtain channel of a door is offered the door's target (R91 step 4). -/
theorem changeCurtain_shape (d : Fin 32) (old : Option (Fin 128)) (s : State) :
    (changeCurtain d old s).shape d
      = { s.shape d with
          sentCurtain := if (s.door d).cfg.curtain = old then (s.door d).sentCurtain
            else if (s.door d).cfg.curtain = none then 0 else s.curtainTarget (s.door d) } := by
  unfold changeCurtain
  split
  · rfl
  · have released := releaseOld_shape old .curtain d d s
    have target := curtainTarget_congr (releaseOld_stop old .curtain d s) (state_of_shape released)
    have cfg := cfg_of_shape released
    dsimp only
    rw [setCurtainRunning_shape]
    unfold offerCurtain
    generalize releaseOld old .curtain d s = u at released target cfg ⊢
    dsimp only
    rw [← cfg]
    split
    · next i hi =>
      rw [targetChange_shape, shape_putDoor_self, if_neg (show ¬(u.door d).cfg.curtain = none by rw [hi]; simp), target, ← released]
      rfl
    · next hi =>
      rw [shape_putDoor_self, if_pos hi, ← released]
      rfl

theorem changeCurtain_shape_ne (h : d ≠ e) (old : Option (Fin 128)) (s : State) : (changeCurtain d old s).shape e = s.shape e := by
  unfold changeCurtain
  split
  · rfl
  · dsimp only
    rw [setCurtainRunning_shape]
    unfold offerCurtain
    dsimp only
    split
    · rw [targetChange_shape, shape_putDoor_ne h, releaseOld_shape]
    · rw [shape_putDoor_ne h, releaseOld_shape]

/-- The new dock light channel of a door is offered the door's target (R91 step 4). -/
theorem changeLight_shape (d : Fin 32) (old : Option (Fin 128)) (s : State) :
    (changeLight d old s).shape d
      = { s.shape d with
          sentLight := if (s.door d).cfg.light = old then (s.door d).sentLight
            else if (s.door d).cfg.light = none then 0 else s.lightTarget (s.door d) } := by
  unfold changeLight
  split
  · rfl
  · have released := releaseOld_shape old .docklight d d s
    have target := lightTarget_congr (releaseOld_stop old .docklight d s) (state_of_shape released)
    have cfg := cfg_of_shape released
    unfold offerLight
    generalize releaseOld old .docklight d s = u at released target cfg ⊢
    dsimp only
    rw [← cfg]
    split
    · next i hi =>
      rw [targetChange_shape, shape_putDoor_self, if_neg (show ¬(u.door d).cfg.light = none by rw [hi]; simp), target, ← released]
      rfl
    · next hi =>
      rw [shape_putDoor_self, if_pos hi, ← released]
      rfl

theorem changeLight_shape_ne (h : d ≠ e) (old : Option (Fin 128)) (s : State) : (changeLight d old s).shape e = s.shape e := by
  unfold changeLight
  split
  · rfl
  · unfold offerLight
    dsimp only
    split
    · rw [targetChange_shape, shape_putDoor_ne h, releaseOld_shape]
    · rw [shape_putDoor_ne h, releaseOld_shape]

theorem changeCurtain_stop (d : Fin 32) (old : Option (Fin 128)) (s : State) : (changeCurtain d old s).stop = s.stop :=
  stop_of_outsideDock (changeCurtain_outsideDock s d old)

theorem changeLight_stop (d : Fin 32) (old : Option (Fin 128)) (s : State) : (changeLight d old s).stop = s.stop :=
  stop_of_outsideDock (changeLight_outsideDock s d old)

theorem enablingChange_stop (d : Fin 32) (was now : Bool) (s : State) : (enablingChange d was now s).stop = s.stop :=
  stop_of_outsideDock (enablingChange_outsideDock s d was now)

/-- A door's record after an accepted CONFIG DOOR (R91). -/
def State.configuredDoor (s : State) (x : Door) (n : DoorConfig) : Door :=
  let y := { x with cfg := n }.switched x.cfg.enabled n.enabled
  { y with
    sentLight := if n.light = none then (if x.cfg.light = none then x.sentLight else 0) else s.lightTarget y
    sentCurtain := if n.curtain = none then (if x.cfg.curtain = none then x.sentCurtain else 0) else s.curtainTarget y }

/-- The state of CONFIG DOOR before its targets are sent: the configuration taken and the enabling changed. -/
def switchDoor (d : Fin 32) (n : DoorConfig) (s : State) : State :=
  enablingChange d (s.door d).cfg.enabled n.enabled ((accrue d s).putDoor d { (accrue d s).door d with cfg := n })

theorem switchDoor_shape (d : Fin 32) (n : DoorConfig) (s : State) :
    (switchDoor d n s).shape d = { s.shape d with cfg := n }.switched (s.door d).cfg.enabled n.enabled := by
  unfold switchDoor
  rw [enablingChange_shape, shape_putDoor_self]
  have accrued := accrue_shape d d s
  rw [← accrued]
  rfl

theorem switchDoor_shape_ne (h : d ≠ e) (n : DoorConfig) (s : State) : (switchDoor d n s).shape e = s.shape e := by
  unfold switchDoor
  rw [enablingChange_shape_ne h, shape_putDoor_ne h, accrue_shape]

@[simp] theorem accrue_stop (d : Fin 32) (s : State) : (accrue d s).stop = s.stop := by
  unfold accrue
  dsimp only
  split
  · rfl
  · split <;> rfl

theorem switchDoor_stop (d : Fin 32) (n : DoorConfig) (s : State) : (switchDoor d n s).stop = s.stop := by
  unfold switchDoor
  rw [enablingChange_stop]
  exact accrue_stop d s

theorem configureDoor_eq (d : Fin 32) (n : DoorConfig) (s : State) :
    configureDoor d n s
      = refreshRate d (sendDoorTargets d (changeLight d (s.door d).cfg.light (changeCurtain d (s.door d).cfg.curtain (switchDoor d n s)))) :=
  rfl

theorem switched_sentLight (x : Door) (was now : Bool) : (x.switched was now).sentLight = x.sentLight := by
  unfold Door.switched
  cases was <;> cases now <;> rfl

theorem switched_sentCurtain (x : Door) (was now : Bool) : (x.switched was now).sentCurtain = x.sentCurtain := by
  unfold Door.switched
  cases was <;> cases now <;> rfl

theorem switched_cfg (x : Door) (was now : Bool) : (x.switched was now).cfg = x.cfg := by
  unfold Door.switched
  cases was <;> cases now <;> rfl

theorem configureDoor_shape (d : Fin 32) (n : DoorConfig) (s : State) :
    (configureDoor d n s).shape d = s.configuredDoor (s.shape d) n := by
  rw [configureDoor_eq, refreshRate_shape, sendDoorTargets_shape]
  have switched := switchDoor_shape d n s
  have stop := switchDoor_stop d n s
  have cfg : ((switchDoor d n s).door d).cfg = n := by
    have same := congrArg Door.cfg switched
    rw [switched_cfg] at same
    exact same
  have light : ((switchDoor d n s).door d).sentLight = (s.door d).sentLight := by
    have same := congrArg Door.sentLight switched
    rw [switched_sentLight] at same
    exact same
  have sentCurtain : ((switchDoor d n s).door d).sentCurtain = (s.door d).sentCurtain := by
    have same := congrArg Door.sentCurtain switched
    rw [switched_sentCurtain] at same
    exact same
  generalize switchDoor d n s = u at switched stop cfg light sentCurtain ⊢
  have curtain := changeCurtain_shape d (s.door d).cfg.curtain u
  have stopCurtain := (changeCurtain_stop d (s.door d).cfg.curtain u).trans stop
  generalize changeCurtain d (s.door d).cfg.curtain u = v at curtain stopCurtain ⊢
  have cfgCurtain : (v.door d).cfg = n := (congrArg Door.cfg curtain :).trans cfg
  have lightCurtain : (v.door d).sentLight = (s.door d).sentLight := (congrArg Door.sentLight curtain :).trans light
  have last := changeLight_shape d (s.door d).cfg.light v
  have stopLast := (changeLight_stop d (s.door d).cfg.light v).trans stopCurtain
  generalize changeLight d (s.door d).cfg.light v = w at last stopLast ⊢
  rw [last, curtain, cfg, cfgCurtain, lightCurtain, sentCurtain, switched]
  unfold State.aimed State.configuredDoor State.lightTarget State.curtainTarget State.plantRunning
  rw [stopLast]
  dsimp only
  rw [switched_cfg]
  dsimp only
  congr 1
  · rw [switched_cfg]
  · by_cases hn : n.light = none
    · rw [if_pos hn, if_pos hn, if_pos hn, hn]
      simp only [eq_comm (a := none)]
      rfl
    · simp only [if_neg hn]
      rfl
  · by_cases hn : n.curtain = none
    · rw [if_pos hn, if_pos hn, if_pos hn, hn]
      simp only [eq_comm (a := none)]
      rfl
    · simp only [if_neg hn]
      rfl

theorem configureDoor_shape_ne (h : d ≠ e) (n : DoorConfig) (s : State) : (configureDoor d n s).shape e = s.shape e := by
  rw [configureDoor_eq, refreshRate_shape, sendDoorTargets_shape_ne h, changeLight_shape_ne h, changeCurtain_shape_ne h,
    switchDoor_shape_ne h]

theorem sound_switched {x : Door} (h : x.Sound) (n : DoorConfig) : ({ x with cfg := n }.switched x.cfg.enabled n.enabled).Sound := by
  obtain ⟨hs, hu, hh⟩ := h
  unfold Door.switched
  cases hx : x.cfg.enabled <;> cases hn : n.enabled <;> dsimp only
  · exact ⟨hs, fun _ => hu hx, hh⟩
  · have unused := hu hx
    refine ⟨?_, fun hc => absurd (hn.symm.trans hc) (by simp), fun ht => ?_⟩
    · rw [unused] at hs
      exact hs
    · rw [hh ht] at unused
      cases unused
  · exact ⟨rfl, fun _ => rfl, fun ht => by cases ht⟩
  · exact ⟨hs, fun hc => absurd (hn.symm.trans hc) (by simp), hh⟩

theorem sound_configuredDoor {x : Door} (h : x.Sound) (n : DoorConfig) : (s.configuredDoor x n).Sound := sound_switched h n

end Sys2Proof.Machine
end

section
/-! The soundness of the doors at every step (R89, R91, R95, R104, R112). -/

namespace Sys2Proof.Machine

variable {s t : State} {d e : Fin 32}

theorem configureDoor_check (d : Fin 32) (n : DoorConfig) (s : State) : (configureDoor d n s).dock.check = s.dock.check := by
  have closed := doorClosed_check d s
  have accrued : (accrue d s).dock.check = s.dock.check := closed.accrue rfl
  have put : ((accrue d s).putDoor d { (accrue d s).door d with cfg := n }).dock.check = s.dock.check := accrued
  have switched : (switchDoor d n s).dock.check = s.dock.check := closed.enablingChange _ _ put
  have aimed : ∀ u i r v, u.dock.check = s.dock.check → (targetChange i r d v false u).dock.check = s.dock.check :=
    fun u i r v hu => (check_of_outside (targetChange_outside u i r d v false)).trans hu
  have released : ∀ old r u, u.dock.check = s.dock.check → (releaseOld old r d u).dock.check = s.dock.check := by
    intro old r u hu
    unfold releaseOld
    split
    · exact aimed _ _ _ _ hu
    · exact hu
  have curtain : ∀ old u, u.dock.check = s.dock.check → (changeCurtain d old u).dock.check = s.dock.check := by
    intro old u hu
    unfold changeCurtain
    split
    · exact hu
    · exact closed.setCurtainRunning _ (closed.offerCurtain (released _ _ u hu))
  have light : ∀ old u, u.dock.check = s.dock.check → (changeLight d old u).dock.check = s.dock.check := by
    intro old u hu
    unfold changeLight
    split
    · exact hu
    · exact closed.offerLight (released _ _ u hu)
  rw [configureDoor_eq]
  exact closed.refreshRate (closed.sendDoorTargets (light _ _ (curtain _ _ switched)))

/-- CONFIG DOOR, which is refused while a check runs. -/
theorem configureDoor_doorsOk (d : Fin 32) (n : DoorConfig) (hc : s.dock.check = none) (h : s.DoorsOk) : (configureDoor d n s).DoorsOk := by
  refine doorsOk_iff.mpr ⟨fun e => ?_, fun e hu => ?_⟩
  · by_cases hde : d = e
    · subst hde
      rw [configureDoor_shape]
      exact sound_configuredDoor (h.sound d) n
    · rw [configureDoor_shape_ne hde]
      exact h.sound e
  · unfold State.underTest at hu
    rw [configureDoor_check, hc] at hu
    cases hu

theorem doorsOk_budget : BudgetClosed State.DoorsOk where
  budget _ _ h := h
  notice k n b _ h := raise_doorsOk k n b h
  shed _ h := h
  curtain d b s h := h.of_outside (setCurtainRunning_outside s d b)

theorem curtainBound_doorsOk (i : Fin 128) (d : Fin 32) (h : s.DoorsOk) : (curtainBound i d s).DoorsOk := by
  unfold curtainBound
  dsimp only
  split
  · exact doorsOk_budget.targetChange _ _ _ _ _ (h.same d rfl rfl rfl rfl)
  · exact h

theorem docklightBound_doorsOk (i : Fin 128) (d : Fin 32) (h : s.DoorsOk) : (docklightBound i d s).DoorsOk := by
  unfold docklightBound
  dsimp only
  split
  · exact doorsOk_budget.targetChange _ _ _ _ _ (h.same d rfl rfl rfl rfl)
  · exact h

theorem clearCounters_doorsOk (d : Fin 32) (h : s.DoorsOk) : (clearCounters d s).DoorsOk := h.same d rfl rfl rfl rfl

theorem recordRaw_doorsOk (d : Fin 32) (i : DoorInput) (a : Bool) (h : s.DoorsOk) : (recordRaw d i a s).DoorsOk := by
  unfold recordRaw
  cases i <;> exact h.same d rfl rfl rfl rfl

theorem restartDebounce_doorsOk (d : Fin 32) (i : DoorInput) (h : s.DoorsOk) : (restartDebounce d i s).DoorsOk := by
  unfold restartDebounce
  cases i <;> exact h.same d rfl rfl rfl rfl

theorem doorsOk_dockCommands : DockCommands State.DoorsOk where
  configureDoor d n _ hc h := configureDoor_doorsOk d n hc h
  clearCounters d _ h := clearCounters_doorsOk d h
  beginCheck _ h := beginCheck_doorsOk h
  endCheck k e _ hk h := endCheck_doorsOk k e hk h
  readSessions _ _ _ h := h
  recordRaw d i a _ h := recordRaw_doorsOk d i a h
  restartDebounce d i _ h := restartDebounce_doorsOk d i h
  debounceExpired d i _ h := debounceExpired_doorsOk d i h
  heldExpired d _ hh h := heldExpired_doorsOk d hh h
  loopSample d b k s hk h := by
    obtain ⟨hd, ht⟩ := doorsOk_iff.mp h
    refine doorsOk_iff.mpr ⟨hd, fun e hu => ht e ?_⟩
    unfold State.underTest at hu ⊢
    rw [hk]
    exact hu

/-- A zone ΔT event changes loss fields and the ΔT copy alone. -/
theorem zoneDTEvent_doorsOk (z : Fin 12) (v : Nat) (h : s.DoorsOk) : (zoneDTEvent z v s).DoorsOk := by
  have accrued : (forEach (s.doorsOfZone z) accrue s).DoorsOk :=
    forEach_keeps (fun d u (hu : u.DoorsOk) => hu.of_outside (accrue_outside u d)) _ s h
  unfold zoneDTEvent
  exact forEach_keeps (fun d u (hu : u.DoorsOk) => hu.of_outside (refreshRate_outside u d)) _ _ accrued

theorem doorsOk_climate : ClimateClosed State.DoorsOk where
  zones z :=
    { target := fun i r v m _ _ h => doorsOk_budget.targetChange i r z v m h
      zone := fun _ _ _ h => h
      deltaT := fun v _ h => zoneDTEvent_doorsOk z v h
      draw := fun _ h => h
      notice := fun k n b _ h => raise_doorsOk k n b h }
  climate _ _ h := h

theorem doorsOk_lighting : LightingClosed State.DoorsOk where
  zones z :=
    { target := fun i v _ _ h => doorsOk_budget.targetChange i .light z v false h
      minimum := fun i v _ _ _ h => doorsOk_budget.protectedMinimum i z v h
      light := fun _ _ _ h => h }
  unit _ _ _ h := h
  notice k n b _ h := raise_doorsOk k n b h

theorem channelBound_doorsOk (i : Fin 128) (h : s.DoorsOk) : (channelBound i s).DoorsOk := by
  obtain e | ⟨z, -, -, e⟩ | ⟨z, -, -, e⟩ | ⟨z, -, -, e⟩ | ⟨d, -, -, e⟩ | ⟨d, -, -, e⟩ := channelBound_cases i s <;> rw [e]
  · exact h
  · exact (doorsOk_climate.zones z).heaterBound i h
  · exact (doorsOk_climate.zones z).fanBound i h
  · exact (doorsOk_lighting.zones z).lightBound i h
  · exact curtainBound_doorsOk i d h
  · exact docklightBound_doorsOk i d h

theorem tick_doorsOk (h : s.DoorsOk) : s.tick.DoorsOk := by
  obtain ⟨hd, ht⟩ := doorsOk_iff.mp h
  have door : ∀ d, s.tick.door d = (s.door d).tick := fun d => look_map _ _ _
  have cfg : ∀ d, (s.tick.shape d).cfg = (s.shape d).cfg := fun d => (congrArg Door.cfg (door d) :)
  refine doorsOk_iff.mpr ⟨fun d => ?_, fun d hu => ?_⟩
  · have sound := Door.sound_forgetLoss.mp (hd d)
    obtain ⟨hs, hu, hh⟩ := sound
    unfold State.shape
    rw [Door.sound_forgetLoss, door]
    refine ⟨hs, hu, fun ht => hh ?_⟩
    change (tickTimer (s.door d).heldT).isSome = true at ht
    unfold tickTimer at ht
    split at ht
    · cases ht
    · next hn => rw [hn]; rfl
  · rw [cfg]
    refine ht d ?_
    unfold State.underTest at hu ⊢
    change (match s.dock.check.map fun k => { k with remaining := k.remaining - 1 } with
      | some k => look k.underTest d
      | none => false) = true at hu
    cases hk : s.dock.check with
    | none => rw [hk] at hu; cases hu
    | some k => rw [hk] at hu; exact hu

/-- A fresh Dock Supervisor has sound doors. -/
theorem afresh_doorsOk (s : State) (st : Stage) (c : Snapshot) (store : SettingStore) : (s.afresh st c store).DoorsOk := by
  refine doorsOk_iff.mpr ⟨fun d => ?_, fun d hu => by cases hu⟩
  have started : (s.afresh st c store).door d = startDoor (look c.doors d) (s.door d).rawOpen (s.door d).rawPresent := by
    simp [State.door, State.afresh, State.fresh, startDock, look]
  unfold State.shape
  rw [Door.sound_forgetLoss, started]
  refine ⟨?_, fun hd => ?_, fun hh => by cases hh⟩
  · unfold startDoor
    dsimp only
    split <;> rfl
  · unfold startDoor at hd ⊢
    dsimp only at hd ⊢
    rw [if_neg (by rw [hd]; simp)]

theorem startUpNotices_doorsOk (r : Except StoreReason Snapshot) (h : s.DoorsOk) : (startUpNotices r s).DoorsOk :=
  h.of_outside (startUpNotices_outside r s)

theorem doorsOk_systemCommands : SystemCommands State.DoorsOk where
  reconfigure i n s _ h := by
    unfold reconfigure
    have applied := doorsOk_budget.applyConfig i (s.chan i) n (doorsOk_budget.bringToZero i h)
    exact doorsOk_budget.tripIfAsserted i (doorsOk_budget.reprotect (channelBound_doorsOk i applied))
  tick _ h := tick_doorsOk h
  finishLoading a s _ := by
    have started := afresh_doorsOk s .running (loadedSnapshot (loadImage a s.store.image))
      { s.store with source := match loadImage a s.store.image with
          | .ok _ => .store
          | .error _ => .defaults }
    unfold finishLoading
    dsimp only
    refine doorsOk_lighting.lightingStart (doorsOk_budget.budgetStart (startUpNotices_doorsOk _ ?_))
    exact started.of_dock rfl
  fireInput _ _ h := h
  fireAsserted s h := by
    unfold fireAsserted
    dsimp only
    split
    · exact h
    · have stopped := raise_doorsOk .plantStop 0 (le8 s.stop.state.code)
        (s := s.setStop { state := .stopped, fire := true, stopStamp := s.seconds }) h
      split
      · unfold plantStopped
        exact doorsOk_lighting.lightingStop (dockPlantChange_doorsOk (doorsOk_climate.climateStop (doorsOk_budget.budgetStop stopped)))
      · exact stopped
  fireCleared s h := by
    unfold fireCleared
    split
    · exact raise_doorsOk _ _ _ h
    · exact h
  resumePlant s _ h := by
    unfold resumePlant plantResumed
    have resumed := raise_doorsOk .plantResumed 0 [] (s := s.setStop { s.stop with state := .running }) h
    exact doorsOk_lighting.deriveLights (dockPlantChange_doorsOk (doorsOk_climate.climateResume (doorsOk_budget.budgetResume resumed)))
  plantRestart s h := by
    unfold plantRestart
    have emptied : (s.setPlan { s.plan with overrides := [] }).DoorsOk := h
    exact doorsOk_lighting.lightingRestart (doorsOk_climate.climateRestart (dockRestart_doorsOk (doorsOk_budget.budgetRestart emptied)))
  save _ h := h
  saveEnded r c d s _ h := by
    unfold saveEnded saveFailed
    cases r <;> exact raise_doorsOk _ _ _ h

theorem doorsOk_planCommands : PlanCommands State.DoorsOk :=
  (PlanClosed.of_anyPlan (fun _ _ h => h) (fun k n b _ h => raise_doorsOk k n b h) (fun z _ h => (doorsOk_lighting.zones z).deriveLight h)
    (fun _ h => doorsOk_lighting.lightingTurn h) (fun _ h => doorsOk_budget.profileChanged h)
    (fun v _ h => doorsOk_budget.clockSetEvent v h)).commands

theorem doorsOk_budgetCommands : BudgetCommands State.DoorsOk :=
  BudgetCommands.of_outside fun _ _ e h => h.of_outside e

/-- The doors stay sound at every step. -/
theorem step_doorsOk (h : s.DoorsOk) (e : step s = .next t) : t.DoorsOk := by
  have closed : CommandClosed State.DoorsOk :=
    { line := .of_setLine fun _ _ h => h
      budget := doorsOk_budgetCommands
      dock := doorsOk_dockCommands
      climate := doorsOk_climate.commands
      lighting := doorsOk_lighting.commands fun _ _ _ _ _ _ h => h
      plan := doorsOk_planCommands
      system := doorsOk_systemCommands }
  have fetched : ∀ u : State, u.DoorsOk → (fetchNotices u).DoorsOk := by
    intro u hu
    obtain ⟨l, hl⟩ := fetchNotices_setLine u
    rw [hl]
    exact hu
  exact closed.step ⟨fetched, fun _ _ => afresh_doorsOk _ _ _ _, fun _ _ => afresh_doorsOk _ _ _ _⟩ (fun _ _ h => h) h e

/-- Settles O38: a session opens and closes with the docked states, and every record of a session keeps its bounds. -/
theorem doorsAndSessionsStaySound : Obligations.DoorsAndSessionsStaySound :=
  ⟨fun _ _ h e => step_doorsOk h e, fun _ _ h e => step_sessionsSound h e⟩

end Sys2Proof.Machine
end

section
/-! The receiver of the host line: what the collecting of a frame depends on, a frame read back, the grouping of the bytes, and the failures
(R162, R163). -/

namespace Sys2Proof.Machine

/-! ### Bytes of a longer string -/

theorem u8_append {a : Bytes} {i : Nat} (h : i < a.length) (b : Bytes) : u8 (a ++ b) i = u8 a i := by
  unfold u8
  rw [List.getD_append _ _ _ _ h]

theorem u16_append {a : Bytes} {i : Nat} (h : i + 1 < a.length) (b : Bytes) : u16 (a ++ b) i = u16 a i := by
  unfold u16
  rw [u8_append (by omega), u8_append h]

/-- Two bytes carry a number below 65 536 (R164). -/
theorem u16_append_le16 (a : Bytes) {n : Nat} (h : n < 65536) : u16 (a ++ le16 n) a.length = n := by
  have low : (a ++ le16 n).getD a.length 0 = BitVec.ofNat 8 n := by
    rw [List.getD_append_right _ _ _ _ le_rfl, Nat.sub_self]
    rfl
  have high : (a ++ le16 n).getD (a.length + 1) 0 = BitVec.ofNat 8 (n / 256) := by
    rw [List.getD_append_right _ _ _ _ (Nat.le_add_right _ 1), Nat.add_sub_cancel_left]
    rfl
  unfold u16 u8
  rw [low, high, BitVec.toNat_ofNat, BitVec.toNat_ofNat]
  omega

/-! ### The collecting of a frame -/

theorem collect_of_badLength {len : Byte} (h : len.toNat < 2 ∨ 242 < len.toNat) (rest : Bytes) : collect (len :: rest) = .failed :=
  if_pos h

theorem collect_of_short {len : Byte} {rest : Bytes} (h : ¬(len.toNat < 2 ∨ 242 < len.toNat)) (hs : rest.length < len.toNat + 2) :
    collect (len :: rest) = .incomplete := (if_neg h).trans (if_pos hs)

/-- A frame with all its bytes is judged by its CRC (R162). -/
theorem collect_of_full {len : Byte} {rest : Bytes} (h : ¬(len.toNat < 2 ∨ 242 < len.toNat)) (hs : ¬rest.length < len.toNat + 2) :
    collect (len :: rest)
      = if (crc16 (len :: rest.take len.toNat)).toNat ≠ u16 rest len.toNat then .failed
        else (frame? (rest.take len.toNat)).elim .failed fun f => .good f (len.toNat + 3) := by
  refine (if_neg h).trans ((if_neg hs).trans ?_)
  cases frame? (rest.take len.toNat) <;> rfl

/-- The bytes that follow change nothing of a frame already good or failed. -/
theorem collect_append {a : Bytes} (h : collect a ≠ .incomplete) (b : Bytes) : collect (a ++ b) = collect a := by
  cases a with
  | nil => exact absurd rfl h
  | cons len rest =>
    rw [List.cons_append]
    by_cases hlen : len.toNat < 2 ∨ 242 < len.toNat
    · rw [collect_of_badLength hlen, collect_of_badLength hlen]
    · by_cases hshort : rest.length < len.toNat + 2
      · exact absurd (collect_of_short hlen hshort) h
      · have hlong : ¬(rest ++ b).length < len.toNat + 2 := by rw [List.length_append]; omega
        rw [collect_of_full hlen hshort, collect_of_full hlen hlong, List.take_append_of_le_length (by omega), u16_append (by omega)]

/-- A good frame lies within the bytes collected. -/
theorem length_of_collect_good {a : Bytes} {f : Frame} {n : Nat} (h : collect a = .good f n) : n ≤ a.length := by
  cases a with
  | nil => cases h
  | cons len rest =>
    by_cases hlen : len.toNat < 2 ∨ 242 < len.toNat
    · rw [collect_of_badLength hlen] at h
      cases h
    · by_cases hshort : rest.length < len.toNat + 2
      · rw [collect_of_short hlen hshort] at h
        cases h
      · rw [collect_of_full hlen hshort] at h
        split at h
        · cases h
        · cases hf : frame? (rest.take len.toNat) with
          | none => rw [hf] at h; cases h
          | some g =>
            rw [hf] at h
            cases h
            rw [List.length_cons]
            omega

/-- The frame that carries a TAG, KIND and BODY is read back (R162). -/
theorem collect_frame {tag kind : Byte} {body : Bytes} (h : body.length ≤ 240) :
    ∃ after, frameBytes tag kind body = 0xC3#8 :: after ∧ collect after = .good ⟨tag, kind, body⟩ after.length := by
  have hlen : (BitVec.ofNat 8 (2 + body.length)).toNat = 2 + body.length := by
    rw [BitVec.toNat_ofNat]
    omega
  have counted : (tag :: kind :: body).length = 2 + body.length := by
    rw [List.length_cons, List.length_cons]
    omega
  refine ⟨_, rfl, ?_⟩
  generalize hc : crc16 (BitVec.ofNat 8 (2 + body.length) :: tag :: kind :: body) = crc
  change collect (BitVec.ofNat 8 (2 + body.length) :: ((tag :: kind :: body) ++ le16 crc.toNat)) = _
  have stored := u16_append_le16 (tag :: kind :: body) crc.isLt
  have carried : ((tag :: kind :: body) ++ le16 crc.toNat).take (tag :: kind :: body).length = tag :: kind :: body := List.take_left
  have total : ((tag :: kind :: body) ++ le16 crc.toNat).length = 2 + body.length + 2 := by rw [List.length_append, counted]; rfl
  rw [counted] at stored carried
  rw [collect_of_full (by rw [hlen]; omega) (by rw [hlen, total]; omega), hlen, carried, hc, stored, if_neg (not_not.mpr rfl)]
  have length : (BitVec.ofNat 8 (2 + body.length) :: ((tag :: kind :: body) ++ le16 crc.toNat)).length = 2 + body.length + 3 := by
    rw [List.length_cons, total]
  exact congrArg (Collected.good ⟨tag, kind, body⟩) length.symm

/-! ### The scanning -/

variable {timeUp : Bool} {rest : Bytes} {l : Line}

/-- A hunting receiver discards a byte other than SYNC. -/
theorem scan_of_ne {b : Byte} (h : b ≠ 0xC3#8) : scan timeUp 0 (b :: rest) l = scan timeUp 0 rest l := by
  rw [scan, if_pos h]

theorem scan_of_incomplete (h : collect rest = .incomplete) :
    scan timeUp 0 (0xC3#8 :: rest) l = if timeUp then scan timeUp 0 rest l.countBad else { l with rx := 0xC3#8 :: rest } := by
  rw [scan, if_neg (not_not.mpr rfl), h]

theorem scan_of_failed (h : collect rest = .failed) : scan timeUp 0 (0xC3#8 :: rest) l = scan timeUp 0 rest l.countBad := by
  rw [scan, if_neg (not_not.mpr rfl), h]

theorem scan_of_good {f : Frame} {n : Nat} (h : collect rest = .good f n) :
    scan timeUp 0 (0xC3#8 :: rest) l = scan timeUp n rest (l.offer f) := by
  rw [scan, if_neg (not_not.mpr rfl), h]

/-- A byte string without a SYNC leaves a hunting receiver hunting. -/
theorem scan_of_not_mem (h : 0xC3#8 ∉ rest) : scan timeUp 0 rest l = { l with rx := [] } := by
  induction rest with
  | nil => rfl
  | cons b rest ih =>
    rw [scan_of_ne (fun hb => h (hb ▸ List.mem_cons_self)), ih fun hr => h (List.mem_cons_of_mem b hr)]

/-- The bytes of a good frame are passed over. -/
theorem scan_length (bytes : Bytes) (l : Line) : scan timeUp bytes.length bytes l = { l with rx := [] } := by
  induction bytes with
  | nil => rfl
  | cons _ _ ih => exact ih

theorem offer_rx (l : Line) (f : Frame) (r : Bytes) : Line.offer { l with rx := r } f = { l.offer f with rx := r } := by
  unfold Line.offer
  split <;> rfl

/-- What the receiver does depends on no byte collected before. -/
theorem scan_rx (timeUp : Bool) (skip : Nat) (bytes : Bytes) (l : Line) (r : Bytes) :
    scan timeUp skip bytes { l with rx := r } = scan timeUp skip bytes l := by
  induction bytes generalizing skip l with
  | nil => cases skip <;> rfl
  | cons b rest ih =>
    cases skip with
    | succ skip => exact ih skip l
    | zero =>
      by_cases hb : b = 0xC3#8
      · subst hb
        cases hc : collect rest with
        | incomplete =>
          rw [scan_of_incomplete hc, scan_of_incomplete hc]
          split
          · exact ih 0 l.countBad
          · rfl
        | failed =>
          rw [scan_of_failed hc, scan_of_failed hc]
          exact ih 0 l.countBad
        | good f n =>
          rw [scan_of_good hc, scan_of_good hc, offer_rx]
          exact ih n _
      · rw [scan_of_ne hb, scan_of_ne hb]
        exact ih 0 l

/-- The bytes kept at the end of a scan stand for all that the scan has yet to settle. -/
theorem scan_append (a b : Bytes) (skip : Nat) (l : Line) (h : skip ≤ a.length) :
    scan false skip (a ++ b) l = scan false 0 ((scan false skip a l).rx ++ b) (scan false skip a l) := by
  induction a generalizing skip l with
  | nil =>
    obtain rfl : skip = 0 := Nat.le_zero.mp h
    exact (scan_rx false 0 b l []).symm
  | cons x rest ih =>
    cases skip with
    | succ skip => exact ih skip l (Nat.le_of_succ_le_succ h)
    | zero =>
      rw [List.cons_append]
      by_cases hx : x = 0xC3#8
      · subst hx
        cases hc : collect rest with
        | incomplete =>
          rw [scan_of_incomplete hc, if_neg Bool.false_ne_true]
          exact (scan_rx false 0 (0xC3#8 :: rest ++ b) l _).symm
        | failed =>
          have hc' : collect (rest ++ b) = .failed := (collect_append (by rw [hc]; simp) b).trans hc
          rw [scan_of_failed hc, scan_of_failed hc', ih 0 _ (Nat.zero_le _)]
        | good f n =>
          have hc' : collect (rest ++ b) = .good f n := (collect_append (by rw [hc]; simp) b).trans hc
          rw [scan_of_good hc, scan_of_good hc', ih n _ (length_of_collect_good hc)]
      · rw [scan_of_ne hx, scan_of_ne hx, ih 0 l (Nat.zero_le _)]

/-- Settles O5: a receiver that has bytes kept scans them again in front of the bytes that follow. -/
theorem receptionIgnoresGrouping : Obligations.ReceptionIgnoresGrouping := by
  intro l a b
  unfold Line.receive
  rw [← List.append_assoc]
  exact (scan_append (l.rx ++ a) b 0 l (Nat.zero_le _)).symm

/-! ### The commands of the receiver -/

theorem receiveBytes_hunting {s : State} (hs : s.stage ≠ .inReset) (hr : s.line.rx = []) (bytes : Bytes) :
    receiveBytes bytes s = s.setLine (scan false 0 bytes s.line) := by
  unfold receiveBytes Line.receive
  rw [if_neg hs, hr]
  rfl

theorem line_hunting {l : Line} (h : l.rx = []) : { l with rx := [] } = l := by
  rw [← h]

/-- Settles O4: the frame is read back whole, and its bytes are passed over. -/
theorem goodFrameIsReceived : Obligations.GoodFrameIsReceived := by
  intro s tag kind body hs hr hlen
  obtain ⟨after, hframe, hgood⟩ := collect_frame (tag := tag) (kind := kind) hlen
  change Host.Outcome.next (receiveBytes (frameBytes tag kind body) s) = _
  have offered : (s.line.offer ⟨tag, kind, body⟩).rx = [] := by
    unfold Line.offer
    split <;> exact hr
  rw [receiveBytes_hunting hs hr, hframe, scan_of_good hgood, scan_length, line_hunting offered]
  rfl

/-- Settles O6: a failed frame is counted, and the bytes after its SYNC are hunted, here without another SYNC. -/
theorem receiverHuntsAndFails : Obligations.ReceiverHuntsAndFails := by
  refine ⟨fun s b hs hr => ?_, fun s len hs hr hlen => ?_, fun s rest hs hr hc hn => ?_, fun s rest hr hc hn => ?_⟩
  · change Host.Outcome.next (receiveBytes [b] s) = _
    rw [receiveBytes_hunting hs hr]
    by_cases hb : b = 0xC3#8
    · subst hb
      rw [scan_of_incomplete rfl]
      rfl
    · rw [scan_of_ne hb, if_neg (c := b = 0xC3) hb]
      exact congrArg (fun x => Host.Outcome.next (s.setLine x)) (line_hunting hr)
  · change Host.Outcome.next (receiveBytes [len] s) = _
    have other : 0xC3#8 ∉ [len] := by
      intro hm
      rw [← List.mem_singleton.mp hm] at hlen
      revert hlen
      decide
    unfold receiveBytes Line.receive
    rw [if_neg hs, hr]
    change Host.Outcome.next (s.setLine (scan false 0 (0xC3#8 :: [len]) s.line)) = _
    rw [scan_of_failed (collect_of_badLength hlen []), scan_of_not_mem other]
    rfl
  · change Host.Outcome.next (receiveBytes (0xC3#8 :: rest) s) = _
    have hunting : s.line.countBad.rx = [] := hr
    rw [receiveBytes_hunting hs hr, scan_of_failed hc, scan_of_not_mem hn, line_hunting hunting]
    rfl
  · change Host.Outcome.next (s.setLine (scan true 0 s.line.rx s.line)) = _
    rw [hr]
    change Host.Outcome.next (s.setLine (scan true 0 (0xC3#8 :: rest) s.line)) = _
    rw [scan_of_incomplete hc, if_pos rfl, scan_of_not_mem hn]
    rfl

end Sys2Proof.Machine
end

section
/-! Requests and the Line Interface's own commands: which wait, which are refused before they are carried out, and the one reply of each
(R158, R163 to R169). -/

namespace Sys2Proof.Machine

variable {s t : State} {kind tag : Byte} {body : Bytes} {rest : List Frame}

/-! ### A request that waits, and one that is refused at the table (R164) -/

/-- A request is not carried out before the running state, nor before its frame is the oldest. -/
theorem request_waits (service : Service) (h : s.stage ≠ .running ∨ ∃ f rest, s.line.buffer = f :: rest ∧ f ≠ ⟨tag, kind, body⟩) :
    request kind tag body service s = .next s := by
  unfold request
  by_cases hs : s.stage ≠ .running
  · rw [if_pos hs]
  · obtain hn | ⟨f, rest, hb, hf⟩ := h
    · exact absurd hn hs
    · rw [if_neg hs, show takeFrame ⟨tag, kind, body⟩ s = none by unfold takeFrame; rw [hb]; exact if_neg hf]

theorem request_of_unknownKind (service : Service) (h : s.takes ⟨tag, kind, body⟩ rest) (hk : bodyRule? kind = none) :
    request kind tag body service s = .next (s.answered rest tag kind [0x10]) := by
  simp only [request, h.1, takeFrame_of_takes h, hk]
  rfl

theorem request_of_badLength {rule : BodyRule} (service : Service) (h : s.takes ⟨tag, kind, body⟩ rest) (hk : bodyRule? kind = some rule)
    (hl : rule.admits body.length = false) : request kind tag body service s = .next (s.answered rest tag kind [0x11]) := by
  simp only [request, h.1, takeFrame_of_takes h, hk, hl]
  rfl

/-- Every request but UNKNOWN_KIND is the request of its kind. -/
theorem exec_eq_request {c : Instr} (hr : c.request? = some (tag, kind, body)) (hn : c ≠ .unknownKindRequest tag kind body) :
    ∃ service, ∀ s, exec c s = request kind tag body service s := by
  have services := (pending_commands []).services
  obtain ⟨service, he, -⟩ := services.serves (fun _ u h => (fetchNotices_pending u).trans h) (fun _ _ h => h) hr hn
  exact ⟨service, he⟩

theorem exec_unknownKind_of_none (hk : bodyRule? kind = none) (tag : Byte) (body : Bytes) (s : State) :
    exec (.unknownKindRequest tag kind body) s = request kind tag body (fun t => (t, stUnknownKind)) s := by
  change execUnknownKindRequest tag kind body s = _
  unfold execUnknownKindRequest
  rw [hk]

theorem exec_unknownKind_of_some {rule : BodyRule} (hk : bodyRule? kind = some rule) (tag : Byte) (body : Bytes) (s : State) :
    exec (.unknownKindRequest tag kind body) s = .next s := by
  change execUnknownKindRequest tag kind body s = _
  unfold execUnknownKindRequest
  rw [hk]

/-- Settles O8: every request passes the same three checks, in their order, before its service. -/
theorem requestsWaitAndAreChecked : Obligations.RequestsWaitAndAreChecked := by
  refine ⟨fun c s tag kind body hr hw => ?_, fun s tag kind body rest hk h => ?_, fun c s tag kind body rest rule hr hn hk hl h => ?_⟩
  · by_cases hn : c = .unknownKindRequest tag kind body
    · subst hn
      cases hk : bodyRule? kind with
      | none => rw [exec_unknownKind_of_none hk]; exact request_waits _ hw
      | some rule => exact exec_unknownKind_of_some hk tag body s
    · obtain ⟨service, he⟩ := exec_eq_request hr hn
      rw [he]
      exact request_waits service hw
  · rw [exec_unknownKind_of_none hk]
    exact request_of_unknownKind _ h hk
  · obtain ⟨service, he⟩ := exec_eq_request hr hn
    rw [he]
    exact request_of_badLength service h hk hl

/-! ### One reply for each request (R163, R164) -/

/-- The request buffer and the frames sent, which no service writes. -/
def State.trafficIs (buffer : List Frame) (sent : List Bytes) (s : State) : Prop := s.line.buffer = buffer ∧ s.line.sent = sent

theorem trafficIs_services (buffer : List Frame) (sent : List Bytes) : ServiceClosed (State.trafficIs buffer sent) := by
  have join : ∀ (l : Line) n, l.buffer = buffer ∧ l.sent = sent → (l.join n).buffer = buffer ∧ (l.join n).sent = sent := by
    intro l n h
    unfold Line.join
    split <;> exact h
  have units : OutsideClosed (State.trafficIs buffer sent) := .of_line join fun _ _ h => h
  exact ⟨fun _ h => h, fun _ _ h => h, units.budgetCommands, units.dockCommands, units.climateCommands, units.lightingCommands,
    units.planCommands, units.systemCommands⟩

theorem fetchNotices_trafficIs {buffer : List Frame} {sent : List Bytes} (h : s.trafficIs buffer sent) :
    (fetchNotices s).trafficIs buffer sent := by
  unfold fetchNotices Line.join
  dsimp only
  split
  · split <;> exact h
  · exact h

/-- Settles O9: the service writes neither the buffer nor the frames sent, and the reply is handed over behind it. -/
theorem oneReplyForEachRequest : Obligations.OneReplyForEachRequest := by
  intro c s tag kind body rest hw hr hk h
  by_cases hn : c = .unknownKindRequest tag kind body
  · subst hn
    have unknown : bodyRule? kind = none := by
      simpa using (Bool.and_eq_true _ _ ▸ hw : _ ∧ (bodyRule? kind).isNone = true).2
    refine ⟨s.answered rest tag kind [0x10], [0x10], ?_, rfl, rfl⟩
    rw [exec_unknownKind_of_none unknown]
    exact request_of_unknownKind _ h unknown
  · have notRestart : ∀ {p : Prop}, (∃ tag, c = .restartPlant tag [1] ∨ c = .restartFull tag [1]) → p := by
      rintro p ⟨_, rfl | rfl⟩ <;> exact absurd (by cases hr; rfl) hk
    obtain ⟨service, he, keeps⟩ := (trafficIs_services rest s.line.sent).serves (fun _ _ => fetchNotices_trafficIs) notRestart hr hn
    cases hrule : bodyRule? kind with
    | none =>
      refine ⟨s.answered rest tag kind [0x10], [0x10], ?_, rfl, rfl⟩
      rw [he]
      exact request_of_unknownKind service h hrule
    | some rule =>
      cases hlen : rule.admits body.length with
      | false =>
        refine ⟨s.answered rest tag kind [0x11], [0x11], ?_, rfl, rfl⟩
        rw [he]
        exact request_of_badLength service h hrule hlen
      | true =>
        obtain ⟨hbuffer, hsent⟩ := keeps rule hrule hlen (s.taken rest) ⟨rfl, rfl⟩
        refine ⟨_, (service (s.taken rest)).2, (he s).trans (request_of_takes service h hrule hlen), ?_, hbuffer⟩
        unfold State.replied
        rw [← hsent]
        rfl

/-! ### PING, STATUS and SET NOTICE LEVEL (R166) -/

theorem exec_ping_of_takes (hlen : body.length ≤ 239) (h : s.takes ⟨tag, 0x01, body⟩ rest) :
    exec (.ping tag body) s = .next (s.answered rest tag 0x01 (0x00 :: body)) := by
  have hrule : bodyRule? 0x01 = some (.upTo 239) := by decide
  exact request_read_of_takes (fun _ => stOk ++ body) h hrule (by simpa [BodyRule.admits] using hlen)

theorem leStart_eq (m : Option Nat) : leStart m = match m with
    | some m => le16 m
    | none => [0xFF, 0xFF] := by
  cases m <;> rfl

/-- The fields of STATUS, spelled out. -/
theorem statusFields_eq (s : State) :
    s.statusFields = (match s.plan.clock with
        | some v => 0x01 :: le32 v
        | none => [0x00, 0xFF, 0xFF, 0xFF, 0xFF])
      ++ le8 s.plan.current.fields.label ++ leStart s.plan.next
      ++ le16 s.plan.digest.toNat ++ le8 s.stop.state.code
      ++ [if s.store.source = .store then 0x00 else 0x01, if s.store.saving.isSome then 0x01 else 0x00]
      ++ le8 s.store.lastSave.code ++ [if s.budget.tight then 0x01 else 0x00, if s.budget.shed then 0x01 else 0x00]
      ++ le8 s.line.level.code ++ le8 s.line.notices.length ++ le16 s.line.lost ++ le8 s.line.badFrames
      ++ le8 s.line.overruns ++ le8 s.line.buffer.length := by
  have source : le8 s.store.source.code = [if s.store.source = .store then 0x00 else 0x01] := by
    cases s.store.source <;> rfl
  have clock : leFlag s.plan.clock.isSome ++ leTime s.plan.clock = (match s.plan.clock with
      | some v => 0x01 :: le32 v
      | none => [0x00, 0xFF, 0xFF, 0xFF, 0xFF]) := by
    cases s.plan.clock with
    | some v => rfl
    | none => exact congrArg (0x00#8 :: ·) leTime_none
  unfold State.statusFields
  rw [source, clock]
  simp only [leFlag, List.append_assoc, List.cons_append, List.nil_append]

theorem exec_status_of_takes {flag : Byte} (h : s.takes ⟨tag, 0x02, [flag]⟩ rest) :
    exec (.status tag [flag]) s
      = .next (sendReply tag 0x02 (0x00 :: (s.taken rest).statusFields)
          (if flag = 0 then s.taken rest else (s.taken rest).setLine { (s.taken rest).line with badFrames := 0, overruns := 0 })) := by
  have hrule : bodyRule? 0x02 = some (.exactly 1) := by decide
  have asked : (uFlag [flag] 0 = true) = ¬flag = 0 := by
    simp [uFlag, u8, ← BitVec.toNat_inj]
  change request 0x02 tag [flag] _ s = _
  rw [request_of_takes _ h hrule rfl]
  dsimp only
  by_cases hf : flag = 0
  · rw [if_neg (by rw [asked]; exact not_not.mpr hf), if_pos hf]
    rfl
  · rw [if_pos (by rw [asked]; exact hf), if_neg hf]
    rfl

theorem le8_code_of_noticeLevel {code : Byte} {l : NoticeLevel} (h : noticeLevel? code.toNat = some l) : le8 l.code = [code] := by
  have coded : l.code = code.toNat := by
    unfold noticeLevel? at h
    split at h
    · next hc => cases h; exact hc.symm
    · next hc => cases h; exact hc.symm
    · next hc => cases h; exact hc.symm
    · cases h
  rw [coded]
  exact congrArg (fun x => [x]) (by simp : BitVec.ofNat 8 code.toNat = code)

/-- Settles O10: PING and STATUS answer from the state as it stands, and the code of a level is read back. -/
theorem lineInterfaceAnswers : Obligations.LineInterfaceAnswers := by
  refine ⟨fun s tag body rest hlen h => exec_ping_of_takes hlen h, fun s tag flag rest h => ?_, fun s tag code rest h => ?_⟩
  · rw [exec_status_of_takes h, statusFields_eq]
    simp only [leStart_eq]
    rfl
  · have hrule : bodyRule? 0x59 = some (.exactly 1) := by decide
    change request 0x59 tag [code] _ s = _
    rw [request_of_takes _ h hrule rfl]
    dsimp only
    rw [show u8 [code] 0 = code.toNat from rfl]
    cases hl : noticeLevel? code.toNat with
    | none => rfl
    | some l =>
      dsimp only
      rw [le8_code_of_noticeLevel hl]
      rfl

/-! ### FETCH NOTICES (R169) -/

theorem join_of_room {l : Line} (h : l.notices.length < Config.maxNotices) (n : Notice) :
    l.join n = { l with notices := l.notices ++ [n], attention := true } := if_pos h

/-- The report of the lost notices that a removal appends (R169). -/
def State.lostReport (s : State) : List Notice :=
  if s.line.notices ≠ [] ∧ 0 < s.line.lost then [⟨.noticesLost, s.plan.clock, 0, le16 s.line.lost⟩] else []

/-- What the queue keeps once its 8 oldest notices are gone, and the report of the lost ones behind it. -/
theorem fetchNotices_eq (h : s.line.Sound) :
    fetchNotices s
      = s.setLine
          { s.line with
            notices := s.line.notices.drop 8 ++ s.lostReport
            attention := !(s.line.notices.drop 8 ++ s.lostReport).isEmpty
            lost := if s.line.notices ≠ [] then 0 else s.line.lost } := by
  have room : s.line.notices ≠ [] → (s.line.notices.drop 8).length < Config.maxNotices := by
    intro hn
    have := h.1
    have := List.length_pos_iff.mpr hn
    rw [List.length_drop]
    omega
  have dropped : s.line.notices.drop (min s.line.notices.length 8) = s.line.notices.drop 8 := by
    obtain hle | hle := Nat.le_total s.line.notices.length 8
    · rw [Nat.min_eq_left hle, List.drop_length, List.drop_of_length_le hle]
    · rw [Nat.min_eq_right hle]
  have removed : 0 < min s.line.notices.length 8 ↔ s.line.notices ≠ [] := by
    rw [← List.length_pos_iff]
    simp
  have busy : ∀ (l : List Notice) n, (l ++ [n]).isEmpty = false := fun l n => by cases l <;> rfl
  unfold fetchNotices Line.dropNotices State.lostReport
  dsimp only
  rw [dropped]
  by_cases hn : s.line.notices ≠ []
  · by_cases hl : 0 < s.line.lost
    · rw [if_pos ⟨removed.mpr hn, hl⟩, if_pos ⟨hn, hl⟩, if_pos hn]
      rw [State.setLine_line, join_of_room (l := { s.line with notices := _, attention := _ }) (room hn), busy]
      rfl
    · have none_lost : s.line.lost = 0 := Nat.eq_zero_of_not_pos hl
      rw [if_neg (fun hc => hl hc.2), if_neg (fun hc => hl hc.2), if_pos hn, List.append_nil, ← none_lost]
  · rw [if_neg (fun hc => hn (removed.mp hc.1)), if_neg (fun hc => hn hc.1), if_neg hn, List.append_nil]

/-- Settles O11: the removal leaves room for the report of the lost notices. -/
theorem fetchNoticesReturnsTheOldest : Obligations.FetchNoticesReturnsTheOldest := by
  intro s tag rest sound h
  have hrule : bodyRule? 0x58 = some (.exactly 0) := by decide
  have taken : (s.taken rest).line.Sound := by
    obtain ⟨hn, hb, hl⟩ := sound
    refine ⟨hn, ?_, hl⟩
    obtain hq | ⟨-, rfl⟩ := h.2
    · rw [hq] at hb
      exact (Nat.le_succ _).trans hb
    · exact Nat.zero_le _
  change request 0x58 tag [] _ s = _
  rw [request_of_takes _ h hrule rfl]
  dsimp only
  rw [fetchNotices_eq taken, List.length_take, Nat.min_comm]
  rfl

end Sys2Proof.Machine
end

section
/-! The reads and refusals of the Shift Plan Unit, and its edits that wait for the turn (R4 to R8, R13, R25 to R37). -/

namespace Sys2Proof.Machine

variable {s t : State} {kind tag : Byte} {body reply : Bytes} {rest : List Frame}

/-! ### A request that is carried out (R164) -/

/-- A request whose body has the length of the table, and what its service answers. -/
theorem request_runs {service : Service} {n : Nat} (hrule : bodyRule? kind = some (.exactly n)) (hlen : body.length = n)
    (h : s.takes ⟨tag, kind, body⟩ rest) (hs : service (s.taken rest) = (t, reply)) :
    request kind tag body service s = .next (sendReply tag kind reply t) := by
  rw [request_of_takes service h hrule (by simp [BodyRule.admits, hlen]), hs]

/-- The same where the service answers and does nothing else. -/
theorem request_answers {service : Service} {n : Nat} (hrule : bodyRule? kind = some (.exactly n)) (hlen : body.length = n)
    (h : s.takes ⟨tag, kind, body⟩ rest) (hs : service (s.taken rest) = (s.taken rest, reply)) :
    request kind tag body service s = .next (s.answered rest tag kind reply) := request_runs hrule hlen h hs

/-! ### READ PHASES, READ CONTEXT (R8, R13) -/

theorem exec_readPhases_of_takes {pos : Byte} (h : s.takes ⟨tag, 0x13, [pos]⟩ rest) :
    exec (.readPhases tag [pos]) s
      = .next (s.answered rest tag 0x13
          (if pos.toNat ≤ 47 then
            let out := (s.plan.phases.drop pos.toNat).take 27
            [0x00] ++ le8 s.plan.phases.length ++ phaseBytes none s.plan.fallback ++ le8 out.length
              ++ out.flatMap fun r => phaseBytes (some r.start) r.fields
           else [0x12])) := by
  change request 0x13 tag [pos] _ s = _
  refine request_answers (n := 1) (by decide) rfl h ?_
  by_cases hpos : pos.toNat ≤ 47
  · rw [if_pos hpos]
    exact if_neg (Nat.not_lt.mpr hpos)
  · rw [if_neg hpos]
    exact if_pos (Nat.lt_of_not_le hpos)

/-- The reply to READ CONTEXT, spelled out. -/
theorem contextFields_eq (s : State) :
    (if s.plan.clock.isSome then stOk else stNoClock) ++ s.contextFields
      = (match s.plan.clock with
          | some v => [0x00, 0x01] ++ le32 v
          | none => [0x1A, 0x00, 0xFF, 0xFF, 0xFF, 0xFF])
        ++ (match s.plan.previous with
          | some p => 0x01 :: phaseBytes p.source p.fields
          | none => 0x00 :: List.replicate 8 0xFF)
        ++ phaseBytes s.plan.current.source s.plan.current.fields ++ leStart s.plan.next
        ++ le32 s.plan.totals.docked ++ le32 s.plan.totals.bare ++ le16 s.plan.totals.cycles ++ le16 s.plan.totals.held
        ++ le16 s.plan.totals.shed ++ le16 s.plan.digest.toNat := by
  have clock : (if s.plan.clock.isSome then stOk else stNoClock) ++ leFlag s.plan.clock.isSome ++ leTime s.plan.clock
      = (match s.plan.clock with
          | some v => [0x00, 0x01] ++ le32 v
          | none => [0x1A, 0x00, 0xFF, 0xFF, 0xFF, 0xFF]) := by
    cases s.plan.clock with
    | some v => rfl
    | none => decide
  rw [← clock]
  unfold State.contextFields
  simp only [List.append_assoc]
  cases s.plan.previous <;> rfl

/-- Settles O14: both requests only read, and their replies follow the plan as it stands. -/
theorem planReadsAnswerInFull : Obligations.PlanReadsAnswerInFull := by
  refine ⟨fun s tag pos rest h => exec_readPhases_of_takes h, fun s tag rest h => ?_⟩
  change request 0x14 tag [] _ s = _
  rw [request_answers (n := 0) (by decide) rfl h rfl, contextFields_eq]
  simp only [leStart_eq]
  rfl

/-! ### CANCEL PENDING, READ PENDING and READ OVERRIDES (R30, R37) -/

/-- An override record on the line, spelled out. -/
theorem overrideBytes_eq (o : Override) :
    overrideBytes o = (match o.target with
        | .climate z => le8 0 ++ le8 z
        | .light z => le8 1 ++ le8 z)
      ++ leInt16 o.value
      ++ (match o.remaining with
        | some n => le8 0 ++ le32 n
        | none => le8 1 ++ le32 0xFFFFFFFF)
      ++ leTime o.setAt := by
  unfold overrideBytes
  cases o.target <;> cases o.remaining <;> simp [targetKindCode, targetZone, leTime]

/-- Settles O24: the lists are reported as they stand, and CANCEL PENDING empties the pending-edit list alone. -/
theorem editsAndOverridesAreReported : Obligations.EditsAndOverridesAreReported := by
  refine ⟨⟨fun s tag rest h => ?_, fun s tag rest h => ?_⟩, fun s tag rest h => ?_⟩
  · change request 0x1D tag [] _ s = _
    exact request_runs (n := 0) (by decide) rfl h rfl
  · change request 0x1C tag [] _ s = _
    exact request_answers (n := 0) (by decide) rfl h rfl
  · change request 0x22 tag [] _ s = _
    rw [request_answers (n := 0) (by decide) rfl h rfl]
    rw [show overrideBytes = _ from funext overrideBytes_eq]
    rfl

/-! ### Table edits that wait for the turn (R26, R28) -/

/-- CLAMPED says that the treated value differs from the value as sent, however the two are compared (R165). -/
theorem stTreated_ne {α : Type} [BEq α] [LawfulBEq α] [DecidableEq α] (a b : α) : stTreated (a != b) = [if a = b then 0x00 else 0x01] := by
  by_cases h : a = b <;> simp [stTreated, h]

/-- An edit with AT_TURN goes into the pending-edit list. -/
theorem takeEdit_atTurn {α : Type} [BEq α] [LawfulBEq α] [DecidableEq α] (treated sent : α) (e : PendingEdit) (s : State) :
    takeEdit true (treated != sent) e s
      = (s.setPlan { s.plan with edits := placeEdit e s.plan.edits },
          [if treated = sent then 0x00 else 0x01, 0x01]
            ++ le8 (editPosition e.key (placeEdit e s.plan.edits)) ++ le8 (placeEdit e s.plan.edits).length
            ++ le16 s.plan.digest.toNat) := by
  unfold takeEdit
  rw [stTreated_ne]
  rfl

theorem index?_of_eq {n k : Nat} {i : Fin n} (h : k = i) : index? n k = some i := h ▸ index?_val i

/-- Settles O20: with AT_TURN the service only places the treated edit. -/
theorem tableEditAtTurnWaits : Obligations.TableEditAtTurnWaits := by
  refine ⟨fun s tag body rest i hlen hi ht h => ?_, fun s tag body rest i hlen hi ht h => ?_, fun s tag body rest i hlen hi ht h => ?_⟩
  · change request 0x18 tag body _ s = _
    refine request_runs (n := 50) (by decide) hlen h ?_
    dsimp only
    rw [index?_of_eq hi, ht]
    change takeEdit true (treatScene (sceneSent body) != sceneSent body) (.scene i (treatScene (sceneSent body))) (s.taken rest) = _
    rw [takeEdit_atTurn]
    rfl
  · change request 0x19 tag body _ s = _
    refine request_runs (n := 50) (by decide) hlen h ?_
    dsimp only
    rw [index?_of_eq hi, ht]
    change takeEdit true (treatClimateSet (climateSetSent body) != climateSetSent body) (.climateSet i (treatClimateSet (climateSetSent body))) (s.taken rest) = _
    rw [takeEdit_atTurn]
    rfl
  · change request 0x1A tag body _ s = _
    refine request_runs (n := 24) (by decide) hlen h ?_
    dsimp only
    rw [index?_of_eq hi, ht]
    change takeEdit true (treatProfile (profileSent body) != profileSent body) (.profile i (treatProfile (profileSent body))) (s.taken rest) = _
    rw [takeEdit_atTurn]
    rfl

/-! ### Refusals (R5 to R7, R25, R33, R35) -/

theorem timing?_eq_none {k : Nat} (h : 2 ≤ k) : timing? k = none := by
  match k with
  | k + 2 => rfl

theorem timed?_eq_none {k : Nat} (h : 2 ≤ k) : timed? k = none := by
  match k with
  | k + 2 => rfl

theorem index?_none {n k : Nat} (h : n ≤ k) : index? n k = none := index?_eq_none_iff.mpr h

section AddPhase

variable (hlen : body.length = 8) (h : s.takes ⟨tag, 0x10, body⟩ rest)
include hlen h

theorem addPhase_outOfRange (hf : listFields? body = none ∨ 10080 ≤ u16 body 0) :
    exec (.addPhase tag body) s = .next (s.answered rest tag 0x10 [0x12]) := by
  change request 0x10 tag body _ s = _
  refine request_answers (n := 8) (by decide) hlen h ?_
  dsimp only
  cases hl : listFields? body with
  | none => rfl
  | some f =>
    obtain hf | hf := hf
    · cases hl.symm.trans hf
    · exact if_pos hf

theorem addPhase_duplicate {f : PhaseFields} (hf : listFields? body = some f) (hm : u16 body 0 < 10080)
    (hr : (recordAt s.plan.phases (u16 body 0)).isSome) : exec (.addPhase tag body) s = .next (s.answered rest tag 0x10 [0x14]) := by
  change request 0x10 tag body _ s = _
  refine request_answers (n := 8) (by decide) hlen h ?_
  dsimp only
  rw [hf]
  exact (if_neg (Nat.not_le.mpr hm)).trans (if_pos hr)

theorem addPhase_tableFull {f : PhaseFields} (hf : listFields? body = some f) (hm : u16 body 0 < 10080)
    (hr : recordAt s.plan.phases (u16 body 0) = none) (hl : 48 ≤ s.plan.phases.length) :
    exec (.addPhase tag body) s = .next (s.answered rest tag 0x10 [0x15]) := by
  change request 0x10 tag body _ s = _
  refine request_answers (n := 8) (by decide) hlen h ?_
  dsimp only
  rw [hf, State.taken_plan]
  exact (if_neg (Nat.not_le.mpr hm)).trans ((if_neg (by rw [hr]; simp)).trans (if_pos hl))

end AddPhase

section DropPhase

variable (hlen : body.length = 2) (h : s.takes ⟨tag, 0x11, body⟩ rest)
include hlen h

theorem dropPhase_outOfRange (hm : 10080 ≤ u16 body 0) : exec (.dropPhase tag body) s = .next (s.answered rest tag 0x11 [0x12]) := by
  change request 0x11 tag body _ s = _
  exact request_answers (n := 2) (by decide) hlen h (if_pos hm)

theorem dropPhase_notFound (hm : u16 body 0 < 10080) (hr : recordAt s.plan.phases (u16 body 0) = none) :
    exec (.dropPhase tag body) s = .next (s.answered rest tag 0x11 [0x13]) := by
  change request 0x11 tag body _ s = _
  refine request_answers (n := 2) (by decide) hlen h ?_
  dsimp only
  rw [State.taken_plan, hr]
  exact if_neg (Nat.not_le.mpr hm)

end DropPhase

section EditPhase

variable (hlen : body.length = 8) (h : s.takes ⟨tag, 0x12, body⟩ rest)
include hlen h

theorem editPhase_outOfRange (hm : 10080 ≤ u16 body 0) (hn : u16 body 0 ≠ 65535) :
    exec (.editPhase tag body) s = .next (s.answered rest tag 0x12 [0x12]) := by
  change request 0x12 tag body _ s = _
  refine request_answers (n := 8) (by decide) hlen h ?_
  exact (if_neg hn).trans (if_pos hm)

theorem editPhase_notFound (hm : u16 body 0 < 10080) (hr : recordAt s.plan.phases (u16 body 0) = none) :
    exec (.editPhase tag body) s = .next (s.answered rest tag 0x12 [0x13]) := by
  change request 0x12 tag body _ s = _
  refine request_answers (n := 8) (by decide) hlen h ?_
  dsimp only
  rw [State.taken_plan, hr, if_neg (by omega), if_neg (Nat.not_le.mpr hm)]
  exact if_pos rfl

theorem editPhase_badFields (hr : (recordAt s.plan.phases (u16 body 0)).isSome) (hm : u16 body 0 < 10080)
    (hf : listFields? body = none) : exec (.editPhase tag body) s = .next (s.answered rest tag 0x12 [0x12]) := by
  obtain ⟨r, hr⟩ := Option.isSome_iff_exists.mp hr
  change request 0x12 tag body _ s = _
  refine request_answers (n := 8) (by decide) hlen h ?_
  dsimp only
  rw [State.taken_plan, hr, if_neg (by omega), if_neg (Nat.not_le.mpr hm), hf]
  rfl

theorem editPhase_badFallback (hm : u16 body 0 = 65535) (hf : phaseFields? body = none) :
    exec (.editPhase tag body) s = .next (s.answered rest tag 0x12 [0x12]) := by
  change request 0x12 tag body _ s = _
  refine request_answers (n := 8) (by decide) hlen h ?_
  dsimp only
  rw [if_pos hm, hf]

end EditPhase

theorem setScene_outOfRange (hlen : body.length = 50) (h : s.takes ⟨tag, 0x18, body⟩ rest) (hb : 16 ≤ u8 body 0 ∨ 2 ≤ u8 body 1) :
    exec (.setScene tag body) s = .next (s.answered rest tag 0x18 [0x12]) := by
  change request 0x18 tag body _ s = _
  refine request_answers (n := 50) (by decide) hlen h ?_
  obtain hb | hb := hb
  · rw [index?_none hb]
  · rw [timing?_eq_none hb]
    cases index? 16 (u8 body 0) <;> rfl

theorem setClimateSet_outOfRange (hlen : body.length = 50) (h : s.takes ⟨tag, 0x19, body⟩ rest) (hb : 8 ≤ u8 body 0 ∨ 2 ≤ u8 body 1) :
    exec (.setClimateSet tag body) s = .next (s.answered rest tag 0x19 [0x12]) := by
  change request 0x19 tag body _ s = _
  refine request_answers (n := 50) (by decide) hlen h ?_
  obtain hb | hb := hb
  · rw [index?_none hb]
  · rw [timing?_eq_none hb]
    cases index? 8 (u8 body 0) <;> rfl

theorem setProfile_outOfRange (hlen : body.length = 24) (h : s.takes ⟨tag, 0x1A, body⟩ rest) (hb : 4 ≤ u8 body 0 ∨ 2 ≤ u8 body 1) :
    exec (.setProfile tag body) s = .next (s.answered rest tag 0x1A [0x12]) := by
  change request 0x1A tag body _ s = _
  refine request_answers (n := 24) (by decide) hlen h ?_
  obtain hb | hb := hb
  · rw [index?_none hb]
  · rw [timing?_eq_none hb]
    cases index? 4 (u8 body 0) <;> rfl

theorem setOverride_outOfRange (hlen : body.length = 9) (h : s.takes ⟨tag, 0x20, body⟩ rest)
    (hb : overrideTarget? (u8 body 0) (u8 body 1) = none ∨ 2 ≤ u8 body 4) :
    exec (.setOverride tag body) s = .next (s.answered rest tag 0x20 [0x12]) := by
  change request 0x20 tag body _ s = _
  refine request_answers (n := 9) (by decide) hlen h ?_
  dsimp only
  obtain hb | hb := hb
  · rw [hb]
  · rw [timed?_eq_none hb]
    cases overrideTarget? (u8 body 0) (u8 body 1) <;> rfl

section ClearOverride

variable {number zone : Byte} (h : s.takes ⟨tag, 0x21, [number, zone]⟩ rest)
include h

theorem clearOverride_outOfRange (hb : overrideTarget? number.toNat zone.toNat = none) :
    exec (.clearOverride tag [number, zone]) s = .next (s.answered rest tag 0x21 [0x12]) := by
  change request 0x21 tag [number, zone] _ s = _
  refine request_answers (n := 2) (by decide) rfl h ?_
  dsimp only
  rw [show overrideTarget? (u8 [number, zone] 0) (u8 [number, zone] 1) = none from hb]

theorem clearOverride_notFound {target : OverrideTarget} (ht : overrideTarget? number.toNat zone.toNat = some target)
    (hn : ∀ o ∈ s.plan.overrides, o.target ≠ target) :
    exec (.clearOverride tag [number, zone]) s = .next (s.answered rest tag 0x21 [0x13]) := by
  change request 0x21 tag [number, zone] _ s = _
  refine request_answers (n := 2) (by decide) rfl h ?_
  have absent : s.plan.overrides.find? (·.target = target) = none := List.find?_eq_none.mpr fun o ho => by simpa using hn o ho
  dsimp only
  rw [show overrideTarget? (u8 [number, zone] 0) (u8 [number, zone] 1) = some target from ht, State.taken_plan]
  dsimp only
  rw [absent]

end ClearOverride

/-- Settles O22: each refusal is a branch of its service that leaves the state. -/
theorem planRequestsRefused : Obligations.PlanRequestsRefused := by
  refine ⟨fun s tag body rest hlen h => ⟨addPhase_outOfRange hlen h, fun hf hm hr => ?_, fun hf hm hr hl => ?_⟩,
    fun s tag body rest hlen h => ⟨dropPhase_outOfRange hlen h, dropPhase_notFound hlen h⟩,
    fun s tag body rest hlen h => ⟨editPhase_outOfRange hlen h, editPhase_notFound hlen h, editPhase_badFields hlen h,
      editPhase_badFallback hlen h⟩,
    fun s tag body rest hlen => ⟨setScene_outOfRange hlen, setClimateSet_outOfRange hlen⟩,
    fun s tag body rest hlen => setProfile_outOfRange hlen, fun s tag body rest hlen => setOverride_outOfRange hlen,
    fun s tag number zone rest h => ⟨clearOverride_outOfRange h, fun target => clearOverride_notFound h⟩⟩
  · obtain ⟨f, hf⟩ := Option.isSome_iff_exists.mp hf
    exact addPhase_duplicate hlen h hf hm hr
  · obtain ⟨f, hf⟩ := Option.isSome_iff_exists.mp hf
    exact addPhase_tableFull hlen h hf hm hr hl

end Sys2Proof.Machine
end

section
/-! READ CHANNEL, READ BUDGET and READ QUEUE (R41, R86, R87). -/

namespace Sys2Proof.Machine

variable {s t : State} {kind tag : Byte} {body reply : Bytes} {rest : List Frame}

/-! ### READ CHANNEL (R41) -/

theorem classByte_eq (r : Role) :
    classByte r = match r with
      | .light => [0x00]
      | .heater => [0x01]
      | .fan => [0x02]
      | .curtain | .docklight => [0x03]
      | .unused => [Config.noClassByte] := by
  cases r <;> rfl

theorem roleTargetByte_eq (m : Option Nat) :
    roleTargetByte m = match m with
      | some m => le8 m
      | none => [Config.noRoleTargetByte] := by
  cases m <;> rfl

/-- The level a LIGHT channel's grant carries of its target (R47). -/
def Channel.carried (c : Channel) : Nat :=
  if units c.cfg.rating c.target ≤ c.granted then c.target else c.granted * 1000 / c.cfg.rating

/-- A channel's state on the line, by its role. -/
theorem channelStateBytes_eq (c : Channel) :
    channelStateBytes c = match c.cfg.role with
      | .unused => [0x00, 0x00]
      | .light => [if 0 < c.carried then 0x01 else 0x00, 0x00]
      | _ => (if c.tripped then 0x03 else if 0 < c.granted then 0x01 else if c.minOffT.isSome then 0x02 else 0x00) :: le8 c.granted := by
  have steps : le8 (if c.tripped then ChannelState.tripped else if 0 < c.granted then .on else if c.minOffT.isSome then .holdOff else .off).code
      = [if c.tripped then 0x03 else if 0 < c.granted then 0x01 else if c.minOffT.isSome then 0x02 else 0x00] := by
    split
    · rfl
    · split
      · rfl
      · split <;> rfl
  have level : le8 (if 0 < c.carried then ChannelState.on else .off).code = [if 0 < c.carried then 0x01 else 0x00] := by
    split <;> rfl
  unfold channelStateBytes Channel.state Channel.drivenSteps Channel.drivenLevel
  cases hr : c.cfg.role with
  | unused => rfl
  | light => exact congrArg (· ++ le8 0) level
  | heater | fan | curtain | docklight => exact congrArg (· ++ le8 c.granted) steps

/-- What a channel drives on the line, by its role (R41, R42, R47). -/
theorem driven_eq (c : Channel) :
    (if c.cfg.role = .light then c.drivenLevel else c.drivenSteps) = match c.cfg.role with
      | .unused => 0
      | .light => c.carried
      | _ => c.granted := by
  unfold Channel.drivenSteps Channel.drivenLevel
  cases c.cfg.role <;> rfl

theorem exec_readChannel_of_takes {n : Byte} {i : Fin 128} (h : s.takes ⟨tag, 0x29, [n]⟩ rest) (hi : n.toNat = i) :
    exec (.readChannel tag [n]) s
      = .next (s.answered rest tag 0x29
          (stOk ++ channelConfigBytes (s.chan i).cfg ++ channelStateBytes (s.chan i) ++ le16 (s.chan i).target ++ le16 (s.chan i).granted
            ++ le16 (if (s.chan i).cfg.role = .light then (s.chan i).drivenLevel else (s.chan i).drivenSteps) ++ leTime (s.chan i).minOnT
            ++ leTime (s.chan i).minOffT ++ le32 (s.chan i).serial ++ leFlag (s.chan i).tripIn)) := by
  change request 0x29 tag [n] _ s = _
  refine request_answers (n := 1) (by decide) rfl h ?_
  dsimp only
  rw [index?_of_eq (show u8 [n] 0 = i from hi)]
  rfl

theorem readChannel_outOfRange {n : Byte} (h : s.takes ⟨tag, 0x29, [n]⟩ rest) (hn : 128 ≤ n.toNat) :
    exec (.readChannel tag [n]) s = .next (s.answered rest tag 0x29 [0x12]) := by
  change request 0x29 tag [n] _ s = _
  refine request_answers (n := 1) (by decide) rfl h ?_
  dsimp only
  rw [index?_none (show 128 ≤ u8 [n] 0 from hn)]

/-! ### READ BUDGET (R86) -/

/-- The bytes of the last-window record, spelled out (R64; those of an empty record are open, log entry 16). -/
theorem lastWindowBytes_eq (l : Option LastWindow) :
    lastWindowBytes l = match l with
      | some w =>
        le32 w.energy ++ le16 w.length ++ le32 w.average ++ le16 w.contract
          ++ le8 ((if w.overContract then 1 else 0) + (if w.estimated then 2 else 0) + (if w.byClockSet then 4 else 0))
          ++ leTime w.closeTime
      | none =>
        [Config.emptyWindowByte 0, Config.emptyWindowByte 1, Config.emptyWindowByte 2, Config.emptyWindowByte 3,
          0x00, 0x00, Config.emptyWindowByte 4, Config.emptyWindowByte 5, Config.emptyWindowByte 6,
          Config.emptyWindowByte 7, Config.emptyWindowByte 8, Config.emptyWindowByte 9, Config.emptyWindowByte 10,
          0xFF, 0xFF, 0xFF, 0xFF] := by
  cases l with
  | some w => rfl
  | none =>
    unfold lastWindowBytes
    dsimp only
    rw [leTime_none]
    rfl

theorem sumTable_indices {α : Type} {n : Nat} (f : α → Nat) (l : Table α n) : sumTable f l = ((indices n).map fun i => f (look l i)).sum := by
  rw [sumTable_eq, Fin.sum_univ_def]
  rfl

/-- The fields of READ BUDGET, with the urgent entries and the deficits written out. -/
theorem budgetFields_eq (s : State) :
    s.budgetFields
      = le32 s.budget.energy ++ le16 s.budget.elapsed ++ le16 s.budget.windowLen ++ le16 (s.budget.windowLen - s.budget.elapsed)
        ++ le8 s.budget.silence ++ leFlag s.budget.silent
        ++ le32 s.budget.pu ++ le32 s.budget.ct ++ le32 s.budget.managed ++ le32 s.budget.pProt ++ le32 s.budget.shareable
        ++ le8 s.plan.current.fields.profile
        ++ s.classFigures .light ++ s.classFigures .heat ++ s.classFigures .air ++ s.classFigures .dock
        ++ le32 s.budget.pool ++ leInt32 s.free
        ++ leFlag s.budget.tight ++ leFlag s.isTight ++ leFlag s.budget.shed ++ le8 s.queued.length
        ++ le8 (s.queued.filter fun i => (s.chan i).entry.any (·.urgent)).length
        ++ le8 (s.queued.filter fun i => (s.chan i).minOffT.isSome).length ++ le8 s.deficitMembers.length
        ++ le32 ((indices 128).map fun i => (s.chan i).deficit).sum ++ lastWindowBytes s.budget.lastWindow := by
  have urgent : s.queued.filter (fun i => match (s.chan i).entry with
      | some e => e.urgent
      | none => false) = s.queued.filter fun i => (s.chan i).entry.any (·.urgent) := by
    refine congrArg (fun p => s.queued.filter p) (funext fun i => ?_)
    cases (s.chan i).entry <;> rfl
  have deficits : sumTable Channel.deficit s.budget.channels = ((indices 128).map fun i => (s.chan i).deficit).sum := sumTable_indices _ _
  rw [← urgent, ← deficits]
  rfl

theorem exec_readBudget_of_takes (h : s.takes ⟨tag, 0x31, []⟩ rest) :
    exec (.readBudget tag []) s = .next (s.answered rest tag 0x31 (stOk ++ s.budgetFields)) := by
  change request 0x31 tag [] _ s = _
  exact request_answers (n := 0) (by decide) rfl h rfl

/-! ### READ QUEUE (R87) -/

/-- A start-queue record on the line, spelled out. -/
theorem entryBytes_eq (s : State) (i : Fin 128) :
    s.entryBytes i = match (s.chan i).entry with
      | some e =>
        le8 i ++ classByte (s.chan i).cfg.role ++ le8 (s.chan i).cfg.priority ++ le8 ((s.chan i).target - (s.chan i).granted) ++ le32 e.age
          ++ le8 ((if e.urgent then 1 else 0) + (if (s.chan i).minOffT.isSome then 2 else 0))
      | none => [] := rfl

/-- The reply to READ QUEUE from one of its lists (R87). -/
def queueReply (selector pos : Byte) (all : List (Fin 128)) (record : Fin 128 → Bytes) : Bytes :=
  [0x00, selector] ++ le8 all.length ++ [pos] ++ le8 ((all.drop pos.toNat).take 24).length ++ ((all.drop pos.toNat).take 24).flatMap record

theorem exec_readQueue_of_takes {selector pos : Byte} (h : s.takes ⟨tag, 0x32, [selector, pos]⟩ rest) :
    exec (.readQueue tag [selector, pos]) s
      = .next (s.answered rest tag 0x32
          (if 127 < pos.toNat ∨ 1 < selector.toNat then [0x12]
           else if selector = 0 then queueReply selector pos s.queueOrder s.entryBytes
           else queueReply selector pos s.deficitOrder s.deficitBytes)) := by
  have byte : ∀ b : Byte, le8 b.toNat = [b] := fun b => congrArg (fun x => [x]) (by simp : BitVec.ofNat 8 b.toNat = b)
  change request 0x32 tag [selector, pos] _ s = _
  refine request_answers (n := 2) (by decide) rfl h ?_
  dsimp only
  rw [show u8 [selector, pos] 0 = selector.toNat from rfl, show u8 [selector, pos] 1 = pos.toNat from rfl, byte, byte]
  by_cases hp : 127 < pos.toNat
  · rw [if_pos hp, if_pos (.inl hp)]
  · rw [if_neg hp]
    match hs : selector.toNat with
    | 0 =>
      have zero : selector = 0 := BitVec.eq_of_toNat_eq hs
      rw [if_neg (by omega), if_pos zero]
      rfl
    | 1 =>
      have one : selector ≠ 0 := fun hz => by rw [hz] at hs; cases hs
      rw [if_neg (by omega), if_neg one]
      rfl
    | k + 2 =>
      rw [if_pos (.inr (by omega))]
      rfl

/-- Settles O30: the three requests only read, and their replies follow the channels, figures and lists as they stand. -/
theorem budgetReadsAnswer : Obligations.BudgetReadsAnswer := by
  refine ⟨fun s tag n rest h => ⟨fun i hi => ?_, readChannel_outOfRange h⟩, fun s tag rest h => ?_, fun s tag selector pos rest h => ?_⟩
  · rw [exec_readChannel_of_takes h hi, channelStateBytes_eq, driven_eq]
    unfold channelConfigBytes
    rw [classByte_eq, roleTargetByte_eq]
    simp only [List.append_assoc]
    rfl
  · rw [exec_readBudget_of_takes h, budgetFields_eq, lastWindowBytes_eq]
    simp only [List.append_assoc]
    rfl
  · rw [exec_readQueue_of_takes h, show s.entryBytes = _ from funext (entryBytes_eq s)]
    simp only [classByte_eq]
    rfl

end Sys2Proof.Machine
end

section
/-! READ DOOR, READ DOOR COUNTERS and READ SESSIONS, an accrual, and one second of the oscillator (R1, R102, R103, R109, R116). -/

namespace Sys2Proof.Machine

variable {s t : State} {kind tag : Byte} {body reply : Bytes} {rest : List Frame}

/-! ### An accrual (R109, R110, R113) -/

theorem accrue_totals (d : Fin 32) (s : State) :
    (accrue d s).plan.totals
      = if s.accruedEnergy d = 0 then s.plan.totals
        else if (s.door d).session.isSome then
          { s.plan.totals with docked := satAdd Config.max32 s.plan.totals.docked (s.accruedEnergy d) }
        else { s.plan.totals with bare := satAdd Config.max32 s.plan.totals.bare (s.accruedEnergy d) } := by
  unfold accrue
  dsimp only
  split
  · rfl
  · split <;> rfl

/-- Settles O40: the report goes to the docked total where a session is open, and to the bare total where none is. -/
theorem accrualCountsTheInterval : Obligations.AccrualCountsTheInterval := by
  intro s d energy t
  have door : t.door d = s.accruedDoor d := by
    rw [accrue_door, if_pos rfl]
  refine ⟨by rw [door]; rfl, fun x hx => ⟨?_, ?_, fun (he : s.accruedEnergy d ≠ 0) => ?_⟩,
    fun hn => ⟨?_, fun (he : s.accruedEnergy d ≠ 0) => ?_⟩, fun e he => ?_⟩
  · rw [door]
    unfold State.accruedDoor
    dsimp only
    rw [hx]
    rfl
  · rw [accrue_totals, hx]
    split <;> rfl
  · rw [accrue_totals, hx, if_neg he]
    rfl
  · rw [accrue_totals, hn]
    split <;> rfl
  · rw [accrue_totals, hn, if_neg he]
    rfl
  · rw [accrue_door, if_neg (Ne.symm he)]

/-! ### READ DOOR (R103) -/

/-- The fields of READ DOOR that depend on the check and the session, spelled out. -/
theorem doorFields_eq (s : State) (x : Door) :
    s.doorFields x
      = leFlag x.cfg.enabled ++ le8 x.cfg.zone ++ le8 x.cfg.kd ++ le16 x.cfg.heldTime ++ le8 x.cfg.debounce
        ++ leOpt8 (x.cfg.curtain.map (·.val)) ++ leOpt8 (x.cfg.light.map (·.val))
        ++ leFlag x.rawOpen ++ leFlag x.rawPresent ++ leFlag x.debOpen ++ leFlag x.debPresent
        ++ leOpt16 x.contactT ++ leOpt16 x.presenceT ++ leOpt16 x.heldT ++ le8 x.state.code ++ le8 x.loop.code
        ++ le8 x.sentLight ++ le8 x.sentCurtain ++ leFlag x.curtainRunning ++ le16 x.rate
        ++ le16 x.cycles ++ le8 x.heldEpisodes
        ++ (match x.session with
          | some y => le16 y.number
          | none => [0xFF, 0xFF])
        ++ (match s.dock.check with
          | some k => 0x01 :: le8 k.remaining
          | none => [0x00, 0xFF]) := by
  have check : leFlag s.dock.check.isSome ++ leOpt8 (s.dock.check.map (·.remaining)) = (match s.dock.check with
      | some k => 0x01 :: le8 k.remaining
      | none => [0x00, 0xFF]) := by
    cases s.dock.check <;> rfl
  have session : leOpt16 (x.session.map (·.number)) = (match x.session with
      | some y => le16 y.number
      | none => [0xFF, 0xFF]) := by
    cases x.session <;> rfl
  rw [← check, ← session]
  unfold State.doorFields doorConfigBytes
  simp only [List.append_assoc]
  rfl

theorem exec_readDoor_of_takes {n : Byte} {d : Fin 32} (h : s.takes ⟨tag, 0x39, [n]⟩ rest) (hd : n.toNat = d) :
    exec (.readDoor tag [n]) s = .next (s.answered rest tag 0x39 (stOk ++ s.doorFields (s.door d))) := by
  change request 0x39 tag [n] _ s = _
  refine request_answers (n := 1) (by decide) rfl h ?_
  rw [index?_of_eq (show u8 [n] 0 = d from hd)]
  rfl

theorem readDoor_outOfRange {n : Byte} (h : s.takes ⟨tag, 0x39, [n]⟩ rest) (hn : 32 ≤ n.toNat) :
    exec (.readDoor tag [n]) s = .next (s.answered rest tag 0x39 [0x12]) := by
  change request 0x39 tag [n] _ s = _
  refine request_answers (n := 1) (by decide) rfl h ?_
  rw [index?_none (show 32 ≤ u8 [n] 0 from hn)]

/-! ### READ DOOR COUNTERS (R102) -/

/-- Four bytes carry a number below 2³² (R164). -/
theorem u32_le32 {n : Nat} (h : n < 4294967296) : u32 (le32 n) 0 = n := by
  have bytes : le32 n = [BitVec.ofNat 8 n, BitVec.ofNat 8 (n / 256), BitVec.ofNat 8 (n / 65536), BitVec.ofNat 8 (n / 65536 / 256)] := rfl
  rw [bytes]
  simp only [u32, u16, u8, List.getD_cons_zero, List.getD_cons_succ, BitVec.toNat_ofNat]
  omega

/-- The clearing of counters writes the door table alone. -/
theorem forEach_clearCounters_frame (l : List (Fin 32)) (s : State) :
    forEach l clearCounters s = s.setDock { s.dock with doors := (forEach l clearCounters s).dock.doors } := by
  have written : ∃ doors, forEach l clearCounters s = s.setDock { s.dock with doors := doors } := by
    refine forEach_keeps (I := fun u => ∃ doors, u = s.setDock { s.dock with doors := doors }) (fun d u hu => ?_) l s ⟨s.dock.doors, rfl⟩
    obtain ⟨doors, rfl⟩ := hu
    exact ⟨_, rfl⟩
  obtain ⟨doors, hd⟩ := written
  rw [hd]
  rfl

theorem forEach_clearCounters {l : List (Fin 32)} (hl : l.Nodup) (s : State) :
    forEach l clearCounters s
      = s.setDock { s.dock with
          doors := Vector.ofFn fun d : Fin 32 => if d ∈ l then { s.door d with cycles := 0, heldEpisodes := 0 } else s.door d } := by
  rw [forEach_clearCounters_frame]
  refine congrArg (fun x => s.setDock { s.dock with doors := x }) (table_ext fun d => ?_)
  rw [look_ofFn]
  have other : ∀ (a b : Fin 32) (u : State), b ≠ a → (clearCounters a u).door b = u.door b := by
    intro a b u hb
    unfold clearCounters
    rw [door_putDoor, if_neg (Ne.symm hb)]
  refine forEach_at (P := fun d u => u.door d) (f := clearCounters)
    (g := fun u d => { u.door d with cycles := 0, heldEpisodes := 0 })
    (fun d u => door_putDoor_self u d _) other (fun a b u hb => ?_) l hl s d
  dsimp only
  rw [other a b u hb]

theorem exec_readDoorCounters_of_takes {mask : Nat} (hm : mask < 4294967296) (h : s.takes ⟨tag, 0x3D, le32 mask⟩ rest) :
    exec (.readDoorCounters tag (le32 mask)) s
      = .next (sendReply tag 0x3D
          (stOk ++ le8 ((indices 32).filter fun d => mask.testBit d.val).length
            ++ ((indices 32).filter fun d => mask.testBit d.val).flatMap fun (d : Fin 32) =>
                le8 d ++ le16 (s.door d).cycles ++ le8 (s.door d).heldEpisodes)
          (forEach ((indices 32).filter fun d => mask.testBit d.val) clearCounters (s.taken rest))) := by
  change request 0x3D tag (le32 mask) _ s = _
  refine request_runs (n := 4) (by decide) rfl h ?_
  dsimp only
  rw [u32_le32 hm]
  rfl

/-! ### READ SESSIONS (R116) -/

theorem exec_readSessions_of_takes (h : s.takes ⟨tag, 0x3C, []⟩ rest) :
    exec (.readSessions tag []) s
      = .next (sendReply tag 0x3C
          (stOk ++ le8 (s.dock.log.take 6).length ++ le8 (s.dock.log.drop 6).length ++ le16 s.dock.lost
            ++ (s.dock.log.take 6).flatMap sessionBytes)
          ((s.taken rest).setDock
            { s.dock with log := s.dock.log.drop 6, lossReported := s.dock.lossReported && (s.dock.log.take 6).isEmpty })) := by
  change request 0x3C tag [] _ s = _
  exact request_runs (n := 0) (by decide) rfl h rfl

/-- Settles O45: the counters of the listed doors alone are cleared, and the oldest sessions leave the log. -/
theorem doorReadsAnswerInFull : Obligations.DoorReadsAnswerInFull := by
  refine ⟨fun s tag n rest h => ⟨fun d hd => ?_, readDoor_outOfRange h⟩, fun s tag mask rest hm h => ?_, fun s tag rest h => ?_⟩
  · rw [exec_readDoor_of_takes h hd, doorFields_eq]
    simp only [List.append_assoc] <;> rfl
  · rw [exec_readDoorCounters_of_takes hm h, forEach_clearCounters ((nodup_indices 32).filter _)]
    simp only [List.mem_filter, mem_indices, true_and, List.append_assoc]
    rfl
  · have empty : (s.dock.lossReported && (s.dock.log.take 6).isEmpty) = if s.dock.log = [] then s.dock.lossReported else false := by
      cases s.dock.log with
      | nil => exact Bool.and_true _
      | cons _ _ => exact Bool.and_false _
    rw [exec_readSessions_of_takes h, empty, List.length_take, List.length_drop, Nat.min_comm]
    simp only [List.append_assoc]
    rfl

/-! ### One second of the oscillator (R1, R14) -/

theorem tickTimer_eq (x : Timer) : tickTimer x = x.map (· - 1) := by
  cases x <;> rfl

theorem nextSecond_eq {v : Nat} (h : v < 604800) : nextSecond v = (v + 1) % 604800 := by
  unfold nextSecond
  split
  · next hv => exact (Nat.mod_eq_of_lt hv).symm
  · next hv =>
    have full : ¬v + 1 < 604800 := hv
    have last : v + 1 = 604800 := by omega
    rw [last]

theorem tick_clock (p : PlanUnit) : p.tick.clock = p.clock.map nextSecond := rfl

/-- A turn becomes due when the clock reaches next's start, and stays due. -/
theorem tick_turnDue (p : PlanUnit) {v m : Nat} (hc : p.clock = some v) (hn : p.next = some m) (hd : p.turnDue = none) :
    p.tick.turnDue = if nextSecond v = m * 60 then some (m * 60) else none := by
  unfold PlanUnit.tick
  rw [hc, hn, hd]
  dsimp only [Option.map_some]
  split
  · next h => rw [h]
  · rfl

theorem tick_turnDue_of_not_timed (p : PlanUnit) (h : p.clock = none ∨ p.next = none ∨ p.turnDue.isSome) :
    p.tick.turnDue = p.turnDue := by
  unfold PlanUnit.tick
  dsimp only
  cases hd : p.turnDue with
  | some d => rfl
  | none =>
    obtain hc | hn | hs := h
    · rw [hc]
      rfl
    · rw [hn]
      cases p.clock <;> rfl
    · rw [hd] at hs
      cases hs

theorem tick_chan (s : State) (i : Fin 128) : s.tick.chan i = (s.chan i).tick := look_map _ _ _
theorem tick_door (s : State) (d : Fin 32) : s.tick.door d = (s.door d).tick := look_map _ _ _

/-- Settles O16: each unit's second, read off from the tables it maps. -/
theorem secondAdvancesEveryTimer : Obligations.SecondAdvancesEveryTimer := by
  intro s hs down
  have timer : tickTimer = down := funext tickTimer_eq
  refine ⟨s.tick, if_pos hs, fun v hv hlt => ?_, fun hn => ?_, fun v m hv hlt hm hd => ?_, fun h => tick_turnDue_of_not_timed s.plan h,
    fun i => ?_, fun d => ?_, fun z => look_map _ _ _, fun z => ?_, fun p => ?_, fun p => ?_, ?_⟩
  · rw [← nextSecond_eq hlt]
    exact congrArg (Option.map nextSecond) hv
  · exact congrArg (Option.map nextSecond) hn
  · rw [← nextSecond_eq hlt]
    exact tick_turnDue s.plan hv hm hd
  · rw [tick_chan, ← timer]
    rfl
  · rw [tick_door, ← timer]
    rfl
  · rw [← timer]
    exact look_map _ _ _
  · rw [← timer]
    exact look_map _ _ _
  · rw [← timer]
    exact look_map _ _ _
  · rw [← timer]
    rfl

end Sys2Proof.Machine
end

section
/-! Sensor points, their requests and their events, and SAVE (R117 to R121, R135 to R137, R160, R161). -/

namespace Sys2Proof.Machine

variable {s t u : State} {kind tag : Byte} {body reply : Bytes} {rest : List Frame}

/-! ### Notices raised (R167, R168) -/

/-- A notice raised over an unchanged line is the first to join the queue. -/
theorem raise_raised {k : NoticeKind} (hl : t.line = s.line) (hc : t.plan.clock = s.plan.clock) (n : Nat) (b : Bytes) (ha : s.admits k) :
    s.raised (raise k n b t) ⟨k, s.plan.clock, n, b⟩ := by
  have admitted : t.admits k := by
    unfold State.admits
    rw [hl]
    exact ha
  unfold State.raised
  rw [raise_notices, if_pos admitted, hl, hc]

theorem State.raised.mono {n : Notice} (h : s.raised t n) (hu : t.line.notices <+: u.line.notices) : s.raised u n := List.IsPrefix.trans h hu

@[simp] theorem raise_store (k : NoticeKind) (n : Nat) (b : Bytes) (s : State) : (raise k n b s).store = s.store := by
  unfold raise
  split <;> rfl

/-! ### One sample of a point (R117, R135) -/

section Sample

variable {p : SensorPoint} {lo hi : Int} {stale now : Nat}

theorem take_of_unused (h : p.state = .unused) (x : SensorSample) : p.take lo hi stale now x = p := if_pos h

theorem take_of_good {v : Int} (h : p.state ≠ .unused) (hlo : lo ≤ v) (hhi : v ≤ hi) :
    p.take lo hi stale now (.reading v) = ⟨.good, some v, p.bad, some stale, some now⟩ := by
  unfold SensorPoint.take goodReading
  rw [if_neg h]
  dsimp only
  rw [if_pos ⟨hlo, hhi⟩]
  rfl

theorem take_of_bad {x : SensorSample} (hx : goodReading lo hi x = none) :
    p.take lo hi stale now x = if p.state = .unused then p else { p with bad := min 255 (p.bad + 1) } := by
  unfold SensorPoint.take
  rw [hx]
  rfl

theorem goodReading_none {x : SensorSample} (h : x = .noAnswer ∨ ∃ v, x = .reading v ∧ (v < lo ∨ hi < v)) : goodReading lo hi x = none := by
  obtain rfl | ⟨v, rfl, hv⟩ := h
  · rfl
  · exact if_neg (by omega)

end Sample

/-- A sample that restores no point raises nothing. -/
theorem sampleNotice_of_not_restored {a b : SensorPoint} (h : a.state ≠ .stale ∨ b = a ∨ b = { a with bad := b.bad }) (n : Nat) (s : State) :
    sampleNotice a b n s = s := by
  unfold sampleNotice
  rw [if_neg]
  intro hc
  obtain ⟨hs, hg⟩ : a.state = .stale ∧ b.state = .good := by simpa using hc
  obtain h | h | h := h
  · exact h hs
  · rw [h, hs] at hg
    cases hg
  · rw [h, hs] at hg
    cases hg

/-- A good sample that reaches a STALE point raises POINT_RESTORED with its value. -/
theorem sampleNotice_of_restored {a b : SensorPoint} {v : Int} (ha : a.state = .stale) (hb : b.state = .good) (hv : b.value = some v) (n : Nat)
    (s : State) : sampleNotice a b n s = raise .pointRestored n (leInt16 v) s := by
  unfold sampleNotice
  rw [if_pos (by rw [ha, hb]; rfl), hv]
  rfl

/-! ### Temperature points -/

theorem tempSampled_unused {p : Fin 32} (h : (look s.climate.temps p).state = .unused) (x : SensorSample) : tempSampled p x s = s := by
  unfold tempSampled
  dsimp only
  rw [take_of_unused h, sampleNotice_of_not_restored (.inr (.inl rfl)), show upd s.climate.temps p (look s.climate.temps p) = s.climate.temps from ?_]
  · rfl
  · refine table_ext fun q => ?_
    rw [look_upd]
    split
    · next hpq => rw [hpq]
    · rfl

theorem exec_tempPointSample_running (hs : s.stage = .running) (p : Fin 32) (x : SensorSample) :
    exec (.tempPointSample p x) s = .next (tempSampled p x s) := if_pos hs

theorem tempSampled_temps (p : Fin 32) (x : SensorSample) (s : State) :
    (tempSampled p x s).climate.temps
      = upd s.climate.temps p ((look s.climate.temps p).take (-500) 800 Config.tempStale s.seconds x) := by
  unfold tempSampled
  dsimp only
  rw [sampleNotice_climate]
  rfl

theorem tempSampled_good {p : Fin 32} {v : Int} (hu : (look s.climate.temps p).state ≠ .unused) (hlo : -500 ≤ v) (hhi : v ≤ 800) :
    (tempSampled p (.reading v) s).climate.temps
        = upd s.climate.temps p ⟨.good, some v, (look s.climate.temps p).bad, some 300, some s.seconds⟩
      ∧ ((look s.climate.temps p).state = .stale → s.admits .pointRestored →
          s.raised (tempSampled p (.reading v) s) ⟨.pointRestored, s.plan.clock, p, leInt16 v⟩)
      ∧ ((look s.climate.temps p).state ≠ .stale → (tempSampled p (.reading v) s).line = s.line) := by
  refine ⟨by rw [tempSampled_temps, take_of_good hu hlo hhi], fun hstale ha => ?_, fun hn => ?_⟩
  · unfold tempSampled
    dsimp only
    rw [take_of_good hu hlo hhi, sampleNotice_of_restored hstale rfl rfl]
    exact raise_raised (by rfl) (by rfl) _ _ ha
  · unfold tempSampled
    dsimp only
    rw [sampleNotice_of_not_restored (.inl hn)]
    rfl

theorem tempSampled_bad {p : Fin 32} {x : SensorSample} (hx : goodReading (-500) 800 x = none) :
    (tempSampled p x s).line = s.line
      ∧ (tempSampled p x s).climate.temps
        = upd s.climate.temps p
            (if (look s.climate.temps p).state = .unused then look s.climate.temps p
             else { look s.climate.temps p with bad := min 255 ((look s.climate.temps p).bad + 1) }) := by
  refine ⟨?_, by rw [tempSampled_temps, take_of_bad hx]⟩
  unfold tempSampled
  dsimp only
  rw [take_of_bad hx, sampleNotice_of_not_restored (.inr ?_)]
  · rfl
  · split
    · exact .inl rfl
    · exact .inr rfl

/-! ### Exhaust points -/

theorem exhaustSampled_unused {p : Fin 12} (h : (look s.climate.exhausts p).state = .unused) (x : SensorSample) : exhaustSampled p x s = s := by
  unfold exhaustSampled
  dsimp only
  rw [take_of_unused h, sampleNotice_of_not_restored (.inr (.inl rfl)),
    show upd s.climate.exhausts p (look s.climate.exhausts p) = s.climate.exhausts from ?_]
  · rfl
  · refine table_ext fun q => ?_
    rw [look_upd]
    split
    · next hpq => rw [hpq]
    · rfl

theorem exec_exhaustPointSample_running (hs : s.stage = .running) (p : Fin 12) (x : SensorSample) :
    exec (.exhaustPointSample p x) s = .next (exhaustSampled p x s) := if_pos hs

theorem exhaustSampled_exhausts (p : Fin 12) (x : SensorSample) (s : State) :
    (exhaustSampled p x s).climate.exhausts
      = upd s.climate.exhausts p ((look s.climate.exhausts p).take 0 2000 Config.exhaustStale s.seconds x) := by
  unfold exhaustSampled
  dsimp only
  rw [sampleNotice_climate]
  rfl

theorem exhaustSampled_good {p : Fin 12} {v : Int} (hu : (look s.climate.exhausts p).state ≠ .unused) (hlo : 0 ≤ v) (hhi : v ≤ 2000) :
    (exhaustSampled p (.reading v) s).climate.exhausts
        = upd s.climate.exhausts p ⟨.good, some v, (look s.climate.exhausts p).bad, some 120, some s.seconds⟩
      ∧ ((look s.climate.exhausts p).state = .stale → s.admits .pointRestored →
          s.raised (exhaustSampled p (.reading v) s) ⟨.pointRestored, s.plan.clock, 32 + p, leInt16 v⟩) := by
  refine ⟨by rw [exhaustSampled_exhausts, take_of_good hu hlo hhi], fun hstale ha => ?_⟩
  unfold exhaustSampled
  dsimp only
  rw [take_of_good hu hlo hhi, sampleNotice_of_restored hstale rfl rfl]
  exact raise_raised (by rfl) (by rfl) _ _ ha

theorem exhaustSampled_bad {p : Fin 12} {x : SensorSample} (hx : goodReading 0 2000 x = none) :
    (exhaustSampled p x s).line = s.line
      ∧ (exhaustSampled p x s).climate.exhausts
        = upd s.climate.exhausts p
            (if (look s.climate.exhausts p).state = .unused then look s.climate.exhausts p
             else { look s.climate.exhausts p with bad := min 255 ((look s.climate.exhausts p).bad + 1) }) := by
  refine ⟨?_, by rw [exhaustSampled_exhausts, take_of_bad hx]⟩
  unfold exhaustSampled
  dsimp only
  rw [take_of_bad hx, sampleNotice_of_not_restored (.inr ?_)]
  · rfl
  · split
    · exact .inl rfl
    · exact .inr rfl

/-! ### Stale timers (R118, R136) -/

theorem tempWentStale_spec (p : Fin 32) (s : State) :
    (tempWentStale p s).climate.temps = upd s.climate.temps p { look s.climate.temps p with state := .stale, staleT := none }
      ∧ (s.admits .pointStale →
          s.raised (tempWentStale p s) ⟨.pointStale, s.plan.clock, p, staleData (look s.climate.temps p)⟩) := by
  unfold tempWentStale
  refine ⟨?_, fun ha => raise_raised (by rfl) (by rfl) _ _ ha⟩
  dsimp only
  rw [raise_climate]
  rfl

theorem exhaustWentStale_spec (p : Fin 12) (s : State) :
    (exhaustWentStale p s).climate.exhausts = upd s.climate.exhausts p { look s.climate.exhausts p with state := .stale, staleT := none }
      ∧ (s.admits .pointStale →
          s.raised (exhaustWentStale p s) ⟨.pointStale, s.plan.clock, 32 + p, staleData (look s.climate.exhausts p)⟩) := by
  unfold exhaustWentStale
  refine ⟨?_, fun ha => raise_raised (by rfl) (by rfl) _ _ ha⟩
  dsimp only
  rw [raise_climate]
  rfl

/-- An event whose condition does not hold does nothing. -/
theorem whenRunning_idle {f : State → State} (h : f s = s) : whenRunning f s = .next s := by
  unfold whenRunning
  rw [h]
  split <;> rfl

theorem whenRunning_runs {f : State → State} (hs : s.stage = .running) (h : f s = t) : whenRunning f s = .next t := by
  unfold whenRunning
  rw [if_pos hs, h]

/-- Settles O47: a sample is good or bad by its range, and the point it reaches says whether a notice is raised. -/
theorem pointSamplesAreTaken : Obligations.PointSamplesAreTaken := by
  refine ⟨fun s x hs => ⟨fun p hu => ?_, fun p hu => ?_⟩, fun s p v hs hu hlo hhi => ?_, fun s p x hs hx => ?_, fun s p v hs hu hlo hhi => ?_,
    fun s p x hs hx => ?_, fun s p hs => ⟨fun ht => ?_, fun ht => ?_⟩, fun s p hs => ⟨fun ht => ?_, fun ht => ?_⟩⟩
  · rw [exec_tempPointSample_running hs, tempSampled_unused hu]
  · rw [exec_exhaustPointSample_running hs, exhaustSampled_unused hu]
  · exact ⟨_, exec_tempPointSample_running hs p _, tempSampled_good hu hlo hhi⟩
  · exact ⟨_, exec_tempPointSample_running hs p x, tempSampled_bad (goodReading_none hx)⟩
  · exact ⟨_, exec_exhaustPointSample_running hs p _, exhaustSampled_good hu hlo hhi⟩
  · exact ⟨_, exec_exhaustPointSample_running hs p x,
      exhaustSampled_bad (goodReading_none (hx.imp_right fun ⟨v, hv, hlt⟩ => ⟨v, hv, .inr hlt⟩))⟩
  · rw [exec_tempPointStaleExpiry]
    exact ⟨_, whenRunning_runs hs (if_pos ht), tempWentStale_spec p s⟩
  · rw [exec_tempPointStaleExpiry]
    exact whenRunning_idle (if_neg ht)
  · rw [exec_exhaustPointStaleExpiry]
    exact ⟨_, whenRunning_runs hs (if_pos ht), exhaustWentStale_spec p s⟩
  · rw [exec_exhaustPointStaleExpiry]
    exact whenRunning_idle (if_neg ht)

/-! ### CONFIG POINT and READ POINTS (R120, R121, R136, R137) -/

/-- A point as a used mask leaves it, spelled out. -/
theorem use_eq (p : SensorPoint) (used : Bool) (stale : Nat) :
    p.use used stale
      = if used then (if p.state = .unused then ⟨.starting, none, 0, some stale, none⟩ else p)
        else if p.state = .unused then p else ⟨.unused, none, 0, none, none⟩ := by
  unfold SensorPoint.use startPoint
  cases used <;> by_cases hp : p.state = .unused <;> simp [hp]

theorem pointsTreated?_some {o : Fin 32} (h : u8 body 6 = o) :
    pointsTreated? body
      = some { tempUsed := Vector.ofFn fun p => maskBit (u32 body 0) p.val
               exhaustUsed := Vector.ofFn fun p => maskBit (u16 body 4) p.val
               outdoorPoint := o, designTemp := clampInt (-500) 200 (i16 body 7) } := by
  unfold pointsTreated?
  rw [index?_of_eq h]
  rfl

theorem configPoint_outOfRange (hlen : body.length = 9) (h : s.takes ⟨tag, 0x42, body⟩ rest) (ho : 32 ≤ u8 body 6) :
    exec (.configPoint tag body) s = .next (s.answered rest tag 0x42 [0x12]) := by
  have refused : pointsTreated? body = none := by
    unfold pointsTreated?
    rw [index?_none ho]
    rfl
  change request 0x42 tag body _ s = _
  refine request_answers (n := 9) (by decide) hlen h ?_
  rw [refused]

theorem configurePoints_zones (n : PointConfig) (s : State) : (configurePoints n s).climate.zones = s.climate.zones := by
  unfold configurePoints
  dsimp only [State.setClimate]

theorem configurePoints_temps (n : PointConfig) (s : State) (p : Fin 32) :
    look (configurePoints n s).climate.temps p = (look s.climate.temps p).use (look n.tempUsed p) Config.tempStale := look_ofFn _ _

theorem configurePoints_exhausts (n : PointConfig) (s : State) (p : Fin 12) :
    look (configurePoints n s).climate.exhausts p = (look s.climate.exhausts p).use (look n.exhaustUsed p) Config.exhaustStale := look_ofFn _ _

/-- An accepted CONFIG POINT. -/
theorem exec_configPoint_of_takes {n : PointConfig} (hlen : body.length = 9) (h : s.takes ⟨tag, 0x42, body⟩ rest)
    (hn : pointsTreated? body = some n) :
    exec (.configPoint tag body) s
      = .next (sendReply tag 0x42
          (stTreated (n.designTemp != i16 body 7) ++ le32 (maskOf n.tempUsed) ++ le16 (maskOf n.exhaustUsed) ++ le8 n.outdoorPoint
            ++ leInt16 n.designTemp) (configurePoints n (s.taken rest))) := by
  change request 0x42 tag body _ s = _
  refine request_runs (n := 9) (by decide) hlen h ?_
  rw [hn]

/-- Settles O48: each point follows its bit of the masks, and READ POINTS clears the bad counts of the kind it returns. -/
theorem pointRequestsAnswer : Obligations.PointRequestsAnswer := by
  refine ⟨fun s tag body rest hlen h ho => configPoint_outOfRange hlen h ho, fun s tag body rest o hlen h ho => ?_, fun s tag rest h => ?_,
    fun s tag rest h => ?_, fun s tag n rest h hn => ?_⟩
  · have hn := pointsTreated?_some ho
    generalize hc : ({ tempUsed := Vector.ofFn fun p => maskBit (u32 body 0) p.val
                       exhaustUsed := Vector.ofFn fun p => maskBit (u16 body 4) p.val
                       outdoorPoint := o, designTemp := clampInt (-500) 200 (i16 body 7) } : PointConfig) = n at hn
    obtain ⟨tempUsed, exhaustUsed, outdoorPoint, designTemp⟩ := n
    obtain ⟨htemps, hexhausts, houtdoor, hdesign⟩ := PointConfig.mk.inj hc
    have temp : ∀ p, look tempUsed p = (u32 body 0).testBit p.val := fun p => by rw [← htemps, look_ofFn]; rfl
    have exhaust : ∀ p, look exhaustUsed p = (u16 body 4).testBit p.val := fun p => by rw [← hexhausts, look_ofFn]; rfl
    refine ⟨_, exec_configPoint_of_takes hlen h hn, houtdoor.symm, hdesign.symm, ?_, fun p => ?_, fun p => ?_⟩
    · rw [sendReply_climate, configurePoints_zones]
      rfl
    · change look (configurePoints _ (s.taken rest)).climate.temps p = _
      rw [configurePoints_temps, use_eq, temp]
      rfl
    · change look (configurePoints _ (s.taken rest)).climate.exhausts p = _
      rw [configurePoints_exhausts, use_eq, exhaust]
      rfl
  · have outdoor : le8 (if s.outdoor.2 then 0 else 1) = [if s.outdoor.2 then 0x00 else 0x01] := by split <;> rfl
    rw [← outdoor]
    change request 0x43 tag [0x00] _ s = _
    exact request_runs (n := 1) (by decide) rfl h rfl
  · change request 0x43 tag [0x01] _ s = _
    exact request_runs (n := 1) (by decide) rfl h rfl
  · change request 0x43 tag [n] _ s = _
    refine request_answers (n := 1) (by decide) rfl h ?_
    rw [show u8 [n] 0 = n.toNat from rfl]
    match hk : n.toNat with
    | k + 2 => rfl
    | 0 | 1 => omega

/-! ### SAVE (R160, R161) -/

@[simp] theorem raise_snapshot (k : NoticeKind) (n : Nat) (b : Bytes) (s : State) : (raise k n b s).snapshot = s.snapshot := by
  unfold raise Line.join
  split
  · split <;> rfl
  · rfl

theorem exec_saveComplete_of_saving {c : Snapshot} {digest : Crc16} (hs : s.stage = .running) (h : s.store.saving = some (c, digest))
    (r : SaveResult) : exec (.saveComplete r) s = .next (saveEnded r c digest s) := by
  change execSaveComplete r s = _
  unfold execSaveComplete
  refine whenRunning_runs hs ?_
  rw [h]

/-- A save that fails. -/
theorem saveFailed_spec (reason : StoreReason) (c : Snapshot) (s : State) :
    (saveFailed reason c s).store.saving = none ∧ (saveFailed reason c s).store.lastSave = .failed
      ∧ (saveFailed reason c s).store.source = s.store.source ∧ (saveFailed reason c s).snapshot = s.snapshot
      ∧ (s.admits .saveFailed → s.raised (saveFailed reason c s) ⟨.saveFailed, s.plan.clock, 0, le8 reason.code⟩) := by
  unfold saveFailed
  refine ⟨by rw [raise_store]; rfl, by rw [raise_store]; rfl, by rw [raise_store]; rfl, raise_snapshot _ _ _ _, fun ha => ?_⟩
  exact raise_raised (by rfl) (by rfl) _ _ ha

/-- Settles O58: SAVE holds the snapshot in the store unit, and its end writes it or reports why not. -/
theorem saveWritesTheSnapshot : Obligations.SaveWritesTheSnapshot := by
  refine ⟨fun s tag rest h hb => ?_, fun s tag rest h hb => ?_, fun s c digest hs hc => ?_, fun s c digest result hs hc hr => ?_,
    fun s result hs hc => ?_⟩
  · change request 0x52 tag [] _ s = _
    exact request_answers (n := 0) (by decide) rfl h (if_pos hb)
  · change request 0x52 tag [] _ s = _
    exact request_runs (n := 0) (by decide) rfl h (if_neg (by rw [show (s.taken rest).store = s.store from rfl, hb]; simp))
  · refine ⟨_, exec_saveComplete_of_saving hs hc .compared, ?_, raise_snapshot _ _ _ _, fun ha => raise_raised (by rfl) (by rfl) _ _ ha⟩
    exact raise_store _ _ _ _
  · refine ⟨_, exec_saveComplete_of_saving hs hc result, ?_⟩
    cases result with
    | compared => exact absurd rfl hr
    | compareFailed => exact saveFailed_spec .compareFailed c s
    | noAnswer => exact saveFailed_spec .noAnswer c s
  · change execSaveComplete result s = _
    unfold execSaveComplete
    refine whenRunning_idle ?_
    rw [hc]

end Sys2Proof.Machine
end

section
/-! The start: every invariant holds of the state at reset, which is that of the start of a load but for the stage. -/

namespace Sys2Proof.Machine

/-- The state with another stage. -/
def State.atStage (s : State) (st : Stage) : State := { s with stage := st }

theorem reset_eq : State.reset = (startLoading State.reset .blank).atStage .inReset := by
  have trips : (fun i => (State.reset.chan i).tripIn) = fun _ => false := by
    funext i
    simp [State.reset, State.fresh, State.chan, startBudget, startChannel, look]
  have opens : (fun d => (State.reset.door d).rawOpen) = fun _ => false := by
    funext d
    simp [State.reset, State.fresh, State.door, startDock, startDoor, look]
  have presents : (fun d => (State.reset.door d).rawPresent) = fun _ => false := by
    funext d
    simp [State.reset, State.fresh, State.door, startDock, startDoor, look]
  unfold startLoading State.afresh
  rw [trips, opens, presents]
  rfl

variable {s : State}

/-- What every invariant of the start says, in one: the statement of reset, of any state. -/
def State.AllSound (s : State) : Prop :=
  s.line.Sound ∧ s.PlanSound ∧ s.DigestCurrent ∧ s.plan.KeysSound
    ∧ s.PoolSafe ∧ s.QueueExact ∧ s.OutputsFollow ∧ s.StepsBounded
    ∧ s.LightProtected ∧ s.DoorsSound ∧ s.dock.SessionsSound ∧ s.RatesCurrent
    ∧ s.climate.Sound ∧ s.LightsSound ∧ s.TightCurrent ∧ s.ShedWaits

theorem State.AllSound.atStage (st : Stage) (h : s.AllSound) : (s.atStage st).AllSound := h

theorem startLoading_lightProtected (s : State) : (startLoading s .blank).LightProtected := by
  obtain ⟨ho, hf⟩ := startLoading_lawful (L := .protectedPart) s (image := .blank) fun _ => trivial
  obtain ⟨hz, hi, hv⟩ := hf rfl
  refine ⟨fun i => ?_, fun i => (ho i).2, hz, hi, hv⟩
  by_cases hl : ((startLoading s .blank).chan i).cfg.role = .light
  · exact .inl ((ho i).1 hl)
  · exact .inr hl

theorem startLoading_planSound (s : State) : (startLoading s .blank).PlanSound := by
  obtain ⟨⟨hp, hc, hn⟩, hi, hs⟩ := soundPlan_property.startLoading (image := .blank) (fun _ _ h => by cases h) s
  exact ⟨hp, hc, hn, hi, hs⟩

theorem startLoading_digestCurrent (s : State) : (startLoading s .blank).DigestCurrent :=
  (digested_property.startLoading (image := .blank) (fun _ _ _ => trivial) s).1

theorem startLoading_keysSound (s : State) : (startLoading s .blank).plan.KeysSound :=
  (keyed_property.startLoading (image := .blank) (fun _ _ _ => trivial) s).1

theorem startLoading_queueExact (s : State) : (startLoading s .blank).QueueExact :=
  (startLoading_lawful (L := .queue) s fun h => by cases h).1

theorem startLoading_outputsFollow (s : State) : (startLoading s .blank).OutputsFollow :=
  (startLoading_lawful (L := .output) s fun h => by cases h).1

theorem startLoading_stepsBounded (s : State) : (startLoading s .blank).StepsBounded :=
  (startLoading_lawful (L := .steps) s fun h => by cases h).1

theorem State.DoorsOk.doorsSound (h : s.DoorsOk) : s.DoorsSound := h

theorem startLoading_doorsSound (s : State) : (startLoading s .blank).DoorsSound := by
  unfold startLoading
  exact (afresh_doorsOk s _ _ _).doorsSound

theorem startLoading_sessionsSound (s : State) : (startLoading s .blank).dock.SessionsSound := sessionsSound_loss.fresh s _ _ _

theorem startLoading_ratesCurrent (s : State) : (startLoading s .blank).RatesCurrent := rated_loss.fresh s _ _ _

theorem startLoading_climateSound (s : State) : (startLoading s .blank).climate.Sound := startClimate_sound _

theorem startLoading_lightsSound (s : State) : (startLoading s .blank).LightsSound := lightingSound_startLoading s .blank

theorem startLoading_allSound (s : State) : (startLoading s .blank).AllSound := by
  refine ⟨startLine_sound _ _, startLoading_planSound s, startLoading_digestCurrent s, startLoading_keysSound s,
    poolSafe_event.start s .blank, startLoading_queueExact s, startLoading_outputsFollow s, startLoading_stepsBounded s,
    startLoading_lightProtected s, startLoading_doorsSound s, startLoading_sessionsSound s, startLoading_ratesCurrent s,
    startLoading_climateSound s, startLoading_lightsSound s, tightCurrent_event.start s .blank, shedWaits_event.start s .blank⟩

/-- Settles O3: reset starts every unit as a load does. -/
theorem invariantsHoldAtReset : Obligations.InvariantsHoldAtReset := by
  have sound : State.reset.AllSound := reset_eq ▸ (startLoading_allSound State.reset).atStage .inReset
  exact sound

end Sys2Proof.Machine
end

section
/-! The configuration a load installs: what the start of the units leaves of it, and so what a SAVE stores and a load brings back (R158
to R161). -/

namespace Sys2Proof.Machine

variable {s t : State} {c : Snapshot}

/-- The state works under the configuration of this snapshot, but for the protected minimums of its channels, which the lighting zones
send. -/
def State.worksUnder (c : Snapshot) (s : State) : Prop :=
  { s.snapshot with channels := c.channels } = c
    ∧ ∀ i, { (s.chan i).cfg with protMin := (look c.channels i).protMin } = look c.channels i

/-! ### What the units keep of it -/

/-- The configuration but for that of the channels, read off what stands outside the Load Budget Unit. -/
theorem snapshot_eq_outside (s : State) (x : Table ChannelConfig 128) :
    { s.snapshot with channels := x }
      = { s.outsideBudget.snapshot with channels := x, limits := s.budget.configured } := by
  have doors : s.outsideBudget.dock.doors.map (·.cfg) = s.dock.doors.map (·.cfg) := by
    unfold State.outsideBudget Dock.forgetLoss
    dsimp only
    rw [Vector.map_map]
    rfl
  unfold State.snapshot
  dsimp only
  rw [doors]
  rfl

/-- Outside the Load Budget Unit its events leave the configuration. -/
theorem snapshot_of_outside (h : t.outsideBudget = s.outsideBudget) (hb : t.budget.configured = s.budget.configured)
    (x : Table ChannelConfig 128) : { t.snapshot with channels := x } = { s.snapshot with channels := x } := by
  rw [snapshot_eq_outside, snapshot_eq_outside s, h, hb]

theorem State.worksUnder.of_outside (w : s.worksUnder c) (h : t.outsideBudget = s.outsideBudget)
    (hb : t.budget.configured = s.budget.configured) (hc : ∀ i, ∃ v, (t.chan i).cfg = { (s.chan i).cfg with protMin := v }) :
    t.worksUnder c := by
  obtain ⟨snapshot, channels⟩ := w
  refine ⟨(snapshot_of_outside h hb _).trans snapshot, fun i => ?_⟩
  obtain ⟨v, hv⟩ := hc i
  rw [hv]
  exact channels i

theorem configured_of_unshared (h : t.unshared = s.unshared) : t.budget.configured = s.budget.configured := by
  simp only [State.unshared, Prod.mk.injEq, LoadBudget.mk.injEq] at h
  simp only [h]

theorem State.worksUnder.of_unshared (w : s.worksUnder c) (h : t.outsideBudget = s.outsideBudget) (hu : t.unshared = s.unshared) :
    t.worksUnder c :=
  w.of_outside h (configured_of_unshared hu) fun i => ⟨_, chan_cfg_of_unshared hu i⟩

theorem State.worksUnder.notice (w : s.worksUnder c) (k : NoticeKind) (n : Nat) (b : Bytes) : (raise k n b s).worksUnder c :=
  w.of_unshared (raise_outside s k n b) (raise_unshared s k n b)

theorem State.worksUnder.setBudget (w : s.worksUnder c) (b : LoadBudget) (hb : b.configured = s.budget.configured)
    (hc : b.channels = s.budget.channels) : (s.setBudget b).worksUnder c :=
  w.of_outside rfl hb fun i => ⟨_, congrArg (fun t => (look t i).cfg) hc⟩

theorem State.worksUnder.putChan (w : s.worksUnder c) (i : Fin 128) (x : Channel) (v : Nat)
    (hx : x.cfg = { (s.chan i).cfg with protMin := v }) : (s.putChan i x).worksUnder c := by
  refine w.of_outside rfl rfl fun j => ?_
  by_cases hj : i = j
  · subst hj
    exact ⟨v, by rw [chan_putChan_self]; exact hx⟩
  · exact ⟨_, by rw [chan_putChan_ne s x hj]⟩

theorem State.worksUnder.handOver (w : s.worksUnder c) (cause : ShedCause) : (handOver cause s).worksUnder c :=
  w.of_unshared (handOver_outside s cause) (handOver_unshared s cause)

theorem State.worksUnder.targetChange (w : s.worksUnder c) (i : Fin 128) (r : Role) (o v : Nat) (m : Bool) :
    (targetChange i r o v m s).worksUnder c := by
  refine w.of_outside (targetChange_outside s i r o v m) ?_ fun j => ⟨_, targetChange_cfg s i j r o v m⟩
  by_cases hb : (s.chan i).boundTo r o = true
  · by_cases hr : r = .unused
    · subst hr
      simp [Machine.targetChange]
    · rw [configured_of_unshared (targetChange_unshared hb hr v m)]
      rfl
  · rw [targetChange_of_not_bound (by simpa using hb)]

theorem State.worksUnder.protect (w : s.worksUnder c) : (protect s).worksUnder c := by
  unfold Machine.protect
  exact w.setBudget _ rfl rfl

theorem State.worksUnder.ceil (w : s.worksUnder c) : (ceil s).worksUnder c := by
  unfold Machine.ceil
  exact w.setBudget _ rfl rfl

theorem State.worksUnder.figure (w : s.worksUnder c) : (figure s).worksUnder c := by
  unfold Machine.figure
  exact w.setBudget _ rfl rfl

theorem State.worksUnder.reprotect (w : s.worksUnder c) : (reprotect s).worksUnder c := by
  unfold Machine.reprotect
  exact w.protect.figure.handOver _

theorem State.worksUnder.protectedMinimum (w : s.worksUnder c) (i : Fin 128) (z v : Nat) : (protectedMinimum i z v s).worksUnder c := by
  obtain ⟨-, e⟩ | ⟨-, -, e⟩ | ⟨-, x, hx, -, e⟩ := protectedMinimum_cases s i z v
  · rw [e]; exact w
  · rw [e]; exact w
  · rw [e]; exact (w.putChan i x v hx).reprotect

theorem State.worksUnder.setLighting (w : s.worksUnder c) (l : Lighting) (h : ∀ z, (look l.zones z).cfg = (s.light z).cfg) :
    (s.setLighting l).worksUnder c := by
  have lights : l.zones.map (·.cfg) = s.lighting.zones.map (·.cfg) :=
    table_ext fun z => by rw [look_map, look_map]; exact h z
  obtain ⟨snapshot, channels⟩ := w
  refine ⟨Eq.trans ?_ snapshot, channels⟩
  unfold State.snapshot
  dsimp only [State.setLighting]
  rw [lights]

theorem worksUnder_lighting (c : Snapshot) : LightingClosed (State.worksUnder c) where
  zones z :=
    { target := fun i v s _ w => w.targetChange i .light z v false
      minimum := fun i v s _ _ w => w.protectedMinimum i z v
      light := fun x s hx w => w.setLighting _ fun y => by
        rw [look_upd]
        split
        · next h => rw [← h]; exact hx
        · rfl }
  unit _ l h w := w.setLighting l h
  notice k n b _ w := w.notice k n b

/-! ### The start of the units -/

theorem State.worksUnder.startUpChannel (w : s.worksUnder c) (i : Fin 128) : (startUpChannel i s).worksUnder c := by
  unfold Machine.startUpChannel
  dsimp only
  split
  · exact State.worksUnder.notice (w.putChan i { s.chan i with tripped := true } (s.chan i).cfg.protMin rfl) _ _ _
  · exact w.putChan i _ (s.chan i).cfg.protMin rfl

theorem State.worksUnder.budgetStart (w : s.worksUnder c) : (budgetStart s).worksUnder c := by
  unfold Machine.budgetStart
  have started : (forEach (indices 128) Machine.startUpChannel s).worksUnder c :=
    forEach_keeps (fun i _ wu => wu.startUpChannel i) _ _ w
  exact started.protect.ceil.figure.handOver _

theorem State.worksUnder.startUpNotices (w : s.worksUnder c) (r : Except StoreReason Snapshot) : (startUpNotices r s).worksUnder c := by
  unfold Machine.startUpNotices
  dsimp only
  cases r with
  | ok _ =>
    dsimp only
    split
    · exact (w.notice _ _ _).notice _ _ _
    · exact w.notice _ _ _
  | error _ =>
    dsimp only
    split
    · exact ((w.notice _ _ _).notice _ _ _).notice _ _ _
    · exact (w.notice _ _ _).notice _ _ _

theorem startPoint_used (used : Bool) (time : Nat) : ((startPoint used time).state != .unused) = used := by
  cases used <;> rfl

theorem startClimate_pointConfig (c : Snapshot) : (startClimate c).pointConfig = c.points := by
  have temps : (startClimate c).temps.map (fun p => p.state != .unused) = c.points.tempUsed :=
    table_ext fun p => by rw [look_map, startClimate, look_ofFn, startPoint_used]
  have exhausts : (startClimate c).exhausts.map (fun p => p.state != .unused) = c.points.exhaustUsed :=
    table_ext fun p => by rw [look_map, startClimate, look_ofFn, startPoint_used]
  unfold Climate.pointConfig
  rw [temps, exhausts]
  rfl

/-- A fresh state works under the configuration it was given. -/
theorem afresh_snapshot (s : State) (st : Stage) (c : Snapshot) (store : SettingStore) : (s.afresh st c store).snapshot = c := by
  have channels : (s.afresh st c store).budget.channels.map (·.cfg) = c.channels :=
    table_ext fun i => by simp [State.afresh, State.fresh, startBudget, startChannel]
  have doors : (s.afresh st c store).dock.doors.map (·.cfg) = c.doors :=
    table_ext fun d => by simp [State.afresh, State.fresh, startDock, startDoor]
  have zones : (s.afresh st c store).climate.zones.map (·.cfg) = c.zones :=
    table_ext fun z => by simp [State.afresh, State.fresh, startClimate, startZone]
  have lights : (s.afresh st c store).lighting.zones.map (·.cfg) = c.lights :=
    table_ext fun z => by simp [State.afresh, State.fresh, startLighting, startLight]
  have points : (s.afresh st c store).climate.pointConfig = c.points := startClimate_pointConfig c
  unfold State.snapshot
  rw [channels, doors, zones, lights, points]
  rfl

theorem worksUnder_of_snapshot (h : s.snapshot = c) : s.worksUnder c := by
  refine ⟨by rw [h], fun i => ?_⟩
  have channel : look c.channels i = (s.chan i).cfg := by
    rw [← h, State.snapshot, look_map]
    rfl
  rw [channel]

/-- The part comes out of a load with the configuration that was installed. -/
theorem finishLoading_worksUnder (answers : Bool) (s : State) :
    (finishLoading answers s).worksUnder (loadedSnapshot (loadImage answers s.store.image)) := by
  unfold finishLoading
  dsimp only
  refine (worksUnder_lighting _).lightingStart (State.worksUnder.budgetStart (State.worksUnder.startUpNotices ?_ _))
  refine worksUnder_of_snapshot (Eq.trans ?_ (afresh_snapshot s .running (loadedSnapshot (loadImage answers s.store.image)) s.store))
  rfl

theorem loadImage_written (c : Snapshot) : loadImage true c.written = .ok c := by
  simp [loadImage]

theorem exec_storeLoadComplete_of_loading (h : s.stage = .loading) (answers : Bool) :
    exec (.storeLoadComplete answers) s = .next (finishLoading answers s) := if_pos h

/-- Settles O59: the image a SAVE writes is the snapshot with its CRC, which the load accepts and installs. -/
theorem savedConfigurationComesBack : Obligations.SavedConfigurationComesBack := by
  intro s s1 s2 s3 s4 tag rest h hs saved ended powered loaded
  obtain ⟨-, saves, ends, -, -⟩ := saveWritesTheSnapshot
  have started : s1.stage = .running ∧ s1.store.saving = some (s.snapshot, s.plan.digest) := by
    obtain rfl := Host.Outcome.next.inj (saved.symm.trans (saves s tag rest h hs))
    exact ⟨h.1, rfl⟩
  obtain ⟨t, run, store, -⟩ := ends s1 _ _ started.1 started.2
  obtain rfl := Host.Outcome.next.inj (run.symm.trans ended)
  obtain rfl : powerUp t = s3 := Host.Outcome.next.inj powered
  have image : (powerUp t).store.image = s.snapshot.written := by
    unfold powerUp
    rw [store]
    rfl
  obtain rfl := Host.Outcome.next.inj ((exec_storeLoadComplete_of_loading rfl true).symm.trans loaded)
  obtain ⟨snapshot, channels⟩ := finishLoading_worksUnder true (powerUp t)
  rw [image, loadImage_written] at snapshot channels
  refine ⟨snapshot, fun i => ?_⟩
  have channel : look s.snapshot.channels i = (s.chan i).cfg := look_map _ _ _
  rw [← channel]
  exact channels i

end Sys2Proof.Machine
end

section
/-! What the units do to the notice queue: they raise notices behind what it holds, under the level that stands (R167, R168). -/

namespace Sys2Proof.Machine

variable {s t u : State}

/-- The notice queue of u is that of s with notices behind it, and the rest of the line, its level too, stands. -/
def State.Follows (s u : State) : Prop := s.line.notices <+: u.line.notices ∧ u.line.forgetNotices = s.line.forgetNotices

theorem State.Follows.refl (s : State) : s.Follows s := ⟨List.prefix_rfl, rfl⟩

theorem State.Follows.trans (h : s.Follows t) (h' : t.Follows u) : s.Follows u := ⟨h.1.trans h'.1, h'.2.trans h.2⟩

theorem State.Follows.of_line (h : s.Follows t) (hl : u.line = t.line) : s.Follows u := by
  unfold State.Follows at *
  rwa [hl]

theorem State.Follows.level (h : s.Follows t) : t.line.level = s.line.level := (congrArg Line.level h.2 :)
theorem State.Follows.sent (h : s.Follows t) : t.line.sent = s.line.sent := (congrArg Line.sent h.2 :)

theorem join_forgetNotices (l : Line) (n : Notice) : (l.join n).forgetNotices = l.forgetNotices := by
  unfold Line.join
  split <;> rfl

theorem State.Follows.raise (h : s.Follows t) (k : NoticeKind) (n : Nat) (b : Bytes) : s.Follows (raise k n b t) := by
  refine h.trans ?_
  unfold State.Follows
  rw [raise_line]
  split
  · exact ⟨join_prefix _ _, join_forgetNotices _ _⟩
  · exact ⟨List.prefix_rfl, rfl⟩

theorem State.Follows.budget (s : State) : BudgetClosed s.Follows where
  budget _ _ h := h
  notice k n b _ h := h.raise k n b
  shed _ h := h
  curtain d v u h := h.of_line (setCurtainRunning_line d v u)

theorem State.Follows.units (s : State) : UnitClosed s.Follows where
  target i r o v m _ h := (State.Follows.budget s).targetChange i r o v m h
  minimum i z v _ h := (State.Follows.budget s).protectedMinimum i z v h
  profile _ h := (State.Follows.budget s).profileChanged h
  notice k n b _ h := h.raise k n b
  dock _ _ h := h
  climate _ _ h := h
  lighting _ _ h := h
  plan _ _ h := h
  draw _ h := h

theorem State.raised.follows {n : Notice} (h : s.raised t n) (hu : t.Follows u) : s.raised u n := h.mono hu.1

/-- A notice that is raised on the way is reported, if the queue has room at the end. -/
theorem reports_of_raise {k : NoticeKind} {n : Nat} {b : Bytes} (h : s.Follows t) (hu : (raise k n b t).Follows u) :
    s.reports u ⟨k, t.plan.clock, n, b⟩ := by
  intro passes room
  have level : u.line.level = t.line.level := (((State.Follows.refl t).raise k n b).trans hu).level
  have admitted : t.admits k := by
    refine ⟨level ▸ passes, lt_of_le_of_lt ?_ room⟩
    exact (((State.Follows.refl t).raise k n b).trans hu).1.length_le
  obtain ⟨rest, hrest⟩ := hu.1
  obtain ⟨mid, hmid⟩ := h.1
  unfold State.joined
  rw [← hrest, raise_notices, if_pos admitted, ← hmid, List.append_assoc, List.append_assoc, List.drop_left]
  simp

/-! ### The kinds of notice an operation raises -/

/-- Between s and t notices of these kinds alone were raised. -/
def State.RaisesOnly (K : NoticeKind → Prop) (s t : State) : Prop :=
  ∃ l, t.line.notices = s.line.notices ++ l ∧ ∀ n ∈ l, K n.kind

variable {K : NoticeKind → Prop}

theorem State.RaisesOnly.of_line (h : s.RaisesOnly K t) (hl : u.line = t.line) : s.RaisesOnly K u := by
  unfold State.RaisesOnly at *
  rwa [hl]

theorem State.RaisesOnly.refl (s : State) : s.RaisesOnly K s := ⟨[], (List.append_nil _).symm, fun _ h => absurd h List.not_mem_nil⟩

theorem State.RaisesOnly.trans (h : s.RaisesOnly K t) (h' : t.RaisesOnly K u) : s.RaisesOnly K u := by
  obtain ⟨l, hl, hk⟩ := h
  obtain ⟨l', hl', hk'⟩ := h'
  exact ⟨l ++ l', by rw [hl', hl, List.append_assoc], fun n hn => (List.mem_append.mp hn).elim (hk n) (hk' n)⟩

theorem State.RaisesOnly.raise (h : s.RaisesOnly K t) {k : NoticeKind} (hk : K k) (n : Nat) (b : Bytes) : s.RaisesOnly K (raise k n b t) := by
  refine h.trans ?_
  unfold State.RaisesOnly
  rw [raise_notices]
  split
  · exact ⟨_, rfl, fun m hm => by rw [List.mem_singleton.mp hm]; exact hk⟩
  · exact ⟨[], (List.append_nil _).symm, fun _ hm => absurd hm List.not_mem_nil⟩

theorem State.RaisesOnly.joined (h : s.RaisesOnly K t) {n : Notice} (hn : n ∈ s.joined t) : K n.kind := by
  obtain ⟨l, hl, hk⟩ := h
  unfold State.joined at hn
  rw [hl, List.drop_left] at hn
  exact hk n hn

theorem State.RaisesOnly.isPrefix (h : s.RaisesOnly K t) : s.line.notices <+: t.line.notices := by
  obtain ⟨l, hl, -⟩ := h
  exact ⟨l, hl.symm⟩

end Sys2Proof.Machine
end

section
/-! What a walk does at each channel, and the events that end in one: the channel timers, the trip samples and ACK TRIP (R44 to R51, R75
to R81). -/

namespace Sys2Proof.Machine

variable {s t : State} {i j : Fin 128}

/-! ### The end of an event -/

@[simp] theorem endEvent_chan (s : State) (i : Fin 128) : (endEvent s).chan i = s.chan i := by
  unfold endEvent
  rw [settleTight_chan, settleShed_chan]

theorem arbitrate_chan (s : State) (i : Fin 128) : (arbitrate s).chan i = (walk s).chan i := by
  rw [arbitrate_eq, endEvent_chan]

/-! ### A step-up (R44) -/

/-- The channel after a step-up of k steps, before its entry is looked after (R44). -/
def State.steppedUp (s : State) (i : Fin 128) (k : Nat) : Channel :=
  let x : Channel := { s.chan i with
    minOnT := startTimer (s.chan i).cfg.minOn, serial := satAdd Config.max32 s.budget.lastSerial 1, granted := (s.chan i).granted + k }
  { x with out := x.command }

/-- The upkeep of the queue asks the plant-stop state alone where an entry exists. -/
theorem entryKept_of_entry {c : Channel} {e : QueueEntry} (h : c.entry = some e) :
    s.entryKept false c = if c.wantsEntry s.stop.state then some e else none := by
  unfold State.entryKept
  rw [h]
  rfl

theorem stepUp_chan_self {e : QueueEntry} (h : (s.chan i).entry = some e) (k : Nat) :
    (stepUp i k s).chan i
      = { s.steppedUp i k with entry := if (s.steppedUp i k).wantsEntry s.stop.state then some e else none } := by
  unfold stepUp
  dsimp only
  have granted : (setGranted i ((s.chan i).granted + k) (takeSerial i (s.putChan i { s.chan i with
      minOnT := startTimer (s.chan i).cfg.minOn }))).chan i = s.steppedUp i k := by
    rw [setGranted_chan, chan_putChan_self, takeSerial_chan, chan_putChan_self, chan_putChan_self]
    rfl
  have kept (u : State) := entryKept_of_entry (s := u) (c := s.steppedUp i k) (e := e) h
  rw [keepEntry_chan false i (by rw [granted]; rfl), granted, kept, setGranted_stop]
  rfl

theorem stepUp_chan_ne (h : i ≠ j) (k : Nat) (s : State) : (stepUp i k s).chan j = s.chan j := by
  unfold stepUp
  dsimp only
  rw [keepEntry_chan_ne h, setGranted_chan_ne h, takeSerial_chan_ne h, chan_putChan_ne _ _ h]

theorem keepEntry_lastSerial (m : Bool) (i : Fin 128) (s : State) : (keepEntry m i s).budget.lastSerial = s.budget.lastSerial := by
  obtain e | ⟨e, -⟩ := keepEntry_cases m i s
  · rw [e]
    rfl
  · rw [e]

theorem stepUp_lastSerial (i : Fin 128) (k : Nat) (s : State) :
    (stepUp i k s).budget.lastSerial = satAdd Config.max32 s.budget.lastSerial 1 := by
  unfold stepUp
  dsimp only
  rw [keepEntry_lastSerial, setGranted_budget]
  rfl

/-! ### What a walk can do at a channel -/

/-- What a walk leaves a channel that it finds as c: what it is asked for and its min-off timer stand, and min-on where it waits for
nothing; it holds no less, its entry stands or goes, and one that stands in neither set, or is held, is not touched (R79 to R81). -/
structure Channel.WalkedTo (c d : Channel) : Prop where
  asked : d.asked = c.asked
  minOff : d.minOffT = c.minOffT
  granted : c.granted ≤ d.granted
  entry : d.entry = c.entry ∨ d.entry = none
  minOn : c.entry = none → d.minOnT = c.minOnT
  same : c.deficit = 0 → c.entry = none ∨ c.minOffT.isSome → d = c

theorem Channel.WalkedTo.refl (c : Channel) : c.WalkedTo c := ⟨rfl, rfl, le_rfl, .inl rfl, fun _ => rfl, fun _ _ => rfl⟩

theorem Channel.WalkedTo.trans {a b c : Channel} (x : a.WalkedTo b) (y : b.WalkedTo c) : a.WalkedTo c where
  asked := y.asked.trans x.asked
  minOff := y.minOff.trans x.minOff
  granted := x.granted.trans y.granted
  entry := y.entry.elim (fun h => h ▸ x.entry) .inr
  minOn he := (y.minOn (x.entry.elim (fun h => h.trans he) id)).trans (x.minOn he)
  same hd he := by
    obtain rfl := x.same hd he
    exact y.same hd he

theorem lightVisit_chan_ne (h : i ≠ j) (s : State) : (lightVisit i s).chan j = s.chan j := by
  unfold lightVisit
  dsimp only
  split
  · rfl
  · rw [takeSerial_chan_ne h, chan_putChan_ne _ _ h]

theorem lightVisit_walked (i j : Fin 128) (s : State) : (s.chan j).WalkedTo ((lightVisit i s).chan j) := by
  by_cases h : i = j
  · subst h
    unfold lightVisit
    dsimp only
    split
    · exact .refl _
    · next hg =>
      rw [takeSerial_chan, chan_putChan_self, chan_putChan_self]
      exact ⟨rfl, rfl, Nat.le_add_right _ _, .inl rfl, fun _ => rfl, fun hd => absurd (by rw [hd, Nat.zero_min]) hg⟩
  · rw [lightVisit_chan_ne h]
    exact .refl _

theorem stepUp_walked {e : QueueEntry} (h : (s.chan i).entry = some e) (hm : (s.chan i).minOffT.isSome = false) (k : Nat) (j : Fin 128) :
    (s.chan j).WalkedTo ((stepUp i k s).chan j) := by
  by_cases hj : i = j
  · subst hj
    rw [stepUp_chan_self h]
    refine ⟨rfl, rfl, Nat.le_add_right _ _, ?_, fun he => ?_, fun _ he => ?_⟩
    · rw [h]
      dsimp only
      split
      · exact .inl rfl
      · exact .inr rfl
    · rw [h] at he
      cases he
    · rw [h, hm] at he
      simp at he
  · rw [stepUp_chan_ne hj]
    exact .refl _

theorem visitQueue_walked (l : List (Fin 128)) (j : Fin 128) (s : State) : (s.chan j).WalkedTo ((visitQueue l s).chan j) := by
  induction l generalizing s with
  | nil => exact .refl _
  | cons i rest ih =>
    unfold visitQueue
    dsimp only
    cases he : (s.chan i).entry with
    | none => exact ih s
    | some e =>
      by_cases hm : (s.chan i).heldEntry = true
      · simp only [hm, if_true]
        exact ih s
      · have step (k : Nat) := stepUp_walked he (by simpa [Channel.heldEntry] using hm) k j
        have part : (s.chan j).WalkedTo ((if 0 < s.payable (s.chan i) then stepUp i (s.payable (s.chan i)) s else s).chan j) := by
          split
          · exact step _
          · exact .refl _
        simp only [hm, Bool.false_eq_true, if_false]
        split
        · exact (step _).trans (ih _)
        · split
          · exact part
          · exact part.trans (ih _)

theorem forEach_walked (l : List (Fin 128)) (j : Fin 128) (s : State) : (s.chan j).WalkedTo ((forEach l lightVisit s).chan j) :=
  forEach_keeps (I := fun u => (s.chan j).WalkedTo (u.chan j)) (fun i u hu => hu.trans (lightVisit_walked i j u)) l s (.refl _)

theorem walk_walked (j : Fin 128) (s : State) : (s.chan j).WalkedTo ((walk s).chan j) :=
  (forEach_walked _ j s).trans (visitQueue_walked _ j _)

theorem arbitrate_walked (j : Fin 128) (s : State) : (s.chan j).WalkedTo ((arbitrate s).chan j) := by
  rw [arbitrate_chan]
  exact walk_walked j s

/-- A step channel without an entry is left by the arbiter as it stands. -/
theorem arbitrate_chan_of_unqueued (hr : (s.chan j).cfg.role.isStep = true) (he : (s.chan j).entry = none) :
    (arbitrate s).chan j = s.chan j :=
  (arbitrate_walked j s).same (deficit_of_not_light (by rintro hl; rw [hl] at hr; cases hr)) (.inl he)

/-! ### The timers (R45, R46, R77) -/

theorem isStep_ne_light {r : Role} (h : r.isStep = true) : r ≠ .light := by
  rintro rfl
  cases h

/-- A release leaves its channel the steps of its target, with min-off started (R45). -/
theorem release_chan (hr : (s.chan i).cfg.role.isStep = true) :
    ((release i s).chan i).granted = (s.chan i).target ∧ ((release i s).chan i).minOnT = (s.chan i).minOnT
      ∧ ((release i s).chan i).minOffT = startTimer (s.chan i).cfg.minOff := by
  unfold release
  dsimp only
  have let_go : ∃ e o, (keepEntry false i (setGranted i (s.chan i).target (s.putChan i { s.chan i with
      minOffT := startTimer (s.chan i).cfg.minOff }))).chan i
        = { s.chan i with minOffT := startTimer (s.chan i).cfg.minOff, granted := (s.chan i).target, entry := e, out := o } ∧ e = none := by
    obtain ⟨o, hc, -⟩ := keepEntry_chan_self false i (setGranted i (s.chan i).target (s.putChan i { s.chan i with
      minOffT := startTimer (s.chan i).cfg.minOff }))
    rw [setGranted_chan, chan_putChan_self, chan_putChan_self] at hc
    refine ⟨_, o, hc, ?_⟩
    simp [State.entryKept, Channel.wantsEntry]
  obtain ⟨e, o, hc, he⟩ := let_go
  rw [arbitrate_chan_of_unqueued (by rw [hc]; exact hr) (by rw [hc]; exact he), hc]
  exact ⟨rfl, rfl, rfl⟩

theorem startTimer_eq (n : Nat) : startTimer n = if n = 0 then none else some n := by
  rfl

theorem exec_urgencyExpiry_of_reached {e : QueueEntry} (hs : s.stage = .running) (he : (s.chan i).entry = some e) (hu : e.urgent = false)
    (ha : s.urgencyTime (s.chan i) ≤ e.age) :
    exec (.urgencyExpiry i) s = .next (arbitrate (s.putChan i { s.chan i with entry := some { e with urgent := true } })) := by
  change execUrgencyExpiry i s = _
  unfold execUrgencyExpiry
  refine whenRunning_runs hs ?_
  simp [urgencyReached, he, hu, ha]

/-- Settles O36: a timer that has run out is stopped, and the walk it calls leaves timers alone and takes no grant away. -/
theorem channelTimersExpire : Obligations.ChannelTimersExpire := by
  refine ⟨fun s i hs hd hg => ?_, fun s i hs hd hg hr => ?_, fun s i hs hd => ?_, fun s i e hs he hu ha => ?_, fun s i hs => ⟨fun hd => ?_, fun hd => ?_, fun hn => ?_⟩⟩
  · change execMinOnExpiry i s = _
    unfold execMinOnExpiry
    refine whenRunning_runs hs ?_
    rw [if_pos hd]
    unfold minOnExpired
    simp [Nat.not_lt.mpr hg]
  · refine ⟨release i (s.putChan i { s.chan i with minOnT := none }), ?_, ?_⟩
    · change execMinOnExpiry i s = _
      unfold execMinOnExpiry
      refine whenRunning_runs hs ?_
      rw [if_pos hd]
      unfold minOnExpired
      simp [hg, hr]
    · obtain ⟨granted, minOn, minOff⟩ := release_chan (s := s.putChan i { s.chan i with minOnT := none }) (i := i)
        (by rw [chan_putChan_self]; exact hr)
      rw [granted, minOn, minOff, chan_putChan_self, startTimer_eq]
      exact ⟨rfl, rfl, rfl⟩
  · refine ⟨_, exec_minOffExpiry hs hd, ?_⟩
    have walked := arbitrate_walked i (s.putChan i { s.chan i with minOffT := none })
    rw [chan_putChan_self] at walked
    exact ⟨walked.minOff, walked.granted⟩
  · refine ⟨_, exec_urgencyExpiry_of_reached hs he hu ha, fun e' he' => ?_⟩
    have walked := (arbitrate_walked i (s.putChan i { s.chan i with entry := some { e with urgent := true } })).entry
    rw [he', chan_putChan_self] at walked
    obtain h | h := walked
    · obtain rfl : e' = { e with urgent := true } := Option.some.inj h
      rfl
    · cases h
  · change execMinOnExpiry i s = _
    unfold execMinOnExpiry
    exact whenRunning_idle (if_neg hd)
  · change execMinOffExpiry i s = _
    unfold execMinOffExpiry
    exact whenRunning_idle (if_neg hd)
  · change execUrgencyExpiry i s = _
    unfold execUrgencyExpiry
    refine whenRunning_idle ?_
    unfold urgencyReached
    cases he : (s.chan i).entry with
    | none => rfl
    | some e =>
      obtain hu | ha := hn e he
      · simp [hu]
      · simp [Nat.not_le.mpr ha]

/-! ### Trips (R50, R51) -/

theorem state_eq_tripped {c : Channel} : c.state = .tripped ↔ c.cfg.role.isStep = true ∧ c.tripped = true := by
  unfold Channel.state
  cases hr : c.cfg.role with
  | unused => simp [Role.isStep]
  | light =>
    simp only [Role.isStep, Bool.false_eq_true, false_and, iff_false]
    split <;> simp
  | heater | fan | curtain | docklight =>
    simp only [Role.isStep, true_and]
    cases c.tripped with
    | true => simp
    | false =>
      simp only [Bool.false_eq_true, if_false, iff_false]
      split
      · simp
      · split <;> simp

/-- A trip as the event leaves it: nothing held, no entry, no timer, and the notice raised before the walk (R50). -/
theorem trip_chan (hr : (s.chan i).cfg.role.isStep = true) :
    ∃ o, (trip i s).chan i
      = { s.chan i with tripped := true, entry := none, minOnT := none, minOffT := none, granted := 0, out := o } := by
  unfold trip
  dsimp only
  have tripped : (raise .channelTripped i (tripData (s.chan i) (s.chan i).granted) (setGranted i 0 (s.putChan i { s.chan i with
      tripped := true, entry := none, minOnT := none, minOffT := none }))).chan i
        = { s.chan i with tripped := true, entry := none, minOnT := none, minOffT := none, granted := 0, out :=
            Channel.command { s.chan i with tripped := true, entry := none, minOnT := none, minOffT := none, granted := 0 } } := by
    rw [raise_chan, setGranted_chan, chan_putChan_self, chan_putChan_self]
    rfl
  exact ⟨_, by rw [arbitrate_chan_of_unqueued (by rw [tripped]; exact hr) (by rw [tripped]), tripped]⟩

theorem trip_raised (ha : s.admits .channelTripped) :
    s.raised (trip i s) ⟨.channelTripped, s.plan.clock, i, tripData (s.chan i) (s.chan i).granted⟩ := by
  unfold trip
  dsimp only
  have clock (u : State) : (setGranted i 0 u).plan.clock = u.plan.clock :=
    (congrArg PlanUnit.clock (plan_of_outside (setGranted_outside u i 0)) :)
  refine State.raised.follows ?_ ((State.Follows.budget _).arbitrate (.refl _))
  refine raise_raised ?_ ?_ _ _ ha
  · rw [setGranted_line]
    rfl
  · rw [clock]
    rfl

theorem tripIfAsserted_of_not (h : (s.chan i).tripsNow = false) : tripIfAsserted i s = s := by
  unfold tripIfAsserted
  rw [h]
  rfl

theorem entryKept_isSome (s : State) (m : Bool) (c : Channel) : (s.entryKept m c).isSome = c.wantsEntry s.stop.state := by
  unfold State.entryKept
  cases c.wantsEntry s.stop.state with
  | false => rfl
  | true => cases c.entry <;> rfl

/-- An acknowledged channel has its min-off time before it, which holds its entry (R51). -/
theorem acknowledge_chan (hr : (s.chan i).cfg.role.isStep = true) :
    ((acknowledge i s).chan i).tripped = false ∧ ((acknowledge i s).chan i).target = (s.chan i).target
      ∧ ((acknowledge i s).chan i).minOffT = startTimer (s.chan i).cfg.minOff
      ∧ ((s.chan i).cfg.minOff ≠ 0 → ((acknowledge i s).chan i).granted = (s.chan i).granted
          ∧ (((acknowledge i s).chan i).entry.isSome ↔ (s.chan i).granted < (s.chan i).target ∧ s.stop.state = .running)) := by
  unfold acknowledge
  dsimp only
  generalize hu : keepEntry false i (s.putChan i { s.chan i with tripped := false, minOffT := startTimer (s.chan i).cfg.minOff }) = u
  have waiting : ∃ o, u.chan i = { s.chan i with
      tripped := false, minOffT := startTimer (s.chan i).cfg.minOff
      entry := (s.putChan i { s.chan i with tripped := false, minOffT := startTimer (s.chan i).cfg.minOff }).entryKept false
        { s.chan i with tripped := false, minOffT := startTimer (s.chan i).cfg.minOff,
                        out := Channel.command { s.chan i with tripped := false, minOffT := startTimer (s.chan i).cfg.minOff } }
      out := o } := by
    obtain ⟨o, hc, -⟩ := keepEntry_chan_self false i
      (s.putChan i { s.chan i with tripped := false, minOffT := startTimer (s.chan i).cfg.minOff })
    rw [chan_putChan_self, hu] at hc
    exact ⟨o, hc⟩
  obtain ⟨o, hc⟩ := waiting
  have walked := arbitrate_walked i u
  have asked := walked.asked
  simp only [Channel.asked, Prod.mk.injEq] at asked
  obtain ⟨-, target, -, tripped⟩ := asked
  refine ⟨tripped.trans (by rw [hc]), target.trans (by rw [hc]), walked.minOff.trans (by rw [hc]), fun hm => ?_⟩
  have held : (u.chan i).minOffT.isSome = true := by
    rw [hc, startTimer_eq, if_neg hm]
    rfl
  have step : (u.chan i).cfg.role ≠ .light := by
    rw [hc]
    exact isStep_ne_light hr
  rw [walked.same (deficit_of_not_light step) (.inr held), hc]
  exact ⟨rfl, by rw [entryKept_isSome]; simp [Channel.wantsEntry, hr]⟩

theorem exec_tripSample (hs : s.stage = .running) (i : Fin 128) (level : Bool) :
    exec (.tripSample i level) s = .next (tripSampled i level s) := if_pos hs

theorem tripSample_trips (hs : s.stage = .running) (hr : (s.chan i).cfg.role.isStep = true) (hu : (s.chan i).cfg.tripUsed = true)
    (ht : (s.chan i).tripped = false) :
    exec (.tripSample i true) s = .next (trip i (s.putChan i { s.chan i with tripIn := true })) := by
  rw [exec_tripSample hs]
  unfold tripSampled tripIfAsserted
  rw [if_pos]
  rw [chan_putChan_self]
  simp [Channel.tripsNow, hr, hu, ht]

theorem tripSample_records (hs : s.stage = .running) {level : Bool}
    (hn : level = false ∨ (s.chan i).tripped = true ∨ (s.chan i).cfg.tripUsed = false ∨ (s.chan i).cfg.role.isStep = false) :
    exec (.tripSample i level) s = .next (s.putChan i { s.chan i with tripIn := level }) := by
  rw [exec_tripSample hs]
  unfold tripSampled
  rw [tripIfAsserted_of_not]
  rw [chan_putChan_self]
  obtain rfl | h | h | h := hn <;> simp [Channel.tripsNow, *]

section AckTrip

variable {tag n : Byte} {rest : List Frame} (h : s.takes ⟨tag, 0x2A, [n]⟩ rest)
include h

theorem ackTrip_outOfRange (hn : 128 ≤ n.toNat) : exec (.ackTrip tag [n]) s = .next (s.answered rest tag 0x2A [0x12]) := by
  change request 0x2A tag [n] _ s = _
  refine request_answers (n := 1) (by decide) rfl h ?_
  rw [index?_none (show 128 ≤ u8 [n] 0 from hn)]

theorem ackTrip_notTripped (hi : n.toNat = i) (ht : (s.chan i).state ≠ .tripped) :
    exec (.ackTrip tag [n]) s = .next (s.answered rest tag 0x2A (0x17 :: channelStateBytes (s.chan i))) := by
  change request 0x2A tag [n] _ s = _
  refine request_answers (n := 1) (by decide) rfl h ?_
  rw [index?_of_eq (show u8 [n] 0 = i from hi)]
  exact if_pos ht

theorem ackTrip_asserted (hi : n.toNat = i) (ht : (s.chan i).state = .tripped) (hin : (s.chan i).tripIn = true) :
    exec (.ackTrip tag [n]) s = .next (s.answered rest tag 0x2A (0x18 :: channelStateBytes (s.chan i))) := by
  change request 0x2A tag [n] _ s = _
  refine request_answers (n := 1) (by decide) rfl h ?_
  rw [index?_of_eq (show u8 [n] 0 = i from hi)]
  exact (if_neg (not_not.mpr ht)).trans (if_pos hin)

theorem ackTrip_accepted (hi : n.toNat = i) (ht : (s.chan i).state = .tripped) (hin : (s.chan i).tripIn = false) :
    exec (.ackTrip tag [n]) s = .next (sendReply tag 0x2A
      (0x00 :: channelStateBytes ((acknowledge i (s.taken rest)).chan i)) (acknowledge i (s.taken rest))) := by
  change request 0x2A tag [n] _ s = _
  refine request_runs (n := 1) (by decide) rfl h ?_
  rw [index?_of_eq (show u8 [n] 0 = i from hi)]
  exact (if_neg (not_not.mpr ht)).trans (if_neg (Bool.not_eq_true _ ▸ hin))

end AckTrip

/-- What an accepted ACK TRIP leaves, while the channel holds nothing (R51). -/
theorem ackTrip_spec {tag n : Byte} {rest : List Frame} (h : s.takes ⟨tag, 0x2A, [n]⟩ rest) (hi : n.toNat = i)
    (ht : (s.chan i).state = .tripped) (hin : (s.chan i).tripIn = false) (hg : (s.chan i).granted = 0) :
    ∃ t, exec (.ackTrip tag [n]) s = .next t ∧ s.replied t tag 0x2A (0x00 :: channelStateBytes (t.chan i))
      ∧ (t.chan i).tripped = false ∧ (t.chan i).target = (s.chan i).target
      ∧ (t.chan i).minOffT = (if (s.chan i).cfg.minOff = 0 then none else some (s.chan i).cfg.minOff)
      ∧ ((s.chan i).cfg.minOff ≠ 0 →
          (t.chan i).granted = 0 ∧ ((t.chan i).entry.isSome ↔ 0 < (s.chan i).target ∧ s.stop.state = .running)) := by
  obtain ⟨hr, -⟩ := state_eq_tripped.mp ht
  obtain ⟨tripped, target, minOff, held⟩ := acknowledge_chan (s := s.taken rest) (i := i) hr
  have sent : (acknowledge i (s.taken rest)).line.sent = s.line.sent :=
    ((State.Follows.budget _).acknowledge i (.refl (s.taken rest))).sent
  have run := ackTrip_accepted h hi ht hin
  generalize acknowledge i (s.taken rest) = u at *
  refine ⟨_, run, congrArg (· ++ [_]) sent, tripped, target, minOff.trans (startTimer_eq _), fun hm => ?_⟩
  obtain ⟨granted, entry⟩ := held hm
  rw [show ((s.taken rest).chan i).granted = 0 from hg] at granted entry
  exact ⟨granted, entry⟩

/-- Settles O37: a sample trips exactly where its trip line counts, and ACK TRIP is refused by the state and the input before it acts. -/
theorem tripsAndAcknowledgement : Obligations.TripsAndAcknowledgement := by
  refine ⟨⟨fun s i hs hr hu ht => ?_, fun s i level hs hn => tripSample_records hs hn⟩,
    fun s tag n rest i hi h hn => ackTrip_notTripped h hi hn, fun s tag n rest i hi h ht hin => ackTrip_asserted h hi ht hin,
    fun s tag n rest i hi h ht hin hg => ackTrip_spec h hi ht hin hg, fun s tag n rest hn h => ackTrip_outOfRange h hn⟩
  refine ⟨trip i (s.putChan i { s.chan i with tripIn := true }), tripSample_trips hs hr hu ht, ?_⟩
  obtain ⟨o, hc⟩ := trip_chan (s := s.putChan i { s.chan i with tripIn := true }) (i := i) (by rw [chan_putChan_self]; exact hr)
  have raised := trip_raised (s := s.putChan i { s.chan i with tripIn := true }) (i := i)
  rw [chan_putChan_self] at hc raised
  rw [hc]
  exact ⟨state_eq_tripped.mpr ⟨hr, rfl⟩, rfl, rfl, rfl, rfl, rfl, rfl, raised⟩

end Sys2Proof.Machine
end

section
/-! The walk: the orders of its two lists, what a class may take, and each visit (R44, R70 to R73, R79 to R81). -/

namespace Sys2Proof.Machine

/-! ### Sorting -/

section Sorting

variable {α : Type} {p : α → α → Bool}

theorem insertBy_perm (p : α → α → Bool) (x : α) (l : List α) : (insertBy p x l).Perm (x :: l) := by
  induction l with
  | nil => exact .refl _
  | cons y ys ih =>
    unfold insertBy
    split
    · exact .refl _
    · exact (ih.cons y).trans (.swap x y ys)

theorem sortBy_fold_perm (l acc : List α) : (l.foldl (fun acc x => insertBy p x acc) acc).Perm (l ++ acc) := by
  induction l generalizing acc with
  | nil => exact .refl _
  | cons x xs ih => exact (ih _).trans (((insertBy_perm p x acc).append_left xs).trans List.perm_middle)

theorem sortBy_perm (l : List α) : (sortBy p l).Perm l := by
  have := sortBy_fold_perm (p := p) l []
  rwa [List.append_nil] at this

/-- Within a list, p is the strict part of a weak order. -/
structure WeakOrder (p : α → α → Bool) (S : α → Prop) : Prop where
  asymm : ∀ x y, S x → S y → p x y = true → p y x = false
  weak : ∀ x y z, S x → S y → S z → p x y = true → p z y = false → p x z = true

variable [LT α]

/-- In the sorted list: an item precedes every later one, or came in before it and is not preceded by it. -/
def Sorts (p : α → α → Bool) (x y : α) : Prop := p x y = true ∨ p y x = false ∧ x < y

theorem insertBy_sorted {S : α → Prop} (w : WeakOrder p S) {x : α} {l : List α} (hx : S x) (hl : ∀ y ∈ l, S y ∧ y < x)
    (h : l.Pairwise (Sorts p)) : (insertBy p x l).Pairwise (Sorts p) := by
  induction l with
  | nil => exact List.pairwise_singleton _ _
  | cons y ys ih =>
    obtain ⟨first, rest⟩ := List.pairwise_cons.mp h
    obtain ⟨hy, before⟩ := hl y (List.mem_cons_self ..)
    have later := fun z hz => hl z (List.mem_cons_of_mem _ hz)
    unfold insertBy
    split
    · next hp =>
      refine List.pairwise_cons.mpr ⟨fun z hz => ?_, h⟩
      obtain rfl | hz := List.mem_cons.mp hz
      · exact .inl hp
      · refine .inl (w.weak x y z hx hy (later z hz).1 hp ?_)
        obtain hyz | ⟨hzy, -⟩ := first z hz
        · exact w.asymm y z hy (later z hz).1 hyz
        · exact hzy
    · next hp =>
      refine List.pairwise_cons.mpr ⟨fun z hz => ?_, ih later rest⟩
      obtain rfl | hz := List.mem_cons.mp ((insertBy_perm p x ys).mem_iff.mp hz)
      · exact .inr ⟨by simpa using hp, before⟩
      · exact first z hz

theorem sortBy_fold_sorted {S : α → Prop} (w : WeakOrder p S) (l acc : List α) (hl : l.Pairwise (· < ·)) (hs : ∀ x ∈ l, S x)
    (ha : ∀ y ∈ acc, S y ∧ ∀ x ∈ l, y < x) (h : acc.Pairwise (Sorts p)) :
    (l.foldl (fun acc x => insertBy p x acc) acc).Pairwise (Sorts p) := by
  induction l generalizing acc with
  | nil => exact h
  | cons x xs ih =>
    obtain ⟨first, rest⟩ := List.pairwise_cons.mp hl
    have hx := hs x (List.mem_cons_self ..)
    refine ih _ rest (fun y hy => hs y (List.mem_cons_of_mem _ hy)) (fun y hy => ?_)
      (insertBy_sorted w hx (fun y hy => ⟨(ha y hy).1, (ha y hy).2 x (List.mem_cons_self ..)⟩) h)
    obtain rfl | hy := List.mem_cons.mp ((insertBy_perm p x acc).mem_iff.mp hy)
    · exact ⟨hx, first⟩
    · exact ⟨(ha y hy).1, fun z hz => (ha y hy).2 z (List.mem_cons_of_mem _ hz)⟩

theorem sortBy_sorted {S : α → Prop} (w : WeakOrder p S) {l : List α} (hl : l.Pairwise (· < ·)) (hs : ∀ x ∈ l, S x) :
    (sortBy p l).Pairwise (Sorts p) :=
  sortBy_fold_sorted w l [] hl hs (fun _ hy => absurd hy List.not_mem_nil) List.Pairwise.nil

end Sorting

variable {s t : State} {i j : Fin 128}

theorem indices_rise (n : Nat) : (indices n).Pairwise (· < ·) := (List.sortedLT_finRange n).pairwise

theorem deficitPrecedes_weak (s : State) : WeakOrder (deficitPrecedes s) fun _ => True where
  asymm x y _ _ h := by
    unfold deficitPrecedes at *
    simp only [decide_eq_true_eq, decide_eq_false_iff_not] at *
    omega
  weak x y z _ _ _ h h' := by
    unfold deficitPrecedes at *
    simp only [decide_eq_true_eq, decide_eq_false_iff_not] at *
    omega

theorem deficitOrder_sorted (s : State) :
    s.deficitOrder.Pairwise fun i j =>
      (s.chan j).cfg.priority < (s.chan i).cfg.priority ∨ ((s.chan j).cfg.priority = (s.chan i).cfg.priority ∧ i < j) := by
  refine (sortBy_sorted (deficitPrecedes_weak s) ((indices_rise 128).filter _) fun _ _ => trivial).imp fun {i j} h => ?_
  obtain h | ⟨h, hij⟩ := h
  · exact .inl (by simpa [deficitPrecedes] using h)
  · have : ¬ (s.chan i).cfg.priority < (s.chan j).cfg.priority := by simpa [deficitPrecedes] using h
    by_cases hp : (s.chan j).cfg.priority = (s.chan i).cfg.priority
    · exact .inr ⟨hp, hij⟩
    · exact .inl (by omega)

/-- Of two entries: urgent first, then higher priority, then greater age (R81). -/
def EntryFirst (a b : QueueEntry) (pa pb : Nat) : Prop :=
  (a.urgent = true ∧ b.urgent = false) ∨ (a.urgent = b.urgent ∧ (pb < pa ∨ (pb = pa ∧ b.age < a.age)))

theorem entryPrecedes_iff {a b : QueueEntry} (ha : (s.chan i).entry = some a) (hb : (s.chan j).entry = some b) :
    entryPrecedes s i j = true ↔ EntryFirst a b (s.chan i).cfg.priority (s.chan j).cfg.priority := by
  unfold entryPrecedes EntryFirst
  rw [ha, hb]
  dsimp only
  cases hu : a.urgent <;> cases hv : b.urgent
  · by_cases hp : (s.chan i).cfg.priority = (s.chan j).cfg.priority
    · simp [hp]
    · simp [hp, Ne.symm hp]
  · simp
  · simp
  · by_cases hp : (s.chan i).cfg.priority = (s.chan j).cfg.priority
    · simp [hp]
    · simp [hp, Ne.symm hp]

theorem entryPrecedes_weak (s : State) : WeakOrder (entryPrecedes s) fun i => ∃ a, (s.chan i).entry = some a where
  asymm x y hx hy h := by
    obtain ⟨a, ha⟩ := hx
    obtain ⟨b, hb⟩ := hy
    rw [entryPrecedes_iff ha hb] at h
    rw [Bool.eq_false_iff, ne_eq, entryPrecedes_iff hb ha]
    unfold EntryFirst at *
    grind
  weak x y z hx hy hz h h' := by
    obtain ⟨a, ha⟩ := hx
    obtain ⟨b, hb⟩ := hy
    obtain ⟨c, hc⟩ := hz
    rw [Bool.eq_false_iff, ne_eq, entryPrecedes_iff hc hb] at h'
    rw [entryPrecedes_iff ha hb] at h
    rw [entryPrecedes_iff ha hc]
    unfold EntryFirst at *
    grind

theorem queueOrder_sorted (s : State) :
    s.queueOrder.Pairwise fun i j => ∀ a b, (s.chan i).entry = some a → (s.chan j).entry = some b →
      (a.urgent = true ∧ b.urgent = false)
        ∨ (a.urgent = b.urgent
            ∧ ((s.chan j).cfg.priority < (s.chan i).cfg.priority
                ∨ ((s.chan j).cfg.priority = (s.chan i).cfg.priority
                    ∧ (b.age < a.age ∨ (b.age = a.age ∧ i < j))))) := by
  have entries : ∀ i ∈ s.queued, ∃ a, (s.chan i).entry = some a := fun i hi =>
    Option.isSome_iff_exists.mp (by simpa using (List.mem_filter.mp hi).2)
  refine (sortBy_sorted (entryPrecedes_weak s) ((indices_rise 128).filter _) entries).imp fun {i j} h a b ha hb => ?_
  obtain h | ⟨h, hij⟩ := h
  · rw [entryPrecedes_iff ha hb] at h
    unfold EntryFirst at h
    grind
  · rw [Bool.eq_false_iff, ne_eq, entryPrecedes_iff hb ha] at h
    unfold EntryFirst at h
    grind

theorem mem_deficit_iff (c : Channel) : 0 < c.deficit ↔ c.cfg.role = .light ∧ c.granted < units c.cfg.rating c.target := by
  unfold Channel.deficit
  cases c.cfg.role <;> simp

theorem deficitMembers_eq (s : State) :
    s.deficitMembers = (indices 128).filter fun i =>
      (s.chan i).cfg.role = .light ∧ (s.chan i).granted < units (s.chan i).cfg.rating (s.chan i).target := by
  unfold State.deficitMembers
  simp only [mem_deficit_iff]

/-! ### What a class may take (R70 to R73) -/

theorem classGrant_indices (s : State) (k : LoadClass) :
    s.classGrant k
      = ((indices 128).map fun i =>
          let c := s.chan i
          if c.cfg.role.cls = some k then
            (if c.cfg.role = .light then c.granted - c.protPart s.stop.state else c.granted * c.cfg.rating)
          else 0).sum := by
  rw [classGrant_eq, sumTable_indices]
  refine congrArg List.sum (List.map_congr_left fun i _ => ?_)
  change (s.chan i).classShare s.stop.state k = _
  unfold Channel.classShare Channel.inClass Channel.nonProtected
  dsimp only
  cases hr : (s.chan i).cfg.role <;> simp [Role.cls]

theorem avail_eq (s : State) (k : LoadClass) :
    s.avail k
      = s.budget.reserve.get k - s.classGrant k
          + (if s.budget.pool * 1000 < s.budget.pool * s.profile.tight + s.poolUse * 1000 then
              min (s.budget.pool - s.poolUse) (s.fair k - s.poolUsed k)
            else s.budget.pool - s.poolUse) := by
  have free : s.free.toNat = s.budget.pool - s.poolUse := by
    unfold State.free
    omega
  have tight : s.isTight = true ↔ s.budget.pool * 1000 < s.budget.pool * s.profile.tight + s.poolUse * 1000 := by
    unfold State.isTight State.free
    rw [decide_eq_true_iff, ← Int.natCast_mul]
    omega
  unfold State.avail
  rw [free]
  simp only [tight]

/-! ### The visits -/

theorem upd_upd {α : Type} {n : Nat} (t : Table α n) (i : Fin n) (x y : α) : upd (upd t i x) i y = upd t i y :=
  table_ext fun j => by
    simp only [look_upd]
    split <;> rfl

theorem takeSerial_putChan (i : Fin 128) (c : Channel) (s : State) :
    takeSerial i (s.putChan i c)
      = (s.setBudget { s.budget with lastSerial := satAdd Config.max32 s.budget.lastSerial 1 }).putChan i
          { c with serial := satAdd Config.max32 s.budget.lastSerial 1 } := by
  have held : (s.putChan i c).chan i = { c with out := c.command } := chan_putChan_self s i c
  unfold takeSerial
  dsimp only
  rw [show ((s.putChan i c).setBudget { (s.putChan i c).budget with
    lastSerial := satAdd Config.max32 (s.putChan i c).budget.lastSerial 1 }).chan i = (s.putChan i c).chan i from rfl, held]
  unfold State.putChan
  dsimp only [State.setBudget]
  rw [upd_upd]
  rfl

theorem lightVisit_eq (hr : (s.chan i).cfg.role = .light) :
    lightVisit i s
      = (if min (units (s.chan i).cfg.rating (s.chan i).target - (s.chan i).granted) (s.avail .light) = 0 then s
         else (s.setBudget { s.budget with lastSerial := min 4294967295 (s.budget.lastSerial + 1) }).putChan i
           { s.chan i with
              granted := (s.chan i).granted + min (units (s.chan i).cfg.rating (s.chan i).target - (s.chan i).granted) (s.avail .light)
              serial := min 4294967295 (s.budget.lastSerial + 1) }) := by
  have deficit : (s.chan i).deficit = units (s.chan i).cfg.rating (s.chan i).target - (s.chan i).granted := by
    unfold Channel.deficit
    rw [hr]
  unfold lightVisit
  dsimp only
  rw [deficit]
  refine if_congr Iff.rfl rfl ?_
  rw [takeSerial_putChan]
  rfl

theorem drivenLevel_eq (hr : (s.chan i).cfg.role = .light) (hp : 0 < (s.chan i).cfg.rating) :
    (s.chan i).drivenLevel = min (s.chan i).target ((s.chan i).granted * 1000 / (s.chan i).cfg.rating) := by
  unfold Channel.drivenLevel units ceilDiv
  rw [hr]
  dsimp only
  have covered : ((s.chan i).cfg.rating * (s.chan i).target + 1000 - 1) / 1000 ≤ (s.chan i).granted
      ↔ (s.chan i).target ≤ (s.chan i).granted * 1000 / (s.chan i).cfg.rating := by
    rw [Nat.le_div_iff_mul_le hp, Nat.mul_comm (s.chan i).target]
    omega
  by_cases h : (s.chan i).target ≤ (s.chan i).granted * 1000 / (s.chan i).cfg.rating
  · rw [if_pos (covered.mpr h), Nat.min_eq_left h]
  · rw [if_neg (mt covered.mp h), Nat.min_eq_right (Nat.le_of_not_le h)]

theorem payable_eq {c : Channel} {k : LoadClass} (h : c.cfg.role.cls = some k) : s.payable c = s.avail k / c.cfg.rating := by
  unfold State.payable
  rw [h]

section Visit

variable {e : QueueEntry} (he : (s.chan i).entry = some e) (rest : List (Fin 128))
include he

theorem visitQueue_held (h : (s.chan i).minOffT.isSome) : visitQueue (i :: rest) s = visitQueue rest s := by
  rw [visitQueue]
  simp [he, Channel.heldEntry, h]

variable (hm : (s.chan i).minOffT = none)
include hm

theorem visitQueue_full (h : (s.chan i).wanted ≤ s.payable (s.chan i)) :
    visitQueue (i :: rest) s = visitQueue rest (stepUp i (s.chan i).wanted s) := by
  rw [visitQueue]
  simp [he, Channel.heldEntry, hm, h]

theorem visitQueue_part (hu : e.urgent = false) (h : s.payable (s.chan i) < (s.chan i).wanted) :
    visitQueue (i :: rest) s
      = visitQueue rest (if 0 < s.payable (s.chan i) then stepUp i (s.payable (s.chan i)) s else s) := by
  rw [visitQueue]
  simp [he, Channel.heldEntry, hm, hu, Nat.not_le.mpr h]

theorem visitQueue_stop (hu : e.urgent = true) (h : s.payable (s.chan i) < (s.chan i).wanted) :
    visitQueue (i :: rest) s = if 0 < s.payable (s.chan i) then stepUp i (s.payable (s.chan i)) s else s := by
  rw [visitQueue]
  simp [he, Channel.heldEntry, hm, hu, Nat.not_le.mpr h]

end Visit

/-- What a step-up leaves its channel (R44). -/
theorem stepUp_spec {e : QueueEntry} (hr : (s.chan i).cfg.role.isStep = true) (he : (s.chan i).entry = some e) (k : Nat) :
    let c := s.chan i
    let t := stepUp i k s
    let n := min 4294967295 (s.budget.lastSerial + 1)
    (t.chan i).granted = c.granted + k ∧ (t.chan i).out = ⟨c.granted + k, 0⟩ ∧ (t.chan i).serial = n
      ∧ t.budget.lastSerial = n ∧ (t.chan i).minOnT = (if c.cfg.minOn = 0 then none else some c.cfg.minOn)
      ∧ (t.chan i).minOffT = c.minOffT ∧ (t.chan i).asked = c.asked
      ∧ (t.chan i).entry
          = (if s.stop.state = .running ∧ c.tripped = false ∧ c.granted + k < c.target then some e else none)
      ∧ ∀ j, j ≠ i → t.chan j = s.chan j := by
  dsimp only
  have command : (s.steppedUp i k).out = ⟨(s.chan i).granted + k, 0⟩ := by
    unfold State.steppedUp Channel.command
    dsimp only
    cases h : (s.chan i).cfg.role with
    | unused | light => rw [h] at hr; cases hr
    | heater | fan | curtain | docklight => rfl
  have wants : (s.steppedUp i k).wantsEntry s.stop.state = true
      ↔ s.stop.state = .running ∧ (s.chan i).tripped = false ∧ (s.chan i).granted + k < (s.chan i).target := by
    rw [show (s.steppedUp i k).wantsEntry s.stop.state = ((s.chan i).cfg.role.isStep && !(s.chan i).tripped
      && decide ((s.chan i).granted + k < (s.chan i).target) && s.stop.state == .running) from rfl, hr]
    simp only [Bool.true_and, Bool.and_eq_true, decide_eq_true_eq, beq_iff_eq, Bool.not_eq_eq_eq_not, Bool.not_true]
    tauto
  rw [stepUp_chan_self he]
  exact ⟨rfl, command, rfl, stepUp_lastSerial i k s, rfl, rfl, rfl, if_congr wants rfl rfl, fun j hj => stepUp_chan_ne (Ne.symm hj) k s⟩

/-- Settles O31: the sort keeps the order of arrival between equals, and each visit is one branch of the walk. -/
theorem walkServesInOrder : Obligations.WalkServesInOrder := by
  refine ⟨fun s => ⟨sortBy_perm _, queueOrder_sorted s, ?_, deficitOrder_sorted s⟩, fun s k => ⟨classGrant_indices s k, avail_eq s k⟩,
    fun s i hr => ⟨lightVisit_eq hr, drivenLevel_eq hr⟩, fun s i rest e k he hk => ⟨visitQueue_held he rest, fun hm => ?_⟩,
    fun s i k e hr he => stepUp_spec hr he k, fun s => ⟨rfl, rfl⟩, fun s i hs hd => ⟨_, exec_minOffExpiry hs hd, arbitrate_chan _⟩, fun s i e hs he hu ha => ?_⟩
  · rw [← deficitMembers_eq]
    exact sortBy_perm _
  · rw [← payable_eq (s := s) hk]
    refine ⟨visitQueue_full he rest hm, fun hu h1 h => ?_, fun hu h0 h => ?_, fun hu h1 h => ?_, fun hu h0 h => ?_⟩
    · rw [visitQueue_part he rest hm hu h, if_pos (show 0 < _ from h1)]
    · rw [visitQueue_part he rest hm hu (by rw [h0]; exact h), h0, if_neg (Nat.lt_irrefl 0)]
    · rw [visitQueue_stop he rest hm hu h, if_pos (show 0 < _ from h1)]
    · rw [visitQueue_stop he rest hm hu (by rw [h0]; exact h), h0, if_neg (Nat.lt_irrefl 0)]
  · exact ⟨_, exec_urgencyExpiry_of_reached hs he hu ha, arbitrate_chan _⟩

end Sys2Proof.Machine
end

section
/-! The meter sample: its energy, the window it goes to, the figures it hands over, and the notices it raises (R56 to R69). -/

namespace Sys2Proof.Machine

variable {s t u : State}

/-! ### What a hand-over of figures leaves -/

/-- The fields of a Load Budget Unit that no grant changes, put back. -/
theorem budget_eq_of_figures {a b : LoadBudget} {x : Table Channel 128}
    (h : ({ b with channels := x, lastSerial := 0, tight := false, shed := false } : LoadBudget)
      = { a with channels := x, lastSerial := 0, tight := false, shed := false }) :
    b = { a with channels := b.channels, lastSerial := b.lastSerial, tight := b.tight, shed := b.shed } :=
  congrArg (fun y : LoadBudget => { y with channels := b.channels, lastSerial := b.lastSerial, tight := b.tight, shed := b.shed }) h

/-- A hand-over writes nothing of the Load Budget Unit but its channels, the step-up serials, the tight flag and the shed condition. -/
theorem budget_of_unshared (h : t.unshared = u.unshared) :
    t.budget = { u.budget with
      channels := t.budget.channels, lastSerial := t.budget.lastSerial, tight := t.budget.tight, shed := t.budget.shed } := by
  unfold State.unshared at h
  exact budget_eq_of_figures (Prod.mk.inj h).1

/-- The kinds of notice that a hand-over of figures raises. -/
def NoticeKind.ofHandOver (k : NoticeKind) : Prop := k = .shed ∨ k = .budgetTight ∨ k = .budgetEased

theorem shedding_raisesOnly (cause : ShedCause) (s : State) : s.RaisesOnly NoticeKind.ofHandOver (shedding cause s) := by
  unfold shedding
  dsimp only
  split
  · exact .refl s
  · exact (((State.RaisesOnly.refl s).of_line (shedLoop_line _ s)).raise (.inl rfl) _ _).of_line rfl

theorem settleTight_raisesOnly (s : State) : s.RaisesOnly NoticeKind.ofHandOver (settleTight s) := by
  unfold settleTight
  dsimp only
  split
  · exact .refl s
  · refine State.RaisesOnly.raise (t := s.setBudget { s.budget with tight := s.isTight }) ((State.RaisesOnly.refl s).of_line rfl) ?_ _ _
    split
    · exact .inr (.inl rfl)
    · exact .inr (.inr rfl)

theorem handOver_raisesOnly (cause : ShedCause) (s : State) : s.RaisesOnly NoticeKind.ofHandOver (handOver cause s) := by
  rw [handOver_eq]
  unfold endEvent
  refine .trans ?_ (settleTight_raisesOnly _)
  exact (shedding_raisesOnly cause s).of_line (by rw [settleShed_line, walk_line])

/-! ### The energy of a sample (R58, R67, R68) -/

/-- A Load Budget Unit with its energy taken and the silence counted. -/
def LoadBudget.taken (b : LoadBudget) (energy : Nat) (estimated : Bool) (silence : Nat) (silent : Bool) (estimates : Nat) : LoadBudget :=
  { b with energy := energy, estimated := estimated, silence := silence, silent := silent, estimates := estimates }

/-- The state at a meter sample, the configured limits but W active. -/
def State.sampling (s : State) : State := s.setBudget (activateLimits s.budget)

theorem takeEstimate_eq (draw : Nat) (b : LoadBudget) :
    takeEstimate draw b
      = b.taken (min 4294967295 (b.energy + (draw + b.newPu) * 10)) true b.silence b.silent (min 65535 (b.estimates + 1)) := by
  unfold takeEstimate addEnergy
  rw [Bool.or_true]
  rfl

theorem addMeasured_eq (e : Nat) (b : LoadBudget) :
    addEnergy e false b = b.taken (min 4294967295 (b.energy + e)) b.estimated b.silence b.silent b.estimates := by
  unfold addEnergy
  rw [Bool.or_false]
  rfl

/-- A sample with pulses takes the measured energy and ends every silence (R58, R69). -/
theorem sampleEnergy_of_pulses (hn : 0 < s.budget.nT) :
    sampleEnergy s.sampling
      = if s.budget.silent then
          raise .meterRestored 0 (le16 s.budget.estimates) (s.sampling.setBudget (s.sampling.budget.taken
            (min 4294967295 (s.budget.energy + s.budget.nT * s.budget.configured.wTotal * 36)) s.budget.estimated 0 false s.budget.estimates))
        else
          s.sampling.setBudget (s.sampling.budget.taken
            (min 4294967295 (s.budget.energy + s.budget.nT * s.budget.configured.wTotal * 36)) s.budget.estimated 0 false s.budget.estimates) := by
  unfold sampleEnergy
  dsimp only
  rw [if_pos (show 0 < s.sampling.budget.nT from hn), addMeasured_eq]
  rfl

section NoPulse

variable (hn : s.budget.nT = 0)
include hn

theorem no_pulse : ¬ 0 < s.sampling.budget.nT := by
  rw [show s.sampling.budget.nT = 0 from hn]
  exact Nat.lt_irrefl 0

/-- In the silent condition the estimate is taken (R67, R68). -/
theorem sampleEnergy_of_silent (hs : s.budget.silent = true) :
    sampleEnergy s.sampling
      = s.sampling.setBudget (s.sampling.budget.taken
          (min 4294967295 (s.budget.energy + (s.managedDraw + s.budget.nU * s.budget.configured.wUnmanaged * 36 / 10) * 10)) true
          s.budget.silence true (min 65535 (s.budget.estimates + 1))) := by
  unfold sampleEnergy
  dsimp only
  rw [if_neg (no_pulse hn), if_pos (show s.sampling.budget.silent = true from hs), takeEstimate_eq]
  rw [show s.sampling.budget.silent = true from hs]
  rfl

/-- At a silence count of 6 the meter falls silent, and the estimate is taken (R67). -/
theorem sampleEnergy_of_falling (hs : s.budget.silent = false) (hd : 0 < s.managedDraw) (hc : 5 ≤ s.budget.silence) :
    sampleEnergy s.sampling
      = raise .meterSilent 0 (le32 s.managedDraw ++ le32 (s.budget.nU * s.budget.configured.wUnmanaged * 36 / 10))
          (s.sampling.setBudget (s.sampling.budget.taken
            (min 4294967295 (s.budget.energy + (s.managedDraw + s.budget.nU * s.budget.configured.wUnmanaged * 36 / 10) * 10)) true
            6 true 1)) := by
  unfold sampleEnergy
  dsimp only
  rw [if_neg (no_pulse hn), if_neg (by rw [show s.sampling.budget.silent = false from hs]; simp),
    if_pos (show 0 < s.sampling.managedDraw from hd), if_pos (show 6 ≤ s.sampling.budget.silence + 1 from Nat.succ_le_succ hc),
    takeEstimate_eq]
  rfl

/-- Otherwise the silence is counted while managed load draws, and the energy stands (R67). -/
theorem sampleEnergy_of_waiting (hs : s.budget.silent = false) (hc : ¬ (0 < s.managedDraw ∧ 5 ≤ s.budget.silence)) :
    sampleEnergy s.sampling
      = s.sampling.setBudget (s.sampling.budget.taken s.budget.energy s.budget.estimated
          (if s.managedDraw = 0 then 0 else s.budget.silence + 1) false s.budget.estimates) := by
  have silent : s.sampling.budget.silent = false := hs
  unfold sampleEnergy
  dsimp only
  rw [if_neg (no_pulse hn), if_neg (by rw [silent]; simp)]
  by_cases hd : 0 < s.managedDraw
  · have count : ¬ 6 ≤ s.sampling.budget.silence + 1 := fun h => hc ⟨hd, Nat.le_of_succ_le_succ h⟩
    rw [if_pos (show 0 < s.sampling.managedDraw from hd), if_neg count, if_neg (Nat.ne_of_gt hd), ← silent]
    rfl
  · rw [if_neg (show ¬ 0 < s.sampling.managedDraw from hd), if_pos (Nat.eq_zero_of_not_pos hd), ← silent]
    rfl

end NoPulse

/-! ### The window and the figures of a sample (R58 to R64) -/

/-- The figures that go to the arbiter after a sample are those of R59 to R62 for the window as it stands. -/
theorem refigures_of_unshared {x : State} (hu : t.unshared = (figure (protect (ceil x))).unshared) (hs : t.stop = x.stop)
    (hp : x.profile = s.profile) : s.refigures t := by
  have total : t.protectedTotal = x.protectedTotal :=
    (protectedTotal_of_unshared hu hs).trans (protectedTotal_congr (fun _ => rfl) rfl)
  have same := budget_of_unshared hu
  unfold State.refigures
  rw [total]
  generalize t.budget.channels = c, t.budget.lastSerial = n, t.budget.tight = b, t.budget.shed = d at same
  rw [same]
  refine ⟨?_, rfl, rfl, rfl, fun k => ?_, rfl⟩
  · have swap : x.budget.ceiling
        = if x.budget.active.contract * x.budget.windowLen ≤ x.budget.energy then 0
          else min x.budget.active.feed
            ((x.budget.active.contract * x.budget.windowLen - x.budget.energy) / max (x.budget.windowLen - x.budget.elapsed) 60) := by
      unfold LoadBudget.ceiling LoadBudget.remaining
      by_cases h : x.budget.energy < x.budget.active.contract * x.budget.windowLen
      · rw [if_pos h, if_neg (Nat.not_le.mpr h)]
      · rw [if_neg h, if_pos (Nat.not_lt.mp h)]
    exact swap
  · rw [← hp]
    exact get_build _ k

/-- Step 1 of a sample left this energy and silence state, and nothing else but a notice. -/
structure State.TakesEnergy (s m : State) (energy : Nat) (estimated : Bool) (silence : Nat) (silent : Bool) (estimates : Nat) : Prop where
  budget : m.budget = s.sampling.budget.taken energy estimated silence silent estimates
  plan : m.plan = s.plan
  stop : m.stop = s.stop

/-- The state after a sample whose energy is taken: the window, the figures and the hand-over (R58). -/
def sampleRest (m : State) : State := handOver .ceiling (figure (protect (ceil (sampleWindow m))))

theorem meterSample_eq (s : State) : meterSample s = sampleRest (sampleEnergy s.sampling) := rfl

/-- The Load Budget Unit once a sample has counted its interval (R58). -/
def LoadBudget.counted (b : LoadBudget) : LoadBudget :=
  { b with pu := b.newPu, elapsed := b.elapsed + 10, nT := 0, nU := 0, sampleT := 10, sinceSample := 0 }

theorem sampleWindow_of_open {m : State} (h : m.budget.elapsed + 10 < m.budget.windowLen) :
    sampleWindow m = m.setBudget m.budget.counted := if_neg (Nat.not_le.mpr h)

theorem sampleWindow_of_full {m : State} (h : ¬ m.budget.elapsed + 10 < m.budget.windowLen) :
    sampleWindow m
      = m.setBudget { closeWindow false m.plan.clock m.budget.counted with
          windowLen := boundaryLength (closeWindow false m.plan.clock m.budget.counted).active.window m.plan.clock } :=
  if_pos (Nat.not_lt.mp h)

/-- Of the Load Budget Unit the rest of a sample writes the window, and then what the figures and the arbiter write. -/
theorem sampleRest_budget (m : State) :
    ∃ (c : Table Channel 128) (n : Nat) (b d : Bool) (ct managed pProt shareable : Nat) (reserve : PerClass Nat) (pool : Nat),
      (sampleRest m).budget = { (sampleWindow m).budget with
        channels := c, lastSerial := n, tight := b, shed := d, ct := ct, managed := managed, pProt := pProt, shareable := shareable
        reserve := reserve, pool := pool } := by
  have same := budget_of_unshared (handOver_unshared (figure (protect (ceil (sampleWindow m)))) .ceiling)
  exact ⟨_, _, _, _, _, _, _, _, _, _, same⟩

theorem sampleWindow_plan (m : State) : (sampleWindow m).plan = m.plan := by
  unfold sampleWindow
  dsimp only
  split <;> rfl

section Rest

variable {m : State} {energy silence estimates : Nat} {estimated silent : Bool}
  (h : s.TakesEnergy m energy estimated silence silent estimates)
include h

theorem sampleRest_figures : s.refigures (sampleRest m) := by
  have stop : (sampleRest m).stop = (sampleWindow m).stop := by
    unfold sampleRest
    rw [stop_of_outside (handOver_outside _ _), figure_stop, protect_stop, ceil_stop]
  have profile : (sampleWindow m).profile = s.profile := by
    unfold State.profile
    rw [sampleWindow_plan, h.plan]
  exact refigures_of_unshared (handOver_unshared _ _) stop profile

theorem sampleRest_open (ho : s.budget.elapsed + 10 < s.budget.windowLen) :
    s.samplesOn (sampleRest m) energy estimated ∧ (sampleRest m).budget.silence = silence ∧ (sampleRest m).budget.silent = silent
      ∧ (sampleRest m).budget.estimates = estimates := by
  have figures := sampleRest_figures h
  unfold State.samplesOn State.samples
  obtain ⟨c, n, b, d, ct, managed, pProt, shareable, reserve, pool, same⟩ := sampleRest_budget m
  rw [sampleWindow_of_open (by rw [h.budget]; exact ho), h.budget] at same
  rw [same]
  exact ⟨⟨⟨rfl, rfl, rfl, rfl, rfl, rfl, figures⟩, rfl, rfl, rfl, rfl, rfl, rfl⟩, rfl, rfl, rfl⟩

theorem sampleRest_full (ho : ¬ s.budget.elapsed + 10 < s.budget.windowLen) :
    s.samplesFull (sampleRest m) energy estimated ∧ (sampleRest m).budget.silence = silence ∧ (sampleRest m).budget.silent = silent
      ∧ (sampleRest m).budget.estimates = estimates := by
  have figures := sampleRest_figures h
  unfold State.samplesFull State.samples
  obtain ⟨c, n, b, d, ct, managed, pProt, shareable, reserve, pool, same⟩ := sampleRest_budget m
  rw [sampleWindow_of_full (by rw [h.budget]; exact ho), h.budget, h.plan] at same
  rw [same]
  refine ⟨⟨⟨rfl, rfl, rfl, rfl, rfl, rfl, figures⟩, rfl, rfl, rfl, rfl, rfl, ?_⟩, rfl, rfl, rfl⟩
  cases s.plan.clock <;> rfl

end Rest

theorem exec_meterSample_of_due (hs : s.stage = .running) (hd : s.budget.sampleT = 0) : exec .meterSample s = .next (meterSample s) := by
  change execMeterSample s = _
  unfold execMeterSample
  exact whenRunning_runs hs (if_pos hd)

theorem sampleRest_raisesOnly (m : State) : m.RaisesOnly NoticeKind.ofHandOver (sampleRest m) := by
  have line : (figure (protect (ceil (sampleWindow m)))).line = m.line := by
    unfold figure protect ceil sampleWindow
    dsimp only
    split <;> rfl
  exact ((State.RaisesOnly.refl m).of_line line).trans (handOver_raisesOnly _ _)

theorem setBudget_takesEnergy (s : State) (energy : Nat) (estimated : Bool) (silence : Nat) (silent : Bool) (estimates : Nat) :
    s.TakesEnergy (s.sampling.setBudget (s.sampling.budget.taken energy estimated silence silent estimates)) energy estimated silence silent
      estimates := ⟨rfl, rfl, rfl⟩

/-- What a sample leaves, by the room in the window and the energy it took. -/
theorem sampleRest_spec {m : State} {energy silence estimates : Nat} {estimated silent : Bool}
    (h : s.TakesEnergy m energy estimated silence silent estimates) :
    (if s.budget.elapsed + 10 < s.budget.windowLen then s.samplesOn (sampleRest m) energy estimated
      else s.samplesFull (sampleRest m) energy estimated)
      ∧ (sampleRest m).budget.silence = silence ∧ (sampleRest m).budget.silent = silent ∧ (sampleRest m).budget.estimates = estimates := by
  split
  · next ho => exact sampleRest_open h ho
  · next ho => exact sampleRest_full h ho

theorem joined_kind_of_quiet {m : State} (hl : m.line = s.line) {n : Notice} (hn : n ∈ s.joined (sampleRest m)) : n.kind.ofHandOver :=
  (((State.RaisesOnly.refl s).of_line hl).trans (sampleRest_raisesOnly m)).joined hn

theorem NoticeKind.ofHandOver.ne {k : NoticeKind} (h : k.ofHandOver) : k ≠ .meterSilent ∧ k ≠ .meterRestored := by
  obtain rfl | rfl | rfl := h <;> simp

/-- A sample that raises a notice of its own raises it first, and beside it those of the hand-over alone. -/
theorem joined_kind_of_raised {m : State} (hl : m.line = s.line) (k : NoticeKind) (b : Bytes) {n : Notice}
    (hn : n ∈ s.joined (sampleRest (raise k 0 b m))) : n.kind = k ∨ n.kind.ofHandOver := by
  have own := ((State.RaisesOnly.refl s).of_line (K := fun j => j = k ∨ j.ofHandOver) hl).raise (.inl rfl) 0 b
  obtain ⟨l, hl, hk⟩ := sampleRest_raisesOnly (raise k 0 b m)
  exact (own.trans ⟨l, hl, fun n hn => .inr (hk n hn)⟩).joined hn

theorem sampleRest_raised {m : State} (hl : m.line = s.line) (hp : m.plan = s.plan) (k : NoticeKind) (b : Bytes) (ha : s.admits k) :
    s.raised (sampleRest (raise k 0 b m)) ⟨k, s.plan.clock, 0, b⟩ :=
  (raise_raised hl (by rw [hp]) 0 b ha).mono (sampleRest_raisesOnly _).isPrefix

/-- Settles O33: the pulses decide the energy, and the room in the window which of the two forms the sample takes. -/
theorem metersAreSampled : Obligations.MetersAreSampled := by
  refine ⟨fun s hs => ⟨?_, ?_⟩, fun s hs hd hn => ?_, fun s hs hd => ?_⟩
  · change execMeterPulse .total s = _
    unfold execMeterPulse
    exact whenRunning_runs hs rfl
  · change execMeterPulse .unmanaged s = _
    unfold execMeterPulse
    exact whenRunning_runs hs rfl
  · dsimp only
    have run := exec_meterSample_of_due hs hd
    rw [meterSample_eq, sampleEnergy_of_pulses hn] at run
    have taken := setBudget_takesEnergy s (min 4294967295 (s.budget.energy + s.budget.nT * s.budget.configured.wTotal * 36))
      s.budget.estimated 0 false s.budget.estimates
    generalize hm : s.sampling.setBudget _ = m at taken run
    have line : m.line = s.line := by
      rw [← hm]
      rfl
    cases hq : s.budget.silent with
    | true =>
      rw [hq, if_pos rfl] at run
      have raised : s.TakesEnergy (raise .meterRestored 0 (le16 s.budget.estimates) m) _ _ _ _ _ :=
        ⟨(raise_budget _ _ _ _).trans taken.budget, (raise_plan _ _ _ _).trans taken.plan, (raise_stop _ _ _ _).trans taken.stop⟩
      obtain ⟨window, silence, silent, estimates⟩ := sampleRest_spec raised
      refine ⟨_, run, window, silence, silent, estimates, fun _ ha => sampleRest_raised line taken.plan _ _ ha, fun h => by simp at h,
        fun n hn => ?_⟩
      obtain h | h := joined_kind_of_raised line _ _ hn
      · rw [h]
        simp
      · exact h.ne.1
    | false =>
      rw [hq, if_neg (by simp)] at run
      obtain ⟨window, silence, silent, estimates⟩ := sampleRest_spec taken
      exact ⟨_, run, window, silence, silent, estimates, fun h => by simp at h, fun _ n hn => (joined_kind_of_quiet line hn).ne.2,
        fun n hn => (joined_kind_of_quiet line hn).ne.1⟩
  · change execMeterSample s = _
    unfold execMeterSample
    exact whenRunning_idle (if_neg hd)

/-- Settles O34: without pulses the silence state decides whether the estimate is taken, and the window goes on as at any sample. -/
theorem meterSilenceIsEstimated : Obligations.MeterSilenceIsEstimated := by
  intro s hs hd hn
  dsimp only
  have run := exec_meterSample_of_due hs hd
  rw [meterSample_eq] at run
  cases hq : s.budget.silent with
  | true =>
    rw [sampleEnergy_of_silent hn hq] at run
    have taken := setBudget_takesEnergy s
      (min 4294967295 (s.budget.energy + (s.managedDraw + s.budget.nU * s.budget.configured.wUnmanaged * 36 / 10) * 10)) true
      s.budget.silence true (min 65535 (s.budget.estimates + 1))
    generalize hm : s.sampling.setBudget _ = m at taken run
    have line : m.line = s.line := by
      rw [← hm]
      rfl
    obtain ⟨window, silence, silent, estimates⟩ := sampleRest_spec taken
    refine ⟨_, _, _, run, fun _ => ⟨rfl, rfl⟩, fun h => absurd (.inl rfl) h, window, fun _ => ⟨silent, silence, estimates⟩, ?_, ?_, ?_, ?_⟩
    · exact fun h => by simp at h
    · exact fun h => by simp at h
    · exact fun _ n hn => (joined_kind_of_quiet line hn).ne.1
    · exact fun n hn => (joined_kind_of_quiet line hn).ne.2
  | false =>
    by_cases hf : 0 < s.managedDraw ∧ 5 ≤ s.budget.silence
    · rw [sampleEnergy_of_falling hn hq hf.1 hf.2] at run
      have taken := setBudget_takesEnergy s
        (min 4294967295 (s.budget.energy + (s.managedDraw + s.budget.nU * s.budget.configured.wUnmanaged * 36 / 10) * 10)) true 6 true 1
      generalize hm : s.sampling.setBudget _ = m at taken run
      have line : m.line = s.line := by
        rw [← hm]
        rfl
      have raised : s.TakesEnergy (raise .meterSilent 0
          (le32 s.managedDraw ++ le32 (s.budget.nU * s.budget.configured.wUnmanaged * 36 / 10)) m) _ _ _ _ _ :=
        ⟨(raise_budget _ _ _ _).trans taken.budget, (raise_plan _ _ _ _).trans taken.plan, (raise_stop _ _ _ _).trans taken.stop⟩
      obtain ⟨window, silence, silent, estimates⟩ := sampleRest_spec raised
      refine ⟨_, _, _, run, fun _ => ⟨rfl, rfl⟩, fun h => absurd (.inr ⟨rfl, hf⟩) h, window, fun h => by simp at h,
        fun _ h => absurd ⟨rfl, hf⟩ h, fun _ => ⟨silent, silence, estimates, fun ha => ?_⟩, fun h => absurd ⟨rfl, hf⟩ h, fun n hn => ?_⟩
      · exact sampleRest_raised line taken.plan _ _ ha
      · obtain h | h := joined_kind_of_raised line _ _ hn
        · rw [h]
          simp
        · exact h.ne.2
    · rw [sampleEnergy_of_waiting hn hq hf] at run
      have taken := setBudget_takesEnergy s s.budget.energy s.budget.estimated
        (if s.managedDraw = 0 then 0 else s.budget.silence + 1) false s.budget.estimates
      generalize hm : s.sampling.setBudget _ = m at taken run
      have line : m.line = s.line := by
        rw [← hm]
        rfl
      obtain ⟨window, silence, silent, estimates⟩ := sampleRest_spec taken
      refine ⟨_, _, _, run, fun h => ?_, fun _ => ⟨rfl, rfl⟩, window, fun h => by simp at h, fun _ _ => ⟨silent, silence, estimates⟩,
        fun h => absurd h.2 hf, fun _ n hn => (joined_kind_of_quiet line hn).ne.1, fun n hn => (joined_kind_of_quiet line hn).ne.2⟩
      obtain h | ⟨-, h⟩ := h
      · simp at h
      · exact absurd h hf

end Sys2Proof.Machine
end

section
/-! SUPPORT. The events of the arbiter as a chain of small writes, and so what they leave of the phase totals (R12, R84, R100, R109). -/

namespace Sys2Proof.Machine

variable {I : State → Prop} {s t u : State}

/-- The property survives each write an event of the arbiter makes: of a channel that keeps its wiring and grant, of a LIGHT channel's
grant that rises, of a grant with its curtain event that leaves a LIGHT channel its protected part, of the flags, serials and figures, and a notice of the arbiter's. -/
structure ArbiterClosed (I : State → Prop) : Prop where
  put : ∀ i c s, c.cfg = (s.chan i).cfg → c.granted = (s.chan i).granted → I s → I (s.putChan i c)
  light : ∀ i g s, (s.chan i).cfg.role = .light → (s.chan i).granted ≤ g → I s → I (s.putChan i { s.chan i with granted := g })
  grant : ∀ i g s, ((s.chan i).cfg.role = .light → min (s.chan i).granted ((s.chan i).protPart s.stop.state) ≤ g) → I s → I (setGranted i g s)
  figures : ∀ s b, b.channels = s.budget.channels → I s → I (s.setBudget b)
  notice : ∀ k n b s, k.ofHandOver → I s → I (raise k n b s)

namespace ArbiterClosed

theorem keepEntry (c : ArbiterClosed I) (m : Bool) (i : Fin 128) (h : I s) : I (keepEntry m i s) := by
  obtain e | ⟨e, -⟩ := keepEntry_cases m i s
  · rw [e]
    exact c.put i _ s rfl rfl h
  · rw [e]
    exact h

theorem takeSerial (c : ArbiterClosed I) (i : Fin 128) (h : I s) : I (takeSerial i s) := by
  unfold Machine.takeSerial
  dsimp only
  have numbered := c.figures s { s.budget with lastSerial := satAdd Config.max32 s.budget.lastSerial 1 } rfl h
  generalize s.setBudget { s.budget with lastSerial := satAdd Config.max32 s.budget.lastSerial 1 } = u at numbered ⊢
  exact c.put i _ u rfl rfl numbered

theorem stepUp (c : ArbiterClosed I) (i : Fin 128) (k : Nat) (h : I s) : I (stepUp i k s) :=
  c.keepEntry false i (c.grant i _ _ (fun _ => (Nat.min_le_left _ _).trans (by
    obtain ⟨n, o, e⟩ := takeSerial_chan_self i (s.putChan i { s.chan i with minOnT := startTimer (s.chan i).cfg.minOn })
    rw [e, chan_putChan_self]
    exact Nat.le_add_right _ _)) (c.takeSerial i (c.put i _ s rfl rfl h)))

theorem lightVisit (c : ArbiterClosed I) (i : Fin 128) (h : I s) : I (lightVisit i s) := by
  unfold Machine.lightVisit
  dsimp only
  split
  · exact h
  · next hg =>
    have hl : (s.chan i).cfg.role = .light := by
      by_contra hl
      rw [deficit_of_not_light hl] at hg
      exact hg (Nat.zero_min _)
    exact c.takeSerial i (c.light i _ s hl (Nat.le_add_right _ _) h)

theorem visitQueue (c : ArbiterClosed I) (l : List (Fin 128)) (h : I s) : I (visitQueue l s) := by
  induction l generalizing s with
  | nil => exact h
  | cons i l ih =>
    have some_steps : I (if 0 < s.payable (s.chan i) then Machine.stepUp i (s.payable (s.chan i)) s else s) := by
      split
      · exact c.stepUp i _ h
      · exact h
    unfold Machine.visitQueue
    dsimp only
    cases (s.chan i).entry with
    | none => exact ih h
    | some e =>
      dsimp only
      split
      · exact ih h
      · split
        · exact ih (c.stepUp i _ h)
        · split
          · exact some_steps
          · exact ih some_steps

theorem walk (c : ArbiterClosed I) (h : I s) : I (walk s) := c.visitQueue _ (forEach_keeps (fun i _ hu => c.lightVisit i hu) _ s h)

theorem settleShed (c : ArbiterClosed I) (h : I s) : I (settleShed s) := by
  unfold Machine.settleShed
  split
  · exact c.figures s _ rfl h
  · exact h

theorem endEvent (c : ArbiterClosed I) (h : I s) : I (endEvent s) := by
  unfold Machine.endEvent Machine.settleTight
  dsimp only
  split
  · exact c.settleShed h
  · refine c.notice _ _ _ _ ?_ (c.figures _ _ rfl (c.settleShed h))
    split
    · exact .inr (.inl rfl)
    · exact .inr (.inr rfl)

theorem arbitrate (c : ArbiterClosed I) (h : I s) : I (arbitrate s) := c.endEvent (c.walk h)

theorem shedOne (c : ArbiterClosed I) (i : Fin 128) (h : I s) : I (shedOne i s) := by
  unfold Machine.shedOne
  dsimp only
  split
  · next hr =>
    refine c.grant i _ s (fun _ => ?_) h
    unfold Channel.nonProtected
    rw [hr]
    dsimp only
    omega
  · next hr => exact c.keepEntry false i (c.grant i _ _ (fun hl => absurd (by rwa [chan_putChan_self] at hl) hr) (c.put i _ s rfl rfl h))

theorem shedLoop (c : ArbiterClosed I) (n : Nat) (h : I s) : I (shedLoop n s) := by
  induction n generalizing s with
  | zero => exact h
  | succ n ih =>
    unfold Machine.shedLoop
    split
    · exact h
    · cases firstBy (shedPrecedes s) s.shedCandidates with
      | none => exact h
      | some i => exact ih (c.shedOne i h)

/-- An event that may shed, of a property that also survives the count of a shed episode. -/
theorem shedding (c : ArbiterClosed I) (report : ∀ u, I u → I (reportShed u)) (cause : ShedCause) (h : I s) : I (shedding cause s) := by
  unfold Machine.shedding
  dsimp only
  split
  · exact h
  · exact c.figures _ _ rfl (report _ (c.notice _ _ _ _ (.inl rfl) (c.shedLoop _ h)))

theorem handOver (c : ArbiterClosed I) (report : ∀ u, I u → I (reportShed u)) (cause : ShedCause) (h : I s) : I (handOver cause s) :=
  c.arbitrate (c.shedding report cause h)

theorem release (c : ArbiterClosed I) (i : Fin 128) (hr : (s.chan i).cfg.role ≠ .light) (h : I s) : I (release i s) :=
  c.arbitrate (c.keepEntry false i (c.grant i _ _ (fun hl => absurd (by rwa [chan_putChan_self] at hl) hr) (c.put i _ s rfl rfl h)))

theorem stepTarget (c : ArbiterClosed I) (i : Fin 128) (v : Nat) (m : Bool) (hr : (s.chan i).cfg.role ≠ .light) (h : I s) :
    I (stepTarget i v m s) := by
  have h' := c.keepEntry (m && decide ((s.chan i).target < v)) i (c.put i { s.chan i with target := v } s rfl rfl h)
  have role : ((Machine.keepEntry (m && decide ((s.chan i).target < v)) i (s.putChan i { s.chan i with target := v })).chan i).cfg.role
      ≠ .light := by
    rw [keepEntry_field (·.cfg.role) (fun _ _ _ => rfl), chan_putChan_self]
    exact hr
  unfold Machine.stepTarget
  dsimp only
  split
  · split
    · exact c.release i role h'
    · exact c.settleShed h'
  · split
    · exact c.arbitrate h'
    · exact c.settleShed h'

theorem lightTargetChange (c : ArbiterClosed I) (i : Fin 128) (v : Nat) (h : I s) : I (lightTargetChange i v s) := by
  have h' := c.put i { s.chan i with target := v } s rfl rfl h
  unfold Machine.lightTargetChange
  dsimp only
  split
  · split
    · exact c.arbitrate h'
    · exact c.settleShed h'
  · split
    · exact c.arbitrate (c.grant i _ _ (fun _ => (Nat.min_le_right _ _).trans (by
        rw [chan_putChan_self]
        exact Nat.le_max_right _ _)) h')
    · split
      · exact c.arbitrate h'
      · exact c.settleShed h'

theorem targetChange (c : ArbiterClosed I) (i : Fin 128) (r : Role) (o v : Nat) (m : Bool) (h : I s) : I (targetChange i r o v m s) := by
  unfold Machine.targetChange
  dsimp only
  split
  · exact h
  · next bound =>
    split
    · exact h
    · split
      · exact h
      · exact c.lightTargetChange i v h
    · next other =>
      split
      · exact h
      · exact c.stepTarget i _ m (by rw [(Channel.boundTo_iff.mp (by simpa using bound)).1]; exact other) h

end ArbiterClosed

/-! ### The phase totals under the events of the arbiter -/

/-- The totals of u are those of s but for the loss that a curtain grant reports; the doors keep their configuration. -/
structure State.SameCounts (s u : State) : Prop where
  cycles : u.plan.totals.cycles = s.plan.totals.cycles
  held : u.plan.totals.held = s.plan.totals.held
  shed : u.plan.totals.shed = s.plan.totals.shed
  loss : (∀ d, (s.door d).cfg.curtain = none) →
    u.plan.totals.docked = s.plan.totals.docked ∧ u.plan.totals.bare = s.plan.totals.bare
  doors : ∀ d, (u.door d).cfg = (s.door d).cfg

namespace State.SameCounts

theorem refl (s : State) : s.SameCounts s := ⟨rfl, rfl, rfl, fun _ => ⟨rfl, rfl⟩, fun _ => rfl⟩

theorem trans (h : s.SameCounts t) (h' : t.SameCounts u) : s.SameCounts u where
  cycles := h'.cycles.trans h.cycles
  held := h'.held.trans h.held
  shed := h'.shed.trans h.shed
  loss hn := by
    obtain ⟨docked, bare⟩ := h.loss hn
    obtain ⟨docked', bare'⟩ := h'.loss fun d => (congrArg DoorConfig.curtain (h.doors d)).trans (hn d)
    exact ⟨docked'.trans docked, bare'.trans bare⟩
  doors d := (h'.doors d).trans (h.doors d)

theorem of_eq (h : s.SameCounts t) (ht : u.plan.totals = t.plan.totals) (hd : u.dock = t.dock) : s.SameCounts u :=
  h.trans ⟨by rw [ht], by rw [ht], by rw [ht], fun _ => by rw [ht]; exact ⟨rfl, rfl⟩, fun d => by unfold State.door; rw [hd]⟩

theorem curtain (h : s.SameCounts t) {d : Fin 32} (hc : (t.door d).cfg.curtain ≠ none) (b : Bool) :
    s.SameCounts (setCurtainRunning d b t) := by
  have doors : ∀ e, ((setCurtainRunning d b t).door e).cfg = (t.door e).cfg := fun e => cfg_of_shape (setCurtainRunning_shape d e b t)
  have counts : (setCurtainRunning d b t).plan.totals.cycles = t.plan.totals.cycles
      ∧ (setCurtainRunning d b t).plan.totals.held = t.plan.totals.held
      ∧ (setCurtainRunning d b t).plan.totals.shed = t.plan.totals.shed := by
    unfold setCurtainRunning
    split
    · exact ⟨rfl, rfl, rfl⟩
    · change (accrue d t).plan.totals.cycles = _ ∧ (accrue d t).plan.totals.held = _ ∧ (accrue d t).plan.totals.shed = _
      rw [accrue_totals]
      split
      · exact ⟨rfl, rfl, rfl⟩
      · split <;> exact ⟨rfl, rfl, rfl⟩
  obtain ⟨cycles, held, shed⟩ := counts
  exact h.trans ⟨cycles, held, shed, fun hn => absurd (hn d) hc, doors⟩

theorem grants (s : State) : GrantClosed s.SameCounts where
  put _ _ _ h := h.of_eq rfl rfl
  serial _ _ h := h.of_eq rfl rfl
  curtain _ b _ hc h := h.curtain hc b

theorem arbiter (s : State) : ArbiterClosed s.SameCounts where
  put _ _ _ _ _ h := h.of_eq rfl rfl
  light _ _ _ _ _ h := h.of_eq rfl rfl
  grant i g _ _ h := (grants s).setGranted i g h
  figures _ _ _ h := h.of_eq rfl rfl
  notice _ _ _ _ _ h := h.of_eq (congrArg PlanUnit.totals (raise_plan _ _ _ _)) (raise_dock _ _ _ _)

end State.SameCounts

/-- What a chain of small writes leaves of the totals, behind a state whose shed episodes stand or count one more. -/
theorem keepsTotals_of_counts {v : State} (h : s.SameCounts u) (hv : v.SameCounts t) (htotals : v.plan.totals = u.plan.totals
    ∨ v.plan.totals = { u.plan.totals with shed := min 65535 (u.plan.totals.shed + 1) }) (hd : v.dock = u.dock) : s.keepsTotals t := by
  have none_of : (∀ d, (s.door d).cfg.curtain = none) → ∀ d, (v.door d).cfg.curtain = none := fun hn d => by
    unfold State.door
    rw [hd]
    exact (congrArg DoorConfig.curtain (h.doors d)).trans (hn d)
  obtain ht | ht := htotals
  · refine ⟨hv.cycles.trans ?_, hv.held.trans ?_, .inl (hv.shed.trans ?_), fun hn => ?_⟩
    · rw [ht]; exact h.cycles
    · rw [ht]; exact h.held
    · rw [ht]; exact h.shed
    · obtain ⟨docked, bare⟩ := hv.loss (none_of hn)
      rw [docked, bare, ht]
      exact h.loss hn
  · refine ⟨hv.cycles.trans ?_, hv.held.trans ?_, .inr (hv.shed.trans ?_), fun hn => ?_⟩
    · rw [ht]; exact h.cycles
    · rw [ht]; exact h.held
    · rw [ht, ← h.shed]
    · obtain ⟨docked, bare⟩ := hv.loss (none_of hn)
      rw [docked, bare, ht]
      exact h.loss hn

/-- A hand-over counts one shed episode at most. -/
theorem handOver_keepsTotals (cause : ShedCause) (s : State) : s.keepsTotals (handOver cause s) := by
  rw [handOver_eq]
  have ended (u : State) : u.SameCounts (endEvent (walk u)) := (State.SameCounts.arbiter u).arbitrate (.refl u)
  obtain safe | exceeded := le_or_gt s.poolUse s.budget.pool
  · rw [shedding_of_safe cause safe]
    exact keepsTotals_of_counts (.refl s) (ended s) (.inl rfl) rfl
  · obtain ⟨m, hm, -, e⟩ := shedding_of_exceeded cause exceeded
    have looped : s.SameCounts m := hm ▸ (State.SameCounts.arbiter s).shedLoop _ (.refl s)
    rw [e]
    have raised := (State.SameCounts.arbiter s).notice .shed 0 (le8 cause.code ++ le8 (shedCount s m) ++ le32 (s.managedDraw - m.managedDraw)) m
      (.inl rfl) looped
    generalize raise .shed 0 (le8 cause.code ++ le8 (shedCount s m) ++ le32 (s.managedDraw - m.managedDraw)) m = v at raised ⊢
    exact keepsTotals_of_counts raised (ended _) (.inr rfl) rfl

end Sys2Proof.Machine
end

section
/-! Shedding: who comes first, what a pass takes, and what the event reports (R48, R63, R82 to R85). -/

namespace Sys2Proof.Machine

variable {s t u : State} {i j : Fin 128}

/-! ### The first candidate (R82) -/

section First

variable {α : Type} [LinearOrder α] {p : α → α → Bool}

/-- The best item so far stays the best one, or comes to be. -/
theorem firstBy_fold_eq {x : α} (asymm : ∀ y, p x y = true → p y x = false) (l : List α) (best : Option α)
    (hb : best = some x ∨ (x ∈ l ∧ ∀ b, best = some b → p x b = true))
    (hl : l.Pairwise (· < ·)) (h : ∀ y ∈ l, y ≠ x → Sorts p x y) :
    l.foldl (fun best x => match best with
      | none => some x
      | some b => if p x b then some x else some b) best = some x := by
  induction l generalizing best with
  | nil => exact hb.resolve_right fun ⟨hx, _⟩ => absurd hx List.not_mem_nil
  | cons y l ih =>
    obtain ⟨first, rest⟩ := List.pairwise_cons.mp hl
    have rest_first : ∀ z ∈ l, z ≠ x → Sorts p x z := fun z hz => h z (List.mem_cons_of_mem y hz)
    rw [List.foldl_cons]
    refine ih _ ?_ rest rest_first
    obtain rfl | ⟨hx, beaten⟩ := hb
    · have stays : p y x = false := by
        by_cases hy : y = x
        · subst hy
          by_contra hn
          exact hn (asymm y (by simpa using hn))
        · obtain hp | ⟨hp, -⟩ := h y (List.mem_cons_self ..) hy
          · exact asymm y hp
          · exact hp
      exact .inl (by simp [stays])
    · by_cases hy : y = x
      · subst hy
        cases best with
        | none => exact .inl rfl
        | some b => exact .inl (by simp [beaten b rfl])
      · have hx' : x ∈ l := (List.mem_cons.mp hx).resolve_left (Ne.symm hy)
        have before : p x y = true := by
          obtain hp | ⟨-, hlt⟩ := h y (List.mem_cons_self ..) hy
          · exact hp
          · exact absurd (first x hx') (lt_asymm hlt)
        refine .inr ⟨hx', fun b' hb' => ?_⟩
        cases best with
        | none => exact Option.some.inj hb' ▸ before
        | some b =>
          dsimp only at hb'
          split at hb'
          · exact Option.some.inj hb' ▸ before
          · exact Option.some.inj hb' ▸ beaten b rfl

theorem firstBy_eq {x : α} {l : List α} (asymm : ∀ y, p x y = true → p y x = false) (hx : x ∈ l) (hl : l.Pairwise (· < ·))
    (h : ∀ y ∈ l, y ≠ x → Sorts p x y) : firstBy p l = some x :=
  firstBy_fold_eq asymm l none (.inr ⟨hx, fun b hb => by cases hb⟩) hl h

end First

theorem shedPrecedes_iff : shedPrecedes s i j = true
    ↔ (s.chan i).cfg.priority < (s.chan j).cfg.priority
      ∨ ((s.chan i).cfg.priority = (s.chan j).cfg.priority ∧ (s.chan j).serial < (s.chan i).serial) := by
  unfold shedPrecedes
  by_cases hp : (s.chan i).cfg.priority = (s.chan j).cfg.priority
  · simp [hp]
  · simp [hp]

theorem shedCandidates_rise (s : State) : s.shedCandidates.Pairwise (· < ·) := by
  unfold State.shedCandidates
  exact (indices_rise 128).filter _

/-- A pass over a pool that is exceeded takes from the first candidate. -/
theorem shedLoop_first (h : s.budget.pool < s.poolUse) (hi : s.Candidate i)
    (first : ∀ j, s.Candidate j → j ≠ i →
      (s.chan i).cfg.priority < (s.chan j).cfg.priority
        ∨ ((s.chan i).cfg.priority = (s.chan j).cfg.priority
            ∧ ((s.chan j).serial < (s.chan i).serial ∨ ((s.chan j).serial = (s.chan i).serial ∧ i < j)))) (n : Nat) :
    shedLoop (n + 1) s = shedLoop n (shedOne i s) := by
  have found : firstBy (shedPrecedes s) s.shedCandidates = some i := by
    refine firstBy_eq (fun j hj => ?_) (mem_shedCandidates.mpr hi) (shedCandidates_rise s) fun j hj hne => ?_
    · rw [Bool.eq_false_iff, ne_eq, shedPrecedes_iff]
      rw [shedPrecedes_iff] at hj
      omega
    · unfold Sorts
      rw [Bool.eq_false_iff, ne_eq, shedPrecedes_iff, shedPrecedes_iff]
      have := first j (mem_shedCandidates.mp hj) hne
      omega
  rw [shedLoop, if_neg (Nat.not_le.mpr h), found]

/-! ### A pass (R48, R83) -/

/-- A LIGHT channel loses the need, as far as its non-protected grant goes. -/
theorem shedOne_chan_light (hr : (s.chan i).cfg.role = .light) :
    ∃ o, (shedOne i s).chan i = { s.chan i with granted := s.shedLeft i, out := o } := by
  unfold shedOne State.shedLeft
  dsimp only
  rw [hr, if_pos rfl]
  dsimp only
  rw [setGranted_chan, chan_putChan_self]
  exact ⟨_, rfl⟩

/-- A step channel loses the steps that cover the need, with min-off started, and waits in the queue while it wants steps. -/
theorem shedOne_chan_step (hr : (s.chan i).cfg.role.isStep = true) :
    ∃ e o, (shedOne i s).chan i
        = { s.chan i with minOffT := startTimer (s.chan i).cfg.minOff, granted := s.shedLeft i, entry := e, out := o }
      ∧ (e.isSome ↔ s.shedLeft i < (s.chan i).target ∧ (s.chan i).tripped = false ∧ s.stop.state = .running) := by
  have hl := isStep_ne_light hr
  have pass : shedOne i s = keepEntry false i (setGranted i (s.shedLeft i) (s.putChan i { s.chan i with
      minOffT := startTimer (s.chan i).cfg.minOff })) := by
    unfold shedOne State.shedLeft
    dsimp only
    rw [if_neg hl]
    cases h : (s.chan i).cfg.role with
    | light => exact absurd h hl
    | unused | heater | fan | curtain | docklight => rfl
  obtain ⟨o, hc, -⟩ := keepEntry_chan_self false i (setGranted i (s.shedLeft i) (s.putChan i { s.chan i with
    minOffT := startTimer (s.chan i).cfg.minOff }))
  rw [← pass, setGranted_chan, chan_putChan_self, chan_putChan_self] at hc
  refine ⟨_, o, hc, ?_⟩
  rw [entryKept_isSome, setGranted_stop]
  simp only [Channel.wantsEntry, hr, Bool.true_and, Bool.and_eq_true, decide_eq_true_eq, beq_iff_eq, Bool.not_eq_eq_eq_not, Bool.not_true,
    State.putChan_stop]
  tauto

theorem isStep_of_cls {r : Role} {k : LoadClass} (hk : r.cls = some k) (hl : r ≠ .light) : r.isStep = true := by
  cases r with
  | unused => cases hk
  | light => exact absurd rfl hl
  | heater | fan | curtain | docklight => rfl

theorem shedOne_spec {k : LoadClass} (hk : (s.chan i).cfg.role.cls = some k) :
    let c := s.chan i
    let use := (s.classGrant .light - s.budget.reserve.light) + (s.classGrant .heat - s.budget.reserve.heat)
      + (s.classGrant .air - s.budget.reserve.air) + (s.classGrant .dock - s.budget.reserve.dock)
    let need := min (use - s.budget.pool) (s.classGrant k - s.budget.reserve.get k)
    let t := shedOne i s
    (t.chan i).asked = c.asked ∧ (t.chan i).serial = c.serial ∧ (t.chan i).minOnT = c.minOnT
      ∧ (c.cfg.role ≠ .light →
          let left := c.granted - min ((need + c.cfg.rating - 1) / c.cfg.rating) c.granted
          (t.chan i).granted = left ∧ (t.chan i).minOffT = (if c.cfg.minOff = 0 then none else some c.cfg.minOff)
            ∧ ((t.chan i).entry.isSome ↔ left < c.target ∧ c.tripped = false ∧ s.stop.state = .running))
      ∧ (c.cfg.role = .light →
          (t.chan i).granted = c.granted - min need (c.granted - c.protPart s.stop.state))
      ∧ ∀ j, j ≠ i → t.chan j = s.chan j := by
  dsimp only
  have need := shedNeed_eq (s := s) hk
  by_cases hl : (s.chan i).cfg.role = .light
  · have left : s.shedLeft i = (s.chan i).granted - min (min (s.poolUse - s.budget.pool) (s.classGrant k - s.budget.reserve.get k))
        ((s.chan i).granted - (s.chan i).protPart s.stop.state) := by
      unfold State.shedLeft Channel.nonProtected
      rw [if_pos hl, need, hl]
    obtain ⟨o, hc⟩ := shedOne_chan_light hl
    rw [hc]
    exact ⟨rfl, rfl, rfl, fun hn => absurd hl hn, fun _ => left, fun j hj => shedOne_chan_ne (Ne.symm hj) s⟩
  · have left : s.shedLeft i = (s.chan i).granted - min ((min (s.poolUse - s.budget.pool) (s.classGrant k - s.budget.reserve.get k)
        + (s.chan i).cfg.rating - 1) / (s.chan i).cfg.rating) (s.chan i).granted := by
      unfold State.shedLeft ceilDiv
      rw [if_neg hl, need]
    obtain ⟨e, o, hc, he⟩ := shedOne_chan_step (isStep_of_cls hk hl)
    rw [hc]
    rw [left] at he ⊢
    exact ⟨rfl, rfl, rfl, fun _ => ⟨rfl, rfl, he⟩, fun h => absurd h hl, fun j hj => shedOne_chan_ne (Ne.symm hj) s⟩

/-! ### What the event reports (R84, R85) -/

/-- The load a channel's grant draws, as a SHED reports it. -/
def Channel.unitDraw (c : Channel) : Nat := if c.cfg.role = .light then 1 else c.cfg.rating

/-- A channel that lost grant, or one that stands, reports the difference of its draws. -/
theorem draw_sub {c d : Channel} (hc : d.cfg = c.cfg) (hg : d.granted ≤ c.granted) (hu : c.cfg.role = .unused → d.granted = c.granted) :
    c.draw = d.draw + (c.granted - d.granted) * c.unitDraw := by
  unfold Channel.draw Channel.unitDraw
  rw [hc]
  cases hr : c.cfg.role with
  | unused =>
    rw [hu hr]
    simp
  | light => simp only [if_true]; omega
  | heater | fan | curtain | docklight =>
    simp only [reduceCtorEq, if_false]
    rw [← Nat.add_mul, Nat.add_sub_cancel' hg]

/-- An UNUSED channel is never a candidate. -/
theorem shedLoop_chan_unused (n : Nat) (hj : (s.chan j).cfg.role = .unused) : (shedLoop n s).chan j = s.chan j := by
  induction n generalizing s with
  | zero => rfl
  | succ n ih =>
    obtain safe | exceeded := le_or_gt s.poolUse s.budget.pool
    · rw [shedLoop_of_safe _ safe]
    · obtain ⟨i, ⟨-, k, hk, -⟩, e⟩ := shedLoop_succ n exceeded
      have hij : i ≠ j := by
        rintro rfl
        rw [hj] at hk
        cases hk
      have kept := shedOne_chan_ne hij s
      rw [e, ih (by rw [kept]; exact hj), kept]

theorem managedDraw_indices (s : State) : s.managedDraw = ((indices 128).map fun i => (s.chan i).draw).sum := sumTable_indices _ _

/-- The hW shed is the sum of what each channel lost. -/
theorem managedDraw_sub (n : Nat) (s : State) :
    s.managedDraw - (shedLoop n s).managedDraw
      = ((indices 128).map fun i =>
          ((s.chan i).granted - ((shedLoop n s).chan i).granted) * (if (s.chan i).cfg.role = .light then 1 else (s.chan i).cfg.rating)).sum := by
  have lost : ∀ i, (s.chan i).draw = ((shedLoop n s).chan i).draw
      + ((s.chan i).granted - ((shedLoop n s).chan i).granted) * (s.chan i).unitDraw := fun i =>
    draw_sub (chan_cfg_of_unshared (shedLoop_unshared s n) i) (shedLoop_granted_le n s i)
      fun hu => congrArg Channel.granted (shedLoop_chan_unused n hu)
  rw [managedDraw_indices, managedDraw_indices]
  simp only [lost, List.sum_map_add]
  exact Nat.add_sub_cancel_left _ _

/-- The code of a SHED cause (R84). -/
theorem le8_shedCause (cause : ShedCause) :
    le8 cause.code = [match cause with
      | .ceiling => 0x00#8
      | .profile => 0x01#8
      | .protected_ => 0x02#8] := by
  cases cause <;> rfl

/-- The SHED of an event that leaves t of s (R84). -/
def shedNotice (code : Byte) (s t : State) : Notice :=
  let lost := (indices 128).filter fun i => (t.chan i).granted < (s.chan i).granted
  let shed := ((indices 128).map fun i =>
    ((s.chan i).granted - (t.chan i).granted) * (if (s.chan i).cfg.role = .light then 1 else (s.chan i).cfg.rating)).sum
  ⟨.shed, s.plan.clock, 0, code :: (le8 lost.length ++ le32 shed)⟩

/-- What shedding leaves where the pool is exceeded (R82 to R85). -/
theorem shedding_spec (cause : ShedCause) (h : s.budget.pool < s.poolUse) {code : Byte} (hcode : le8 cause.code = [code]) :
    (∀ i, (shedding cause s).chan i = (shedLoop (s.poolUse - s.budget.pool) s).chan i)
      ∧ (shedding cause s).poolUse ≤ (shedding cause s).budget.pool ∧ (shedding cause s).budget.pool = s.budget.pool
      ∧ (shedding cause s).budget.reserve = s.budget.reserve
      ∧ (shedding cause s).budget.shed = true ∧ (shedding cause s).plan.totals.shed = min 65535 (s.plan.totals.shed + 1)
      ∧ (s.admits .shed → (shedding cause s).line.notices = s.line.notices ++ [shedNotice code s (shedding cause s)]) := by
  have safe := shedding_poolSafe cause s
  obtain ⟨-, -, reserve, pool⟩ := figures_of_unshared (shedding_unshared s cause)
  have chans : ∀ i, (shedding cause s).chan i = (shedLoop (s.poolUse - s.budget.pool) s).chan i := by
    obtain ⟨u, hu, -, e⟩ := shedding_of_exceeded cause h
    intro i
    rw [e, ← hu]
    rfl
  have notice : shedNotice code s (shedding cause s) = shedNotice code s (shedLoop (s.poolUse - s.budget.pool) s) := by
    unfold shedNotice
    simp only [chans]
  obtain ⟨u, hu, -, e⟩ := shedding_of_exceeded cause h
  have totals : u.plan.totals.shed = s.plan.totals.shed := (hu ▸ (State.SameCounts.arbiter s).shedLoop _ (.refl s)).shed
  refine ⟨chans, safe, pool, reserve, by rw [e]; rfl, ?_, fun ha => ?_⟩
  · rw [e, ← totals]
    change min 65535 ((raise .shed 0 _ u).plan.totals.shed + 1) = _
    rw [raise_plan]
  · have line : u.line = s.line := by rw [hu, shedLoop_line]
    have clock : u.plan.clock = s.plan.clock := by
      have plan := plan_of_outside (t := u) (s := s) (by rw [hu]; exact shedLoop_outside s _)
      exact (congrArg PlanUnit.clock plan :)
    have admitted : u.admits .shed := by
      unfold State.admits
      rw [line]
      exact ha
    rw [notice, e, ← hu]
    change (raise .shed 0 _ u).line.notices = _
    rw [raise_notices, if_pos admitted, line, clock, hcode]
    have shed := managedDraw_sub (s.poolUse - s.budget.pool) s
    rw [← hu] at shed
    unfold shedNotice
    dsimp only
    rw [← shed]
    rfl

/-- A shedding that is exceeded raises its notice before the walk and the flags. -/
theorem handOver_raised (cause : ShedCause) (h : s.budget.pool < s.poolUse) {code : Byte} (hcode : le8 cause.code = [code])
    (ha : s.admits .shed) : s.raised (handOver cause s) (shedNotice code s (shedding cause s)) := by
  obtain ⟨-, -, -, -, -, -, notices⟩ := shedding_spec cause h hcode
  have follows : (shedding cause s).Follows (handOver cause s) := (State.Follows.budget _).arbitrate (.refl _)
  unfold State.raised
  rw [← notices ha]
  exact follows.1

/-! ### The state a sample hands over -/

/-- What a sample leaves standing before it hands its figures over. -/
structure State.Sampled (s u : State) : Prop where
  plan : u.plan = s.plan
  stop : u.stop = s.stop
  chans : ∀ i, u.chan i = s.chan i
  notices : s.RaisesOnly (fun k => k = .meterSilent ∨ k = .meterRestored) u

theorem State.Sampled.setBudget (h : s.Sampled u) (b : LoadBudget) (hb : b.channels = u.budget.channels) : s.Sampled (u.setBudget b) where
  plan := h.plan
  stop := h.stop
  chans i := (congrArg (fun t => look t i) hb).trans (h.chans i)
  notices := h.notices.of_line rfl

theorem State.Sampled.raise (h : s.Sampled u) {k : NoticeKind} (hk : k = .meterSilent ∨ k = .meterRestored) (d : Bytes) :
    s.Sampled (raise k 0 d u) :=
  ⟨(raise_plan _ _ _ _).trans h.plan, (raise_stop _ _ _ _).trans h.stop, fun i => (raise_chan _ _ _ _ _).trans (h.chans i),
    h.notices.raise hk 0 d⟩

theorem sampleEnergy_sampled (s : State) : s.Sampled (sampleEnergy s) := by
  have base (b : LoadBudget) (hb : b.channels = s.budget.channels) : s.Sampled (s.setBudget b) :=
    .setBudget ⟨rfl, rfl, fun _ => rfl, .refl s⟩ b hb
  unfold sampleEnergy
  dsimp only
  split
  · split
    · exact (base _ (by rfl)).raise (.inr rfl) _
    · exact base _ (by rfl)
  · split
    · exact base _ (by rfl)
    · split
      · split
        · exact (base _ (by rfl)).raise (.inl rfl) _
        · exact base _ (by rfl)
      · exact base _ (by rfl)

theorem sampleWindow_sampled (h : s.Sampled u) : s.Sampled (sampleWindow u) := by
  unfold sampleWindow
  dsimp only
  split
  · exact h.setBudget _ rfl
  · exact h.setBudget _ rfl

theorem figured_sampled (h : s.Sampled u) : s.Sampled (figure (protect (ceil u))) := by
  unfold figure protect ceil
  exact ((h.setBudget _ rfl).setBudget _ rfl).setBudget _ rfl

theorem sampling_sampled (s : State) : s.Sampled s.sampling := .setBudget ⟨rfl, rfl, fun _ => rfl, .refl s⟩ _ rfl

theorem State.Sampled.trans (h : s.Sampled t) (h' : t.Sampled u) : s.Sampled u :=
  ⟨h'.plan.trans h.plan, h'.stop.trans h.stop, fun i => (h'.chans i).trans (h.chans i), h.notices.trans h'.notices⟩

/-! ### A NOW edit of the profile in use (R27, R63) -/

/-- An edit with NOW is carried out at once. -/
theorem takeEdit_now {α : Type} [BEq α] [LawfulBEq α] [DecidableEq α] (treated sent : α) (e : PendingEdit) (s : State) :
    takeEdit false (treated != sent) e s
      = (editNow e s,
          [if treated = sent then 0x00 else 0x01, 0x00, 0xFF] ++ le8 (editNow e s).plan.edits.length
            ++ le16 (editNow e s).plan.digest.toNat) := by
  unfold takeEdit
  rw [stTreated_ne]
  rfl

theorem exec_setProfile_now {tag : Byte} {body : Bytes} {rest : List Frame} {p : Fin 4} (hlen : body.length = 24) (hp : u8 body 0 = p)
    (ht : u8 body 1 = 0) (h : s.takes ⟨tag, 0x1A, body⟩ rest) :
    exec (.setProfile tag body) s
      = .next (sendReply tag 0x1A
          ([if treatProfile (profileSent body) = profileSent body then 0x00 else 0x01, 0x00, 0xFF]
            ++ le8 (editNow (.profile p (treatProfile (profileSent body))) (s.taken rest)).plan.edits.length
            ++ le16 (editNow (.profile p (treatProfile (profileSent body))) (s.taken rest)).plan.digest.toNat)
          (editNow (.profile p (treatProfile (profileSent body))) (s.taken rest))) := by
  change request 0x1A tag body _ s = _
  refine request_runs (n := 24) (by decide) hlen h ?_
  rw [index?_of_eq hp, ht]
  exact takeEdit_now _ _ _ _

/-- The upkeep of the urgent marks writes them alone. -/
theorem remeasureUrgency_chan (s : State) (i : Fin 128) :
    ((remeasureUrgency s).chan i).granted = (s.chan i).granted ∧ ((remeasureUrgency s).chan i).asked = (s.chan i).asked := by
  refine forEach_keeps (I := fun u => (u.chan i).granted = (s.chan i).granted ∧ (u.chan i).asked = (s.chan i).asked) (fun j u hu => ?_) _ s
    ⟨rfl, rfl⟩
  have put (e : QueueEntry) : ((u.putChan j { u.chan j with entry := some e }).chan i).granted = (s.chan i).granted
      ∧ ((u.putChan j { u.chan j with entry := some e }).chan i).asked = (s.chan i).asked := by
    by_cases hj : j = i
    · subst hj
      rw [chan_putChan_self]
      exact hu
    · rw [chan_putChan_ne _ _ hj]
      exact hu
  cases (u.chan j).entry with
  | none => exact hu
  | some e =>
    dsimp only
    split
    · exact put _
    · exact hu

theorem remeasureUrgency_plan (s : State) : (remeasureUrgency s).plan = s.plan := by
  refine forEach_keeps (I := fun u => u.plan = s.plan) (fun j u hu => ?_) _ s rfl
  cases (u.chan j).entry with
  | none => exact hu
  | some e =>
    dsimp only
    split <;> exact hu

/-- A reply taken back. -/
theorem sendReply_unsent (tag kind : Byte) (reply : Bytes) {sent : List Bytes} (h : t.line.sent = sent) :
    { sendReply tag kind reply t with line := { (sendReply tag kind reply t).line with sent := sent } } = t := by
  subst h
  rfl

/-- The figures under a new profile in use, the urgent marks measured afresh (R62, R77). -/
theorem remeasured_figures {q u : State} {profile : Profile} (hu : u = remeasureUrgency (figure q)) (budget : q.budget = s.budget)
    (inUse : q.profile = profile) :
    u.line = q.line ∧ u.budget.shareable = s.budget.managed - s.budget.pProt
      ∧ (∀ k, u.budget.reserve.get k = u.budget.shareable * profile.share.get k / 1000)
      ∧ u.budget.pool = u.budget.shareable - u.budget.reserve.sum := by
  obtain ⟨line, figures⟩ := (grantClosed_figures (figure q)).remeasureUrgency ⟨rfl, .refl _⟩
  rw [← hu] at line figures
  refine ⟨line, ?_, fun k => ?_, ?_⟩
  · rw [figures.shareable, ← budget]
    rfl
  · rw [figures.shareable, figures.reserve, ← inUse]
    exact get_build _ k
  · rw [figures.shareable, figures.reserve, figures.pool]
    rfl

theorem remeasured_chan {q : State} (budget : q.budget = s.budget) (i : Fin 128) :
    ((remeasureUrgency (figure q)).chan i).granted = (s.chan i).granted
      ∧ ((remeasureUrgency (figure q)).chan i).asked = (s.chan i).asked := by
  obtain ⟨granted, asked⟩ := remeasureUrgency_chan (figure q) i
  have same : (figure q).chan i = s.chan i := chan_congr (congrArg LoadBudget.channels budget) i
  rw [same] at granted asked
  exact ⟨granted, asked⟩

/-- Settles O35: the loop takes the first of the candidates, each pass is one branch by role, and the notice is read off the two states. -/
theorem sheddingTakesTheLatestFirst : Obligations.SheddingTakesTheLatestFirst := by
  refine ⟨fun s n h => shedLoop_of_safe n h, fun s i h hi first n => shedLoop_first h hi first n, fun s i k hk => shedOne_spec hk,
    fun s cause => ⟨fun h => shedding_of_safe cause h, fun h => shedding_spec cause h (le8_shedCause cause)⟩, fun s hs hd => ?_, fun s tag body rest p hlen hp ht hc h => ?_⟩
  · have sampled := figured_sampled (sampleWindow_sampled ((sampling_sampled s).trans (sampleEnergy_sampled _)))
    have run := exec_meterSample_of_due hs hd
    rw [meterSample_eq, sampleRest] at run
    generalize figure (protect (ceil (sampleWindow (sampleEnergy s.sampling)))) = u at sampled run
    obtain ⟨-, -, reserve, pool⟩ := figures_of_unshared (handOver_unshared u .ceiling)
    exact ⟨_, u, run, sampled.plan, sampled.stop, sampled.chans, reserve.symm, pool.symm, sampled.notices.isPrefix,
      fun n hn => sampled.notices.joined hn, handOver_eq _ _, fun h ha => handOver_raised .ceiling h rfl ha⟩
  · have run := exec_setProfile_now hlen hp ht h
    have edited : editNow (.profile p (treatProfile (profileSent body))) (s.taken rest)
        = handOver .profile (remeasureUrgency (figure (recomputeDigest ((s.taken rest).setPlan
            (s.plan.apply (.profile p (treatProfile (profileSent body)))))))) := if_pos hc
    rw [edited] at run
    have profile : ((s.taken rest).setPlan (s.plan.apply (.profile p (treatProfile (profileSent body))))).profile
        = treatProfile (profileSent body) := by
      change look (upd s.plan.profiles p _) s.plan.current.fields.profile = _
      rw [hc, look_upd_self]
    generalize hq : recomputeDigest ((s.taken rest).setPlan (s.plan.apply (.profile p (treatProfile (profileSent body))))) = q at run
    have line : q.line = (s.taken rest).line := by rw [← hq]; rfl
    have stop : q.stop = s.stop := by rw [← hq]; rfl
    have budget : q.budget = s.budget := by rw [← hq]; rfl
    have inUse : q.profile = treatProfile (profileSent body) := by rw [← hq]; exact profile
    have chans := remeasured_chan budget
    have stop' : (remeasureUrgency (figure q)).stop = s.stop := (stop_of_outside (remeasureUrgency_outside _)).trans stop
    generalize hu : remeasureUrgency (figure q) = u at run chans stop'
    obtain ⟨line', shareable, reserve, pool⟩ := remeasured_figures hu.symm budget inUse
    have plan := plan_of_outside (handOver_outside u .profile)
    have follows : u.Follows (handOver .profile u) := (State.Follows.budget u).handOver _ (.refl u)
    have uline : u.line = (s.taken rest).line := line'.trans line
    have sent : (handOver .profile u).line.sent = s.line.sent := by
      rw [follows.sent, uline]
      rfl
    have profiles : u.plan.profiles = (handOver .profile u).plan.profiles := by
      rw [plan_fields_of_forgetTotals plan]
    have raised : u.budget.pool < u.poolUse → u.admits .shed → u.raised (handOver .profile u) (shedNotice 0x01 u (shedding .profile u)) :=
      fun h ha => handOver_raised .profile h (le8_shedCause .profile) ha
    have ended : handOver .profile u = settleTight (settleShed (walk (shedding .profile u))) := handOver_eq _ _
    generalize handOver .profile u = v at *
    exact ⟨_, u, run, profiles, stop', chans, shareable, reserve, pool, uline, (sendReply_unsent _ _ _ sent).trans ended, raised⟩

end Sys2Proof.Machine
end

section
/-! SUPPORT. The derivation of lighting targets in the words of the rules (R34, R145, R147). -/

namespace Sys2Proof.Machine

variable {s t u : State} {z y : Fin 24} {i j : Fin 128}

/-! ### The channel bound to a zone, and the table of R147 -/

theorem lightBinding_iff : s.lightBinding z = some i
    ↔ (s.light z).cfg.channel = some i ∧ (s.chan i).boundTo .light z = true := by
  simp [State.lightBinding, Option.filter_eq_some_iff, Channel.boundTo]

theorem lightPresent_eq (s : State) (z : Fin 24) : s.lightPresent z = (s.lightBinding z).isSome := by
  unfold State.lightPresent State.present State.lightBinding
  cases (s.light z).cfg.channel with
  | none => rfl
  | some i =>
    rw [Bool.eq_iff_iff]
    simp [Option.filter, Channel.boundTo, apply_ite Option.isSome]

theorem tableLine_eq (s : State) (z : Fin 24) : s.tableLine z = s.chosenLevel z := by
  unfold State.tableLine State.chosenLevel State.plantRunning State.overrideFor State.sceneLevel
  cases hw : s.lighting.walk <;> cases ho : s.plan.overrides.find? (fun o => o.target = .light z) <;> simp

/-- No channel is bound to two zones. -/
theorem lightBinding_inj (hz : s.lightBinding z = some i) (hy : s.lightBinding y = some i) : z = y := by
  have bz := (Channel.boundTo_iff.mp (lightBinding_iff.mp hz).2).2
  have bd := (Channel.boundTo_iff.mp (lightBinding_iff.mp hy).2).2
  exact Fin.ext (Option.some.inj (bz.symm.trans bd))

theorem lightBinding_congr (hc : ∀ i, (t.chan i).cfg = (s.chan i).cfg) (hz : (t.light z).cfg = (s.light z).cfg) :
    t.lightBinding z = s.lightBinding z := by
  unfold State.lightBinding
  simp only [hz, hc]

theorem tableLine_congr (hp : t.plan.forgetTotals = s.plan.forgetTotals) (hs : t.stop = s.stop)
    (hw : t.lighting.walk = s.lighting.walk) (hcfg : (t.light z).cfg = (s.light z).cfg) (hv : (t.light z).vacant = (s.light z).vacant) :
    t.tableLine z = s.tableLine z := by
  unfold State.tableLine
  rw [plan_fields_of_forgetTotals hp, hs, hw]
  dsimp only
  rw [hcfg, hv]

theorem lightLevel_eq (s : State) (z : Fin 24) : s.lightLevel z = max (s.tableLine z).1 (s.light z).cfg.protMin := by
  rw [tableLine_eq]
  rfl

theorem derivedZone_cfg (s : State) (z : Fin 24) : (s.derivedZone z).cfg = (s.light z).cfg := rfl

theorem derivedZone_target (s : State) (z : Fin 24) : (s.derivedZone z).target = s.lightLevel z := rfl

/-! ### What one derivation leaves -/

theorem deriveLight_binding (s : State) (z y : Fin 24) : (deriveLight z s).lightBinding y = s.lightBinding y := by
  refine lightBinding_congr (deriveLight_cfg z s) ?_
  rw [deriveLight_light]
  split
  · next e => rw [← e, derivedZone_cfg]
  · rfl

/-- A derivation asks nothing of a channel that it does not send another target. -/
theorem deriveLight_asked (h : s.lightBinding z ≠ some j ∨ s.lightLevel z = (s.light z).lastSent) :
    ((deriveLight z s).chan j).asked = (s.chan j).asked := by
  obtain ⟨-, e⟩ | ⟨i, hi, hp, hl, e⟩ := deriveLight_cases z s
  · rw [e]
    rfl
  · rw [e]
    refine (targetChange_asked_of_ne ?_ _ _).trans rfl
    by_contra hij
    rw [not_or, not_not] at hij
    obtain ⟨rfl, hb⟩ := hij
    exact h.elim (fun hn => hn (lightBinding_iff.mpr ⟨hi, Bool.of_not_eq_false hb⟩)) hl

/-- A derivation sends the zone's channel the derived target where it differs from the last sent. -/
theorem deriveLight_sends (hi : s.lightBinding z = some i) (hl : s.lightLevel z ≠ (s.light z).lastSent) :
    ((deriveLight z s).chan i).target = s.lightLevel z := by
  have hp : s.lightPresent z = true := by rw [lightPresent_eq, hi]; rfl
  obtain ⟨hn, -⟩ | ⟨k, hk, -, -, e⟩ := deriveLight_cases z s
  · exact absurd ⟨hp, hl⟩ hn
  · obtain ⟨hc, hb⟩ := lightBinding_iff.mp hi
    obtain rfl := Option.some.inj (hk.symm.trans hc)
    rw [e]
    have hb' : ((s.putLight z (s.derivedZone z)).chan k).boundTo .light z = true := hb
    rw [targetChange_target hb' (by decide), Channel.takes, if_pos (Channel.boundTo_iff.mp hb').1]

theorem lastSent_derivedZone (hi : s.lightBinding z = some i) : (s.derivedZone z).lastSent = s.lightLevel z := by
  have hp : s.lightPresent z = true := by rw [lightPresent_eq, hi]; rfl
  unfold State.derivedZone
  simp [hp]

/-- A zone's record as derived, and its channel's target where it is sent, make the zone's target derived afresh. -/
theorem derives_of_zone (hz : t.light z = s.derivedZone z) (htab : t.tableLine z = s.tableLine z)
    (hc : ∀ i, s.lightBinding z = some i → s.lightLevel z ≠ (s.light z).lastSent → (t.chan i).target = s.lightLevel z) :
    s.derives t z := by
  unfold State.derives
  rw [hz, htab]
  refine ⟨?_, ?_, ?_⟩
  · rw [derivedZone_target, lightLevel_eq]
    rfl
  · rw [tableLine_eq]
    rfl
  · cases hb : s.lightBinding z with
    | none =>
      have hp : s.lightPresent z = false := by rw [lightPresent_eq, hb]; rfl
      simp [State.derivedZone, hp]
    | some i => exact ⟨lastSent_derivedZone hb, hc i hb⟩

theorem derives_deriveLight (s : State) (z : Fin 24) : s.derives (deriveLight z s) z := by
  refine derives_of_zone (deriveLight_light_self z s) ?_ fun i hi hl => deriveLight_sends hi hl
  refine tableLine_congr (deriveLight_plan z s) (deriveLight_stop z s) (deriveLight_walk z s) ?_ ?_ <;>
    rw [deriveLight_light_self] <;> rfl

/-! ### All the derivations -/

/-- What a zone is sent, and what its channel holds, hangs on no other zone's derivation. -/
theorem deriveLight_target_ne (h : y ≠ z) (s : State) :
    (((deriveLight z s).lightBinding y).map fun i => ((deriveLight z s).chan i).target)
      = (s.lightBinding y).map fun i => (s.chan i).target := by
  rw [deriveLight_binding]
  cases hy : s.lightBinding y with
  | none => rfl
  | some i =>
    have ha : ((deriveLight z s).chan i).asked = (s.chan i).asked :=
      deriveLight_asked (.inl fun hz => h (lightBinding_inj hy hz))
    exact congrArg some (congrArg (fun a => a.2.1) ha)

theorem lightLevel_of_deriveLight (h : y ≠ z) (s : State) : (deriveLight z s).lightLevel y = s.lightLevel y :=
  lightLevel_congr (deriveLight_plan z s) (deriveLight_stop z s) (deriveLight_walk z s) (deriveLight_light_ne h s)

/-- The target that the channel bound to a zone holds after the zone's derivation. -/
def State.sentTarget (s : State) (z : Fin 24) : Option Nat :=
  (s.lightBinding z).map fun i => if s.lightLevel z = (s.light z).lastSent then (s.chan i).target else s.lightLevel z

theorem deriveLight_sentTarget (s : State) (z : Fin 24) :
    (((deriveLight z s).lightBinding z).map fun i => ((deriveLight z s).chan i).target) = s.sentTarget z := by
  rw [deriveLight_binding]
  unfold State.sentTarget
  cases hb : s.lightBinding z with
  | none => rfl
  | some i =>
    refine congrArg some ?_
    dsimp only
    split
    · next e => exact congrArg (fun a => a.2.1) (deriveLight_asked (.inr e) : ((deriveLight z s).chan i).asked = (s.chan i).asked)
    · next e => exact deriveLight_sends hb e

theorem sentTarget_of_deriveLight (h : y ≠ z) (s : State) : (deriveLight z s).sentTarget y = s.sentTarget y := by
  have ht := deriveLight_target_ne h s
  unfold State.sentTarget
  rw [lightLevel_of_deriveLight h, deriveLight_light_ne h, deriveLight_binding] at *
  cases hb : s.lightBinding y with
  | none => rfl
  | some i =>
    rw [hb] at ht
    have ht : ((deriveLight z s).chan i).target = (s.chan i).target := Option.some.inj ht
    rw [Option.map_some, Option.map_some, ht]

theorem deriveLights_binding (s : State) (z : Fin 24) : (deriveLights s).lightBinding z = s.lightBinding z :=
  lightBinding_congr (deriveLights_cfg s) (by rw [deriveLights_light, derivedZone_cfg])

theorem deriveLights_sentTarget (s : State) (z : Fin 24) :
    (((deriveLights s).lightBinding z).map fun i => ((deriveLights s).chan i).target) = s.sentTarget z :=
  forEach_indices (P := fun z s => (s.lightBinding z).map fun i => (s.chan i).target) (g := State.sentTarget)
    (fun z s => deriveLight_sentTarget s z) (fun _ _ s h => deriveLight_target_ne h s)
    (fun _ _ s h => sentTarget_of_deriveLight h s) s z

/-- Every zone's target is derived afresh. -/
theorem derives_deriveLights (s : State) (z : Fin 24) : s.derives (deriveLights s) z := by
  refine derives_of_zone (deriveLights_light s z) ?_ fun i hi hl => ?_
  · refine tableLine_congr (deriveLights_plan s) (deriveLights_stop s) (deriveLights_walk s) ?_ ?_ <;>
      rw [deriveLights_light] <;> rfl
  · have h := deriveLights_sentTarget s z
    rw [deriveLights_binding] at h
    unfold State.sentTarget at h
    rw [hi, Option.map_some, Option.map_some, if_neg hl] at h
    exact Option.some.inj h

theorem deriveLight_forEach_asked (l : List (Fin 24)) (hl : l.Nodup) (s : State) (j : Fin 128)
    (h : ∀ z ∈ l, s.lightBinding z ≠ some j ∨ s.lightLevel z = (s.light z).lastSent) :
    ((forEach l deriveLight s).chan j).asked = (s.chan j).asked := by
  induction l generalizing s with
  | nil => rfl
  | cons a l ih =>
    obtain ⟨ha, hl⟩ := List.nodup_cons.mp hl
    rw [forEach_cons, ih hl]
    · exact deriveLight_asked (h a List.mem_cons_self)
    · intro z hz
      have hza : z ≠ a := fun e => ha (e ▸ hz)
      rw [deriveLight_binding, lightLevel_of_deriveLight hza, deriveLight_light_ne hza]
      exact h z (List.mem_cons_of_mem a hz)

/-- No channel is asked for anything but another target, by the zone bound to it. -/
theorem deriveLights_asked (h : ¬s.lightAsks (deriveLights s) j) : ((deriveLights s).chan j).asked = (s.chan j).asked := by
  refine deriveLight_forEach_asked _ (nodup_indices 24) s j fun z _ => ?_
  by_contra hz
  rw [not_or, not_not] at hz
  exact h ⟨z, hz.1, by rw [deriveLights_light]; exact hz.2⟩

/-! ### Before and after the derivation -/

/-- What a derivation leaves speaks of the state before it by the channels bound and the targets last sent. -/
theorem State.derives.before (h : s.derives t z) (hb : u.lightBinding z = s.lightBinding z)
    (hl : (u.light z).lastSent = (s.light z).lastSent) : u.derives t z := by
  unfold State.derives at *
  rwa [hb, hl]

/-- It speaks of the state after it by the zone's record, the table and the targets that the channels hold. -/
theorem State.derives.after (h : s.derives t z) (hz : u.light z = t.light z) (htab : u.tableLine z = t.tableLine z)
    (hc : ∀ i, (u.chan i).target = (t.chan i).target) : s.derives u z := by
  unfold State.derives at *
  simpa only [hz, htab, hc] using h

theorem lightAsks_congr (hb : ∀ z, u.lightBinding z = s.lightBinding z) (hl : ∀ z, (u.light z).lastSent = (s.light z).lastSent) :
    u.lightAsks t j ↔ s.lightAsks t j := by
  unfold State.lightAsks
  simp only [hb, hl]

theorem State.keepsZone.of_derived (h : t.light z = s.derivedZone z) : s.keepsZone t z := by
  unfold State.keepsZone
  rw [h]
  exact ⟨rfl, rfl, rfl, rfl⟩

theorem keepsZone_congr (hs : u.light z = s.light z) : u.keepsZone t z ↔ s.keepsZone t z := by
  unfold State.keepsZone
  rw [hs]

/-- The targets of all zones derived, after changes that touch neither the Lighting Unit nor the Load Budget Unit. -/
theorem derives_all_of_unshared (hb : u.budget = s.budget) (hl : u.lighting = s.lighting) :
    (∀ z, s.derives (deriveLights u) z ∧ s.keepsZone (deriveLights u) z)
      ∧ (deriveLights u).lighting.walk = s.lighting.walk
      ∧ ∀ j, ¬s.lightAsks (deriveLights u) j → ((deriveLights u).chan j).asked = (s.chan j).asked := by
  have chan (i : Fin 128) : u.chan i = s.chan i := by unfold State.chan; rw [hb]
  have light (z : Fin 24) : u.light z = s.light z := light_of_lighting hl z
  have binding (z : Fin 24) : u.lightBinding z = s.lightBinding z := by
    unfold State.lightBinding
    simp only [chan, light]
  refine ⟨fun z => ⟨?_, ?_⟩, ?_, fun j hj => ?_⟩
  · exact (derives_deriveLights u z).before (binding z).symm (by rw [light])
  · exact (keepsZone_congr (light z)).mp (.of_derived (deriveLights_light u z))
  · rw [deriveLights_walk, hl]
  · rw [deriveLights_asked (fun h => hj ((lightAsks_congr binding fun z => by rw [light]).mp h)), chan]

end Sys2Proof.Machine
end

section
/-! SUPPORT. What the lighting derivations and the turn events raise, and what they leave of the totals (R12, R14, R167); and how overrides
begin and end. -/

namespace Sys2Proof.Machine

variable {I : State → Prop} {K : NoticeKind → Prop} {s t u : State}

/-! ### The events of the arbiter and the chains of them -/

theorem State.RaisesOnly.arbiter (hK : ∀ k : NoticeKind, k.ofHandOver → K k) (s : State) : ArbiterClosed (s.RaisesOnly K) where
  put _ _ _ _ _ h := h.of_line rfl
  light _ _ _ _ _ h := h.of_line rfl
  grant i g _ _ h := h.of_line (setGranted_line i g _)
  figures _ _ _ h := h.of_line rfl
  notice _ n b _ hk h := h.raise (hK _ hk) n b

namespace ArbiterClosed

theorem remeasureUrgency (c : ArbiterClosed I) (h : I s) : I (remeasureUrgency s) := by
  refine forEach_keeps (fun i u hu => ?_) _ s h
  cases (u.chan i).entry with
  | none => exact hu
  | some e =>
    dsimp only
    split
    · exact c.put i _ u rfl rfl hu
    · exact hu

theorem figure (c : ArbiterClosed I) (h : I s) : I (figure s) := c.figures s _ rfl h

theorem protect (c : ArbiterClosed I) (h : I s) : I (protect s) := c.figures s _ rfl h

theorem ceil (c : ArbiterClosed I) (h : I s) : I (ceil s) := c.figures s _ rfl h

section

variable (c : ArbiterClosed I) (unit : ∀ s l, I s → I (s.setLighting l))

include c unit

theorem deriveLight (z : Fin 24) (h : I s) : I (deriveLight z s) := by
  have put : I (s.putLight z (s.derivedZone z)) := unit s _ h
  obtain ⟨-, e⟩ | ⟨i, -, -, -, e⟩ := deriveLight_cases z s
  · rwa [e]
  · rw [e]
    exact c.targetChange i _ _ _ _ put

theorem deriveLights (h : I s) : I (deriveLights s) := forEach_keeps (fun z _ hu => c.deriveLight unit z hu) _ s h

theorem lightingTurn (h : I s) : I (lightingTurn s) := by
  unfold Machine.lightingTurn
  exact c.deriveLights unit (unit _ _ (forEach_keeps (fun z u hu => unit u _ hu) _ s h))

theorem overrideChanged (o : OverrideTarget) (h : I s) : I (overrideChanged o s) := by
  unfold Machine.overrideChanged
  split
  · exact h
  · exact c.deriveLight unit _ h

end

end ArbiterClosed

theorem handOver_raisesOnly_of (hK : ∀ k : NoticeKind, k.ofHandOver → K k) (cause : ShedCause) (h : s.RaisesOnly K t) :
    s.RaisesOnly K (handOver cause t) :=
  (State.RaisesOnly.arbiter hK s).handOver (fun _ hu => hu.of_line rfl) cause h

theorem turnEvent_raisesOnly (s : State) : s.RaisesOnly NoticeKind.ofHandOver (turnEvent s) := by
  have c := State.RaisesOnly.arbiter (K := NoticeKind.ofHandOver) (fun _ h => h) s
  unfold turnEvent profileChanged
  exact handOver_raisesOnly_of (fun _ h => h) _
    (c.remeasureUrgency (c.figure (c.lightingTurn (fun _ _ h => h.of_line rfl) (.refl s))))

theorem clockSetEvent_raisesOnly (v : Nat) (s : State) : s.RaisesOnly NoticeKind.ofHandOver (clockSetEvent v s) := by
  have c := State.RaisesOnly.arbiter (K := NoticeKind.ofHandOver) (fun _ h => h) s
  unfold clockSetEvent
  exact handOver_raisesOnly_of (fun _ h => h) _ (c.figure (c.ceil (.of_line (.refl s) rfl)))

theorem overrideChanged_raisesOnly (o : OverrideTarget) (s : State) : s.RaisesOnly NoticeKind.ofHandOver (overrideChanged o s) :=
  (State.RaisesOnly.arbiter (fun _ h => h) s).overrideChanged (fun _ _ h => h.of_line rfl) o (.refl s)

/-! ### What an override does at once (R34) -/

/-- An override-changed event, after a change that touches none of the units it reaches, nor what the derivation sends. -/
theorem takesOverride_overrideChanged (hb : u.budget = s.budget) (hl : u.lighting = s.lighting) (hc : u.climate = s.climate)
    (o : OverrideTarget) : s.takesOverride (overrideChanged o u) o := by
  unfold overrideChanged
  cases o with
  | climate z => exact ⟨hl, hb, hc⟩
  | light z =>
    have chan (i : Fin 128) : u.chan i = s.chan i := by unfold State.chan; rw [hb]
    have light (y : Fin 24) : u.light y = s.light y := light_of_lighting hl y
    have binding : u.lightBinding z = s.lightBinding z := lightBinding_congr (fun i => by rw [chan]) (by rw [light])
    refine ⟨(derives_deriveLight u z).before binding.symm (by rw [light]), ?_, fun y hy => ?_, ?_, fun i hi => ?_⟩
    · exact (keepsZone_congr (light z)).mp (.of_derived (deriveLight_light_self z u))
    · exact (deriveLight_light_ne hy u).trans (light y)
    · exact (deriveLight_walk z u).trans (by rw [hl])
    · have hd : (deriveLight z u).light z = u.derivedZone z := deriveLight_light_self z u
      dsimp only at hi
      rw [hd, derivedZone_target, ← binding, ← light] at hi
      rw [deriveLight_asked hi, chan]

theorem takesOverride_setLine {o : OverrideTarget} (h : s.takesOverride t o) (l : Line) : s.takesOverride (t.setLine l) o := by
  cases o with
  | climate z => exact h
  | light z => exact h

theorem takesOverride_taken {o : OverrideTarget} {rest : List Frame} (h : (s.taken rest).takesOverride t o) : s.takesOverride t o := by
  cases o with
  | climate z => exact h
  | light z => exact h

theorem overrideEndedNotice_eq (time : Option Nat) (cause : EndCause) {code : Byte} (hc : le8 cause.code = [code]) (o : Override) :
    overrideEndedNotice time code o = ⟨.overrideEnded, time, targetZone o.target, endedData o cause⟩ := by
  unfold overrideEndedNotice endedData
  rw [hc]
  cases o.target <;> rfl

/-- What the end of an override leaves (R35). -/
theorem endOverride_spec {o : Override} (cause : EndCause) {code : Byte} (hc : le8 cause.code = [code]) (s : State) :
    (endOverride o cause s).plan.overrides = s.plan.overrides.filter (fun x => x.target ≠ o.target)
      ∧ (s.admits .overrideEnded → s.raised (endOverride o cause s) (overrideEndedNotice s.plan.clock code o))
      ∧ s.takesOverride (endOverride o cause s) o.target := by
  have plan := plan_fields_of_forgetTotals (endOverride_plan o cause s)
  refine ⟨by rw [plan]; rfl, fun ha => ?_, ?_⟩
  · unfold endOverride
    dsimp only
    rw [overrideEndedNotice_eq _ cause hc]
    exact (raise_raised (t := s.setPlan { s.plan with overrides := s.plan.overrides.filter (·.target ≠ o.target) }) rfl rfl _ _ ha).mono
      (overrideChanged_raisesOnly _ _).isPrefix
  · unfold endOverride
    dsimp only
    refine takesOverride_overrideChanged ?_ ?_ ?_ _
    · exact raise_budget _ _ _ _
    · exact raise_lighting _ _ _ _
    · exact (climate_of_outside (raise_outside _ _ _ _)).trans rfl

/-! ### The requests that set and clear an override (R33 to R35) -/

theorem overrideFor_isNone (s : State) (o : OverrideTarget) :
    (s.overrideFor o).isNone = true ↔ ∀ x ∈ s.plan.overrides, x.target ≠ o := by
  unfold State.overrideFor
  simp [List.find?_eq_none]

/-- A value and, of a TIMED override alone, a duration are CLAMPED where either was changed. -/
theorem stTreated_timed (a b : Int) (timed : Bool) (d e : Nat) :
    stTreated (a != b || (timed && d != e)) = [if a = b ∧ (timed = true → d = e) then 0x00 else 0x01] := by
  by_cases h : a = b <;> cases timed <;> by_cases h' : d = e <;> simp [stTreated, h, h']

theorem leTime_timed (timed : Bool) (d : Nat) : leTime (if timed then some d else none) = le32 (if timed then d else 0xFFFFFFFF) := by
  cases timed <;> rfl

section

variable {tag : Byte} {body : Bytes} {rest : List Frame} {o : OverrideTarget} {timed : Bool}

theorem exec_setOverride_held (hlen : body.length = 9) (ho : overrideTarget? (u8 body 0) (u8 body 1) = some o)
    (ht : timed? (u8 body 4) = some timed) (room : (∃ x ∈ s.plan.overrides, x.target = o) ∨ s.plan.overrides.length < 16)
    (h : s.takes ⟨tag, 0x20, body⟩ rest) :
    let r := overrideOf o timed body s.plan.clock
    let u := setOverride r.1 (s.taken rest)
    exec (.setOverride tag body) s
      = .next (sendReply tag 0x20
          (stTreated r.2 ++ le8 u.plan.overrides.length ++ le8 (overridePosition o u.plan.overrides) ++ leTime r.1.remaining) u) := by
  change request 0x20 tag body _ s = _
  refine request_runs (n := 9) (by decide) hlen h ?_
  rw [ho, ht]
  have kept : (((s.taken rest).overrideFor o).isNone && decide (Config.maxOverrides ≤ (s.taken rest).plan.overrides.length)) = false := by
    rw [Bool.and_eq_false_iff]
    refine room.imp (fun ⟨x, hx, he⟩ => ?_) fun hl => decide_eq_false (not_le.mpr hl)
    rw [← Bool.not_eq_true, overrideFor_isNone]
    exact fun hn => hn x hx he
  dsimp only
  rw [kept]
  rfl

theorem exec_setOverride_full (hlen : body.length = 9) (ho : overrideTarget? (u8 body 0) (u8 body 1) = some o)
    (ht : timed? (u8 body 4) = some timed) (hn : ∀ x ∈ s.plan.overrides, x.target ≠ o) (full : 16 ≤ s.plan.overrides.length)
    (h : s.takes ⟨tag, 0x20, body⟩ rest) : exec (.setOverride tag body) s = .next (s.answered rest tag 0x20 [0x15]) := by
  change request 0x20 tag body _ s = _
  refine request_answers (n := 9) (by decide) hlen h ?_
  rw [ho, ht]
  have refused : (((s.taken rest).overrideFor o).isNone && decide (Config.maxOverrides ≤ (s.taken rest).plan.overrides.length)) = true := by
    rw [Bool.and_eq_true, overrideFor_isNone]
    exact ⟨hn, decide_eq_true full⟩
  dsimp only
  rw [refused]
  rfl

end

/-- What a SET OVERRIDE leaves of the plan, the line and the zone (R33, R34). -/
theorem setOverride_spec (o : Override) (s : State) :
    (setOverride o s).plan.overrides = placeOverride o s.plan.overrides ∧ (setOverride o s).plan.digest = s.plan.digest
      ∧ s.RaisesOnly NoticeKind.ofHandOver (setOverride o s) ∧ s.takesOverride (setOverride o s) o.target := by
  have plan := plan_fields_of_forgetTotals (setOverride_plan o s)
  refine ⟨by rw [plan], by rw [plan], ?_, ?_⟩
  · unfold setOverride
    exact (State.RaisesOnly.of_line (.refl s) rfl).trans (overrideChanged_raisesOnly _ _)
  · unfold setOverride
    exact takesOverride_overrideChanged rfl rfl rfl _

/-- Settles O25: each of the three changes the table and has one override-changed event; the notice is raised before it. -/
theorem overridesBeginAndEnd : Obligations.OverridesBeginAndEnd := by
  refine ⟨fun s tag body rest target timed hlen ho ht room h => ?_, fun s tag body rest target timed hlen ho ht hn full h =>
    exec_setOverride_full hlen ho ht hn full h, fun s tag kind zone rest o ho hf h => ?_, fun s o hs hr hf => ?_⟩
  · have run := exec_setOverride_held hlen ho ht room h
    obtain ⟨table, digest, raises, takes⟩ := setOverride_spec (overrideOf target timed body s.plan.clock).1 (s.taken rest)
    dsimp only at run
    have sent : (setOverride (overrideOf target timed body s.plan.clock).1 (s.taken rest)).line.sent = s.line.sent :=
      ((State.Follows.units (s.taken rest)).setOverride _ (.refl _)).sent
    generalize setOverride (overrideOf target timed body s.plan.clock).1 (s.taken rest) = u at *
    have placed : placeOverride (overrideOf target timed body s.plan.clock).1 (s.taken rest).plan.overrides
        = placeOverride (overrideOf target timed body s.plan.clock).1 s.plan.overrides := rfl
    rw [placed] at table
    refine ⟨_, run, table.trans ?_, digest, ?_, fun n hn => ?_, ?_⟩
    · cases target <;> rfl
    · refine (congrArg (· ++ _) sent).trans (congrArg (fun r => s.line.sent ++ [frameBytes tag (0x20 + 0x80) r]) ?_)
      rw [table]
      cases target with
      | climate z =>
        refine congrArg₂ (· ++ ·) (congrArg (· ++ _ ++ _) ?_) (leTime_timed timed _)
        exact stTreated_timed _ _ timed _ _
      | light z =>
        refine congrArg₂ (· ++ ·) (congrArg (· ++ _ ++ _) ?_) (leTime_timed timed _)
        exact stTreated_timed _ _ timed _ _
    · obtain e | e | e := raises.joined hn <;> simp [e]
    · exact takesOverride_setLine (takesOverride_taken takes) _
  · have run : exec (.clearOverride tag [kind, zone]) s
        = .next (sendReply tag 0x21 (0x00 :: le8 (endOverride o .cleared (s.taken rest)).plan.overrides.length)
            (endOverride o .cleared (s.taken rest))) := by
      change request 0x21 tag [kind, zone] _ s = _
      refine request_runs (n := 2) (by decide) rfl h ?_
      rw [show overrideTarget? (u8 [kind, zone] 0) (u8 [kind, zone] 1) = some o.target from ho]
      dsimp only
      rw [show (s.taken rest).plan.overrides.find? _ = some o from hf]
      rfl
    obtain ⟨table, notice, takes⟩ := endOverride_spec (o := o) .cleared (code := 0x02) rfl (s.taken rest)
    have sent : (endOverride o .cleared (s.taken rest)).line.sent = s.line.sent :=
      ((State.Follows.units (s.taken rest)).endOverride o _ (.refl _)).sent
    generalize endOverride o .cleared (s.taken rest) = u at *
    refine ⟨_, run, table, ?_, notice, takesOverride_setLine (takesOverride_taken takes) _⟩
    exact congrArg (· ++ _) sent
  · obtain ⟨table, notice, takes⟩ := endOverride_spec (o := o) .expired (code := 0x00) rfl s
    have run : exec (.overrideExpiry o.target) s = .next (endOverride o .expired s) := by
      change execOverrideExpiry o.target s = _
      unfold execOverrideExpiry
      refine whenRunning_runs hs ?_
      rw [hf]
      exact if_pos hr
    exact ⟨_, run, table, notice, takes⟩

end Sys2Proof.Machine
end

section
/-! PROOFS. NOW edits of the settings tables (R25 to R27). -/

namespace Sys2Proof.Machine

variable {s t u : State} {tag : Byte} {body : Bytes} {rest : List Frame}

/-! ### The treatment in the words of the rules (R25) -/

theorem greatestWeight_eq (w : Nat) : greatestNotAbove 0 [1, 2, 4, 8] w
    = if w = 0 then 0 else if w = 1 then 1 else if w < 4 then 2 else if w < 8 then 4 else 8 := by
  simp only [greatestNotAbove, List.foldl_cons, List.foldl_nil]
  grind

theorem greatestTight_eq (v : Nat) : greatestNotAbove 250 [500, 750, 1000] v
    = if v < 500 then 250 else if v < 750 then 500 else if v < 1000 then 750 else 1000 := by
  simp only [greatestNotAbove, List.foldl_cons, List.foldl_nil]
  grind

theorem treatShares_eq (a b c d : Nat) :
    let sum := min a 1000 + min b 1000 + min c 1000 + min d 1000
    let scaled : Nat → Nat := fun v => if 1000 < sum then min v 1000 * 1000 / sum else min v 1000
    treatShares ⟨a, b, c, d⟩ = ⟨scaled a, scaled b, scaled c, scaled d⟩ := by
  unfold treatShares
  dsimp only [PerClass.map, PerClass.sum]
  by_cases h : 1000 < min a 1000 + min b 1000 + min c 1000 + min d 1000 <;> simp only [h, ↓reduceIte]

/-- Treated shares leave no more than the whole (R25). -/
theorem treatShares_sum (p : PerClass Nat) : (treatShares p).sum ≤ 1000 := by
  unfold treatShares
  dsimp only [PerClass.map]
  split
  · next h =>
    dsimp only [PerClass.sum] at h ⊢
    generalize hn : min p.light 1000 + min p.heat 1000 + min p.air 1000 + min p.dock 1000 = n at h ⊢
    calc min p.light 1000 * 1000 / n + min p.heat 1000 * 1000 / n + min p.air 1000 * 1000 / n + min p.dock 1000 * 1000 / n
        ≤ (min p.light 1000 * 1000 + min p.heat 1000 * 1000 + min p.air 1000 * 1000 + min p.dock 1000 * 1000) / n := by
          refine le_trans (Nat.add_le_add_right (le_trans (Nat.add_le_add_right (Nat.div_add_div_le_add_div) _)
            (Nat.div_add_div_le_add_div)) _) (Nat.div_add_div_le_add_div)
      _ = n * 1000 / n := by rw [← hn]; ring_nf
      _ ≤ 1000 := by rw [Nat.mul_div_cancel_left _ (by omega)]
  · next h => exact not_lt.mp h

/-! ### The three requests with NOW (R26, R27) -/

theorem exec_setScene_now {i : Fin 16} (hlen : body.length = 50) (hi : u8 body 0 = i) (ht : u8 body 1 = 0)
    (h : s.takes ⟨tag, 0x18, body⟩ rest) :
    let u := editNow (.scene i (treatScene (sceneSent body))) (s.taken rest)
    exec (.setScene tag body) s
      = .next (sendReply tag 0x18
          ([if treatScene (sceneSent body) = sceneSent body then 0x00 else 0x01, 0x00, 0xFF] ++ le8 u.plan.edits.length
            ++ le16 u.plan.digest.toNat) u) := by
  change request 0x18 tag body _ s = _
  refine request_runs (n := 50) (by decide) hlen h ?_
  rw [index?_of_eq hi, ht]
  exact takeEdit_now _ _ _ _

theorem exec_setClimateSet_now {i : Fin 8} (hlen : body.length = 50) (hi : u8 body 0 = i) (ht : u8 body 1 = 0)
    (h : s.takes ⟨tag, 0x19, body⟩ rest) :
    let u := editNow (.climateSet i (treatClimateSet (climateSetSent body))) (s.taken rest)
    exec (.setClimateSet tag body) s
      = .next (sendReply tag 0x19
          ([if treatClimateSet (climateSetSent body) = climateSetSent body then 0x00 else 0x01, 0x00, 0xFF]
            ++ le8 u.plan.edits.length ++ le16 u.plan.digest.toNat) u) := by
  change request 0x19 tag body _ s = _
  refine request_runs (n := 50) (by decide) hlen h ?_
  rw [index?_of_eq hi, ht]
  exact takeEdit_now _ _ _ _

/-- A NOW edit puts its entry in the tables and the digest right; the rest of the plan stands. -/
theorem editNow_fields (e : PendingEdit) (s : State) :
    (editNow e s).plan.scenes = (s.plan.apply e).scenes ∧ (editNow e s).plan.climateSets = (s.plan.apply e).climateSets
      ∧ (editNow e s).plan.profiles = (s.plan.apply e).profiles ∧ (editNow e s).plan.edits = (s.plan.apply e).edits
      ∧ (editNow e s).plan.digest = (editNow e s).plan.digestNow ∧ (editNow e s).plan.current = (s.plan.apply e).current := by
  have plan := plan_fields_of_forgetTotals (editNow_plan e s)
  rw [plan]
  exact ⟨rfl, rfl, rfl, rfl, rfl, rfl⟩

theorem editNow_sent (e : PendingEdit) (s : State) : (editNow e s).line.sent = s.line.sent :=
  ((State.Follows.units s).editNow e (.refl s)).sent

theorem replied_of_sent {v : State} {kind : Byte} {reply : Bytes} (h : v.line.sent = s.line.sent) :
    s.replied (sendReply tag kind reply v) tag kind reply :=
  congrArg (· ++ [frameBytes tag (kind + 0x80) reply]) h

theorem editNow_scene_used {i : Fin 16} (c : Scene) (h : s.plan.current.fields.scene = i) :
    (∀ z, s.derives (editNow (.scene i c) s) z ∧ s.keepsZone (editNow (.scene i c) s) z)
      ∧ (editNow (.scene i c) s).lighting.walk = s.lighting.walk
      ∧ ∀ j, ¬s.lightAsks (editNow (.scene i c) s) j → ((editNow (.scene i c) s).chan j).asked = (s.chan j).asked := by
  unfold editNow
  dsimp only
  rw [if_pos h]
  exact derives_all_of_unshared rfl rfl

theorem editNow_scene_unused {i : Fin 16} (c : Scene) (h : s.plan.current.fields.scene ≠ i) :
    (editNow (.scene i c) s).lighting = s.lighting ∧ (editNow (.scene i c) s).budget = s.budget := by
  unfold editNow
  dsimp only
  rw [if_neg h]
  exact ⟨rfl, rfl⟩

theorem profileChanged_asked (s : State) (j : Fin 128) : ((profileChanged s).chan j).asked = (s.chan j).asked :=
  (asked_of_unshared (handOver_unshared _ _) j).trans (remeasured_chan rfl j).2

theorem editNow_profile {i : Fin 4} (c : Profile) (s : State) :
    (editNow (.profile i c) s).lighting = s.lighting ∧ (∀ j, ((editNow (.profile i c) s).chan j).asked = (s.chan j).asked)
      ∧ (s.plan.current.fields.profile ≠ i → (editNow (.profile i c) s).budget = s.budget) := by
  unfold editNow
  dsimp only
  by_cases h : s.plan.current.fields.profile = i
  · rw [if_pos h]
    exact ⟨(lighting_of_outside (profileChanged_outside _)).trans rfl, fun j => (profileChanged_asked _ j).trans rfl, fun hn => absurd h hn⟩
  · rw [if_neg h]
    exact ⟨rfl, fun _ => rfl, fun _ => rfl⟩

/-- Settles O21: the treatment is read off its definitions, and a NOW edit is the entry stored, the digest, and the event of the unit that
uses it. -/
theorem tableEditNowIsStored : Obligations.TableEditNowIsStored := by
  refine ⟨fun body => ⟨?_, ?_, ?_⟩, fun s tag body rest i hlen hi ht h => ?_, fun s tag body rest i hlen hi ht h => ?_,
    fun s tag body rest i hlen hi ht h => ?_⟩
  · unfold treatProfile profileSent
    dsimp only [PerClass.map]
    rw [treatShares_eq]
    simp only [greatestWeight_eq, greatestTight_eq]
  · unfold treatScene sceneSent
    rw [Vector.map_ofFn]
    rfl
  · unfold treatClimateSet climateSetSent
    rw [Vector.map_ofFn]
    rfl
  · have run := exec_setScene_now hlen hi ht h
    obtain ⟨scenes, sets, profiles, edits, digest, current⟩ := editNow_fields (.scene i (treatScene (sceneSent body))) (s.taken rest)
    have sent := editNow_sent (.scene i (treatScene (sceneSent body))) (s.taken rest)
    have used := editNow_scene_used (s := s.taken rest) (i := i) (treatScene (sceneSent body))
    have unused := editNow_scene_unused (s := s.taken rest) (i := i) (treatScene (sceneSent body))
    generalize editNow (.scene i (treatScene (sceneSent body))) (s.taken rest) = u at *
    refine ⟨_, run, scenes, sets, profiles, edits, digest, current, ?_, used, unused⟩
    rw [show s.plan.edits = u.plan.edits from edits.symm]
    exact replied_of_sent sent
  · have run := exec_setClimateSet_now hlen hi ht h
    have unit : (editNow (.climateSet i (treatClimateSet (climateSetSent body))) (s.taken rest)).budget = s.budget
        ∧ (editNow (.climateSet i (treatClimateSet (climateSetSent body))) (s.taken rest)).lighting = s.lighting := ⟨rfl, rfl⟩
    obtain ⟨scenes, sets, profiles, edits, digest, current⟩ :=
      editNow_fields (.climateSet i (treatClimateSet (climateSetSent body))) (s.taken rest)
    have sent := editNow_sent (.climateSet i (treatClimateSet (climateSetSent body))) (s.taken rest)
    generalize editNow (.climateSet i (treatClimateSet (climateSetSent body))) (s.taken rest) = u at *
    refine ⟨_, run, sets, scenes, profiles, edits, digest, current, unit.1, unit.2, ?_⟩
    rw [show s.plan.edits = u.plan.edits from edits.symm]
    exact replied_of_sent sent
  · have run := exec_setProfile_now hlen hi ht h
    obtain ⟨scenes, sets, profiles, edits, digest, current⟩ :=
      editNow_fields (.profile i (treatProfile (profileSent body))) (s.taken rest)
    have sent := editNow_sent (.profile i (treatProfile (profileSent body))) (s.taken rest)
    obtain ⟨lighting, asked, unused⟩ := editNow_profile (i := i) (treatProfile (profileSent body)) (s.taken rest)
    generalize editNow (.profile i (treatProfile (profileSent body))) (s.taken rest) = u at *
    refine ⟨_, run, profiles, ?_, scenes, sets, edits, digest, current, ?_, lighting, asked, unused⟩
    · change (look u.plan.profiles i).share.sum ≤ 1000
      rw [profiles]
      change (look (upd s.plan.profiles i _) i).share.sum ≤ 1000
      rw [look_upd_self]
      exact treatShares_sum _
    · rw [show s.plan.edits = u.plan.edits from edits.symm]
      exact replied_of_sent sent

end Sys2Proof.Machine
end

section
/-! SUPPORT. What a turn leaves of the plan, the totals and the notice queue (R12, R14, R29, R35). -/

namespace Sys2Proof.Machine

variable {s t u : State} {l m : List Notice} {ended table : List Override}

/-! ### The records that a turn ends (R35) -/

theorem mem_removeOverrides {x : Override} : x ∈ removeOverrides ended table ↔ x ∈ table ∧ ∀ o ∈ ended, x.target ≠ o.target := by
  unfold removeOverrides
  induction ended generalizing table with
  | nil => simp
  | cons o ended ih =>
    rw [List.foldl_cons, ih]
    simp only [List.mem_filter, decide_eq_true_eq, List.forall_mem_cons, and_assoc]

theorem removeOverrides_eq_filter (ended table : List Override) :
    removeOverrides ended table = table.filter fun x => ended.all fun o => x.target ≠ o.target := by
  unfold removeOverrides
  induction ended generalizing table with
  | nil => simp
  | cons o ended ih =>
    rw [List.foldl_cons, ih, List.filter_filter]
    simp only [List.all_cons]
    exact List.filter_congr fun x _ => Bool.and_comm _ _

/-- With one record for a target at most, the TIMED records alone stand after a turn. -/
theorem removeOverrides_turn (h : (table.map Override.target).Nodup) :
    removeOverrides (table.filter (·.remaining.isNone)) table = table.filter (·.remaining.isSome) := by
  rw [removeOverrides_eq_filter]
  refine List.filter_congr fun x hx => ?_
  rw [Bool.eq_iff_iff, List.all_eq_true]
  constructor
  · intro hn
    by_contra hs
    have hx' : x ∈ table.filter (·.remaining.isNone) := List.mem_filter.mpr ⟨hx, by simpa using hs⟩
    simpa using hn x hx'
  · intro hs o ho
    obtain ⟨hot, hon⟩ := List.mem_filter.mp ho
    refine decide_eq_true fun he => ?_
    rw [List.inj_on_of_nodup_map h hx hot he, Option.isNone_iff_eq_none.mp hon] at hs
    cases hs

/-! ### The OVERRIDE_ENDED notices raised between two states -/

/-- Between s and t the OVERRIDE_ENDED notices raised are those of the list, while their class passes the level and the queue has room for
all of them. -/
structure State.Ends (s t : State) (l : List Notice) : Prop where
  level : t.line.level = s.line.level
  queue : s.line.notices <+: t.line.notices
  ended : s.line.level.passes NoticeKind.overrideEnded.cls = true → t.line.notices.length < Config.maxNotices →
    (s.joined t).filter (fun n => n.kind = .overrideEnded) = l

namespace State.Ends

theorem joined_append (h : s.line.notices <+: t.line.notices) (h' : t.line.notices <+: u.line.notices) :
    s.joined u = s.joined t ++ t.joined u := by
  obtain ⟨a, ha⟩ := h
  obtain ⟨b, hb⟩ := h'
  unfold State.joined
  rw [← hb, ← ha]
  simp [List.append_assoc]

theorem trans (h : s.Ends t l) (h' : t.Ends u m) : s.Ends u (l ++ m) where
  level := h'.level.trans h.level
  queue := h.queue.trans h'.queue
  ended passes room := by
    rw [joined_append h.queue h'.queue, List.filter_append, h.ended passes (lt_of_le_of_lt h'.queue.length_le room),
      h'.ended (h.level ▸ passes) room]

/-- Notices of other kinds. -/
theorem of_raises {K : NoticeKind → Prop} (follows : s.Follows t) (h : s.RaisesOnly K t) (hK : ¬K .overrideEnded) : s.Ends t [] where
  level := follows.level
  queue := follows.1
  ended _ _ := by
    rw [List.filter_eq_nil_iff]
    intro n hn he
    exact hK (of_decide_eq_true he ▸ h.joined hn)

theorem of_line (h : s.Ends t l) (hl : u.line = t.line) : s.Ends u l where
  level := hl ▸ h.level
  queue := hl ▸ h.queue
  ended passes room := by
    have hj : s.joined u = s.joined t := by
      unfold State.joined
      rw [hl]
    rw [hj]
    exact h.ended passes (hl ▸ room)

theorem refl (s : State) : s.Ends s [] := ⟨rfl, List.prefix_rfl, fun _ _ => by simp [State.joined]⟩

theorem raise (n : Nat) (b : Bytes) (s : State) : s.Ends (raise .overrideEnded n b s) [⟨.overrideEnded, s.plan.clock, n, b⟩] where
  level := ((State.Follows.refl s).raise _ n b).level
  queue := ((State.Follows.refl s).raise _ n b).1
  ended passes room := by
    have hr := raise_notices .overrideEnded n b s
    have admitted : s.admits .overrideEnded :=
      ⟨passes, lt_of_le_of_lt ((State.Follows.refl s).raise .overrideEnded n b).1.length_le room⟩
    unfold State.joined
    rw [hr, if_pos admitted, List.drop_left]
    rfl

theorem override (o : Override) (s : State) : s.Ends (endOverride o .turn s) [overrideEndedNotice s.plan.clock 0x01 o] := by
  unfold endOverride
  dsimp only
  rw [overrideEndedNotice_eq _ .turn (code := 0x01) rfl]
  have start : s.Ends (s.setPlan { s.plan with overrides := s.plan.overrides.filter (·.target ≠ o.target) }) [] := (refl s).of_line rfl
  have raised := raise (targetZone o.target) (endedData o .turn)
    (s.setPlan { s.plan with overrides := s.plan.overrides.filter (·.target ≠ o.target) })
  generalize Machine.raise .overrideEnded (targetZone o.target) (endedData o .turn)
    (s.setPlan { s.plan with overrides := s.plan.overrides.filter (·.target ≠ o.target) }) = v at raised ⊢
  refine (start.trans raised).trans (m := []) (of_raises ?_ (overrideChanged_raisesOnly o.target v) (by rintro (h | h | h) <;> cases h))
  exact (State.Follows.units v).overrideChanged _ (.refl v)

theorem overrides (l : List Override) (s : State) :
    s.Ends (forEach l (fun o u => endOverride o .turn u) s) (l.map (overrideEndedNotice s.plan.clock 0x01)) := by
  induction l generalizing s with
  | nil => exact refl s
  | cons o l ih =>
    have clock : (endOverride o .turn s).plan.clock = s.plan.clock := by
      rw [plan_fields_of_forgetTotals (endOverride_plan o .turn s)]
      rfl
    have rest := ih (endOverride o .turn s)
    rw [clock] at rest
    exact (override o s).trans rest

/-- The list of the notices, as step 5 of a turn gives it. -/
theorem endsTurnOverrides (h : s.Ends t ((s.plan.overrides.filter (·.remaining.isNone)).map (overrideEndedNotice t.plan.clock 0x01))) :
    s.endsTurnOverrides t := by
  intro passes room
  rw [h.ended (h.level ▸ passes) room]
  congr 1
  refine List.filter_congr fun x _ => ?_
  cases x.remaining <;> rfl

end State.Ends

/-! ### The totals over a turn (R12) -/

/-- Totals of zero, and then chains of small writes. -/
theorem State.startsTotals.then {n : Nat} (h : s.startsTotals t n) (hd : ∀ d, (t.door d).cfg = (s.door d).cfg) (hk : t.keepsTotals u) :
    s.startsTotals u (n + 1) := by
  obtain ⟨cycles, held, shed, loss⟩ := h
  obtain ⟨cycles', held', shed', loss'⟩ := hk
  refine ⟨cycles'.trans cycles, held'.trans held, ?_, fun hn => ?_⟩
  · obtain e | e := shed' <;> omega
  · obtain ⟨docked, bare⟩ := loss hn
    obtain ⟨docked', bare'⟩ := loss' fun d => (congrArg DoorConfig.curtain (hd d)).trans (hn d)
    exact ⟨docked'.trans docked, bare'.trans bare⟩

theorem startsTotals_of_counts (h : t.SameCounts u) (hz : t.plan.totals = {}) (hd : ∀ d, (t.door d).cfg = (s.door d).cfg) :
    s.startsTotals u 0 := by
  refine ⟨h.cycles.trans (by rw [hz]), h.held.trans (by rw [hz]), le_of_eq (h.shed.trans (by rw [hz])), fun hn => ?_⟩
  obtain ⟨docked, bare⟩ := h.loss fun d => (congrArg DoorConfig.curtain (hd d)).trans (hn d)
  exact ⟨docked.trans (by rw [hz]), bare.trans (by rw [hz])⟩

namespace State.SameCounts

theorem raise (h : s.SameCounts t) (k : NoticeKind) (n : Nat) (b : Bytes) : s.SameCounts (raise k n b t) :=
  h.of_eq (congrArg PlanUnit.totals (raise_plan _ _ _ _)) (raise_dock _ _ _ _)

theorem endOverride (h : s.SameCounts t) (o : Override) (c : EndCause) : s.SameCounts (endOverride o c t) := by
  unfold Machine.endOverride
  exact (State.SameCounts.arbiter s).overrideChanged (fun _ _ h => h.of_eq rfl rfl) _
    (raise (h.of_eq (u := t.setPlan { t.plan with overrides := t.plan.overrides.filter (·.target ≠ o.target) }) rfl rfl) _ _ _)

theorem applyEdits (h : s.SameCounts t) : s.SameCounts (applyEdits t) := by
  refine h.of_eq ?_ ?_
  · rw [applyEdits_plan, edited_eq]
  · unfold Machine.applyEdits
    split <;> rfl

theorem lightingTurn (h : s.SameCounts t) : s.SameCounts (lightingTurn t) :=
  (State.SameCounts.arbiter s).lightingTurn (fun _ _ h => h.of_eq rfl rfl) h

/-- Small writes before a hand-over. -/
theorem keeps (h : s.SameCounts t) (hk : t.keepsTotals u) : s.keepsTotals u := by
  obtain ⟨cycles, held, shed, loss⟩ := hk
  refine ⟨cycles.trans h.cycles, held.trans h.held, by rwa [h.shed] at shed, fun hn => ?_⟩
  obtain ⟨docked, bare⟩ := h.loss hn
  obtain ⟨docked', bare'⟩ := loss fun d => (congrArg DoorConfig.curtain (h.doors d)).trans (hn d)
  exact ⟨docked'.trans docked, bare'.trans bare⟩

end State.SameCounts

/-- A change of the profile in use adds one shed episode at most. -/
theorem profileChanged_keepsTotals (s : State) : s.keepsTotals (profileChanged s) := by
  have before : s.SameCounts (remeasureUrgency (figure s)) :=
    (State.SameCounts.arbiter s).remeasureUrgency ((State.SameCounts.arbiter s).figure (.refl s))
  exact before.keeps (handOver_keepsTotals _ _)

theorem State.RaisesOnly.weaken {K K' : NoticeKind → Prop} (h : s.RaisesOnly K t) (hk : ∀ k, K k → K' k) : s.RaisesOnly K' t := by
  obtain ⟨l, hl, hn⟩ := h
  exact ⟨l, hl, fun n hm => hk _ (hn n hm)⟩

/-! ### A turn as a whole (R14) -/

theorem door_cfg_of_outsidePlan (h : t.outsidePlan = s.outsidePlan) (d : Fin 32) : (t.door d).cfg = (s.door d).cfg :=
  cfg_of_shape (shape_of_forgetLoss (show t.outsidePlan.dock = s.outsidePlan.dock by rw [h]) d)

/-- The notices that a turn raises behind TURN. -/
def NoticeKind.ofTurn (k : NoticeKind) : Prop := k = .overrideEnded ∨ k.ofHandOver

/-- Between s and t steps 3 to 6 of a turn and its event were taken, into this copy of a phase. -/
structure State.TakesTurn (s t : State) (c : PhaseCopy) : Prop where
  plan : t.plan.forgetTotals = (s.plan.entered c).forgetTotals
  totals : s.startsTotals t 1
  ends : s.Ends t ((s.plan.overrides.filter (·.remaining.isNone)).map (overrideEndedNotice s.plan.clock 0x01))
  raises : s.RaisesOnly NoticeKind.ofTurn t
  follows : s.Follows t
  doors : ∀ d, (t.door d).cfg = (s.door d).cfg

theorem endOverride_raisesOnly (o : Override) (c : EndCause) (s : State) : s.RaisesOnly NoticeKind.ofTurn (endOverride o c s) := by
  unfold endOverride
  dsimp only
  have raised := (State.RaisesOnly.of_line (K := NoticeKind.ofTurn) (.refl s)
    (u := s.setPlan { s.plan with overrides := s.plan.overrides.filter (·.target ≠ o.target) }) rfl).raise (.inl rfl)
      (targetZone o.target) (endedData o c)
  exact (State.RaisesOnly.arbiter (K := NoticeKind.ofTurn) (fun _ h => .inr h) s).overrideChanged (fun _ _ h => h.of_line rfl) _ raised

theorem takePhase_takesTurn (c : PhaseCopy) (s : State) : s.TakesTurn (takePhase c s) c where
  plan := takePhase_plan c s
  doors := door_cfg_of_outsidePlan (by simp)
  follows := (State.Follows.units s).takePhase c (.refl s)
  totals := by
    have counts : (enterPhase c s).SameCounts (lightingTurn (recomputeNext (endTurnOverrides (applyEdits (enterPhase c s))))) := by
      have edited : (enterPhase c s).SameCounts (applyEdits (enterPhase c s)) := .applyEdits (.refl _)
      have ended : (enterPhase c s).SameCounts (endTurnOverrides (applyEdits (enterPhase c s))) :=
        forEach_keeps (I := (enterPhase c s).SameCounts) (fun o u hu => hu.endOverride o .turn) _ _ edited
      exact .lightingTurn (ended.of_eq rfl rfl)
    exact .then (startsTotals_of_counts counts rfl fun _ => rfl)
      (fun d => door_cfg_of_outsidePlan (t := lightingTurn (recomputeNext (endTurnOverrides (applyEdits (enterPhase c s)))))
        ((outsidePlan_of (lightingTurn_outsideLighting _)).trans (by simp; rfl)) d)
      (profileChanged_keepsTotals _)
  ends := by
    have edited : (applyEdits (enterPhase c s)).line = s.line := by
      unfold applyEdits
      split <;> rfl
    have plan : (applyEdits (enterPhase c s)).plan.overrides = s.plan.overrides ∧ (applyEdits (enterPhase c s)).plan.clock = s.plan.clock := by
      rw [applyEdits_plan, edited_eq]
      exact ⟨rfl, rfl⟩
    have ended := State.Ends.overrides ((applyEdits (enterPhase c s)).plan.overrides.filter (·.remaining.isNone)) (applyEdits (enterPhase c s))
    rw [plan.2, plan.1] at ended
    have before : s.Ends (applyEdits (enterPhase c s)) [] := (State.Ends.refl s).of_line edited
    have after := State.Ends.of_raises ((State.Follows.units _).turnEvent (.refl (recomputeNext (endTurnOverrides (applyEdits (enterPhase c s))))))
      (turnEvent_raisesOnly (recomputeNext (endTurnOverrides (applyEdits (enterPhase c s))))) (by rintro (h | h | h) <;> cases h)
    have all := ((before.trans ended).of_line (u := recomputeNext (endTurnOverrides (applyEdits (enterPhase c s)))) ?_).trans after
    · rw [List.nil_append, List.append_nil] at all
      exact all
    · unfold endTurnOverrides
      rw [plan.1]
      rfl
  raises := by
    have edited : (applyEdits (enterPhase c s)).line = s.line := by
      unfold applyEdits
      split <;> rfl
    have ended : s.RaisesOnly NoticeKind.ofTurn (endTurnOverrides (applyEdits (enterPhase c s))) :=
      forEach_keeps (I := s.RaisesOnly NoticeKind.ofTurn) (fun o u hu => hu.trans (endOverride_raisesOnly o .turn u)) _ _ ((State.RaisesOnly.refl s).of_line edited)
    unfold takePhase
    generalize endTurnOverrides (applyEdits (enterPhase c s)) = v at ended ⊢
    exact (ended.of_line (u := recomputeNext v) rfl).trans ((turnEvent_raisesOnly _).weaken fun _ h => .inr h)

/-- What every turn does beside the phases it moves: the edits applied, the UNTIL_TURN overrides ended, the totals from zero. -/
structure State.TurnEffects (s t : State) : Prop where
  edits : t.plan.edits = []
  scenes : t.plan.scenes = (s.plan.edits.foldl PlanUnit.apply s.plan).scenes
  climateSets : t.plan.climateSets = (s.plan.edits.foldl PlanUnit.apply s.plan).climateSets
  profiles : t.plan.profiles = (s.plan.edits.foldl PlanUnit.apply s.plan).profiles
  overrides : (s.plan.overrides.map Override.target).Nodup → t.plan.overrides = s.plan.overrides.filter (·.remaining.isSome)
  ended : s.Ends t ((s.plan.overrides.filter (·.remaining.isNone)).map (overrideEndedNotice t.plan.clock 0x01))
  totals : s.startsTotals t 1

theorem State.TakesTurn.plan_eq {c : PhaseCopy} (h : s.TakesTurn t c) : t.plan = { s.plan.entered c with totals := t.plan.totals } :=
  plan_fields_of_forgetTotals h.plan

theorem State.TakesTurn.effects {c : PhaseCopy} (h : s.TakesTurn t c) : s.TurnEffects t where
  edits := by rw [h.plan_eq, entered_eq]
  scenes := by rw [h.plan_eq, entered_eq]
  climateSets := by rw [h.plan_eq, entered_eq]
  profiles := by rw [h.plan_eq, entered_eq]
  overrides hn := by
    rw [h.plan_eq, entered_eq]
    exact removeOverrides_turn hn
  ended := by
    have clock : t.plan.clock = s.plan.clock := by rw [h.plan_eq, entered_eq]
    rw [clock]
    exact h.ends
  totals := h.totals

/-- What a turn does holds of a state before it, too, that has the same edits, tables, overrides and doors. -/
theorem State.TurnEffects.before (h : t.TurnEffects u) (edits : t.plan.edits = s.plan.edits) (scenes : t.plan.scenes = s.plan.scenes)
    (climateSets : t.plan.climateSets = s.plan.climateSets) (profiles : t.plan.profiles = s.plan.profiles)
    (overrides : t.plan.overrides = s.plan.overrides) (dock : t.dock = s.dock) (quiet : s.Ends t []) : s.TurnEffects u := by
  obtain ⟨hs, hc, hp⟩ := foldl_apply_tables (q := t.plan) (p := s.plan) s.plan.edits ⟨scenes, climateSets, profiles⟩
  refine ⟨h.edits, ?_, ?_, ?_, ?_, ?_, ?_⟩
  · rw [h.scenes, edits, hs]
  · rw [h.climateSets, edits, hc]
  · rw [h.profiles, edits, hp]
  · rw [← overrides]
    exact h.overrides
  · rw [← overrides]
    exact quiet.trans h.ended
  · have totals := h.totals
    unfold State.startsTotals State.door at *
    rwa [dock] at totals

/-! ### The TURN notice (R15) -/

/-- The TURN notice of a turn with this cause, as it reports the phase that ends. -/
def turnNotice (p : PlanUnit) (time : Option Nat) (cause : Byte) (digest : Crc16) : Notice :=
  ⟨.turn, time, 0,
    [cause] ++ le8 p.current.fields.label ++ le16 (min 65535 (p.totals.docked / 36000)) ++ le16 (min 65535 (p.totals.bare / 36000))
      ++ le16 p.totals.cycles ++ le8 (min 255 p.totals.held) ++ le8 (min 255 p.totals.shed) ++ le16 digest.toNat⟩

theorem leaveCurrent_ends (cause : TurnCause) (s : State) : s.Ends (leaveCurrent cause s) [] := by
  refine State.Ends.of_raises (K := fun k => k = .turn) ((State.Follows.units s).leaveCurrent cause (.refl s)) ?_ (by simp)
  have raised := (State.RaisesOnly.refl (K := fun k => k = .turn) s).raise (k := .turn) rfl 0 (turnData s.plan cause)
  unfold leaveCurrent
  exact raised.of_line rfl

theorem leaveCurrent_effects {cause : TurnCause} (h : (leaveCurrent cause s).TurnEffects u) : s.TurnEffects u := by
  have plan := leaveCurrent_plan cause s
  have dock : (leaveCurrent cause s).dock = s.dock := (raise_dock _ _ _ _).trans rfl
  exact h.before (by rw [plan]; rfl) (by rw [plan]; rfl) (by rw [plan]; rfl) (by rw [plan]; rfl) (by rw [plan]; rfl) dock
    (leaveCurrent_ends cause s)

theorem leaveCurrent_raised {cause : TurnCause} {code : Byte} (hc : le8 cause.code = [code]) (hu : (leaveCurrent cause s).Follows u)
    (ha : s.admits .turn) : s.raised u (turnNotice s.plan s.plan.clock code s.plan.digest) := by
  refine State.raised.follows ?_ hu
  have data : turnNotice s.plan s.plan.clock code s.plan.digest = ⟨.turn, s.plan.clock, 0, turnData s.plan cause⟩ := by
    unfold turnData
    rw [hc]
    rfl
  rw [data]
  exact raise_raised (s := s) (t := s) rfl rfl 0 (turnData s.plan cause) ha

end Sys2Proof.Machine
end

section
/-! PROOFS. Timed turns and the requests that edit the phase list (R5 to R7, R9, R14, R17, R18). -/

namespace Sys2Proof.Machine

variable {s t u : State} {tag : Byte} {body : Bytes} {rest : List Frame}

/-! ### The timed turn (R14) -/

/-- The digest after a turn follows the plan where an edit was applied (R29). -/
theorem State.TakesTurn.digest {c : PhaseCopy} (h : s.TakesTurn t c) :
    t.plan.digest = if s.plan.edits = [] then s.plan.digest else t.plan.digestNow := by
  have now : (s.plan.entered c).digestNow = (s.plan.edits.foldl PlanUnit.apply s.plan).digestNow := by
    rw [entered_eq, foldl_apply_eq]
    rfl
  rw [h.plan_eq]
  change (s.plan.entered c).digest = if s.plan.edits = [] then s.plan.digest else (s.plan.entered c).digestNow
  rw [now, entered_eq]

/-- What a turn leaves of the plan beside its effects. -/
theorem State.TakesTurn.phases {c : PhaseCopy} (h : s.TakesTurn t c) :
    t.plan.current = c ∧ t.plan.previous = s.plan.previous ∧ t.plan.next = s.plan.clock.bind (nextAfter s.plan.phases)
      ∧ t.plan.clock = s.plan.clock ∧ t.plan.phases = s.plan.phases ∧ t.plan.fallback = s.plan.fallback := by
  rw [h.plan_eq, entered_eq]
  exact ⟨rfl, rfl, rfl, rfl, rfl, rfl⟩

/-- Settles O17: a due turn is the leaving of current and a turn into the record that next names. -/
theorem timedTurnEntersNext : Obligations.TimedTurnEntersNext := by
  refine ⟨fun s r now hs hd hr hc hn => ?_, fun s hs hd => ?_⟩
  · have run : exec .timedTurn s = .next (takePhase (copyOf r) (leaveCurrent .timed s)) := by
      change execTimedTurn s = _
      unfold execTimedTurn
      refine whenRunning_runs hs ?_
      rw [if_pos hd]
      unfold timedTurn
      rw [hr]
    have turn := takePhase_takesTurn (copyOf r) (leaveCurrent .timed s)
    generalize takePhase (copyOf r) (leaveCurrent .timed s) = t at run turn
    obtain ⟨current, previous, next, clock, phases, fallback⟩ := turn.phases
    have digest := turn.digest
    have effects := leaveCurrent_effects turn.effects
    rw [leaveCurrent_plan] at previous next clock phases fallback digest
    have clock : t.plan.clock = some now := clock.trans hc
    refine ⟨t, run, previous, current, ?_, effects.edits, effects.scenes, effects.climateSets, effects.profiles, effects.overrides hn,
      effects.ended.endsTurnOverrides, effects.totals, clock, phases, fallback, digest, fun ha => ?_⟩
    · rw [next]
      change s.plan.clock.bind (nextAfter s.plan.phases) = _
      rw [hc]
      rfl
    · have raised := leaveCurrent_raised (cause := .timed) (code := 0x00) rfl turn.follows ha
      rw [hc] at raised
      exact raised
  · change execTimedTurn s = _
    unfold execTimedTurn
    refine whenRunning_runs hs (if_neg ?_)
    rw [hd]
    exact Bool.false_ne_true

/-! ### ADD PHASE (R5, R17) -/

theorem exec_addPhase_accepted {f : PhaseFields} (hlen : body.length = 8) (hf : listFields? body = some f) (hm : u16 body 0 < 10080)
    (hr : recordAt s.plan.phases (u16 body 0) = none) (hl : s.plan.phases.length < 48) (h : s.takes ⟨tag, 0x10, body⟩ rest) :
    exec (.addPhase tag body) s
      = .next (sendReply tag 0x10 (addRecord ⟨u16 body 0, f⟩ (s.taken rest)).listReply (addRecord ⟨u16 body 0, f⟩ (s.taken rest))) := by
  change request 0x10 tag body _ s = _
  refine request_runs (n := 8) (by decide) hlen h ?_
  have small : ¬Config.weekMinutes ≤ u16 body 0 := not_le.mpr hm
  have free : ¬(recordAt (s.taken rest).plan.phases (u16 body 0)).isSome = true := by
    rw [show recordAt (s.taken rest).plan.phases (u16 body 0) = none from hr]
    exact Bool.false_ne_true
  have room : ¬Config.maxPhases ≤ (s.taken rest).plan.phases.length := not_le.mpr hl
  rw [hf]
  dsimp only
  rw [if_neg small, if_neg free, if_neg room]

/-- An addition that enters no phase changes the list, next and the digest alone. -/
theorem addRecord_quiet (r : PhaseRec) (h : s.plan.phases ≠ [] ∨ s.plan.clock = none) :
    ∃ p, addRecord r s = s.setPlan p ∧ p = (({ s.plan with phases := insertPhase r s.plan.phases } : PlanUnit).redigested).retimed := by
  have kept : ¬(s.plan.clock.isSome && s.plan.phases.isEmpty) = true := by
    rw [Bool.and_eq_true, not_and_or]
    exact h.symm.imp (fun e => by simp [e]) fun e => by simpa using e
  unfold addRecord
  dsimp only
  rw [if_neg kept]
  exact ⟨_, rfl, rfl⟩

/-- The state in which an entry turn is taken: the list holds the record, and the digest follows. -/
def State.listing (s : State) (l : List PhaseRec) : State := recomputeDigest (s.setPlan { s.plan with phases := l })

/-- The first record of an empty list is entered at once. -/
theorem addRecord_entry (r : PhaseRec) {now : Nat} (he : s.plan.phases = []) (hc : s.plan.clock = some now) :
    addRecord r s = takePhase (copyOf r) (s.listing [r]) := by
  have entered : (s.plan.clock.isSome && s.plan.phases.isEmpty) = true := by
    rw [he, hc]
    rfl
  have listed : recomputeDigest (s.setPlan { s.plan with phases := insertPhase r s.plan.phases }) = s.listing [r] := by
    rw [he]
    rfl
  unfold addRecord
  dsimp only
  rw [if_pos entered, listed]
  unfold entryTurn
  rw [show (s.listing [r]).plan.clock = some now from hc]
  dsimp only
  have only : governing (s.listing [r]).plan.phases now = some r := by
    change governing [r] now = some r
    unfold governing
    by_cases h : r.start * 60 ≤ now <;> simp [h]
  rw [only]

theorem listing_effects {l : List PhaseRec} (h : (s.listing l).TurnEffects t) : s.TurnEffects t :=
  h.before rfl rfl rfl rfl rfl rfl ((State.Ends.refl s).of_line rfl)

theorem addRecord_sound {r : PhaseRec} (h : PhasesSound s.plan.phases) (hm : r.start < 10080) (hr : recordAt s.plan.phases r.start = none)
    (hl : s.plan.phases.length < 48) :
    (addRecord r s).plan.phases.Perm (r :: s.plan.phases) ∧ PhasesSound (addRecord r s).plan.phases
      ∧ (addRecord r s).plan.digest = (addRecord r s).plan.digestNow ∧ (addRecord r s).plan.fallback = s.plan.fallback := by
  have plan := plan_fields_of_forgetTotals (addRecord_plan r s)
  have digest : (s.plan.added r).digest = (s.plan.added r).digestNow := PlanUnit.Digested.added r s.plan
  have phases : (s.plan.added r).phases = insertPhase r s.plan.phases ∧ (s.plan.added r).fallback = s.plan.fallback := by
    unfold PlanUnit.added
    dsimp only
    split
    · unfold PlanUnit.entry
      split
      · exact ⟨rfl, rfl⟩
      · split
        · rw [entered_eq]
          exact ⟨rfl, rfl⟩
        · exact ⟨rfl, rfl⟩
    · exact ⟨rfl, rfl⟩
  have list : (addRecord r s).plan.phases = insertPhase r s.plan.phases := by rw [plan]; exact phases.1
  refine ⟨list ▸ insertPhase_perm r _, list ▸ insertPhase_sound h hm hr hl, ?_, by rw [plan]; exact phases.2⟩
  rw [plan]
  exact digest

/-- ADD PHASE, its three parts: the list, an addition that enters nothing, and the entry turn. -/
theorem addPhase_spec (s : State) (tag : Byte) (body : Bytes) (rest : List Frame) (f : PhaseFields) (hlen : body.length = 8)
    (hf : listFields? body = some f) (hm : u16 body 0 < 10080) (hr : recordAt s.plan.phases (u16 body 0) = none)
    (hl : s.plan.phases.length < 48) (sound : PhasesSound s.plan.phases) (h : s.takes ⟨tag, 0x10, body⟩ rest) :
    ∃ t, exec (.addPhase tag body) s = .next t ∧ s.replied t tag 0x10 t.listReply
      ∧ t.plan.phases.Perm (⟨u16 body 0, f⟩ :: s.plan.phases) ∧ PhasesSound t.plan.phases
      ∧ t.plan.digest = t.plan.digestNow ∧ t.plan.fallback = s.plan.fallback
      ∧ (s.plan.phases ≠ [] ∨ s.plan.clock = none →
          t.plan.current = s.plan.current ∧ t.plan.previous = s.plan.previous ∧ t.plan.edits = s.plan.edits
            ∧ t.plan.overrides = s.plan.overrides ∧ t.plan.totals = s.plan.totals)
      ∧ (s.plan.phases = [] → s.plan.clock.isSome = true →
          t.plan.current = ⟨some (u16 body 0), f⟩ ∧ t.plan.previous = s.plan.previous
            ∧ t.plan.next = some (u16 body 0) ∧ s.startsTotals t 1 ∧ t.plan.edits = []
            ∧ t.plan.scenes = (s.plan.edits.foldl PlanUnit.apply s.plan).scenes
            ∧ t.plan.climateSets = (s.plan.edits.foldl PlanUnit.apply s.plan).climateSets
            ∧ t.plan.profiles = (s.plan.edits.foldl PlanUnit.apply s.plan).profiles
            ∧ ((s.plan.overrides.map Override.target).Nodup →
                t.plan.overrides = s.plan.overrides.filter (·.remaining.isSome))
            ∧ s.endsTurnOverrides t ∧ ∀ n ∈ s.joined t, n.kind ≠ .turn) := by
  have run := exec_addPhase_accepted hlen hf hm hr hl h
  obtain ⟨perm, listed, digest, fallback⟩ := addRecord_sound (s := s.taken rest) (r := ⟨u16 body 0, f⟩) sound hm hr hl
  have sent : (addRecord ⟨u16 body 0, f⟩ (s.taken rest)).line.sent = s.line.sent :=
    ((State.Follows.units _).addRecord _ (.refl (s.taken rest))).sent
  have quiet := addRecord_quiet (s := s.taken rest) ⟨u16 body 0, f⟩
  have entry := fun now => addRecord_entry (s := s.taken rest) ⟨u16 body 0, f⟩ (now := now)
  generalize addRecord ⟨u16 body 0, f⟩ (s.taken rest) = u at *
  refine ⟨_, run, replied_of_sent sent, perm, listed, digest, fallback, fun hq => ?_, fun he hc => ?_⟩
  · obtain ⟨p, hu, hp⟩ := quiet hq
    have plan : u.plan = p := congrArg State.plan hu
    change u.plan.current = _ ∧ u.plan.previous = _ ∧ u.plan.edits = _ ∧ u.plan.overrides = _ ∧ u.plan.totals = _
    rw [plan, hp]
    exact ⟨rfl, rfl, rfl, rfl, rfl⟩
  · obtain ⟨now, hnow⟩ := Option.isSome_iff_exists.mp hc
    have turn := takePhase_takesTurn (copyOf ⟨u16 body 0, f⟩) ((s.taken rest).listing [⟨u16 body 0, f⟩])
    rw [← entry now he hnow] at turn
    obtain ⟨current, previous, next, -⟩ := turn.phases
    have effects := listing_effects turn.effects
    refine ⟨current, previous, ?_, effects.totals, effects.edits, effects.scenes, effects.climateSets, effects.profiles, effects.overrides,
      effects.ended.endsTurnOverrides, fun n hn => ?_⟩
    · refine next.trans ?_
      change s.plan.clock.bind (nextAfter [_]) = _
      rw [hnow]
      change nextAfter [_] now = _
      unfold nextAfter
      by_cases hlt : now < u16 body 0 * 60 <;> simp [hlt]
    · obtain e | e | e | e := turn.raises.joined (n := n) hn <;> simp [e]

/-! ### DROP PHASE (R6, R18) -/

theorem exec_dropPhase_accepted (hlen : body.length = 2) (hm : u16 body 0 < 10080) (hr : (recordAt s.plan.phases (u16 body 0)).isSome)
    (h : s.takes ⟨tag, 0x11, body⟩ rest) :
    exec (.dropPhase tag body) s
      = .next (sendReply tag 0x11 (dropRecord (u16 body 0) (s.taken rest)).listReply (dropRecord (u16 body 0) (s.taken rest))) := by
  change request 0x11 tag body _ s = _
  refine request_runs (n := 2) (by decide) hlen h ?_
  have small : ¬Config.weekMinutes ≤ u16 body 0 := not_le.mpr hm
  have held : ¬(recordAt (s.taken rest).plan.phases (u16 body 0)).isNone = true := by
    rw [Option.isNone_iff_eq_none]
    exact Option.isSome_iff_ne_none.mp hr
  dsimp only
  rw [if_neg small, if_neg held]

/-- The list without the record of a start. -/
abbrev State.without (s : State) (n : Nat) : List PhaseRec := s.plan.phases.filter fun r => r.start ≠ n

/-- A removal that empties no list, or one while the clock is unset, changes the list, next and the digest alone. -/
theorem dropRecord_quiet (n : Nat) (h : s.without n ≠ [] ∨ s.plan.clock = none) :
    ∃ p, dropRecord n s = s.setPlan p ∧ p.current = s.plan.current ∧ p.previous = s.plan.previous ∧ p.edits = s.plan.edits
      ∧ p.overrides = s.plan.overrides ∧ p.totals = s.plan.totals := by
  have listed : dropRecord n s = if (s.without n).isEmpty then (if s.plan.clock.isSome then emptyingTurn (s.listing (s.without n))
      else s.listing (s.without n)) else recomputeNext (s.listing (s.without n)) := rfl
  rw [listed]
  by_cases he : (s.without n).isEmpty = true
  · rw [if_pos he]
    have clock : ¬s.plan.clock.isSome = true := by
      rw [h.resolve_left (not_not.mpr (List.isEmpty_iff.mp he))]
      exact Bool.false_ne_true
    rw [if_neg clock]
    exact ⟨_, rfl, rfl, rfl, rfl, rfl, rfl⟩
  · rw [if_neg he]
    exact ⟨_, rfl, rfl, rfl, rfl, rfl, rfl⟩

theorem dropRecord_emptying (n : Nat) {now : Nat} (he : s.without n = []) (hc : s.plan.clock = some now) :
    dropRecord n s = takePhase ⟨none, s.plan.fallback⟩ (leaveCurrent .emptied (s.listing [])) := by
  have listed : dropRecord n s = if (s.without n).isEmpty then (if s.plan.clock.isSome then emptyingTurn (s.listing (s.without n))
      else s.listing (s.without n)) else recomputeNext (s.listing (s.without n)) := rfl
  rw [listed, he, if_pos List.isEmpty_nil, hc, if_pos Option.isSome_some]
  rfl

theorem dropRecord_listed (n : Nat) (s : State) :
    (dropRecord n s).plan.phases = s.without n ∧ (dropRecord n s).plan.digest = (dropRecord n s).plan.digestNow
      ∧ (dropRecord n s).plan.fallback = s.plan.fallback := by
  have plan := plan_fields_of_forgetTotals (dropRecord_plan n s)
  have digest : (s.plan.dropped n).digest = (s.plan.dropped n).digestNow := PlanUnit.Digested.dropped n s.plan
  have phases : (s.plan.dropped n).phases = s.without n ∧ (s.plan.dropped n).fallback = s.plan.fallback := by
    unfold PlanUnit.dropped
    dsimp only
    split
    · split
      · rw [entered_eq]
        exact ⟨rfl, rfl⟩
      · exact ⟨rfl, rfl⟩
    · exact ⟨rfl, rfl⟩
  rw [plan]
  exact ⟨phases.1, digest, phases.2⟩

/-- DROP PHASE, its three parts: the list, a removal that takes no turn, and the emptying turn. -/
theorem dropPhase_spec (s : State) (tag : Byte) (body : Bytes) (rest : List Frame) (hlen : body.length = 2) (hm : u16 body 0 < 10080)
    (hr : (recordAt s.plan.phases (u16 body 0)).isSome) (h : s.takes ⟨tag, 0x11, body⟩ rest) :
    ∃ t, exec (.dropPhase tag body) s = .next t ∧ s.replied t tag 0x11 t.listReply
      ∧ t.plan.phases = s.plan.phases.filter (fun r => r.start ≠ u16 body 0)
      ∧ t.plan.digest = t.plan.digestNow ∧ t.plan.fallback = s.plan.fallback
      ∧ (t.plan.phases ≠ [] ∨ s.plan.clock = none →
          t.plan.current = s.plan.current ∧ t.plan.previous = s.plan.previous ∧ t.plan.edits = s.plan.edits
            ∧ t.plan.overrides = s.plan.overrides ∧ t.plan.totals = s.plan.totals)
      ∧ ∀ now, t.plan.phases = [] → s.plan.clock = some now →
          t.plan.current = ⟨none, s.plan.fallback⟩ ∧ t.plan.previous = some s.plan.current ∧ t.plan.next = none
            ∧ s.startsTotals t 1 ∧ t.plan.edits = []
            ∧ t.plan.scenes = (s.plan.edits.foldl PlanUnit.apply s.plan).scenes
            ∧ t.plan.climateSets = (s.plan.edits.foldl PlanUnit.apply s.plan).climateSets
            ∧ t.plan.profiles = (s.plan.edits.foldl PlanUnit.apply s.plan).profiles
            ∧ ((s.plan.overrides.map Override.target).Nodup →
                t.plan.overrides = s.plan.overrides.filter (·.remaining.isSome))
            ∧ s.endsTurnOverrides t
            ∧ (s.admits .turn → s.raised t
                (turnNotice s.plan (some now) 0x02 ({ s.plan with phases := [] } : PlanUnit).digestNow)) := by
  have run := exec_dropPhase_accepted hlen hm hr h
  obtain ⟨listed, digest, fallback⟩ := dropRecord_listed (u16 body 0) (s.taken rest)
  have sent : (dropRecord (u16 body 0) (s.taken rest)).line.sent = s.line.sent :=
    ((State.Follows.units _).dropRecord _ (.refl (s.taken rest))).sent
  have quiet := dropRecord_quiet (s := s.taken rest) (u16 body 0)
  have emptying := fun now => dropRecord_emptying (s := s.taken rest) (u16 body 0) (now := now)
  generalize dropRecord (u16 body 0) (s.taken rest) = u at *
  refine ⟨_, run, replied_of_sent sent, listed, digest, fallback, fun hq => ?_, fun now he hc => ?_⟩
  · change u.plan.phases ≠ [] ∨ _ at hq
    rw [listed] at hq
    obtain ⟨p, hu, kept⟩ := quiet hq
    have plan : u.plan = p := congrArg State.plan hu
    change u.plan.current = _ ∧ u.plan.previous = _ ∧ u.plan.edits = _ ∧ u.plan.overrides = _ ∧ u.plan.totals = _
    rw [plan]
    exact kept
  · change u.plan.phases = [] at he
    rw [listed] at he
    have turn := takePhase_takesTurn ⟨none, s.plan.fallback⟩ (leaveCurrent .emptied ((s.taken rest).listing []))
    have taken : u = takePhase ⟨none, s.plan.fallback⟩ (leaveCurrent .emptied ((s.taken rest).listing [])) := emptying now he hc
    rw [← taken] at turn
    obtain ⟨current, previous, next, -⟩ := turn.phases
    have effects := listing_effects (leaveCurrent_effects turn.effects)
    rw [leaveCurrent_plan] at previous next
    refine ⟨current, previous, next.trans ?_, effects.totals, effects.edits, effects.scenes, effects.climateSets, effects.profiles,
      effects.overrides, effects.ended.endsTurnOverrides, fun ha => ?_⟩
    · change s.plan.clock.bind (nextAfter []) = none
      rw [hc]
      rfl
    · have raised := leaveCurrent_raised (cause := .emptied) (code := 0x02) rfl turn.follows ha
      rw [show ((s.taken rest).listing []).plan.clock = some now from hc] at raised
      exact raised

/-! ### EDIT PHASE (R7, R9) -/

theorem exec_editPhase_record {f : PhaseFields} (hlen : body.length = 8) (hf : listFields? body = some f) (hm : u16 body 0 < 10080)
    (hr : (recordAt s.plan.phases (u16 body 0)).isSome) (h : s.takes ⟨tag, 0x12, body⟩ rest) :
    exec (.editPhase tag body) s
      = .next (sendReply tag 0x12 (editRecord ⟨u16 body 0, f⟩ (s.taken rest)).listReply (editRecord ⟨u16 body 0, f⟩ (s.taken rest))) := by
  change request 0x12 tag body _ s = _
  refine request_runs (n := 8) (by decide) hlen h ?_
  have listRecord : ¬u16 body 0 = 0xFFFF := by omega
  have small : ¬Config.weekMinutes ≤ u16 body 0 := not_le.mpr hm
  have held : ¬(recordAt (s.taken rest).plan.phases (u16 body 0)).isNone = true := by
    rw [Option.isNone_iff_eq_none]
    exact Option.isSome_iff_ne_none.mp hr
  dsimp only
  rw [if_neg listRecord, if_neg small, if_neg held, hf]

theorem exec_editPhase_fallback {f : PhaseFields} (hlen : body.length = 8) (hf : phaseFields? body = some f) (hm : u16 body 0 = 65535)
    (h : s.takes ⟨tag, 0x12, body⟩ rest) :
    exec (.editPhase tag body) s
      = .next (sendReply tag 0x12 (editFallback f (s.taken rest)).listReply (editFallback f (s.taken rest))) := by
  change request 0x12 tag body _ s = _
  refine request_runs (n := 8) (by decide) hlen h ?_
  dsimp only
  rw [if_pos hm, hf]

theorem turnEvent_keepsTotals (s : State) : s.keepsTotals (turnEvent s) :=
  (State.SameCounts.lightingTurn (.refl s)).keeps (profileChanged_keepsTotals _)

/-- An edit of the fallback phase: the copy of it is refreshed where current is one. -/
theorem editFallback_spec (f : PhaseFields) (s : State) :
    (editFallback f s).plan.phases = s.plan.phases ∧ (editFallback f s).plan.fallback = { f with label := 255, precondition := false }
      ∧ (editFallback f s).plan.digest = (editFallback f s).plan.digestNow
      ∧ (editFallback f s).plan.current = (if s.plan.current.source = none then ⟨none, (editFallback f s).plan.fallback⟩ else s.plan.current)
      ∧ (editFallback f s).plan.previous = s.plan.previous ∧ (editFallback f s).plan.edits = s.plan.edits
      ∧ (editFallback f s).plan.overrides = s.plan.overrides ∧ s.keepsTotals (editFallback f s)
      ∧ (s.plan.current.source ≠ none → (editFallback f s).plan.totals = s.plan.totals) := by
  have plan := plan_fields_of_forgetTotals (editFallback_plan f s)
  have digest : (s.plan.fallbackEdited f).digest = (s.plan.fallbackEdited f).digestNow := PlanUnit.Digested.fallbackEdited f s.plan
  have totals : s.keepsTotals (editFallback f s) ∧ (s.plan.current.source ≠ none → (editFallback f s).plan.totals = s.plan.totals) := by
    unfold editFallback
    dsimp only
    split
    · next hc =>
      unfold fallbackRefresh
      refine ⟨State.SameCounts.keeps (.of_eq (.refl s) ?_ ?_) (turnEvent_keepsTotals _), fun hn => absurd hc hn⟩ <;> rfl
    · exact ⟨⟨rfl, rfl, .inl rfl, fun _ => ⟨rfl, rfl⟩⟩, fun _ => rfl⟩
  have fields : (s.plan.fallbackEdited f).phases = s.plan.phases
      ∧ (s.plan.fallbackEdited f).fallback = { f with label := 255, precondition := false }
      ∧ (s.plan.fallbackEdited f).current
        = (if s.plan.current.source = none then ⟨none, (s.plan.fallbackEdited f).fallback⟩ else s.plan.current)
      ∧ (s.plan.fallbackEdited f).previous = s.plan.previous ∧ (s.plan.fallbackEdited f).edits = s.plan.edits
      ∧ (s.plan.fallbackEdited f).overrides = s.plan.overrides := by
    unfold PlanUnit.fallbackEdited
    dsimp only
    split <;> exact ⟨rfl, rfl, rfl, rfl, rfl, rfl⟩
  obtain ⟨phases, fallback, current, previous, edits, overrides⟩ := fields
  generalize editFallback f s = u at *
  generalize s.plan.fallbackEdited f = q at *
  refine ⟨?_, ?_, ?_, ?_, ?_, ?_, ?_, totals⟩
  · rw [plan, ← phases]
  · rw [plan, ← fallback]
  · rw [plan]
    exact digest
  · rw [plan]
    exact current
  · rw [plan, ← previous]
  · rw [plan, ← edits]
  · rw [plan, ← overrides]

/-- Settles O18: each accepted edit is the list changed, next and the digest worked out, and the turn or refresh it causes. -/
theorem phaseListEditsAccepted : Obligations.PhaseListEditsAccepted := by
  refine ⟨addPhase_spec, dropPhase_spec, fun s tag body rest f hlen hf hm hr h => ?_, fun s tag body rest f hlen hf hm h => ?_⟩
  · refine ⟨_, exec_editPhase_record hlen hf hm hr h, replied_of_sent rfl, ?_, rfl, rfl, rfl, rfl, rfl, rfl, rfl⟩
    refine List.map_congr_left fun r _ => ?_
    by_cases hs : r.start = u16 body 0
    · rw [if_pos hs, if_pos hs, hs]
    · rw [if_neg hs, if_neg hs]
  · have run := exec_editPhase_fallback hlen hf hm h
    have spec := editFallback_spec f (s.taken rest)
    have sent : (editFallback f (s.taken rest)).line.sent = s.line.sent :=
      ((State.Follows.units _).editFallback _ (.refl (s.taken rest))).sent
    generalize editFallback f (s.taken rest) = u at *
    exact ⟨_, run, replied_of_sent sent, spec⟩

end Sys2Proof.Machine
end

section
/-! PROOFS. SET CLOCK: the turn it causes, and the demand window that its event closes and opens (R2, R16, R17, R66). -/

namespace Sys2Proof.Machine

variable {s t u : State} {tag : Byte} {rest : List Frame} {v : Nat}

/-! ### The meters, the window and the limits under the events of the other units -/

/-- Of the Load Budget Unit u has everything that s has but channels, serials, flags and figures: the limits, the meters, the window and the
silence state are those of s. -/
def State.SameMeters (s u : State) : Prop :=
  ∃ (c : Table Channel 128) (n : Nat) (b d : Bool) (ct managed pProt shareable : Nat) (reserve : PerClass Nat) (pool : Nat),
    u.budget = { s.budget with
      channels := c, lastSerial := n, tight := b, shed := d, ct := ct, managed := managed, pProt := pProt, shareable := shareable
      reserve := reserve, pool := pool }

theorem State.SameMeters.refl (s : State) : s.SameMeters s := ⟨_, _, _, _, _, _, _, _, _, _, rfl⟩

theorem State.SameMeters.trans (h : s.SameMeters t) (h' : t.SameMeters u) : s.SameMeters u := by
  obtain ⟨c, n, b, d, ct, managed, pProt, shareable, reserve, pool, e⟩ := h
  obtain ⟨c', n', b', d', ct', managed', pProt', shareable', reserve', pool', e'⟩ := h'
  rw [e] at e'
  exact ⟨_, _, _, _, _, _, _, _, _, _, e'⟩

theorem State.SameMeters.of_unshared (h : u.unshared = s.unshared) : s.SameMeters u := ⟨_, _, _, _, _, _, _, _, _, _, budget_of_unshared h⟩

theorem State.SameMeters.of_budget (h : s.SameMeters t) (hb : u.budget = t.budget) : s.SameMeters u := by
  unfold State.SameMeters at *
  rwa [hb]

theorem State.SameMeters.putChan (i : Fin 128) (c : Channel) (s : State) : s.SameMeters (s.putChan i c) := ⟨_, _, _, _, _, _, _, _, _, _, rfl⟩

theorem State.SameMeters.figure (s : State) : s.SameMeters (figure s) := ⟨_, _, _, _, _, _, _, _, _, _, rfl⟩

theorem State.SameMeters.reprotect (s : State) : s.SameMeters (reprotect s) := by
  have protected_ : s.SameMeters (protect s) := ⟨_, _, _, _, _, _, _, _, _, _, rfl⟩
  unfold Machine.reprotect
  exact (protected_.trans (.figure _)).trans (.of_unshared (handOver_unshared _ _))

theorem State.SameMeters.profileChanged (s : State) : s.SameMeters (profileChanged s) := by
  have measured : (Machine.figure s).SameMeters (remeasureUrgency (Machine.figure s)) := by
    refine forEach_keeps (I := (Machine.figure s).SameMeters) (fun i u hu => ?_) _ _ (.refl _)
    cases (u.chan i).entry with
    | none => exact hu
    | some e =>
      dsimp only
      split
      · exact hu.trans (.putChan i _ u)
      · exact hu
  unfold Machine.profileChanged
  exact ((State.SameMeters.figure s).trans measured).trans (.of_unshared (handOver_unshared _ _))

theorem State.SameMeters.units (s : State) : UnitClosed s.SameMeters where
  target i r o v m u h := by
    by_cases hb : (u.chan i).boundTo r o = true
    · by_cases hr : r = .unused
      · subst hr
        simpa [targetChange] using h
      · exact (h.trans (.putChan i _ u)).trans (.of_unshared (targetChange_unshared hb hr v m))
    · rwa [targetChange_of_not_bound (by simpa using hb)]
  minimum i z v u h := by
    obtain ⟨-, e⟩ | ⟨-, -, e⟩ | ⟨-, x, -, -, e⟩ := protectedMinimum_cases (s := u) i z v
    · rwa [e]
    · rwa [e]
    · rw [e]
      exact (h.trans (.putChan i x u)).trans (.reprotect _)
  profile u h := h.trans (.profileChanged u)
  notice k n b u h := h.of_budget (raise_budget _ _ _ _)
  dock u k h := h.of_budget rfl
  climate u k h := h.of_budget rfl
  lighting u k h := h.of_budget rfl
  plan u k h := h.of_budget rfl
  draw u h := h.of_budget rfl

/-! ### The window that a clock-set event closes (R64, R66, R68) -/

/-- The Load Budget Unit with the closing interval read (R66, R68). -/
def LoadBudget.closed (b : LoadBudget) (draw : Nat) : LoadBudget :=
  if b.silent then addEnergy ((draw + b.pu) * min b.sinceSample 10) true b else addEnergy b.measured false b

/-- What a clock-set event leaves of the demand window, the meters and the silence state, where b is the Load Budget Unit before it and draw
the managed draw. -/
def LoadBudget.reopens (b : LoadBudget) (v draw : Nat) (a : LoadBudget) (w : LastWindow) : Prop :=
  a.lastWindow = some w ∧ w.byClockSet = true ∧ w.closeTime = some v ∧ w.length = b.windowLen
    ∧ w.energy = (b.closed draw).energy ∧ w.estimated = (b.closed draw).estimated ∧ w.average = w.energy / w.length
    ∧ w.contract = b.active.contract ∧ (w.overContract = true ↔ w.contract * w.length < w.energy)
    ∧ a.pu = b.pu ∧ a.silent = b.silent ∧ a.silence = b.silence ∧ a.estimates = b.estimates ∧ a.energy = 0 ∧ a.elapsed = 0 ∧ a.nT = 0
    ∧ a.nU = 0 ∧ a.active.window = b.configured.window ∧ a.windowLen = clockSetLength b.configured.window v

theorem clockSetLength_eq (w v : Nat) :
    clockSetLength w v
      = (let boundary := v - v % w + w
         let n := (boundary - v + 9) / 10 * 10
         if n < 60 then n + w else n) := by
  have hm := Nat.mod_le v w
  have same : v - v % w + w - v = w - v % w := by omega
  unfold clockSetLength ceilDiv
  dsimp only
  rw [same]
  rfl

theorem closed_eq (b : LoadBudget) (draw : Nat) :
    b.closed draw = { b with energy := (b.closed draw).energy, estimated := (b.closed draw).estimated } := by
  unfold LoadBudget.closed
  split <;> rfl

theorem closed_measured {b : LoadBudget} (h : b.silent = false) (draw : Nat) :
    (b.closed draw).energy = min 4294967295 (b.energy + b.nT * b.active.wTotal * 36) ∧ (b.closed draw).estimated = b.estimated := by
  unfold LoadBudget.closed
  rw [if_neg (by rw [h]; exact Bool.false_ne_true)]
  exact ⟨rfl, Bool.or_false _⟩

theorem closed_silent {b : LoadBudget} (h : b.silent = true) (draw : Nat) :
    (b.closed draw).energy = min 4294967295 (b.energy + (draw + b.pu) * min b.sinceSample 10) ∧ (b.closed draw).estimated = true := by
  unfold LoadBudget.closed
  rw [if_pos h]
  exact ⟨rfl, Bool.or_true _⟩

/-- The state at a clock-set event, its window closed and the next one open. -/
def State.rewound (u : State) (v : Nat) : State :=
  let c := closeWindow true (some v) { u.budget.closed u.managedDraw with nT := 0, nU := 0 }
  u.setBudget { c with windowLen := clockSetLength c.active.window v, sampleT := Config.samplePeriod - v % 10 }

theorem clockSetEvent_eq (v : Nat) (u : State) : clockSetEvent v u = handOver .ceiling (figure (ceil (u.rewound v))) := rfl

theorem clockSetEvent_meters (v : Nat) (u : State) : (u.rewound v).SameMeters (clockSetEvent v u) := by
  have figured : (u.rewound v).SameMeters (figure (ceil (u.rewound v))) := ⟨_, _, _, _, _, _, _, _, _, _, rfl⟩
  rw [clockSetEvent_eq]
  exact figured.trans (.of_unshared (handOver_unshared _ _))

theorem clockSetEvent_reopens (v : Nat) (u : State) : ∃ w, u.budget.reopens v u.managedDraw (clockSetEvent v u).budget w := by
  obtain ⟨c, n, b, d, ct, managed, pProt, shareable, reserve, pool, e⟩ := clockSetEvent_meters v u
  rw [e]
  have closed := closed_eq u.budget u.managedDraw
  unfold LoadBudget.reopens State.rewound
  generalize (u.budget.closed u.managedDraw).energy = energy at closed ⊢
  generalize (u.budget.closed u.managedDraw).estimated = estimated at closed ⊢
  rw [closed]
  exact ⟨_, rfl, rfl, rfl, rfl, rfl, rfl, rfl, rfl, decide_eq_true_iff, rfl, rfl, rfl, rfl, rfl, rfl, rfl, rfl, rfl, rfl⟩

/-! ### The turn that a SET CLOCK causes (R2, R16, R17) -/

/-- The clock takes a value. -/
def State.clocked (s : State) (v : Nat) : State := s.setPlan { s.plan with clock := some v, turnDue := none }

theorem setClockTo_empty (h : governing s.plan.phases v = none) : setClockTo v s = s.clocked v := by
  unfold setClockTo
  dsimp only
  rw [h]
  rfl

theorem setClockTo_stays {r : PhaseRec} (h : governing s.plan.phases v = some r) (hc : s.plan.clock.isSome = true)
    (hr : s.plan.current.source = some r.start) : setClockTo v s = recomputeNext (s.clocked v) := by
  unfold setClockTo
  dsimp only
  rw [h]
  dsimp only
  rw [if_neg (Option.isSome_iff_ne_none.mp hc), if_pos hr]
  rfl

theorem setClockTo_entry {r : PhaseRec} (h : governing s.plan.phases v = some r) (hc : s.plan.clock = none) :
    setClockTo v s = takePhase (copyOf r) (s.clocked v) := by
  unfold setClockTo
  dsimp only
  rw [h]
  dsimp only
  rw [if_pos hc]
  change entryTurn (s.clocked v) = _
  unfold entryTurn
  rw [show (s.clocked v).plan.clock = some v from rfl]
  dsimp only
  rw [show governing (s.clocked v).plan.phases v = some r from h]

theorem setClockTo_jump {r : PhaseRec} (h : governing s.plan.phases v = some r) (hc : s.plan.clock.isSome = true)
    (hr : s.plan.current.source ≠ some r.start) : setClockTo v s = takePhase (copyOf r) (leaveCurrent .jump (s.clocked v)) := by
  unfold setClockTo
  dsimp only
  rw [h]
  dsimp only
  rw [if_neg (Option.isSome_iff_ne_none.mp hc), if_neg hr]
  rfl

theorem clocked_effects (h : (s.clocked v).TurnEffects u) : s.TurnEffects u :=
  h.before rfl rfl rfl rfl rfl rfl ((State.Ends.refl s).of_line rfl)

theorem clockSetEvent_keepsTotals (v : Nat) (s : State) : s.keepsTotals (clockSetEvent v s) := by
  have read : s.SameCounts (figure (ceil (s.rewound v))) := (State.SameCounts.refl s).of_eq rfl rfl
  rw [clockSetEvent_eq]
  exact read.keeps (handOver_keepsTotals _ _)

/-- The plan after a SET CLOCK is the one that the turn leaves, but for the totals. -/
theorem clockSetEvent_plan_eq (v : Nat) (u : State) : (clockSetEvent v u).plan = { u.plan with totals := (clockSetEvent v u).plan.totals } :=
  plan_fields_of_forgetTotals (clockSetEvent_plan v u)

/-- A SET CLOCK that takes no turn. -/
theorem quiet_clockSet (h : u = s.clocked v ∨ u = recomputeNext (s.clocked v)) (ht : t = clockSetEvent v u) :
    (t.plan.current = s.plan.current ∧ t.plan.previous = s.plan.previous ∧ t.plan.edits = s.plan.edits
      ∧ t.plan.overrides = s.plan.overrides ∧ s.keepsTotals t) ∧ s.RaisesOnly NoticeKind.ofHandOver t := by
  have plan : t.plan = { u.plan with totals := t.plan.totals } := ht ▸ clockSetEvent_plan_eq v u
  have counts : s.SameCounts u := by
    obtain rfl | rfl := h
    · exact .of_eq (.refl s) rfl rfl
    · exact .of_eq (.refl s) rfl rfl
  have line : u.line = s.line := by obtain rfl | rfl := h <;> rfl
  have fields : u.plan.current = s.plan.current ∧ u.plan.previous = s.plan.previous ∧ u.plan.edits = s.plan.edits
      ∧ u.plan.overrides = s.plan.overrides := by obtain rfl | rfl := h <;> exact ⟨rfl, rfl, rfl, rfl⟩
  obtain ⟨current, previous, edits, overrides⟩ := fields
  refine ⟨⟨?_, ?_, ?_, ?_, ?_⟩, ?_⟩
  · rw [plan, ← current]
  · rw [plan, ← previous]
  · rw [plan, ← edits]
  · rw [plan, ← overrides]
  · rw [ht]
    exact counts.keeps (clockSetEvent_keepsTotals v u)
  · rw [ht]
    exact ((State.RaisesOnly.refl s).of_line line).trans (clockSetEvent_raisesOnly v u)

/-- A SET CLOCK that takes a turn. -/
theorem turned_clockSet {w : State} {r : PhaseRec} (turn : w.TakesTurn u (copyOf r)) (effects : s.TurnEffects u)
    (doors : ∀ d, (w.door d).cfg = (s.door d).cfg) (ht : t = clockSetEvent v u) :
    t.plan.current = ⟨some r.start, r.fields⟩ ∧ t.plan.previous = w.plan.previous ∧ s.startsTotals t 2 ∧ t.plan.edits = []
      ∧ t.plan.scenes = (s.plan.edits.foldl PlanUnit.apply s.plan).scenes
      ∧ t.plan.climateSets = (s.plan.edits.foldl PlanUnit.apply s.plan).climateSets
      ∧ t.plan.profiles = (s.plan.edits.foldl PlanUnit.apply s.plan).profiles
      ∧ ((s.plan.overrides.map Override.target).Nodup → t.plan.overrides = s.plan.overrides.filter (·.remaining.isSome))
      ∧ s.endsTurnOverrides t := by
  have plan : t.plan = { u.plan with totals := t.plan.totals } := ht ▸ clockSetEvent_plan_eq v u
  obtain ⟨current, previous, -⟩ := turn.phases
  have kept : u.keepsTotals t := ht ▸ clockSetEvent_keepsTotals v u
  have quiet : u.Ends t [] := by
    rw [ht]
    exact .of_raises ((State.Follows.budget u).clockSetEvent v (.refl u)) (clockSetEvent_raisesOnly v u) (by rintro (h | h | h) <;> cases h)
  have time : t.plan.clock = u.plan.clock := by rw [plan]
  have ended := effects.ended.trans quiet
  rw [List.append_nil, ← time] at ended
  refine ⟨?_, ?_, effects.totals.then (fun d => (turn.doors d).trans (doors d)) kept, ?_, ?_, ?_, ?_, fun hn => ?_, ended.endsTurnOverrides⟩
  · rw [plan]
    exact current
  · rw [plan]
    exact previous
  · rw [plan]
    exact effects.edits
  · rw [plan]
    exact effects.scenes
  · rw [plan]
    exact effects.climateSets
  · rw [plan]
    exact effects.profiles
  · rw [plan]
    exact effects.overrides hn

/-- What the list, the clock and next are after a SET CLOCK. -/
theorem clockSet_phases (s : State) (v : Nat) :
    (clockSetEvent v (setClockTo v s)).plan.clock = some v ∧ (clockSetEvent v (setClockTo v s)).plan.phases = s.plan.phases
      ∧ (clockSetEvent v (setClockTo v s)).plan.fallback = s.plan.fallback
      ∧ (governing s.plan.phases v = none → (clockSetEvent v (setClockTo v s)).plan.next = s.plan.next)
      ∧ (governing s.plan.phases v ≠ none → (clockSetEvent v (setClockTo v s)).plan.next = nextAfter s.plan.phases v) := by
  have plan := plan_fields_of_forgetTotals ((clockSetEvent_plan v _).trans (setClockTo_plan v s))
  have fields : (s.plan.clockSet v).clock = some v ∧ (s.plan.clockSet v).phases = s.plan.phases
      ∧ (s.plan.clockSet v).fallback = s.plan.fallback
      ∧ (governing s.plan.phases v = none → (s.plan.clockSet v).next = s.plan.next)
      ∧ (governing s.plan.phases v ≠ none → (s.plan.clockSet v).next = nextAfter s.plan.phases v) := by
    unfold PlanUnit.clockSet
    dsimp only
    cases hg : governing s.plan.phases v with
    | none => exact ⟨rfl, rfl, rfl, fun _ => rfl, fun h => absurd rfl h⟩
    | some r =>
      dsimp only
      split
      · unfold PlanUnit.entry
        dsimp only
        rw [hg]
        dsimp only
        rw [entered_eq]
        exact ⟨rfl, rfl, rfl, (fun h => by cases h), fun _ => rfl⟩
      · split
        · exact ⟨rfl, rfl, rfl, (fun h => by cases h), fun _ => rfl⟩
        · rw [entered_eq]
          exact ⟨rfl, rfl, rfl, (fun h => by cases h), fun _ => rfl⟩
  obtain ⟨clock, phases, fallback, empty, next⟩ := fields
  generalize clockSetEvent v (setClockTo v s) = t at *
  generalize s.plan.clockSet v = q at *
  refine ⟨?_, ?_, ?_, fun h => ?_, fun h => ?_⟩
  · rw [plan, ← clock]
  · rw [plan, ← phases]
  · rw [plan, ← fallback]
  · rw [plan, ← empty h]
  · rw [plan, ← next h]

/-! ### The request -/

theorem exec_setClock_accepted (hv : v < 604800) (h : s.takes ⟨tag, 0x03, le32 v⟩ rest) :
    let u := clockSetEvent v (setClockTo v (s.taken rest))
    exec (.setClock tag (le32 v)) s
      = .next (sendReply tag 0x03 (0x00 :: (le32 v ++ le8 u.plan.current.fields.label ++ leStart u.plan.next)) u) := by
  change request 0x03 tag (le32 v) _ s = _
  refine request_runs (n := 4) (by decide) rfl h ?_
  have inWeek : u32 (le32 v) 0 < Config.weekSeconds := by
    rw [u32_le32 (by omega)]
    exact hv
  dsimp only
  rw [if_pos inWeek, u32_le32 (by omega)]
  rfl

theorem exec_setClock_refused (hv : 604800 ≤ v) (hm : v < 4294967296) (h : s.takes ⟨tag, 0x03, le32 v⟩ rest) :
    exec (.setClock tag (le32 v)) s = .next (s.answered rest tag 0x03 [0x12]) := by
  change request 0x03 tag (le32 v) _ s = _
  refine request_answers (n := 4) (by decide) rfl h ?_
  have outside : ¬u32 (le32 v) 0 < Config.weekSeconds := by
    rw [u32_le32 hm]
    exact not_lt.mpr hv
  dsimp only
  rw [if_neg outside]

theorem clockSet_sent (s : State) (v : Nat) : (clockSetEvent v (setClockTo v s)).line.sent = s.line.sent :=
  ((State.Follows.budget s).clockSetEvent v ((State.Follows.units s).setClockTo v (.refl s))).sent

/-- SET CLOCK, the plan: by the governing entry, and by whether current already is a copy of it. -/
theorem setClock_turn_spec (s : State) (v : Nat) {r : PhaseRec} (hg : governing s.plan.phases v = some r)
    (moves : ¬(s.plan.clock.isSome = true ∧ s.plan.current.source = some r.start)) :
    ∃ w u : State, setClockTo v s = u ∧ w.TakesTurn u (copyOf r) ∧ s.TurnEffects u ∧ (∀ d, (w.door d).cfg = (s.door d).cfg)
      ∧ w.plan.previous = (if s.plan.clock = none then s.plan.previous else some s.plan.current)
      ∧ (s.plan.clock = none → s.RaisesOnly NoticeKind.ofTurn u)
      ∧ (s.plan.clock.isSome = true → s.admits .turn → s.raised u (turnNotice s.plan (some v) 0x01 s.plan.digest)) := by
  cases hc : s.plan.clock with
  | none =>
    have turn := takePhase_takesTurn (copyOf r) (s.clocked v)
    refine ⟨s.clocked v, _, setClockTo_entry hg hc, turn, clocked_effects turn.effects, fun _ => rfl, rfl,
      fun _ => ((State.RaisesOnly.refl s).of_line rfl).trans turn.raises, fun h => by cases h⟩
  | some now =>
    have set : s.plan.clock.isSome = true := by rw [hc]; rfl
    have turn := takePhase_takesTurn (copyOf r) (leaveCurrent .jump (s.clocked v))
    have doors (d : Fin 32) : ((leaveCurrent .jump (s.clocked v)).door d).cfg = (s.door d).cfg :=
      congrArg (fun k : Dock => (look k.doors d).cfg) (show (leaveCurrent .jump (s.clocked v)).dock = s.dock from raise_dock _ _ _ _)
    refine ⟨leaveCurrent .jump (s.clocked v), _, setClockTo_jump hg set fun h => moves ⟨set, h⟩, turn,
      clocked_effects (leaveCurrent_effects turn.effects), doors, ?_, (fun h => by cases h), fun _ ha => ?_⟩
    · rw [leaveCurrent_plan]
      rfl
    · have admitted : (s.clocked v).admits .turn := ha
      exact leaveCurrent_raised (s := s.clocked v) (cause := .jump) (code := 0x01) rfl turn.follows admitted

theorem setClockTo_quiet (hq : ∀ r, governing s.plan.phases v = some r → s.plan.clock.isSome = true ∧ s.plan.current.source = some r.start) :
    setClockTo v s = s.clocked v ∨ setClockTo v s = recomputeNext (s.clocked v) := by
  cases hg : governing s.plan.phases v with
  | none => exact .inl (setClockTo_empty hg)
  | some r =>
    obtain ⟨set, source⟩ := hq r hg
    exact .inr (setClockTo_stays hg set source)

theorem managedDraw_quiet (hq : ∀ r, governing s.plan.phases v = some r → s.plan.clock.isSome = true ∧ s.plan.current.source = some r.start) :
    (setClockTo v s).managedDraw = s.managedDraw := by
  obtain e | e := setClockTo_quiet hq <;> rw [e] <;> rfl

/-- Settles O15: the turn, if any, is taken first, and the clock-set event closes and opens the window behind it. -/
theorem setClockTakesTheClock : Obligations.SetClockTakesTheClock := by
  refine ⟨fun s tag v rest hv h => ?_, fun s tag v rest hv h => ?_, fun s tag v rest hv hm h => exec_setClock_refused hv hm h⟩
  · have run := exec_setClock_accepted hv h
    obtain ⟨clock, phases, fallback, empty, next⟩ := clockSet_phases (s.taken rest) v
    have sent := clockSet_sent (s.taken rest) v
    dsimp only at run ⊢
    have turned := fun r => setClock_turn_spec (s.taken rest) v (r := r)
    have quiet := setClockTo_quiet (s := s.taken rest) (v := v)
    generalize hu : setClockTo v (s.taken rest) = u at *
    generalize ht : clockSetEvent v u = t at *
    refine ⟨_, run, replied_of_sent sent, clock, phases, fallback, ?_, fun r hg set moves ha => ?_, fun hq n hn => ?_⟩
    · cases hg : governing s.plan.phases v with
      | none =>
        have hq := quiet fun r hr => by cases hg.symm.trans hr
        obtain ⟨⟨current, previous, edits, overrides, totals⟩, -⟩ := quiet_clockSet hq ht.symm
        exact ⟨current, previous, empty hg, edits, overrides, totals⟩
      | some r =>
        refine ⟨fun stays => ?_, fun moves => ?_, next fun e => by cases hg.symm.trans e⟩
        · have hq := quiet fun r' hr => by cases hg.symm.trans hr; exact stays
          exact (quiet_clockSet hq ht.symm).1
        · obtain ⟨w, u', rfl, turn, effects, doors, previous, -⟩ := turned r hg moves
          obtain ⟨current, left, rest⟩ := turned_clockSet turn effects doors ht.symm
          exact ⟨current, left.trans previous, rest⟩
    · obtain ⟨w, u', rfl, -, -, -, -, -, raised⟩ := turned r hg moves
      have follows : u.Follows t := ht ▸ (State.Follows.budget u).clockSetEvent v (.refl u)
      have raised := State.raised.follows (raised set ha) follows
      exact raised
    · cases hc : s.plan.clock with
      | none =>
        cases hg : governing s.plan.phases v with
        | none =>
          have raises := (quiet_clockSet (quiet fun r hr => by cases hg.symm.trans hr) ht.symm).2
          obtain e | e | e := raises.joined (n := n) hn <;> simp [e]
        | some r =>
          have moves : ¬(s.plan.clock.isSome = true ∧ s.plan.current.source = some r.start) := fun hs => by
            rw [hc] at hs
            cases hs.1
          obtain ⟨w, u', rfl, -, -, -, -, raises, -⟩ := turned r hg moves
          have all := (raises hc).trans ((ht ▸ clockSetEvent_raisesOnly v u).weaken fun _ h => .inr h)
          obtain e | e | e | e := all.joined (n := n) hn <;> simp [e]
      | some now =>
        have stays := hq.resolve_left (by rw [hc]; exact Option.some_ne_none now)
        have raises := (quiet_clockSet (quiet stays) ht.symm).2
        obtain e | e | e := raises.joined (n := n) hn <;> simp [e]
  · have run := exec_setClock_accepted hv h
    dsimp only at run ⊢
    obtain ⟨w, reopened⟩ := clockSetEvent_reopens v (setClockTo v (s.taken rest))
    obtain ⟨c, n, b, d, ct, managed, pProt, shareable, reserve, pool, e⟩ :=
      (State.SameMeters.units (s.taken rest)).setClockTo v (.refl (s.taken rest))
    have quietDraw := managedDraw_quiet (s := s.taken rest) (v := v)
    rw [e] at reopened
    generalize (setClockTo v (s.taken rest)).managedDraw = draw at *
    generalize clockSetEvent v (setClockTo v (s.taken rest)) = t at *
    obtain ⟨last, byClock, time, length, energy, estimated, average, contract, exceeds, pu, silent, silence, estimates, zero, elapsed, nT, nU,
      window, windowLen⟩ := reopened
    refine ⟨_, w, run, last, byClock, time, length, fun hs => ?_, fun hs => ?_, average, contract, exceeds, pu, silent, silence, estimates,
      zero, elapsed, nT, nU, window, windowLen.trans (clockSetLength_eq _ v)⟩
    · exact ⟨energy.trans (closed_measured (by exact hs) draw).1, estimated.trans (closed_measured (by exact hs) draw).2⟩
    · have estimate := energy.trans (closed_silent (by exact hs) draw).1
      refine ⟨estimated.trans (closed_silent (by exact hs) draw).2, estimate, fun stays => ?_⟩
      have same : draw = s.managedDraw := quietDraw stays
      rw [same] at estimate
      exact estimate

end Sys2Proof.Machine
end

section
/-! PROOFS. Presence and vacancy, and what a turn event does to the lighting zones (R147 to R149). -/

namespace Sys2Proof.Machine

variable {s t u : State} {tag : Byte} {body : Bytes} {rest : List Frame} {z y : Fin 24}

/-! ### Targets sent more than once within a step -/

/-- Between s and u a bound zone's channel holds its last sent target, unless the last sent target is still that of s. -/
structure State.Sends (s u : State) : Prop where
  binding : ∀ z, u.lightBinding z = s.lightBinding z
  sent : ∀ z i, s.lightBinding z = some i → (u.light z).lastSent = (s.light z).lastSent ∨ (u.chan i).target = (u.light z).lastSent
  unbound : ∀ z, s.lightBinding z = none → (u.light z).lastSent = (s.light z).lastSent

namespace State.Sends

theorem refl (s : State) : s.Sends s := ⟨fun _ => rfl, fun _ _ _ => .inl rfl, fun _ _ => rfl⟩

theorem of_budget (h : s.Sends t) (hb : u.budget = t.budget) (hcfg : ∀ z, (u.light z).cfg = (t.light z).cfg)
    (hl : ∀ z, (u.light z).lastSent = (t.light z).lastSent) : s.Sends u := by
  have chan (i : Fin 128) : u.chan i = t.chan i := by unfold State.chan; rw [hb]
  refine ⟨fun z => (lightBinding_congr (fun i => by rw [chan]) (hcfg z)).trans (h.binding z), fun z i hi => ?_, fun z hz => ?_⟩
  · rw [hl, chan]
    exact h.sent z i hi
  · rw [hl]
    exact h.unbound z hz

theorem of_units (h : s.Sends t) (hb : u.budget = t.budget) (hl : u.lighting = t.lighting) : s.Sends u :=
  h.of_budget hb (fun z => by rw [light_of_lighting hl]) fun z => by rw [light_of_lighting hl]

theorem deriveLight (h : s.Sends u) (y : Fin 24) : s.Sends (deriveLight y u) := by
  refine ⟨fun z => (deriveLight_binding u y z).trans (h.binding z), fun z i hi => ?_, fun z hz => ?_⟩
  · have hi' : u.lightBinding z = some i := (h.binding z).trans hi
    by_cases hzy : z = y
    · subst hzy
      rw [deriveLight_light_self, lastSent_derivedZone hi']
      by_cases hl : u.lightLevel z = (u.light z).lastSent
      · have kept : ((Machine.deriveLight z u).chan i).target = (u.chan i).target :=
          congrArg (fun a => a.2.1) (deriveLight_asked (.inr hl) : ((Machine.deriveLight z u).chan i).asked = (u.chan i).asked)
        rw [kept, hl]
        exact h.sent z i hi
      · exact .inr (deriveLight_sends hi' hl)
    · have kept : ((Machine.deriveLight y u).chan i).target = (u.chan i).target :=
        congrArg (fun a => a.2.1) (deriveLight_asked (.inl fun hy => hzy (lightBinding_inj hi' hy)))
      rw [kept, deriveLight_light_ne hzy]
      exact h.sent z i hi
  · by_cases hzy : z = y
    · subst hzy
      have absent : u.lightPresent z = false := by rw [lightPresent_eq, h.binding, hz]; rfl
      rw [deriveLight_light_self]
      unfold State.derivedZone
      rw [absent]
      exact h.unbound z hz
    · rw [deriveLight_light_ne hzy]
      exact h.unbound z hz

theorem endOverride (h : s.Sends u) (o : Override) (c : EndCause) : s.Sends (endOverride o c u) := by
  unfold Machine.endOverride Machine.overrideChanged
  dsimp only
  have raised := h.of_units (u := raise .overrideEnded (targetZone o.target) (endedData o c)
    (u.setPlan { u.plan with overrides := u.plan.overrides.filter (·.target ≠ o.target) })) (raise_budget _ _ _ _) (raise_lighting _ _ _ _)
  split
  · exact raised
  · exact raised.deriveLight _

/-- All targets derived, the last sent targets and what the channels hold being in step. -/
theorem derives (h : s.Sends u) (z : Fin 24) : s.derives (deriveLights u) z := by
  obtain ⟨target, source, sent⟩ := derives_deriveLights u z
  refine ⟨target, source, ?_⟩
  have level : ((deriveLights u).light z).target = u.lightLevel z := by rw [deriveLights_light, derivedZone_target]
  cases hz : s.lightBinding z with
  | none =>
    rw [h.binding, hz] at sent
    exact sent.trans (h.unbound z hz)
  | some i =>
    rw [h.binding, hz] at sent
    refine ⟨sent.1, fun hn => ?_⟩
    by_cases hl : ((deriveLights u).light z).target = (u.light z).lastSent
    · have hi : u.lightBinding z = some i := (h.binding z).trans hz
      have kept := deriveLights_sentTarget u z
      rw [deriveLights_binding] at kept
      unfold State.sentTarget at kept
      rw [hi, Option.map_some, Option.map_some, if_pos (level ▸ hl)] at kept
      rw [Option.some.inj kept, hl]
      exact (h.sent z i hz).resolve_left fun e => hn (hl.trans e)
    · exact sent.2 hl

end State.Sends

/-! ### The zones over a turn (R149) -/

/-- The Lighting Unit keeps each zone's configuration, presence and walk result, its walk and the kind it took last, between s and u, and its
channels hold what was sent. -/
structure State.Waits (s u : State) : Prop extends s.Sends u where
  zones : ∀ z, s.keepsZone u z
  lastKind : u.lighting.lastKind = s.lighting.lastKind

theorem State.keepsZone.trans (h : s.keepsZone t z) (h' : t.keepsZone u z) : s.keepsZone u z := by
  obtain ⟨cfg, vacant, presence, result⟩ := h
  obtain ⟨cfg', vacant', presence', result'⟩ := h'
  exact ⟨cfg'.trans cfg, vacant'.trans vacant, presence'.trans presence, result'.trans result⟩

theorem deriveLight_keepsZone (y z : Fin 24) (s : State) : s.keepsZone (deriveLight y s) z := by
  by_cases h : z = y
  · subst h
    exact .of_derived (deriveLight_light_self z s)
  · unfold State.keepsZone
    rw [deriveLight_light_ne h]
    exact ⟨rfl, rfl, rfl, rfl⟩

namespace State.Waits

theorem refl (s : State) : s.Waits s := ⟨.refl s, fun _ => ⟨rfl, rfl, rfl, rfl⟩, rfl⟩

theorem of_units (h : s.Waits t) (hb : u.budget = t.budget) (hl : u.lighting = t.lighting) : s.Waits u := by
  refine ⟨h.toSends.of_units hb hl, fun z => ?_, (congrArg Lighting.lastKind hl).trans h.lastKind⟩
  have kept := h.zones z
  unfold State.keepsZone at *
  rwa [light_of_lighting hl]

theorem endOverride (h : s.Waits u) (o : Override) (c : EndCause) : s.Waits (endOverride o c u) := by
  have before : s.Waits (raise .overrideEnded (targetZone o.target) (endedData o c)
      (u.setPlan { u.plan with overrides := u.plan.overrides.filter (·.target ≠ o.target) })) :=
    h.of_units (raise_budget _ _ _ _) (raise_lighting _ _ _ _)
  unfold Machine.endOverride overrideChanged
  dsimp only
  generalize raise .overrideEnded (targetZone o.target) (endedData o c)
    (u.setPlan { u.plan with overrides := u.plan.overrides.filter (·.target ≠ o.target) }) = v at before ⊢
  split
  · exact before
  · exact ⟨before.toSends.deriveLight _, fun z => (before.zones z).trans (deriveLight_keepsZone _ z v),
      (deriveLight_lastKind _ v).trans before.lastKind⟩

theorem leaveCurrent (h : s.Waits u) (c : TurnCause) : s.Waits (leaveCurrent c u) :=
  h.of_units (raise_budget _ _ _ _) (raise_lighting _ _ _ _)

/-- Steps 3 to 6 of a turn, before its event. -/
theorem entering (h : s.Waits u) (c : PhaseCopy) : s.Waits (recomputeNext (endTurnOverrides (applyEdits (enterPhase c u)))) := by
  have edited : s.Waits (applyEdits (enterPhase c u)) := by
    unfold applyEdits
    split
    · exact h.of_units rfl rfl
    · exact h.of_units rfl rfl
  have ended : s.Waits (endTurnOverrides (applyEdits (enterPhase c u))) :=
    forEach_keeps (I := s.Waits) (fun o _ hv => hv.endOverride o .turn) _ _ edited
  exact ended.of_units rfl rfl

end State.Waits

/-- Between s and t the Lighting Unit took a turn event: each zone with presence enabled goes by the kinds before and after it, and every
target is derived. -/
def State.Turned (s t : State) : Prop :=
  let before := s.lighting.lastKind
  let kind := t.plan.current.fields.kind
  t.lighting.lastKind = kind ∧ ∀ z,
    let x := s.light z
    let y := t.light z
    (x.cfg.presence = true → before ≠ .changeover → kind = .changeover → y.presenceT = none ∧ y.vacant = false)
      ∧ (x.cfg.presence = true → before = .changeover → kind ≠ .changeover →
          y.presenceT = some (if kind = .break_ then x.cfg.breakHold else x.cfg.hold) ∧ y.vacant = false)
      ∧ (x.cfg.presence = false ∨ (before = .changeover ↔ kind = .changeover) →
          y.presenceT = x.presenceT ∧ y.vacant = x.vacant)
      ∧ y.cfg = x.cfg ∧ y.walkResult = x.walkResult ∧ s.derives t z

/-- The row of R149 that applies to a zone. -/
theorem turnPresence_spec (before kind : PhaseKind) (hold : Nat) (x : LightZone) :
    (x.cfg.presence = true → before ≠ .changeover → kind = .changeover →
        (turnPresence before kind hold x).presenceT = none ∧ (turnPresence before kind hold x).vacant = false)
      ∧ (x.cfg.presence = true → before = .changeover → kind ≠ .changeover →
          (turnPresence before kind hold x).presenceT = some hold ∧ (turnPresence before kind hold x).vacant = false)
      ∧ (x.cfg.presence = false ∨ (before = .changeover ↔ kind = .changeover) →
          (turnPresence before kind hold x).presenceT = x.presenceT ∧ (turnPresence before kind hold x).vacant = x.vacant)
      ∧ (turnPresence before kind hold x).cfg = x.cfg ∧ (turnPresence before kind hold x).walkResult = x.walkResult
      ∧ (turnPresence before kind hold x).lastSent = x.lastSent := by
  unfold turnPresence
  by_cases hp : x.cfg.presence = true <;> by_cases hk : kind = .changeover <;> by_cases hb : before = .changeover <;> simp [hp, hk, hb]

/-- A zone's presence settled for the kind that now governs (R149). -/
def settlePresence (before : PhaseKind) (z : Fin 24) (s : State) : State :=
  s.putLight z (turnPresence before s.kind (s.holdTime z) (s.light z))

/-- The zones with their presence settled, and the kind noted. -/
def State.settled (s : State) : State :=
  let t := forEach (indices 24) (settlePresence s.lighting.lastKind) s
  t.setLighting { t.lighting with lastKind := t.kind }

theorem lightingTurn_eq (s : State) : lightingTurn s = deriveLights s.settled := rfl

theorem settlePresence_forEach_light (before : PhaseKind) (s : State) (z : Fin 24) :
    (forEach (indices 24) (settlePresence before) s).light z = turnPresence before s.kind (s.holdTime z) (s.light z) := by
  refine forEach_indices (P := fun z u => u.light z) (g := fun u z => turnPresence before u.kind (u.holdTime z) (u.light z))
    (fun a u => light_putLight_self _ _ _) (fun a b u h => ?_) (fun a b u h => ?_) s z
  · rw [light_putLight, if_neg (Ne.symm h)]
  · unfold State.holdTime
    rw [light_putLight, if_neg (Ne.symm h)]
    rfl

theorem settled_budget (s : State) : s.settled.budget = s.budget := by
  unfold State.settled
  dsimp only
  rw [State.setLighting_budget]
  exact forEach_same (P := State.budget) (fun _ u => State.putLight_budget u _ _) (indices 24) s

theorem settled_plan (s : State) : s.settled.plan = s.plan := by
  unfold State.settled
  dsimp only
  rw [State.setLighting_plan]
  exact forEach_same (P := State.plan) (fun _ u => State.putLight_plan u _ _) (indices 24) s

theorem settled_light (s : State) (z : Fin 24) :
    s.settled.light z = turnPresence s.lighting.lastKind s.kind (s.holdTime z) (s.light z) := by
  have zone := settlePresence_forEach_light s.lighting.lastKind s z
  unfold State.settled
  dsimp only
  generalize forEach (indices 24) (settlePresence s.lighting.lastKind) s = t at zone ⊢
  exact zone

theorem settled_lastKind (s : State) : s.settled.lighting.lastKind = s.plan.current.fields.kind := by
  rw [← settled_plan s]
  unfold State.settled
  dsimp only
  generalize forEach (indices 24) (settlePresence s.lighting.lastKind) s = t
  rfl

theorem lightingTurn_turned (h : s.Waits u) : s.Turned (lightingTurn u) := by
  have sends : s.Sends u.settled := by
    refine h.toSends.of_budget (settled_budget u) (fun z => ?_) fun z => ?_
    · rw [settled_light]
      exact (turnPresence_spec _ _ _ _).2.2.2.1
    · rw [settled_light]
      exact (turnPresence_spec _ _ _ _).2.2.2.2.2
  have current : (deriveLights u.settled).plan.current = u.plan.current := by
    rw [plan_fields_of_forgetTotals (deriveLights_plan _), ← settled_plan u]
  rw [lightingTurn_eq]
  refine ⟨?_, fun z => ?_⟩
  · rw [deriveLights_lastKind, current, settled_lastKind]
  · obtain ⟨cfg, vacant, presence, result⟩ := h.zones z
    obtain ⟨cfg', vacant', presence', result'⟩ : u.settled.keepsZone (deriveLights u.settled) z := .of_derived (deriveLights_light _ z)
    have derived := sends.derives z
    obtain ⟨into, outOf, kept, config, walked, -⟩ := turnPresence_spec u.lighting.lastKind u.kind (u.holdTime z) (u.light z)
    rw [settled_light] at cfg' vacant' presence' result'
    have lastKind := h.lastKind
    have hold : u.holdTime z = if u.plan.current.fields.kind = .break_ then (s.light z).cfg.breakHold else (s.light z).cfg.hold := by
      rw [← cfg]
      rfl
    generalize deriveLights u.settled = t at *
    rw [hold] at *
    dsimp only
    rw [current, cfg', vacant', presence', result', ← cfg, ← vacant, ← presence, ← result, ← lastKind]
    exact ⟨into, outOf, kept, config, walked, derived⟩

/-- What a turn event leaves of the zones stands over the events of the arbiter that follow. -/
theorem State.Turned.after (h : s.Turned t) (ho : u.outsideBudget = t.outsideBudget) (ha : ∀ j, (u.chan j).asked = (t.chan j).asked) :
    s.Turned u := by
  have lighting := lighting_of_outside ho
  have plan := plan_of_outside ho
  have current : u.plan.current = t.plan.current := by rw [plan_fields_of_forgetTotals plan]
  have light (z : Fin 24) : u.light z = t.light z := light_of_lighting lighting z
  unfold State.Turned at h ⊢
  dsimp only at h ⊢
  rw [lighting, current]
  refine ⟨h.1, fun z => ?_⟩
  obtain ⟨into, outOf, kept, cfg, result, derived⟩ := h.2 z
  have table : u.tableLine z = t.tableLine z :=
    tableLine_congr plan (stop_of_outside ho) (by rw [lighting]) (by rw [light]) (by rw [light])
  rw [light]
  exact ⟨into, outOf, kept, cfg, result, derived.after (light z) table fun i => congrArg (fun a => a.2.1) (ha i)⟩

theorem turnEvent_turned (h : s.Waits u) : s.Turned (turnEvent u) :=
  (lightingTurn_turned h).after (profileChanged_outside _) (profileChanged_asked _)

theorem takePhase_turned (h : s.Waits u) (c : PhaseCopy) : s.Turned (takePhase c u) := turnEvent_turned (h.entering c)

theorem clockSetEvent_asked (v : Nat) (s : State) (j : Fin 128) : ((clockSetEvent v s).chan j).asked = (s.chan j).asked := by
  rw [clockSetEvent_eq, asked_of_unshared (handOver_unshared _ _) j]
  unfold State.rewound closeWindow
  rw [closed_eq]
  rfl

theorem State.Turned.replied (h : s.Turned t) (tag kind : Byte) (reply : Bytes) : s.Turned (sendReply tag kind reply t) := h

theorem waits_taken (s : State) (rest : List Frame) : s.Waits (s.taken rest) := (State.Waits.refl s).of_units rfl rfl

/-! ### Presence pulses and timers (R148) -/

/-- A zone's presence is settled and its target derived. -/
theorem derives_presence (s : State) (z : Fin 24) (timer : Timer) (vacant : Bool) :
    s.derives (deriveLight z (s.putLight z { s.light z with presenceT := timer, vacant := vacant })) z := by
  have binding : (s.putLight z { s.light z with presenceT := timer, vacant := vacant }).lightBinding z = s.lightBinding z :=
    lightBinding_congr (fun _ => rfl) (by rw [light_putLight_self])
  refine (derives_deriveLight _ z).before binding.symm ?_
  rw [light_putLight_self]

theorem presence_zone (s : State) (z : Fin 24) (timer : Timer) (vacant : Bool) :
    let t := deriveLight z (s.putLight z { s.light z with presenceT := timer, vacant := vacant })
    (t.light z).vacant = vacant ∧ (t.light z).presenceT = timer ∧ ∀ y, y ≠ z → t.light y = s.light y := by
  have kept : (s.putLight z { s.light z with presenceT := timer, vacant := vacant }).keepsZone
      (deriveLight z (s.putLight z { s.light z with presenceT := timer, vacant := vacant })) z := deriveLight_keepsZone z z _
  obtain ⟨-, hv, hp, -⟩ := kept
  rw [light_putLight_self] at hv hp
  refine ⟨hv, hp, fun y hy => ?_⟩
  rw [deriveLight_light_ne hy, light_putLight, if_neg (Ne.symm hy)]

theorem exec_presencePulse_of_running (hs : s.stage = .running) (z : Fin 24) : exec (.presencePulse z) s = .next (pulse z s) := by
  change execPresencePulse z s = _
  unfold execPresencePulse
  exact whenRunning_runs hs rfl

theorem presencePulse_spec (s : State) (z : Fin 24) (hs : s.stage = .running) (hp : (s.light z).cfg.presence = true)
    (hk : s.plan.current.fields.kind ≠ .changeover) :
    ∃ t, exec (.presencePulse z) s = .next t ∧ (t.light z).vacant = false
      ∧ (t.light z).presenceT
          = some (if s.plan.current.fields.kind = .break_ then (s.light z).cfg.breakHold else (s.light z).cfg.hold)
      ∧ ((s.light z).vacant = true → s.derives t z) ∧ ((s.light z).vacant = false → t.budget = s.budget)
      ∧ ∀ y, y ≠ z → t.light y = s.light y := by
  refine ⟨_, exec_presencePulse_of_running hs z, ?_⟩
  have takes : ¬((!(s.light z).cfg.presence) = true ∨ s.kind = .changeover) := by
    rw [hp]
    exact fun h => h.elim (fun e => by cases e) hk
  unfold pulse
  dsimp only
  rw [if_neg takes]
  cases hv : (s.light z).vacant with
  | true =>
    obtain ⟨vacant, timer, others⟩ := presence_zone s z (some (s.holdTime z)) false
    have derived := derives_presence s z (some (s.holdTime z)) false
    rw [if_pos rfl]
    exact ⟨vacant, timer, fun _ => derived, (fun h => by cases h), others⟩
  | false =>
    rw [if_neg Bool.false_ne_true]
    refine ⟨?_, ?_, (fun h => by cases h), fun _ => rfl, fun y hy => ?_⟩
    · rw [light_putLight_self]
    · rw [light_putLight_self]
      rfl
    · rw [light_putLight, if_neg (Ne.symm hy)]

theorem presencePulse_idle (s : State) (z : Fin 24) (hs : s.stage = .running)
    (h : (s.light z).cfg.presence = false ∨ s.plan.current.fields.kind = .changeover) : exec (.presencePulse z) s = .next s := by
  rw [exec_presencePulse_of_running hs z]
  unfold pulse
  dsimp only
  exact congrArg Host.Outcome.next (if_pos (h.imp (fun e => by rw [e]; rfl) id))

theorem presenceTimerExpiry_spec (s : State) (z : Fin 24) (hs : s.stage = .running) (hd : (s.light z).presenceT = some 0) :
    ∃ t, exec (.presenceTimerExpiry z) s = .next t ∧ (t.light z).vacant = true ∧ (t.light z).presenceT = none
      ∧ s.derives t z ∧ ∀ y, y ≠ z → t.light y = s.light y := by
  have run : exec (.presenceTimerExpiry z) s = .next (presenceExpired z s) := by
    change execPresenceTimerExpiry z s = _
    unfold execPresenceTimerExpiry
    exact whenRunning_runs hs (if_pos hd)
  obtain ⟨vacant, timer, others⟩ := presence_zone s z none true
  exact ⟨_, run, vacant, timer, derives_presence s z none true, others⟩

theorem presenceTimerExpiry_idle (s : State) (z : Fin 24) (hs : s.stage = .running) (hd : (s.light z).presenceT ≠ some 0) :
    exec (.presenceTimerExpiry z) s = .next s := by
  change execPresenceTimerExpiry z s = _
  unfold execPresenceTimerExpiry
  exact whenRunning_runs hs (if_neg hd)

/-! ### The turns that a zone takes -/

theorem setClockTo_turned {v : Nat} {r : PhaseRec} (hg : governing s.plan.phases v = some r)
    (moves : s.plan.clock = none ∨ s.plan.current.source ≠ some r.start) : s.Turned (setClockTo v s) := by
  have waits : s.Waits (s.clocked v) := (State.Waits.refl s).of_units rfl rfl
  cases hc : s.plan.clock with
  | none =>
    rw [setClockTo_entry hg hc]
    exact takePhase_turned waits _
  | some now =>
    rw [setClockTo_jump hg (by rw [hc]; rfl) (moves.resolve_left (by rw [hc]; exact Option.some_ne_none now))]
    exact takePhase_turned (waits.leaveCurrent .jump) _

theorem editFallback_turned (h : s.Waits u) (f : PhaseFields) (hc : u.plan.current.source = none) : s.Turned (editFallback f u) := by
  unfold editFallback
  dsimp only
  rw [if_pos hc]
  unfold fallbackRefresh recomputeDigest
  dsimp only
  have moved (p : PlanUnit) : s.Turned (turnEvent (u.setPlan p)) := turnEvent_turned (h.of_units rfl rfl)
  exact moved _

theorem State.Turned.taken {r : List Frame} (h : (s.taken r).Turned t) : s.Turned t := h

/-- Settles O53: every turn ends in the Lighting Unit's turn event, and what comes before and after it changes no zone's presence. -/
theorem presenceGovernsVacancy : Obligations.PresenceGovernsVacancy := by
  refine ⟨⟨presencePulse_spec, presencePulse_idle, presenceTimerExpiry_spec, presenceTimerExpiry_idle⟩, fun s r hs hd hr => ?_,
    fun s tag v rest r hv h hg moves => ?_, fun s tag body rest f hlen hf hm he hc h => ?_,
    fun s tag body rest hlen hm hne hall hc h => ?_, fun s tag body rest f hlen hf hm hsrc h => ?_⟩
  · have run : exec .timedTurn s = .next (takePhase (copyOf r) (leaveCurrent .timed s)) := by
      change execTimedTurn s = _
      unfold execTimedTurn
      refine whenRunning_runs hs ?_
      rw [if_pos hd]
      unfold timedTurn
      rw [hr]
    have turned := takePhase_turned ((State.Waits.refl s).leaveCurrent .timed) (copyOf r)
    generalize takePhase (copyOf r) (leaveCurrent .timed s) = t at run turned
    exact ⟨t, run, turned⟩
  · have turned : (s.taken rest).Turned (setClockTo v (s.taken rest)) := setClockTo_turned hg moves
    have after := turned.after (clockSetEvent_outside (setClockTo v (s.taken rest)) v) (clockSetEvent_asked v _)
    have run := exec_setClock_accepted hv h
    dsimp only at run
    generalize clockSetEvent v (setClockTo v (s.taken rest)) = t at run after
    exact ⟨_, run, after.taken.replied _ _ _⟩
  · obtain ⟨now, hnow⟩ := Option.isSome_iff_exists.mp hc
    have free : recordAt s.plan.phases (u16 body 0) = none := by rw [he]; rfl
    have run := exec_addPhase_accepted hlen hf hm free (by rw [he]; decide) h
    have entered : addRecord ⟨u16 body 0, f⟩ (s.taken rest) = _ := addRecord_entry (s := s.taken rest) _ he hnow
    have turned : s.Turned (addRecord ⟨u16 body 0, f⟩ (s.taken rest)) := by
      rw [entered]
      exact takePhase_turned ((waits_taken s rest).of_units (u := (s.taken rest).listing [⟨u16 body 0, f⟩]) rfl rfl) _
    generalize addRecord ⟨u16 body 0, f⟩ (s.taken rest) = t at run turned
    exact ⟨_, run, turned.replied _ _ _⟩
  · obtain ⟨now, hnow⟩ := Option.isSome_iff_exists.mp hc
    have held : (recordAt s.plan.phases (u16 body 0)).isSome = true := by
      rw [Option.isSome_iff_ne_none]
      intro hn
      obtain ⟨r, l, hl⟩ := List.exists_cons_of_ne_nil hne
      exact recordAt_eq_none.mp hn r (by rw [hl]; exact List.mem_cons_self) (hall r (by rw [hl]; exact List.mem_cons_self))
    have emptied : (s.taken rest).without (u16 body 0) = [] := by
      refine List.filter_eq_nil_iff.mpr fun r hr => ?_
      simp [hall r hr]
    have turned : s.Turned (dropRecord (u16 body 0) (s.taken rest)) := by
      rw [dropRecord_emptying (s := s.taken rest) (u16 body 0) emptied hnow]
      exact takePhase_turned (((waits_taken s rest).of_units (u := (s.taken rest).listing []) rfl rfl).leaveCurrent .emptied) _
    have run := exec_dropPhase_accepted hlen hm held h
    generalize dropRecord (u16 body 0) (s.taken rest) = t at run turned
    exact ⟨_, run, turned.replied _ _ _⟩
  · have turned : s.Turned (editFallback f (s.taken rest)) := editFallback_turned (waits_taken s rest) f hsrc
    have run := exec_editPhase_fallback hlen hf hm h
    generalize editFallback f (s.taken rest) = t at run turned
    exact ⟨_, run, turned.replied _ _ _⟩

end Sys2Proof.Machine
end

section
/-! PROOFS. The commissioning walk (R152 to R154). -/

namespace Sys2Proof.Machine

variable {s t u v : State} {tag : Byte} {rest : List Frame} {z y : Fin 24}

/-! ### The walk list (R152) -/

theorem walkPrecedes_eq {a b : Fin 24} {i j : Fin 128} (ha : s.lightBinding a = some i) (hb : s.lightBinding b = some j) :
    walkPrecedes s a b = decide (i < j) := by
  unfold walkPrecedes
  rw [(lightBinding_iff.mp ha).1, (lightBinding_iff.mp hb).1]

theorem walkPrecedes_weak (s : State) : WeakOrder (walkPrecedes s) fun z => ∃ i, s.lightBinding z = some i where
  asymm a b := by
    rintro ⟨i, hi⟩ ⟨j, hj⟩ h
    rw [walkPrecedes_eq hi hj, decide_eq_true_iff] at h
    rw [walkPrecedes_eq hj hi, decide_eq_false_iff_not]
    exact lt_asymm h
  weak a b c := by
    rintro ⟨i, hi⟩ ⟨j, hj⟩ ⟨k, hk⟩ h h'
    rw [walkPrecedes_eq hi hj, decide_eq_true_iff] at h
    rw [walkPrecedes_eq hk hj, decide_eq_false_iff_not] at h'
    rw [walkPrecedes_eq hi hk, decide_eq_true_iff]
    exact lt_of_lt_of_le h (not_lt.mp h')

theorem listsWalk_walkList (s : State) : s.ListsWalk s.walkList := by
  unfold State.walkList
  refine ⟨fun z => ?_, ?_⟩
  · rw [(sortBy_perm _).mem_iff, List.mem_filter, lightPresent_eq]
    exact and_iff_right (mem_indices z)
  · have bound : ∀ z ∈ (indices 24).filter fun z => s.lightPresent z, ∃ i, s.lightBinding z = some i := fun z hz => by
      have present := (List.mem_filter.mp hz).2
      rw [lightPresent_eq] at present
      exact Option.isSome_iff_exists.mp present
    have sorted := sortBy_sorted (walkPrecedes_weak s) ((indices_rise 24).filter _) bound
    refine (List.Pairwise.and_mem.mp sorted).imp fun {a b} h => ?_
    obtain ⟨ha, hb, first⟩ := h
    obtain ⟨i, hi⟩ := bound a ((sortBy_perm _).mem_iff.mp ha)
    obtain ⟨j, hj⟩ := bound b ((sortBy_perm _).mem_iff.mp hb)
    refine ⟨i, j, hi, hj, ?_⟩
    obtain h | ⟨h, hab⟩ := first
    · rwa [walkPrecedes_eq hi hj, decide_eq_true_iff] at h
    · rw [walkPrecedes_eq hj hi, decide_eq_false_iff_not] at h
      refine lt_of_le_of_ne (not_lt.mp h) fun hij => ?_
      subst hij
      exact absurd (lightBinding_inj hi hj) (ne_of_lt hab)

/-! ### The zones within a walk -/

/-- A zone's configuration, vacancy and presence timer stand. -/
def State.keepsPresence (s t : State) (z : Fin 24) : Prop :=
  (t.light z).cfg = (s.light z).cfg ∧ (t.light z).vacant = (s.light z).vacant ∧ (t.light z).presenceT = (s.light z).presenceT

/-- Between s and v the walk's own fields and the walk results alone were written. -/
structure State.Walks (s v : State) : Prop where
  budget : v.budget = s.budget
  plan : v.plan = s.plan
  stop : v.stop = s.stop
  line : v.line = s.line
  zones : ∀ z, s.keepsPresence v z
  lastSent : ∀ z, (v.light z).lastSent = (s.light z).lastSent

namespace State.Walks

theorem refl (s : State) : s.Walks s := ⟨rfl, rfl, rfl, rfl, fun _ => ⟨rfl, rfl, rfl⟩, fun _ => rfl⟩

theorem walk (h : s.Walks v) (w : Option LightWalk) : s.Walks (v.setLighting { v.lighting with walk := w }) :=
  ⟨h.budget, h.plan, h.stop, h.line, h.zones, h.lastSent⟩

theorem cleared (s : State) : s.Walks (s.setLighting { s.lighting with zones := s.lighting.zones.map fun x => { x with walkResult := none } }) := by
  have light (z : Fin 24) : (s.setLighting { s.lighting with zones := s.lighting.zones.map fun x => { x with walkResult := none } }).light z
      = { s.light z with walkResult := none } := look_map _ _ _
  refine ⟨rfl, rfl, rfl, rfl, fun z => ?_, fun z => ?_⟩
  · unfold State.keepsPresence
    rw [light]
    exact ⟨rfl, rfl, rfl⟩
  · rw [light]

theorem result (s : State) (z : Fin 24) (r : Option Nat) : s.Walks (s.putLight z { s.light z with walkResult := r }) := by
  have light (y : Fin 24) : (s.putLight z { s.light z with walkResult := r }).light y
      = if z = y then { s.light z with walkResult := r } else s.light y := light_putLight _ _ _ _
  refine ⟨rfl, rfl, rfl, rfl, fun y => ?_, fun y => ?_⟩
  · unfold State.keepsPresence
    rw [light]
    split
    · next h => subst h; exact ⟨rfl, rfl, rfl⟩
    · exact ⟨rfl, rfl, rfl⟩
  · rw [light]
    split
    · next h => subst h; rfl
    · rfl

theorem raise (h : s.Walks v) (k : NoticeKind) (n : Nat) (b : Bytes) :
    (raise k n b v).budget = s.budget ∧ (raise k n b v).plan = s.plan ∧ (raise k n b v).stop = s.stop
      ∧ ∀ z, (raise k n b v).light z = v.light z :=
  ⟨(raise_budget _ _ _ _).trans h.budget, (raise_plan _ _ _ _).trans h.plan, (raise_stop _ _ _ _).trans h.stop,
    light_of_lighting (raise_lighting _ _ _ _)⟩

end State.Walks

/-- The derivation of all targets, over zones that keep their presence. -/
theorem walked_derives (hb : u.budget = s.budget) (hz : ∀ z, s.keepsPresence u z) (hl : ∀ z, (u.light z).lastSent = (s.light z).lastSent)
    (z : Fin 24) : s.derives (deriveLights u) z ∧ s.keepsPresence (deriveLights u) z := by
  have sends : s.Sends u := (State.Sends.refl s).of_budget hb (fun z => (hz z).1) hl
  refine ⟨sends.derives z, ?_⟩
  have kept := hz z
  unfold State.keepsPresence at *
  rw [deriveLights_light]
  exact kept

/-- A visit of the walk is in progress in t: the visited zone at full, every other at its protected minimum. -/
def State.Visits (s t : State) (w : LightWalk) : Prop :=
  t.lighting.walk = some w
    ∧ ∀ z, s.derives t z ∧ s.keepsPresence t z ∧ (t.light z).source = .walk
        ∧ (t.light z).target = if z = w.visiting then max 1000 (t.light z).cfg.protMin else (t.light z).cfg.protMin

/-- The table of R147 while a walk is in progress. -/
theorem tableLine_walk {w : LightWalk} (hr : t.stop.state = .running) (hw : t.lighting.walk = some w) (z : Fin 24) :
    t.tableLine z = (if w.visiting = z then 1000 else (t.light z).cfg.protMin, .walk) := by
  unfold State.tableLine
  dsimp only
  rw [if_neg (not_not.mpr hr), hw]

theorem beginVisit_visits (h : s.Walks v) (hr : s.stop.state = .running) (dwell : Nat) (z : Fin 24) (more : List (Fin 24)) (begun : Nat) :
    s.Visits (beginVisit dwell z more begun v) ⟨dwell, dwell, z, more, begun⟩ := by
  have walked := h.walk (some ⟨dwell, dwell, z, more, begun⟩)
  have walk : (deriveLights (v.setLighting { v.lighting with walk := some ⟨dwell, dwell, z, more, begun⟩ })).lighting.walk
      = some ⟨dwell, dwell, z, more, begun⟩ := deriveLights_walk _
  have stop : (deriveLights (v.setLighting { v.lighting with walk := some ⟨dwell, dwell, z, more, begun⟩ })).stop.state = .running := by
    rw [deriveLights_stop, walked.stop, hr]
  have zones := walked_derives walked.budget walked.zones walked.lastSent
  unfold beginVisit
  generalize deriveLights (v.setLighting { v.lighting with walk := some ⟨dwell, dwell, z, more, begun⟩ }) = t at *
  refine ⟨walk, fun y => ?_⟩
  obtain ⟨derived, kept⟩ := zones y
  have table := tableLine_walk stop walk y
  obtain ⟨target, source, -⟩ := id derived
  rw [table] at target source
  refine ⟨derived, kept, source, target.trans ?_⟩
  by_cases hy : y = z
  · rw [if_pos hy, if_pos hy.symm]
  · rw [if_neg hy, if_neg (Ne.symm hy), max_self]

/-! ### The end of a walk (R154) -/

/-- The walk ended between s and t, with WALK_DONE, and every zone's target follows its override, its vacancy or the scene. -/
def State.WalkEnds (s t : State) (ending : Byte) : Prop :=
  t.lighting.walk = none
    ∧ (∀ z, (t.light z).target
        = (let scene := look (look s.plan.scenes s.plan.current.fields.scene) z
           let level := match s.plan.overrides.find? (fun o => o.target = .light z) with
             | some o => o.value.toNat
             | none => if (s.light z).vacant then min scene (s.light z).cfg.setback else scene
           max level (s.light z).cfg.protMin))
    ∧ (∀ z, s.derives t z ∧ s.keepsPresence t z)
    ∧ s.reports t ⟨.walkDone, s.plan.clock, 0,
        ending :: (le8 ((indices 24).filter fun z => (t.light z).walkResult.isSome).length
          ++ le8 ((indices 24).filter fun z => (t.light z).walkResult.any (· < 1000)).length)⟩

theorem countTable_eq {α : Type} {n : Nat} (p : α → Bool) (l : Table α n) : countTable p l = ((indices n).filter fun i => p (look l i)).length := by
  unfold countTable
  rw [sumTable_indices, ← List.countP_eq_length_filter]
  generalize indices n = is
  induction is with
  | nil => rfl
  | cons i is ih => rw [List.map_cons, List.sum_cons, ih, List.countP_cons, Nat.add_comm]

theorem resultCount_eq (s : State) (p : Nat → Bool) :
    s.resultCount p = ((indices 24).filter fun z => (s.light z).walkResult.any p).length := by
  unfold State.resultCount
  rw [countTable_eq]
  congr 2
  funext z
  unfold State.light
  cases (look s.lighting.zones z).walkResult <;> rfl

/-- The table of R147 while no walk is in progress, from the state before. -/
theorem tableLine_scene (hr : t.stop.state = .running) (hw : t.lighting.walk = none) (hp : t.plan.forgetTotals = s.plan.forgetTotals)
    (hz : s.keepsPresence t z) :
    (t.tableLine z).1
      = (let scene := look (look s.plan.scenes s.plan.current.fields.scene) z
         match s.plan.overrides.find? (fun o => o.target = .light z) with
           | some o => o.value.toNat
           | none => if (s.light z).vacant then min scene (s.light z).cfg.setback else scene) := by
  obtain ⟨cfg, vacant, -⟩ := hz
  unfold State.tableLine
  rw [plan_fields_of_forgetTotals hp, if_neg (not_not.mpr hr), hw]
  dsimp only
  rw [cfg, vacant]
  cases s.plan.overrides.find? (fun o => o.target = .light z) with
  | some o => rfl
  | none => cases (s.light z).vacant <;> rfl

theorem endWalk_ends (h : s.Walks v) (hr : s.stop.state = .running) (e : WalkEnding) {code : Byte} (hc : le8 e.code = [code]) :
    s.WalkEnds (endWalk e v) code ∧ ∀ z, ((endWalk e v).light z).walkResult = (v.light z).walkResult := by
  have off := h.walk none
  obtain ⟨budget, plan, stop, light⟩ := off.raise .walkDone 0
    (le8 e.code ++ le8 (v.resultCount fun _ => true) ++ le8 (v.resultCount fun r => r < 1000))
  have follows : s.Follows (v.setLighting { v.lighting with walk := none }) := (State.Follows.refl s).of_line off.line
  have walk : (raise .walkDone 0 (le8 e.code ++ le8 (v.resultCount fun _ => true) ++ le8 (v.resultCount fun r => r < 1000))
      (v.setLighting { v.lighting with walk := none })).lighting.walk = none := congrArg Lighting.walk (raise_lighting _ _ _ _)
  unfold endWalk markWalkEnded
  have reports := fun {w : State} => reports_of_raise (u := w) (k := .walkDone) (n := 0)
    (b := le8 e.code ++ le8 (v.resultCount fun _ => true) ++ le8 (v.resultCount fun r => r < 1000)) follows
  rw [hc] at *
  generalize raise .walkDone 0 ([code] ++ le8 (v.resultCount fun _ => true) ++ le8 (v.resultCount fun r => r < 1000))
    (v.setLighting { v.lighting with walk := none }) = m at *
  have reported := reports ((State.Follows.units m).deriveLights (.refl m))
  have zones := walked_derives budget (fun z => by have := off.zones z; unfold State.keepsPresence at *; rwa [light])
    (fun z => by rw [light]; exact off.lastSent z)
  have results (z : Fin 24) : ((deriveLights m).light z).walkResult = (v.light z).walkResult := by
    rw [deriveLights_light]
    change (m.light z).walkResult = _
    rw [light]
    rfl
  have running : (deriveLights m).stop.state = .running := by rw [deriveLights_stop, stop, hr]
  have idle : (deriveLights m).lighting.walk = none := by rw [deriveLights_walk, walk]
  have plans : (deriveLights m).plan.forgetTotals = s.plan.forgetTotals := by rw [deriveLights_plan, plan]
  generalize deriveLights m = t at *
  refine ⟨⟨idle, fun z => ?_, zones, ?_⟩, results⟩
  · obtain ⟨⟨target, -⟩, kept⟩ := zones z
    rw [target, tableLine_scene running idle plans kept, kept.1]
  · have time : (v.setLighting { v.lighting with walk := none }).plan.clock = s.plan.clock := by rw [off.plan]
    rw [time, resultCount_eq, resultCount_eq] at reported
    simp only [results]
    simpa using reported

/-! ### The requests and the dwell -/

theorem clampDwell (n : Nat) : clampNat 5 60 n = max 5 (min 60 n) := rfl

theorem plantRunning_iff : s.plantRunning = true ↔ s.stop.state = .running := by simp [State.plantRunning]

theorem exec_walkStart_accepted {dwell : Byte} (h : s.takes ⟨tag, 0x4A, [dwell]⟩ rest) (hr : s.stop.state = .running)
    (hw : s.lighting.walk = none) :
    let held := max 5 (min 60 dwell.toNat)
    let t := startWalk held s.walkList (s.taken rest)
    exec (.walkStart tag [dwell]) s
      = .next (sendReply tag 0x4A ([if held = dwell.toNat then 0x00 else 0x01] ++ le8 held ++ le8 s.walkList.length) t) := by
  change request 0x4A tag [dwell] _ s = _
  refine request_runs (n := 1) (by decide) rfl h ?_
  have running : ¬(!(s.taken rest).plantRunning) = true := by
    rw [show (s.taken rest).plantRunning = true from plantRunning_iff.mpr hr]
    exact Bool.false_ne_true
  have idle : ¬(s.taken rest).lighting.walk.isSome = true := by
    rw [show (s.taken rest).lighting.walk = none from hw]
    exact Bool.false_ne_true
  dsimp only
  rw [if_neg running, if_neg idle, stTreated_ne]
  rfl

theorem walkStart_refused {dwell : Byte} (h : s.takes ⟨tag, 0x4A, [dwell]⟩ rest) :
    (s.stop.state ≠ .running → exec (.walkStart tag [dwell]) s = .next (s.answered rest tag 0x4A [0x1C]))
      ∧ (s.stop.state = .running → s.lighting.walk.isSome → exec (.walkStart tag [dwell]) s = .next (s.answered rest tag 0x4A [0x16])) := by
  refine ⟨fun hr => ?_, fun hr hw => ?_⟩
  · change request 0x4A tag [dwell] _ s = _
    refine request_answers (n := 1) (by decide) rfl h ?_
    have stopped : (!(s.taken rest).plantRunning) = true := by
      rw [Bool.not_eq_true', Bool.eq_false_iff, ne_eq, plantRunning_iff]
      exact hr
    dsimp only
    rw [if_pos stopped]
  · change request 0x4A tag [dwell] _ s = _
    refine request_answers (n := 1) (by decide) rfl h ?_
    have running : ¬(!(s.taken rest).plantRunning) = true := by
      rw [show (s.taken rest).plantRunning = true from plantRunning_iff.mpr hr]
      exact Bool.false_ne_true
    have walks : (s.taken rest).lighting.walk.isSome = true := hw
    dsimp only
    rw [if_neg running, if_pos walks]

theorem walks_taken (h : (s.taken rest).Walks v) : v.budget = s.budget ∧ v.plan = s.plan ∧ v.stop = s.stop :=
  ⟨h.budget, h.plan, h.stop⟩

/-- The first visit of a walk, or its end over an empty list. -/
theorem startWalk_spec (hr : s.stop.state = .running) (dwell : Nat) (list : List (Fin 24)) :
    (∀ z, ((startWalk dwell list s).light z).walkResult = none)
      ∧ (list = [] → s.WalkEnds (startWalk dwell list s) 0x00)
      ∧ (∀ z more, list = z :: more → s.Visits (startWalk dwell list s) ⟨dwell, dwell, z, more, 1⟩) := by
  have cleared := State.Walks.cleared s
  have absent (z : Fin 24) : ((s.setLighting { s.lighting with zones := s.lighting.zones.map fun x => { x with walkResult := none } }).light z).walkResult
      = none := by
    have light : (s.setLighting { s.lighting with zones := s.lighting.zones.map fun x => { x with walkResult := none } }).light z
        = { s.light z with walkResult := none } := look_map _ _ _
    rw [light]
  unfold startWalk
  dsimp only
  generalize s.setLighting { s.lighting with zones := s.lighting.zones.map fun x => { x with walkResult := none } } = v at cleared absent ⊢
  cases list with
  | nil =>
    obtain ⟨ends, results⟩ := endWalk_ends cleared hr .complete (code := 0x00) rfl
    exact ⟨fun z => (results z).trans (absent z), fun _ => ends, fun z more e => by cases e⟩
  | cons a l =>
    refine ⟨fun z => ?_, (fun e => by cases e), fun z more e => ?_⟩
    · unfold beginVisit
      rw [deriveLights_light]
      exact absent z
    · cases e
      exact beginVisit_visits cleared hr dwell a l 1

/-- The end of a dwell: the result recorded, and the next visit or the end of the walk. -/
theorem dwellExpired_spec (hr : s.stop.state = .running) (w : LightWalk) :
    ((dwellExpired w s).light w.visiting).walkResult = some (s.zoneDriven w.visiting)
      ∧ (∀ y, y ≠ w.visiting → ((dwellExpired w s).light y).walkResult = (s.light y).walkResult)
      ∧ (w.toVisit = [] → s.WalkEnds (dwellExpired w s) 0x00)
      ∧ (∀ z more, w.toVisit = z :: more → s.Visits (dwellExpired w s) ⟨w.dwell, w.dwell, z, more, w.begun + 1⟩) := by
  have recorded := State.Walks.result s w.visiting (some (s.zoneDriven w.visiting))
  have own : ((s.putLight w.visiting { s.light w.visiting with walkResult := some (s.zoneDriven w.visiting) }).light w.visiting).walkResult
      = some (s.zoneDriven w.visiting) := by rw [light_putLight_self]
  have others (y : Fin 24) (hy : y ≠ w.visiting) :
      ((s.putLight w.visiting { s.light w.visiting with walkResult := some (s.zoneDriven w.visiting) }).light y).walkResult
        = (s.light y).walkResult := by rw [light_putLight, if_neg (Ne.symm hy)]
  unfold dwellExpired
  dsimp only
  generalize s.putLight w.visiting { s.light w.visiting with walkResult := some (s.zoneDriven w.visiting) } = v at recorded own others ⊢
  cases hv : w.toVisit with
  | nil =>
    obtain ⟨ends, results⟩ := endWalk_ends recorded hr .complete (code := 0x00) rfl
    exact ⟨(results _).trans own, fun y hy => (results y).trans (others y hy), fun _ => ends, fun z more e => by cases e⟩
  | cons a l =>
    have results (z : Fin 24) : ((beginVisit w.dwell a l (w.begun + 1) v).light z).walkResult = (v.light z).walkResult := by
      unfold beginVisit
      rw [deriveLights_light]
      rfl
    refine ⟨(results _).trans own, fun y hy => (results y).trans (others y hy), (fun e => by cases e), fun z more e => ?_⟩
    cases e
    exact beginVisit_visits recorded hr w.dwell a l (w.begun + 1)

theorem State.Visits.replied {w : LightWalk} (h : (s.taken rest).Visits t w) (k : Byte) (r : Bytes) : s.Visits (sendReply tag k r t) w := h

theorem State.WalkEnds.replied {c : Byte} (h : (s.taken rest).WalkEnds t c) (k : Byte) (r : Bytes) : s.WalkEnds (sendReply tag k r t) c := h

theorem exec_dwellExpiry_of_running (hs : s.stage = .running) :
    exec .dwellExpiry s = .next (match s.lighting.walk with
      | some w => if w.remaining = 0 then dwellExpired w s else s
      | none => s) := by
  change execDwellExpiry s = _
  unfold execDwellExpiry
  exact whenRunning_runs hs rfl

theorem walkStop_spec (s : State) (tag : Byte) (rest : List Frame) (h : s.takes ⟨tag, 0x4B, []⟩ rest) :
    (s.lighting.walk = none → exec (.walkStop tag []) s = .next (s.answered rest tag 0x4B [0x1B]))
      ∧ ∀ w, s.stop.state = .running → s.lighting.walk = some w →
          ∃ t, exec (.walkStop tag []) s = .next t ∧ s.replied t tag 0x4B (0x00 :: le8 w.begun) ∧ s.WalkEnds t 0x01
            ∧ ∀ z, (t.light z).walkResult = (s.light z).walkResult := by
  refine ⟨fun hw => ?_, fun w hr hw => ?_⟩
  · change request 0x4B tag [] _ s = _
    refine request_answers (n := 0) (by decide) rfl h ?_
    rw [show (s.taken rest).lighting.walk = none from hw]
  · have run : exec (.walkStop tag []) s
        = .next (sendReply tag 0x4B (0x00 :: le8 w.begun) (endWalk .stopped (s.taken rest))) := by
      change request 0x4B tag [] _ s = _
      refine request_runs (n := 0) (by decide) rfl h ?_
      rw [show (s.taken rest).lighting.walk = some w from hw]
      rfl
    have sent : (endWalk .stopped (s.taken rest)).line.sent = s.line.sent := ((State.Follows.units _).endWalk _ (.refl (s.taken rest))).sent
    obtain ⟨ends, results⟩ := endWalk_ends (State.Walks.refl (s.taken rest)) hr .stopped (code := 0x01) rfl
    generalize endWalk .stopped (s.taken rest) = t at *
    exact ⟨_, run, replied_of_sent sent, ends.replied _ _, results⟩

/-- Settles O54: each visit and each end of the walk derives every target over zones that keep their presence. -/
theorem walkVisitsItsList : Obligations.WalkVisitsItsList := by
  refine ⟨fun s tag dwell rest h => ?_, fun s w hs hr hw hd => ?_, walkStop_spec, fun s hs hd => ?_⟩
  · obtain ⟨stopped, busy⟩ := walkStart_refused h
    refine ⟨stopped, busy, fun hr hw => ?_⟩
    have run := exec_walkStart_accepted h hr hw
    have list := listsWalk_walkList s
    have spec := startWalk_spec (s := s.taken rest) hr (max 5 (min 60 dwell.toNat)) s.walkList
    dsimp only at run ⊢
    have sent : (startWalk (max 5 (min 60 dwell.toNat)) s.walkList (s.taken rest)).line.sent = s.line.sent :=
      ((State.Follows.units _).startWalk _ _ (.refl (s.taken rest))).sent
    generalize s.walkList = l at *
    generalize startWalk (max 5 (min 60 dwell.toNat)) l (s.taken rest) = t at *
    obtain ⟨absent, empty, visit⟩ := spec
    refine ⟨_, l, run, list, replied_of_sent sent, absent, ?_⟩
    cases l with
    | nil => exact (empty rfl).replied _ _
    | cons z more => exact (visit z more rfl).replied _ _
  · have run := exec_dwellExpiry_of_running hs
    rw [hw] at run
    dsimp only at run
    rw [if_pos hd] at run
    obtain ⟨own, others, empty, visit⟩ := dwellExpired_spec hr w
    generalize dwellExpired w s = t at *
    refine ⟨t, run, own, others, ?_⟩
    cases hv : w.toVisit with
    | nil => exact empty hv
    | cons z more => exact visit z more hv
  · rw [exec_dwellExpiry_of_running hs]
    cases hw : s.lighting.walk with
    | none => rfl
    | some w => exact congrArg Host.Outcome.next (if_neg (hd w hw))

end Sys2Proof.Machine
end

section
/-! SUPPORT. Protected-minimum events and the figures they leave (R40, R47, R61, R62). -/

namespace Sys2Proof.Machine

variable {s t u : State} {z : Fin 24} {i j : Fin 128} {v : Nat}

/-- The figures that a protected-minimum event may work out afresh. -/
def State.figures (s : State) : Nat × Nat × PerClass Nat × Nat :=
  (s.budget.pProt, s.budget.shareable, s.budget.reserve, s.budget.pool)

/-- What the figures are worked out from, but for the configurations. -/
def State.basis (s : State) : Nat × Profile × StopControl := (s.budget.managed, s.profile, s.stop)

theorem figures_eq_of_unshared (h : t.unshared = s.unshared) : t.figures = s.figures := by
  obtain ⟨p, c, r, l⟩ := figures_of_unshared h
  unfold State.figures
  rw [p, c, r, l]

theorem basis_eq (hu : t.unshared = s.unshared) (hp : t.plan.forgetTotals = s.plan.forgetTotals) (hs : t.stop = s.stop) :
    t.basis = s.basis := by
  unfold State.basis State.profile
  rw [budget_of_unshared hu, plan_fields_of_forgetTotals hp, hs]

theorem basis_eq_of_budget (hb : t.budget = s.budget) (hp : t.plan.forgetTotals = s.plan.forgetTotals) (hs : t.stop = s.stop) :
    t.basis = s.basis := basis_eq (by unfold State.unshared; rw [hb]) hp hs

theorem State.reprotects.before (h : s.reprotects t) (hb : s.basis = u.basis) : u.reprotects t := by
  unfold State.basis at hb
  simp only [Prod.mk.injEq] at hb
  obtain ⟨managed, profile, -⟩ := hb
  unfold State.reprotects at *
  rwa [managed, profile] at h

theorem State.reprotects.after (h : s.reprotects t) (hf : u.figures = t.figures) (ht : u.protectedTotal = t.protectedTotal) :
    s.reprotects u := by
  unfold State.figures at hf
  simp only [Prod.mk.injEq] at hf
  obtain ⟨p, c, r, l⟩ := hf
  unfold State.reprotects at *
  rwa [p, c, r, l, ht]

/-! ### A chain of protected-minimum events -/

/-- Between s and u no channel's configuration changes but in its protected minimum, and the figures stand with these or are worked out
afresh because one of them or the protected total changes. -/
structure State.Protects (s u : State) : Prop where
  basis : u.basis = s.basis
  cfg : ∀ j, (u.chan j).cfg = { (s.chan j).cfg with protMin := (u.chan j).cfg.protMin }
  figures : (u.figures = s.figures ∧ ∀ j, (u.chan j).cfg = (s.chan j).cfg)
    ∨ (s.reprotects u ∧ ((∃ j, (u.chan j).cfg.protMin ≠ (s.chan j).cfg.protMin) ∨ u.budget.pProt ≠ s.budget.pProt))

namespace State.Protects

theorem of_figures (hb : u.basis = s.basis) (hf : u.figures = s.figures) (hc : ∀ j, (u.chan j).cfg = (s.chan j).cfg) : s.Protects u :=
  ⟨hb, fun j => by rw [hc], .inl ⟨hf, hc⟩⟩

theorem refl (s : State) : s.Protects s := .of_figures rfl rfl fun _ => rfl

theorem of_unshared (hu : u.unshared = s.unshared) (hp : u.plan.forgetTotals = s.plan.forgetTotals) (hs : u.stop = s.stop) :
    s.Protects u := .of_figures (basis_eq hu hp hs) (figures_eq_of_unshared hu) (chan_cfg_of_unshared hu)

theorem total_congr (hb : u.basis = s.basis) (hc : ∀ j, (u.chan j).cfg = (s.chan j).cfg) : u.protectedTotal = s.protectedTotal :=
  protectedTotal_congr hc (congrArg (fun b => b.2.2) hb)

theorem total (h : s.Protects u) (hs : s.budget.pProt = s.protectedTotal) : u.budget.pProt = u.protectedTotal := by
  obtain ⟨same, cfg⟩ | ⟨afresh, -⟩ := h.figures
  · rw [total_congr h.basis cfg, ← hs]
    exact congrArg Prod.fst same
  · exact afresh.1

/-- Chains follow one another while no protected minimum that changed changes again. -/
theorem trans (h : s.Protects t) (h' : t.Protects u)
    (kept : ∀ j, (t.chan j).cfg.protMin ≠ (s.chan j).cfg.protMin → (u.chan j).cfg.protMin = (t.chan j).cfg.protMin) : s.Protects u := by
  refine ⟨h'.basis.trans h.basis, fun j => by rw [h'.cfg j, h.cfg j], ?_⟩
  obtain ⟨same, cfg⟩ | ⟨afresh, changed⟩ := h.figures
  · obtain ⟨same', cfg'⟩ | ⟨afresh', changed'⟩ := h'.figures
    · exact .inl ⟨same'.trans same, fun j => (cfg' j).trans (cfg j)⟩
    · refine .inr ⟨afresh'.before h.basis, ?_⟩
      simpa only [cfg, show t.budget.pProt = s.budget.pProt from congrArg Prod.fst same] using changed'
  · obtain ⟨same', cfg'⟩ | ⟨afresh', -⟩ := h'.figures
    · refine .inr ⟨afresh.after same' (total_congr h'.basis cfg'), ?_⟩
      simpa only [cfg', show u.budget.pProt = t.budget.pProt from congrArg Prod.fst same'] using changed
    · refine .inr ⟨afresh'.before h.basis, ?_⟩
      by_contra stands
      rw [not_or, not_exists] at stands
      obtain ⟨minima, total⟩ := stands
      simp only [not_not] at minima total
      have first (j : Fin 128) : (t.chan j).cfg.protMin = (s.chan j).cfg.protMin := by
        by_contra hj
        exact hj ((kept j hj).symm.trans (minima j))
      have cfg (j : Fin 128) : (u.chan j).cfg = (t.chan j).cfg := by rw [h'.cfg j, minima j, ← first j]
      obtain ⟨j, hj⟩ | hp := changed
      · exact hj (first j)
      · exact hp (by rw [afresh.1, ← total_congr h'.basis cfg, ← afresh'.1, total])

theorem reprotects (h : s.Protects u)
    (hc : (∃ j, (u.chan j).cfg.protMin ≠ (s.chan j).cfg.protMin) ∨ u.budget.pProt ≠ s.budget.pProt) : s.reprotects u := by
  obtain ⟨same, cfg⟩ | ⟨afresh, -⟩ := h.figures
  · obtain ⟨j, hj⟩ | hp := hc
    · exact absurd (congrArg ChannelConfig.protMin (cfg j)) hj
    · exact absurd (congrArg Prod.fst same) hp
  · exact afresh

theorem stands (h : s.Protects u) (hc : ∀ j, (u.chan j).cfg.protMin = (s.chan j).cfg.protMin) (hp : u.budget.pProt = s.budget.pProt) :
    u.figures = s.figures := by
  obtain ⟨same, -⟩ | ⟨-, ⟨j, hj⟩ | hn⟩ := h.figures
  · exact same
  · exact absurd (hc j) hj
  · exact absurd hp hn

end State.Protects

/-! ### One protected-minimum event -/

theorem protectedMinimum_of_not_bound (h : (s.chan i).boundTo .light z = false) (v : Nat) : protectedMinimum i z v s = s := by
  unfold protectedMinimum
  simp [h]

theorem protectedMinimum_plan (i : Fin 128) (z : Fin 24) (v : Nat) (s : State) :
    (protectedMinimum i z v s).plan.forgetTotals = s.plan.forgetTotals := plan_of_outside (protectedMinimum_outside s i z v)

/-- A protected-minimum event that is taken: the channel takes the minimum, and nothing else is asked of any channel. -/
theorem protectedMinimum_asked (h : (s.chan i).boundTo .light z = true) (v : Nat) (j : Fin 128) :
    ((protectedMinimum i z v s).chan j).asked
      = if i = j then ({ (s.chan i).cfg with protMin := v }, (s.chan i).target, (s.chan i).tripIn, (s.chan i).tripped)
        else (s.chan j).asked := by
  unfold protectedMinimum
  dsimp only
  rw [h]
  simp only [Bool.not_true, Bool.false_eq_true, ↓reduceIte]
  split
  · next hv =>
    split
    · next e => rw [← e, hv.1]; rfl
    · rfl
  · refine (asked_of_unshared (handOver_unshared _ _) j).trans ?_
    change ((s.putChan i _).chan j).asked = _
    rw [chan_putChan]
    split <;> rfl

/-- A protected-minimum event leaves all as it is, or has the figures worked out afresh over a change. -/
theorem protectedMinimum_moves (i : Fin 128) (z : Fin 24) (v : Nat) (s : State) :
    protectedMinimum i z v s = s
      ∨ ∃ c : Channel, c.cfg = { (s.chan i).cfg with protMin := v } ∧ c.protPart s.stop.state ≤ c.granted
        ∧ ¬(v = (s.chan i).cfg.protMin ∧ (s.putChan i c).protectedTotal = s.budget.pProt)
        ∧ protectedMinimum i z v s = reprotect (s.putChan i c) := by
  unfold protectedMinimum
  dsimp only
  split
  · exact .inl rfl
  · split
    · exact .inl rfl
    · next moved => exact .inr ⟨_, rfl, Nat.le_max_right _ _, moved, rfl⟩

theorem reprotect_basis (s : State) : (reprotect s).basis = s.basis :=
  (basis_eq (s := figure (protect s)) (handOver_unshared _ _) (plan_of_outside (handOver_outside _ _))
    (stop_of_outside (handOver_outside _ _))).trans rfl

theorem protectedMinimum_protects (i : Fin 128) (z : Fin 24) (v : Nat) (s : State) : s.Protects (protectedMinimum i z v s) := by
  obtain e | ⟨c, hc, -, moved, e⟩ := protectedMinimum_moves i z v s
  · rw [e]
    exact .refl s
  · have cfg (j : Fin 128) : ((reprotect (s.putChan i c)).chan j).cfg = if i = j then { (s.chan i).cfg with protMin := v } else (s.chan j).cfg := by
      refine (chan_cfg_of_unshared (handOver_unshared _ _) j).trans ?_
      change ((s.putChan i c).chan j).cfg = _
      rw [chan_putChan]
      split
      · exact hc
      · rfl
    have afresh : (s.putChan i c).reprotects (reprotect (s.putChan i c)) := reprotect_reprotects _
    have total : (reprotect (s.putChan i c)).protectedTotal = (s.putChan i c).protectedTotal :=
      (protectedTotal_of_unshared (handOver_unshared _ _) (stop_of_outside (handOver_outside _ _))).trans
        (protectedTotal_congr (fun _ => rfl) rfl)
    rw [e]
    refine ⟨reprotect_basis _, fun j => ?_, .inr ⟨afresh, ?_⟩⟩
    · rw [cfg]
      split
      · next e => subst e; rfl
      · rfl
    · by_cases hv : v = (s.chan i).cfg.protMin
      · exact .inr fun hp => moved ⟨hv, total.symm.trans (afresh.1.symm.trans hp)⟩
      · refine .inl ⟨i, ?_⟩
        rw [cfg, if_pos rfl]
        exact hv

/-! ### Target changes and derivations leave the figures -/

theorem targetChange_figures (i : Fin 128) (r : Role) (o v : Nat) (m : Bool) (s : State) :
    (targetChange i r o v m s).basis = s.basis ∧ (targetChange i r o v m s).figures = s.figures := by
  by_cases h : (s.chan i).boundTo r o = true
  · by_cases hr : r = .unused
    · subst hr
      have stands : targetChange i .unused o v m s = s := by simp [targetChange]
      rw [stands]
      exact ⟨rfl, rfl⟩
    · have written := targetChange_unshared h hr v m
      exact ⟨(basis_eq written (plan_of_outside (targetChange_outside s i r o v m)) (targetChange_stop s i r o v m)).trans rfl,
        (figures_eq_of_unshared written).trans rfl⟩
  · rw [targetChange_of_not_bound (Bool.eq_false_of_not_eq_true h)]
    exact ⟨rfl, rfl⟩

theorem targetChange_protects (i : Fin 128) (r : Role) (o v : Nat) (m : Bool) (s : State) : s.Protects (targetChange i r o v m s) :=
  .of_figures (targetChange_figures i r o v m s).1 (targetChange_figures i r o v m s).2 fun j => targetChange_cfg s i j r o v m

theorem deriveLight_figures (z : Fin 24) (s : State) : (deriveLight z s).basis = s.basis ∧ (deriveLight z s).figures = s.figures := by
  obtain ⟨-, e⟩ | ⟨i, -, -, -, e⟩ := deriveLight_cases z s
  · rw [e]
    exact ⟨rfl, rfl⟩
  · rw [e]
    exact targetChange_figures i _ _ _ _ (s.putLight z (s.derivedZone z))

theorem State.Protects.of_budget (hb : u.budget = s.budget) (hp : u.plan.forgetTotals = s.plan.forgetTotals) (hs : u.stop = s.stop) :
    s.Protects u := .of_unshared (by unfold State.unshared; rw [hb]) hp hs

/-- A chain that leaves each protected minimum may go before or after any other. -/
theorem State.Protects.then (h : s.Protects t) (h' : t.Protects u) (same : ∀ j, (u.chan j).cfg = (t.chan j).cfg) : s.Protects u :=
  h.trans h' fun j _ => congrArg ChannelConfig.protMin (same j)

theorem deriveLight_protects (z : Fin 24) (s : State) : s.Protects (deriveLight z s) :=
  .of_figures (deriveLight_figures z s).1 (deriveLight_figures z s).2 (deriveLight_cfg z s)

/-! ### The protected part that a LIGHT channel holds (R47) -/

/-- The channel stands so configured with the plant as it is, and holds at least its protected part. -/
def State.Lit (i : Fin 128) (c : ChannelConfig) (p : PlantState) (s : State) : Prop :=
  s.stop.state = p ∧ (s.chan i).cfg = c ∧ (s.chan i).protPart p ≤ (s.chan i).granted

theorem State.Lit.of_chan {c : ChannelConfig} {p : PlantState} (h : t.Lit i c p) (hs : u.stop = t.stop)
    (hc : (u.chan i).cfg = (t.chan i).cfg) (hg : (t.chan i).protPart p ≤ (t.chan i).granted → (t.chan i).protPart p ≤ (u.chan i).granted) :
    u.Lit i c p := by
  obtain ⟨stop, cfg, held⟩ := h
  refine ⟨by rw [hs, stop], hc.trans cfg, ?_⟩
  have part : (u.chan i).protPart p = (t.chan i).protPart p := by
    unfold Channel.protPart
    rw [hc]
  rw [part]
  exact hg held

theorem protPart_of_not_light {c : Channel} {p : PlantState} (h : c.cfg.role ≠ .light) : c.protPart p = 0 := by
  unfold Channel.protPart
  split
  · next hl => exact absurd hl h
  · rfl

/-- The arbiter takes no channel's protected part. -/
theorem State.Lit.arbiter (i : Fin 128) (c : ChannelConfig) (p : PlantState) : ArbiterClosed (State.Lit i c p) where
  put j d s hcfg hg h := by
    refine h.of_chan rfl ?_ ?_ <;> rw [chan_putChan] <;> split
    · next e => subst e; exact hcfg
    · rfl
    · next e => subst e; exact fun held => hg ▸ held
    · exact id
  light j g s _ hg h := by
    refine h.of_chan rfl ?_ ?_ <;> rw [chan_putChan] <;> split
    · next e => subst e; rfl
    · rfl
    · next e => subst e; exact fun held => held.trans hg
    · exact id
  grant j g s hg h := by
    refine h.of_chan (setGranted_stop j g s) ?_ ?_ <;> rw [setGranted_chan, chan_putChan] <;> split
    · next e => subst e; rfl
    · rfl
    · next e =>
      subst e
      intro held
      by_cases hl : (s.chan j).cfg.role = .light
      · rw [← h.1] at held ⊢
        exact (min_eq_right held) ▸ hg hl
      · rw [protPart_of_not_light hl]
        exact Nat.zero_le _
    · exact id
  figures s b hb h := h.of_chan rfl (by unfold State.chan; rw [State.setBudget_budget, hb]) (by unfold State.chan; rw [State.setBudget_budget, hb]; exact id)
  notice k n b s _ h := h.of_chan (raise_stop s k n b) (by rw [raise_chan]) (by rw [raise_chan]; exact id)

end Sys2Proof.Machine
end

section
/-! PROOFS. CONFIG LIGHT ZONE and READ LIGHT ZONE (R146, R155). -/

namespace Sys2Proof.Machine

variable {s t u : State} {tag : Byte} {body : Bytes} {rest : List Frame} {z : Fin 24} {i j : Fin 128} {n : LightConfig}
  {m : Option (Fin 128)}

/-! ### The channel that the zone no longer names -/

/-- The channel is bound to the zone, which is to name another or none. -/
def State.unnames (s : State) (z : Fin 24) (m : Option (Fin 128)) (i : Fin 128) : Prop :=
  (s.light z).cfg.channel = some i ∧ m ≠ some i ∧ (s.chan i).boundTo .light z = true

theorem releaseLight_of_none (h : ∀ i, ¬s.unnames z m i) : releaseLight z m s = s := by
  unfold releaseLight
  cases hc : (s.light z).cfg.channel with
  | none => rfl
  | some i =>
    dsimp only
    split
    · rfl
    · next other =>
      have unbound : (s.chan i).boundTo .light z = false :=
        Bool.eq_false_of_not_eq_true fun hb => h i ⟨hc, fun e => other e.symm, hb⟩
      rw [targetChange_of_not_bound unbound, protectedMinimum_of_not_bound unbound]

theorem releaseLight_of_unnames (h : s.unnames z m i) :
    releaseLight z m s = protectedMinimum i z 0 (targetChange i .light z 0 false s) := by
  obtain ⟨hc, other, -⟩ := h
  unfold releaseLight
  rw [hc]
  dsimp only
  rw [if_neg fun e => other e.symm]

theorem boundTo_congr (h : (t.chan i).cfg = (s.chan i).cfg) (r : Role) (o : Nat) : (t.chan i).boundTo r o = (s.chan i).boundTo r o := by
  unfold Channel.boundTo
  rw [h]

theorem releaseLight_asked (z : Fin 24) (m : Option (Fin 128)) (s : State) (j : Fin 128) :
    (s.unnames z m j
        ∧ ((releaseLight z m s).chan j).asked = ({ (s.chan j).cfg with protMin := 0 }, 0, (s.chan j).tripIn, (s.chan j).tripped))
      ∨ (¬s.unnames z m j ∧ ((releaseLight z m s).chan j).asked = (s.chan j).asked) := by
  by_cases hn : ∃ i, s.unnames z m i
  · obtain ⟨i, hi⟩ := hn
    have bound : ((targetChange i .light z 0 false s).chan i).boundTo .light z = true :=
      (boundTo_congr (targetChange_cfg s i i .light z 0 false) .light z).trans hi.2.2
    rw [releaseLight_of_unnames hi, protectedMinimum_asked bound]
    by_cases hij : i = j
    · subst hij
      have ha := asked_of_unshared (targetChange_unshared hi.2.2 (by decide) 0 false) i
      rw [chan_putChan_self] at ha
      simp only [Channel.asked, Prod.mk.injEq, Channel.takes, (Channel.boundTo_iff.mp hi.2.2).1, if_true] at ha
      obtain ⟨cfg, target, tripIn, tripped⟩ := ha
      exact .inl ⟨hi, by rw [if_pos rfl, cfg, target, tripIn, tripped]⟩
    · refine .inr ⟨fun hj => hij (Option.some.inj (hi.1.symm.trans hj.1)), ?_⟩
      rw [if_neg hij]
      exact targetChange_asked_of_ne (.inl hij) _ _
  · rw [not_exists] at hn
    exact .inr ⟨hn j, by rw [releaseLight_of_none hn]⟩

theorem releaseLight_protects (z : Fin 24) (m : Option (Fin 128)) (s : State) : s.Protects (releaseLight z m s) := by
  by_cases hn : ∃ i, s.unnames z m i
  · obtain ⟨i, hi⟩ := hn
    rw [releaseLight_of_unnames hi]
    exact (targetChange_protects _ _ _ _ _ _).trans (protectedMinimum_protects _ _ _ _)
      fun j hj => absurd (congrArg ChannelConfig.protMin (targetChange_cfg s i j .light z 0 false)) hj
  · rw [releaseLight_of_none (not_exists.mp hn)]
    exact .refl s

theorem releaseLight_total (h : s.unnames z m i) : (releaseLight z m s).budget.pProt = (releaseLight z m s).protectedTotal := by
  rw [releaseLight_of_unnames h]
  exact protectedMinimum_pProt _ i z 0 ((boundTo_congr (targetChange_cfg s i i .light z 0 false) .light z).trans h.2.2)

/-! ### The channel that it names -/

theorem sendProtected_of_bound (h : s.lightBinding z = some i) : sendProtected z s = protectedMinimum i z (s.light z).cfg.protMin s := by
  unfold sendProtected
  rw [(lightBinding_iff.mp h).1]

theorem sendProtected_of_none (h : s.lightBinding z = none) : sendProtected z s = s := by
  unfold sendProtected
  cases hc : (s.light z).cfg.channel with
  | none => rfl
  | some i =>
    refine protectedMinimum_of_not_bound (Bool.eq_false_of_not_eq_true fun hb => ?_) _
    rw [lightBinding_iff.mpr ⟨hc, hb⟩] at h
    cases h

theorem sendProtected_asked (h : s.lightBinding z ≠ some j) : ((sendProtected z s).chan j).asked = (s.chan j).asked := by
  cases hb : s.lightBinding z with
  | none => rw [sendProtected_of_none hb]
  | some i =>
    rw [sendProtected_of_bound hb, protectedMinimum_asked (lightBinding_iff.mp hb).2, if_neg]
    rintro rfl
    exact h hb

theorem sendProtected_asked_self (h : s.lightBinding z = some i) : ((sendProtected z s).chan i).asked
    = ({ (s.chan i).cfg with protMin := (s.light z).cfg.protMin }, (s.chan i).target, (s.chan i).tripIn, (s.chan i).tripped) := by
  rw [sendProtected_of_bound h, protectedMinimum_asked (lightBinding_iff.mp h).2, if_pos rfl]

theorem sendProtected_protects (z : Fin 24) (s : State) : s.Protects (sendProtected z s) := by
  cases hb : s.lightBinding z with
  | none => rw [sendProtected_of_none hb]; exact .refl s
  | some i => rw [sendProtected_of_bound hb]; exact protectedMinimum_protects _ _ _ _

theorem sendProtected_binding (z : Fin 24) (s : State) (y : Fin 24) : (sendProtected z s).lightBinding y = s.lightBinding y := by
  have only := (sendProtected_protects z s).cfg
  have light : (sendProtected z s).light y = s.light y := light_of_lighting (sendProtected_lighting z s) y
  unfold State.lightBinding
  rw [light]
  congr 1
  funext j
  rw [only]

/-- A LIGHT channel that is sent another protected minimum holds the protected part of it. -/
theorem sendProtected_lit (h : s.lightBinding z = some i) (moved : (s.chan i).cfg.protMin ≠ (s.light z).cfg.protMin) :
    (sendProtected z s).Lit i { (s.chan i).cfg with protMin := (s.light z).cfg.protMin } s.stop.state := by
  rw [sendProtected_of_bound h]
  obtain e | ⟨c, hc, held, -, e⟩ := protectedMinimum_moves i z (s.light z).cfg.protMin s
  · have asked := sendProtected_asked_self h
    rw [sendProtected_of_bound h, e] at asked
    exact absurd (congrArg (fun a => a.1.protMin) asked) moved
  · rw [e]
    have put : (s.putChan i c).Lit i { (s.chan i).cfg with protMin := (s.light z).cfg.protMin } s.stop.state := by
      refine ⟨rfl, ?_, ?_⟩
      · rw [chan_putChan_self]; exact hc
      · rw [chan_putChan_self]; exact held
    have closed := State.Lit.arbiter i { (s.chan i).cfg with protMin := (s.light z).cfg.protMin } s.stop.state
    unfold reprotect
    exact closed.handOver (fun u hu => hu.of_chan rfl rfl id) _ (closed.figure (closed.protect put))

/-! ### CONFIG LIGHT ZONE (R146) -/

/-- The state with the old channel released and the zone's record replaced (R146). -/
def State.rezoned (s : State) (z : Fin 24) (n : LightConfig) : State :=
  (releaseLight z n.channel s).putLight z ((s.light z).configured n (s.presenceFrom n))

theorem configureLight_eq (z : Fin 24) (n : LightConfig) (s : State) :
    configureLight z n s = deriveLight z (sendProtected z (s.rezoned z n)) := by
  have light : (releaseLight z n.channel s).light z = s.light z := light_of_lighting (releaseLight_lighting z n.channel s) z
  have kind : (releaseLight z n.channel s).presenceFrom n = s.presenceFrom n := by
    have plan := plan_fields_of_forgetTotals (plan_of_outsideLighting (releaseLight_outsideLighting s z n.channel))
    unfold State.presenceFrom State.kind
    rw [plan]
  unfold configureLight State.rezoned
  dsimp only
  rw [light, kind]

theorem rezoned_light (s : State) (z : Fin 24) (n : LightConfig) :
    (s.rezoned z n).light z = (s.light z).configured n (s.presenceFrom n) := light_putLight_self _ _ _

theorem rezoned_chan (s : State) (z : Fin 24) (n : LightConfig) (j : Fin 128) :
    (s.rezoned z n).chan j = (releaseLight z n.channel s).chan j := rfl

/-- The channel is bound to the zone, as it is to be configured. -/
def State.names (s : State) (z : Fin 24) (n : LightConfig) (i : Fin 128) : Prop :=
  n.channel = some i ∧ (s.chan i).boundTo .light z = true

theorem rezoned_asked_named (h : s.names z n i) : ((s.rezoned z n).chan i).asked = (s.chan i).asked := by
  obtain ⟨hu, -⟩ | ⟨-, ha⟩ := releaseLight_asked z n.channel s i
  · exact absurd h.1 hu.2.1
  · exact ha

theorem rezoned_binding : (s.rezoned z n).lightBinding z = some i ↔ s.names z n i := by
  rw [lightBinding_iff, rezoned_light]
  refine and_congr_right fun hc => ?_
  have cfg := (releaseLight_protects z n.channel s).cfg i
  rw [Channel.boundTo_iff, Channel.boundTo_iff, rezoned_chan, cfg]

theorem rezoned_protects (z : Fin 24) (n : LightConfig) (s : State) : s.Protects (s.rezoned z n) :=
  (releaseLight_protects z n.channel s).then (.of_budget rfl rfl rfl) fun _ => rfl

section Configured

variable (z : Fin 24) (n : LightConfig) (s : State)

theorem configureLight_light : (configureLight z n s).light z = (sendProtected z (s.rezoned z n)).derivedZone z := by
  rw [configureLight_eq, deriveLight_light_self]

theorem configureLight_light_ne {y : Fin 24} (h : y ≠ z) : (configureLight z n s).light y = s.light y := by
  rw [configureLight_eq, deriveLight_light_ne h, light_of_lighting (sendProtected_lighting z _)]
  unfold State.rezoned
  rw [light_putLight, if_neg (Ne.symm h), light_of_lighting (releaseLight_lighting z n.channel s)]

/-- What CONFIG LIGHT ZONE leaves of the zone's record but for what the derivation brings. -/
theorem configureLight_zone : ((configureLight z n s).light z).cfg = n
    ∧ ((configureLight z n s).light z).vacant = ((s.light z).configured n (s.presenceFrom n)).vacant
    ∧ ((configureLight z n s).light z).presenceT = ((s.light z).configured n (s.presenceFrom n)).presenceT
    ∧ ((configureLight z n s).light z).walkResult = (s.light z).walkResult := by
  rw [configureLight_light]
  have light : (sendProtected z (s.rezoned z n)).light z = (s.light z).configured n (s.presenceFrom n) :=
    (light_of_lighting (sendProtected_lighting z _) z).trans (rezoned_light s z n)
  unfold State.derivedZone
  rw [light]
  exact ⟨rfl, rfl, rfl, rfl⟩

theorem configureLight_derived : ((configureLight z n s).light z).target
      = max ((configureLight z n s).tableLine z).1 ((configureLight z n s).light z).cfg.protMin
    ∧ ((configureLight z n s).light z).source = ((configureLight z n s).tableLine z).2 := by
  rw [configureLight_eq]
  obtain ⟨target, source, -⟩ := derives_deriveLight (sendProtected z (s.rezoned z n)) z
  exact ⟨target, source⟩

theorem sent_binding_iff : (sendProtected z (s.rezoned z n)).lightBinding z = some i ↔ s.names z n i := by
  rw [sendProtected_binding, rezoned_binding]

/-- A channel that the zone does not name is asked only for what its release asks of it. -/
theorem configureLight_asked_unnamed (h : ¬s.names z n j) :
    ((configureLight z n s).chan j).asked = ((releaseLight z n.channel s).chan j).asked := by
  rw [configureLight_eq, deriveLight_asked (.inl fun hb => h ((sent_binding_iff z n s).mp hb)),
    sendProtected_asked fun hb => h (rezoned_binding.mp hb), rezoned_chan]

theorem configureLight_released (h : s.unnames z n.channel j) : ((configureLight z n s).chan j).target = 0
    ∧ ((configureLight z n s).chan j).cfg = { (s.chan j).cfg with protMin := 0 } := by
  have asked := configureLight_asked_unnamed z n s (j := j) fun hn => h.2.1 hn.1
  obtain ⟨-, ha⟩ | ⟨hn, -⟩ := releaseLight_asked z n.channel s j
  · rw [ha] at asked
    exact ⟨congrArg (fun a => a.2.1) asked, congrArg Prod.fst asked⟩
  · exact absurd h hn

theorem configureLight_asked (h : ¬s.unnames z n.channel j) (hn : ¬s.names z n j) :
    ((configureLight z n s).chan j).asked = (s.chan j).asked := by
  rw [configureLight_asked_unnamed z n s hn]
  obtain ⟨hu, -⟩ | ⟨-, ha⟩ := releaseLight_asked z n.channel s j
  · exact absurd hu h
  · exact ha

/-- The last sent target that the derivation of a configured zone starts from. -/
def State.sentBefore (s : State) (z : Fin 24) (n : LightConfig) : Nat :=
  if n.channel = (s.light z).cfg.channel then (s.light z).lastSent else 0

theorem sent_lastSent : ((sendProtected z (s.rezoned z n)).light z).lastSent = s.sentBefore z n := by
  rw [light_of_lighting (sendProtected_lighting z _) z, rezoned_light]
  rfl

theorem configureLight_unsent (h : ∀ i, ¬s.names z n i) : ((configureLight z n s).light z).lastSent = s.sentBefore z n := by
  have absent : (sendProtected z (s.rezoned z n)).lightPresent z = false := by
    rw [lightPresent_eq]
    cases hb : (sendProtected z (s.rezoned z n)).lightBinding z with
    | none => rfl
    | some i => exact absurd ((sent_binding_iff z n s).mp hb) (h i)
  rw [configureLight_light, ← sent_lastSent]
  unfold State.derivedZone
  rw [absent]
  rfl

/-- The channel that the zone names takes the protected minimum, and the derived target where it differs from the last sent. -/
theorem configureLight_named (h : s.names z n i) :
    ((configureLight z n s).chan i).cfg = { (s.chan i).cfg with protMin := n.protMin }
      ∧ ((configureLight z n s).chan i).target
        = (if ((configureLight z n s).light z).target = s.sentBefore z n then (s.chan i).target else ((configureLight z n s).light z).target)
      ∧ ((configureLight z n s).light z).lastSent = ((configureLight z n s).light z).target := by
  have bound := (sent_binding_iff z n s).mpr h
  have asked := sendProtected_asked_self (rezoned_binding.mpr h)
  simp only [Channel.asked, Prod.mk.injEq] at asked
  obtain ⟨cfg, target, -, -⟩ := asked
  have before := rezoned_asked_named h
  simp only [Channel.asked, Prod.mk.injEq] at before
  obtain ⟨cfg', target', -, -⟩ := before
  rw [configureLight_light, derivedZone_target, lastSent_derivedZone bound, configureLight_eq, deriveLight_cfg, cfg, cfg', rezoned_light]
  refine ⟨rfl, ?_, rfl⟩
  have sent := sent_lastSent z n s
  split
  · next e =>
    exact (congrArg (fun a => a.2.1) (deriveLight_asked (j := i) (.inr (e.trans sent.symm)))).trans (target.trans target')
  · next e => exact deriveLight_sends bound fun hl => e (hl.trans sent)

theorem configureLight_lit (h : s.names z n i) (moved : (s.chan i).cfg.protMin ≠ n.protMin) :
    units (s.chan i).cfg.rating (if s.stop.state = .running then n.protMin else 1000) ≤ ((configureLight z n s).chan i).granted := by
  have cfg : ((s.rezoned z n).chan i).cfg = (s.chan i).cfg := congrArg Prod.fst (rezoned_asked_named h)
  have stop : (s.rezoned z n).stop = s.stop := releaseLight_stop z n.channel s
  have zone : ((s.rezoned z n).light z).cfg = n := by rw [rezoned_light]; rfl
  have sent := sendProtected_lit (rezoned_binding.mpr h) (by rw [cfg, zone]; exact moved)
  obtain ⟨-, kept, held⟩ := (State.Lit.arbiter i _ _).deriveLight (fun _ _ hu => hu.of_chan rfl rfl id) z sent
  rw [configureLight_eq]
  unfold Channel.protPart at held
  rw [kept, cfg, zone, stop] at held
  dsimp only at held
  rw [(Channel.boundTo_iff.mp h.2).1] at held
  split
  · next hr => simpa only [hr, if_true] using held
  · next hr => simpa only [hr, if_false] using held

theorem configureLight_protects : s.Protects (configureLight z n s) := by
  rw [configureLight_eq]
  refine ((rezoned_protects z n s).trans (sendProtected_protects z _) fun j hj => ?_).then (deriveLight_protects z _)
    fun j => deriveLight_cfg z _ j
  have unnamed : ¬s.names z n j := fun h => hj (congrArg (fun a => a.1.protMin) (rezoned_asked_named h))
  exact congrArg (fun a => a.1.protMin) (sendProtected_asked fun hb => unnamed (rezoned_binding.mp hb))

theorem configureLight_total (h : s.unnames z n.channel i ∨ s.names z n i) :
    (configureLight z n s).budget.pProt = (configureLight z n s).protectedTotal := by
  rw [configureLight_eq]
  refine (deriveLight_protects z _).total ?_
  obtain released | named := h
  · exact ((State.Protects.of_budget rfl rfl rfl : (releaseLight z n.channel s).Protects (s.rezoned z n)).then
      (.refl _) fun _ => rfl).total (releaseLight_total released) |> (sendProtected_protects z _).total
  · have bound := rezoned_binding.mpr named
    rw [sendProtected_of_bound bound]
    exact protectedMinimum_pProt _ i z _ (lightBinding_iff.mp bound).2

theorem configureLight_untaken (h : ∀ i, ¬s.unnames z n.channel i ∧ ¬s.names z n i) :
    (configureLight z n s).budget.pProt = s.budget.pProt := by
  have unbound : (s.rezoned z n).lightBinding z = none := by
    cases hb : (s.rezoned z n).lightBinding z with
    | none => rfl
    | some i => exact absurd (rezoned_binding.mp hb) (h i).2
  rw [configureLight_eq, sendProtected_of_none unbound]
  refine (congrArg Prod.fst (deriveLight_figures z _).2 : _ = (s.rezoned z n).budget.pProt).trans ?_
  unfold State.rezoned
  rw [releaseLight_of_none fun i => (h i).1]
  rfl

end Configured

/-! ### The requests (R146, R155) -/

theorem channelField?_eq {k : Nat} {c : Option (Fin 128)} (h : channelField? k = some c) (i : Fin 128) : c = some i ↔ k = i := by
  unfold channelField? at h
  split at h
  · next e =>
    obtain rfl := Option.some.inj h
    have := i.isLt
    simp only [reduceCtorEq, false_iff]
    omega
  · obtain ⟨x, hx, rfl⟩ := Option.map_eq_some_iff.mp h
    rw [← index?_some hx, Option.some.injEq, Fin.ext_iff]

theorem lightSent?_eq (h : lightSent? body = some n) :
    channelField? (u8 body 1) = some n.channel ∧ n.presence = uFlag body 2 ∧ n.hold = u16 body 3 ∧ n.breakHold = u16 body 5
      ∧ n.setback = u16 body 7 ∧ n.protMin = u16 body 9 := by
  unfold lightSent? at h
  simp only [Option.bind_eq_bind, Option.bind_eq_some_iff, Option.pure_def, Option.some.injEq] at h
  obtain ⟨ch, hch, rfl⟩ := h
  exact ⟨hch, rfl, rfl, rfl, rfl, rfl⟩

section Config

variable (hlen : body.length = 11) (h : s.takes ⟨tag, 0x48, body⟩ rest)
include hlen h

theorem configLightZone_outOfRange (hf : 24 ≤ u8 body 0 ∨ lightSent? body = none) :
    exec (.configLightZone tag body) s = .next (s.answered rest tag 0x48 [0x12]) := by
  change request 0x48 tag body _ s = _
  refine request_answers (n := 11) (by decide) hlen h ?_
  dsimp only
  cases hi : index? 24 (u8 body 0) with
  | none => rfl
  | some z =>
    cases hs : lightSent? body with
    | none => rfl
    | some sent =>
      obtain hz | hn := hf
      · rw [index?_none hz] at hi
        cases hi
      · rw [hn] at hs
        cases hs

theorem configLightZone_busy (hz : u8 body 0 < 24) (hs : (lightSent? body).isSome) (hw : s.lighting.walk.isSome) :
    exec (.configLightZone tag body) s = .next (s.answered rest tag 0x48 [0x16]) := by
  obtain ⟨n, hn⟩ := Option.isSome_iff_exists.mp hs
  change request 0x48 tag body _ s = _
  refine request_answers (n := 11) (by decide) hlen h ?_
  rw [index?_of_eq (i := ⟨u8 body 0, hz⟩) rfl, hn]
  exact if_pos hw

theorem configLightZone_accepted (hz : u8 body 0 = z) (hn : lightSent? body = some n) (hw : s.lighting.walk = none) :
    exec (.configLightZone tag body) s = .next (sendReply tag 0x48
      ([if treatLight n = n then 0x00 else 0x01] ++ le8 z ++ leFlag ((configureLight z (treatLight n) (s.taken rest)).lightPresent z)
        ++ le16 ((configureLight z (treatLight n) (s.taken rest)).light z).target) (configureLight z (treatLight n) (s.taken rest))) := by
  change request 0x48 tag body _ s = _
  refine request_runs (n := 11) (by decide) hlen h ?_
  rw [index?_of_eq hz, hn]
  dsimp only
  rw [← stTreated_ne]
  have idle : (s.taken rest).lighting.walk.isSome = false := by rw [show (s.taken rest).lighting.walk = none from hw]; rfl
  rw [idle]
  rfl

end Config

theorem treatLight_eq (n : LightConfig) : treatLight n = { n with
    hold := max 30 (min 3600 n.hold), breakHold := max 30 (min 3600 n.breakHold), setback := min n.setback 1000
    protMin := min n.protMin 1000 } := rfl

theorem configured_presence {x : LightZone} {timer : Timer} (hp : n.presence ≠ x.cfg.presence) :
    (x.configured n timer).vacant = false ∧ (x.configured n timer).presenceT = if n.presence then timer else none := by
  unfold LightZone.configured
  dsimp only
  rw [if_neg hp, decide_eq_false hp]
  exact ⟨Bool.and_false _, rfl⟩

theorem configured_keeps_presence {x : LightZone} {timer : Timer} (hp : n.presence = x.cfg.presence) :
    (x.configured n timer).vacant = x.vacant ∧ (x.configured n timer).presenceT = x.presenceT := by
  unfold LightZone.configured
  dsimp only
  rw [if_pos hp, decide_eq_true hp]
  exact ⟨Bool.and_true _, rfl⟩

theorem presenceFrom_eq (s : State) (n : LightConfig) : s.presenceFrom n
    = if s.plan.current.fields.kind = .changeover then none
      else some (if s.plan.current.fields.kind = .break_ then n.breakHold else n.hold) := rfl

theorem startPresence_eq (on : Bool) (k : PhaseKind) (timer : Timer) :
    (if on then (if k = .changeover then none else timer) else none) = if on = true ∧ k ≠ .changeover then timer else none := by
  by_cases hk : k = .changeover <;> cases on <;> simp [hk]

theorem configureLight_sent (z : Fin 24) (n : LightConfig) (s : State) : (configureLight z n s).line.sent = s.line.sent :=
  ((State.Follows.units s).configureLight z n (.refl s)).sent

theorem drivenLevel_light {c : Channel} (h : c.cfg.role = .light) : c.drivenLevel
    = if units c.cfg.rating c.target ≤ c.granted then c.target else c.granted * 1000 / c.cfg.rating := by
  unfold Channel.drivenLevel
  rw [h]

theorem deficit_light {c : Channel} (h : c.cfg.role = .light) : c.deficit = units c.cfg.rating c.target - c.granted := by
  unfold Channel.deficit
  rw [h]

/-- What READ LIGHT ZONE reports of the channel bound to the zone. -/
theorem lightFigures_eq (s : State) (z : Fin 24) : s.lightFigures z
    = match s.lightBinding z with
      | some i =>
        le16 (if units (s.chan i).cfg.rating (s.chan i).target ≤ (s.chan i).granted then (s.chan i).target
            else (s.chan i).granted * 1000 / (s.chan i).cfg.rating)
          ++ le16 (s.chan i).granted ++ leFlag ((s.chan i).granted < units (s.chan i).cfg.rating (s.chan i).target)
      | none => [0x00, 0x00, 0x00, 0x00, 0x00] := by
  unfold State.lightFigures State.boundChannel
  cases hc : (s.light z).cfg.channel with
  | none =>
    have unbound : s.lightBinding z = none := by unfold State.lightBinding; rw [hc]; rfl
    rw [unbound]
    rfl
  | some i =>
    dsimp only
    by_cases hb : (s.chan i).boundTo .light z = true
    · rw [lightBinding_iff.mpr ⟨hc, hb⟩, if_pos hb]
      have light := (Channel.boundTo_iff.mp hb).1
      dsimp only
      rw [drivenLevel_light light, deficit_light light]
      simp only [Nat.sub_pos_iff_lt]
    · have unbound : s.lightBinding z = none := by
        cases hx : s.lightBinding z with
        | none => rfl
        | some j =>
          obtain ⟨hj, hbj⟩ := lightBinding_iff.mp hx
          rw [Option.some.inj (hc.symm.trans hj)] at hb
          exact absurd hbj hb
      rw [unbound, if_neg hb]
      rfl

theorem readLightZone_reports {k : Byte} (hz : k.toNat = z) (h : s.takes ⟨tag, 0x49, [k]⟩ rest) :
    exec (.readLightZone tag [k]) s = .next (s.answered rest tag 0x49 ([0x00] ++ s.lightFields z)) := by
  change request 0x49 tag [k] _ s = _
  refine request_answers (n := 1) (by decide) rfl h ?_
  rw [show u8 [k] 0 = z from hz, index?_val]
  rfl

theorem readLightZone_outOfRange {k : Byte} (hz : 24 ≤ k.toNat) (h : s.takes ⟨tag, 0x49, [k]⟩ rest) :
    exec (.readLightZone tag [k]) s = .next (s.answered rest tag 0x49 [0x12]) := by
  change request 0x49 tag [k] _ s = _
  refine request_answers (n := 1) (by decide) rfl h ?_
  rw [index?_none (show 24 ≤ u8 [k] 0 from hz)]

/-- Settles O52: an accepted configuration is the release of the old channel, the new record, the protected minimum to the new channel, and
one derivation. -/
theorem lightZoneRequestsAnswer : Obligations.LightZoneRequestsAnswer := by
  refine ⟨fun s tag body rest hlen h => configLightZone_outOfRange hlen h, fun s tag body rest hlen h => configLightZone_busy hlen h,
    fun s tag body rest z n hlen h hz hn hw => ?_, fun s tag k rest z hz h => ?_, fun s tag k rest => readLightZone_outOfRange⟩
  · obtain ⟨channel, presence, hold, breakHold, setback, protMin⟩ := lightSent?_eq hn
    have run := configLightZone_accepted hlen h hz hn hw
    rw [lightPresent_eq] at run
    obtain ⟨cfg, vacant, presenceT, walkResult⟩ := configureLight_zone z (treatLight n) (s.taken rest)
    obtain ⟨target, source⟩ := configureLight_derived z (treatLight n) (s.taken rest)
    have released (i : Fin 128) := configureLight_released z (treatLight n) (s.taken rest) (j := i)
    have named (i : Fin 128) := configureLight_named z (treatLight n) (s.taken rest) (i := i)
    have lit (i : Fin 128) := configureLight_lit z (treatLight n) (s.taken rest) (i := i)
    have unsent := configureLight_unsent z (treatLight n) (s.taken rest)
    have total (i : Fin 128) := configureLight_total z (treatLight n) (s.taken rest) (i := i)
    have untaken := configureLight_untaken z (treatLight n) (s.taken rest)
    have protects := configureLight_protects z (treatLight n) (s.taken rest)
    have asked (j : Fin 128) := configureLight_asked z (treatLight n) (s.taken rest) (j := j)
    have others (y : Fin 24) (hy : y ≠ z) := configureLight_light_ne z (treatLight n) (s.taken rest) hy
    have sent := configureLight_sent z (treatLight n) (s.taken rest)
    generalize configureLight z (treatLight n) (s.taken rest) = t at *
    rw [← cfg] at run
    have moved := protects.reprotects
    have stands := protects.stands
    have names_iff (i : Fin 128) : (n.channel = some i ∧ (s.chan i).cfg.role = .light ∧ (s.chan i).cfg.roleTarget = some z.val)
        ↔ (s.taken rest).names z (treatLight n) i := and_congr_right fun _ => Channel.boundTo_iff.symm
    have unnames_iff (i : Fin 128) : ((s.light z).cfg.channel = some i ∧ n.channel ≠ some i
          ∧ (s.chan i).cfg.role = .light ∧ (s.chan i).cfg.roleTarget = some z.val)
        ↔ (s.taken rest).unnames z (treatLight n).channel i := and_congr_right fun _ => and_congr_right fun _ => Channel.boundTo_iff.symm
    simp only [names_iff, unnames_iff]
    refine ⟨_, run, ?_, fun i => channelField?_eq channel i, ?_, target, source, released, fun i hi => ?_, unsent, total, untaken, moved, ?_,
      asked, ?_, ?_, ?_, walkResult, others⟩
    · exact cfg.trans (by rw [treatLight_eq, hold, breakHold, setback, protMin])
    · rw [presence]
      exact bne_iff_ne
    · obtain ⟨wiring, target, lastSent⟩ := named i hi
      refine ⟨wiring.trans (by rw [treatLight_eq, protMin]; rfl), target, lastSent, fun hm => ?_⟩
      have held := lit i hi (by rw [treatLight_eq, protMin]; exact hm)
      rw [treatLight_eq, protMin] at held
      exact held
    · intro minima pProt
      have figures := stands minima pProt
      simp only [State.figures, Prod.mk.injEq] at figures
      exact figures.2
    · exact replied_of_sent sent
    · intro hp
      obtain ⟨now, timer⟩ := configured_presence (timer := (s.taken rest).presenceFrom (treatLight n)) (n := treatLight n) (x := s.light z) hp
      refine ⟨vacant.trans now, presenceT.trans (timer.trans ?_)⟩
      rw [presenceFrom_eq, ← cfg]
      refine (startPresence_eq _ _ _).trans ?_
      rw [show (t.light z).cfg.presence = n.presence by rw [cfg]; rfl]
      rfl
    · intro hp
      obtain ⟨now, timer⟩ := configured_keeps_presence (timer := (s.taken rest).presenceFrom (treatLight n)) (n := treatLight n) (x := s.light z) hp
      exact ⟨vacant.trans now, presenceT.trans timer⟩
  · rw [readLightZone_reports hz h]
    unfold State.lightFields
    rw [lightFigures_eq, lightPresent_eq]
    unfold lightConfigBytes channelFieldByte
    dsimp only
    cases s.lighting.walk <;> simp only [List.append_assoc] <;> rfl

end Sys2Proof.Machine
end

section
/-! PROOFS. The contact check (R104 to R107). -/

namespace Sys2Proof.Machine

variable {s t u : State} {d e : Fin 32} {k : ContactCheck} {tag : Byte} {rest : List Frame}

/-! ### One step of a list of operations -/

theorem forEach_append {α : Type} (l₁ l₂ : List α) (f : α → State → State) (s : State) :
    forEach (l₁ ++ l₂) f s = forEach l₂ f (forEach l₁ f s) := List.foldl_append

/-- The step of a list of operations for an index that stands in it once. -/
theorem forEach_at_step {α : Type} {l : List α} (hl : l.Nodup) {a : α} (ha : a ∈ l) (f : α → State → State) (s : State) :
    ∃ l₁ l₂, a ∉ l₁ ∧ a ∉ l₂ ∧ forEach l f s = forEach l₂ f (f a (forEach l₁ f s)) := by
  obtain ⟨l₁, l₂, rfl⟩ := List.append_of_mem ha
  obtain ⟨-, hl₂, apart⟩ := List.nodup_append.mp hl
  refine ⟨l₁, l₂, fun h => apart a h a List.mem_cons_self rfl, (List.nodup_cons.mp hl₂).1, ?_⟩
  rw [forEach_append, forEach_cons]

theorem forEach_apart {α β : Type} {P : State → β} {f : α → State → State} {l : List α} (h : ∀ a ∈ l, ∀ u, P (f a u) = P u) (s : State) :
    P (forEach l f s) = P s :=
  forEach_keeps_of_mem (I := fun u => P u = P s) (fun a ha u hu => (h a ha u).trans hu) s rfl

/-! ### The end of the check at one door (R106) -/

theorem pairState_ne_fault (a b : Bool) : pairState a b ≠ .fault := by cases a <;> cases b <;> decide

theorem pairState_docked (a b : Bool) : (pairState a b).docked = b := by cases a <;> cases b <;> rfl

theorem pairState_openBare (a b : Bool) : pairState a b = .openBare ↔ a = true ∧ b = false := by cases a <;> cases b <;> simp [pairState]

theorem startDebounce_shape (d : Fin 32) (s : State) :
    (startDebounce d s).shape d
      = { s.shape d with contactT := some (s.shape d).cfg.debounce, presenceT := some (s.shape d).cfg.debounce } :=
  shape_putDoor_self d _ s

theorem startDebounce_shape_ne (h : d ≠ e) (s : State) : (startDebounce d s).shape e = s.shape e := shape_putDoor_ne h _ s

theorem endCheckAt_shape_ne (h : d ≠ e) (k : ContactCheck) (s : State) : (endCheckAt k d s).shape e = s.shape e := by
  unfold endCheckAt
  dsimp only
  split
  · split
    · rw [sendDoorTargets_shape_ne h, enterState_shape_ne h, shape_putDoor_ne h, shape_putDoor_ne h]
    · rw [startDebounce_shape_ne h, shape_putDoor_ne h]
  · rw [startDebounce_shape_ne h]
    split
    · rw [shape_putDoor_ne h]
    · rw [sendDoorTargets_shape_ne h, raise_shape, enterState_shape_ne h, shape_putDoor_ne h]

/-- The loop flowed at a door in FAULT: it takes its raw inputs and their pair state. -/
theorem endCheckAt_recovers (hk : look k.sample d = some true) (hx : (s.door d).state = .fault) :
    (endCheckAt k d s).shape d
      = s.aimed (s.movedTo { s.shape d with loop := .connected, debOpen := (s.door d).rawOpen, debPresent := (s.door d).rawPresent }
          (pairState (s.door d).rawOpen (s.door d).rawPresent) (s.heldLengthNow d)) := by
  unfold endCheckAt
  dsimp only
  rw [if_pos hk, if_pos hx, sendDoorTargets_shape, enterState_shape, door_putDoor_self, shape_putDoor_self]
  have stop (x : Door) : (enterState d (pairState (s.door d).rawOpen (s.door d).rawPresent) .departed
      ((s.putDoor d { s.door d with loop := .connected }).putDoor d x)).stop = s.stop := stop_of_outsideDock (by simp)
  unfold State.aimed State.lightTarget State.curtainTarget State.plantRunning
  rw [stop]
  unfold State.heldLengthNow State.kind
  rw [door_putDoor_self]
  rfl

/-- The loop flowed at a door not in FAULT: it keeps its state. -/
theorem endCheckAt_stays (hk : look k.sample d = some true) (hx : (s.door d).state ≠ .fault) :
    (endCheckAt k d s).shape d = { s.shape d with
      loop := .connected, contactT := some (s.door d).cfg.debounce, presenceT := some (s.door d).cfg.debounce } := by
  unfold endCheckAt
  dsimp only
  rw [if_pos hk, if_neg hx, startDebounce_shape, shape_putDoor_self]
  rfl

/-- The loop did not flow: the door is in FAULT, and one that enters it holds no session and raises DOOR_FAULT. -/
theorem endCheckAt_fails (hk : look k.sample d ≠ some true) :
    ((endCheckAt k d s).shape d).loop = .openLoop ∧ ((endCheckAt k d s).shape d).state = .fault
      ∧ ((endCheckAt k d s).shape d).contactT = some (s.door d).cfg.debounce
      ∧ ((endCheckAt k d s).shape d).presenceT = some (s.door d).cfg.debounce
      ∧ ((s.door d).state ≠ .fault → ((endCheckAt k d s).shape d).session = none) := by
  unfold endCheckAt
  dsimp only
  rw [if_neg hk, startDebounce_shape]
  by_cases hx : (s.door d).state = .fault
  · rw [if_pos hx, shape_putDoor_self]
    exact ⟨rfl, hx, rfl, rfl, fun hn => absurd hx hn⟩
  · rw [if_neg hx, sendDoorTargets_shape, raise_shape, enterState_shape, shape_putDoor_self]
    exact ⟨rfl, rfl, rfl, rfl, fun _ => rfl⟩

theorem endCheckAt_follows (k : ContactCheck) (d : Fin 32) (s : State) : s.Follows (endCheckAt k d s) :=
  (State.Follows.units s).endCheckAt k d (.refl s)

/-- The state with a door in FAULT for its open loop. -/
def State.faulted (s : State) (d : Fin 32) : State := enterState d .fault .doorFault (s.putDoor d { s.door d with loop := .openLoop })

theorem faulted_clock (s : State) (d : Fin 32) : (s.faulted d).plan.clock = s.plan.clock := by
  have plan : (s.faulted d).plan.forgetTotals = s.plan.forgetTotals := plan_of_outsideDock (by unfold State.faulted; simp)
  exact (congrArg PlanUnit.clock plan :)

theorem endCheckAt_faults (hk : look k.sample d ≠ some true) (hx : (s.door d).state ≠ .fault) :
    endCheckAt k d s = startDebounce d (sendDoorTargets d (raise .doorFault d (le8 (s.door d).state.code) (s.faulted d))) := by
  unfold endCheckAt State.faulted
  dsimp only
  rw [if_neg hk, if_neg hx]

theorem endCheckAt_reports (hk : look k.sample d ≠ some true) (hx : (s.door d).state ≠ .fault) (h : t.Follows s)
    (hu : (endCheckAt k d s).Follows u) : t.reports u ⟨.doorFault, s.plan.clock, d, le8 (s.door d).state.code⟩ := by
  have entered : t.Follows (s.faulted d) := by
    unfold State.faulted
    exact (State.Follows.units t).enterState d .fault .doorFault (h.of_line rfl)
  rw [endCheckAt_faults hk hx] at hu
  rw [← faulted_clock s d]
  generalize s.faulted d = v at entered hu ⊢
  exact reports_of_raise entered
    (((State.Follows.units _).startDebounce d ((State.Follows.units _).sendDoorTargets d (.refl _))).trans hu)

/-! ### The end of the check (R106) -/

theorem ContactCheck.doors_nodup (k : ContactCheck) : k.doors.Nodup := (nodup_indices 32).filter _

theorem ContactCheck.mem_doors : d ∈ k.doors ↔ look k.underTest d = true := by
  unfold ContactCheck.doors
  rw [List.mem_filter]
  exact and_iff_right (mem_indices d)

/-- The state in which the end of a check comes to a door under test, and what its step there leaves to the end. -/
theorem endCheck_at (k : ContactCheck) (s : State) (hd : look k.underTest d = true) :
    ∃ u, s.Follows u ∧ u.plan.forgetTotals = s.plan.forgetTotals ∧ u.shape d = s.shape d
      ∧ (endCheckAt k d u).Follows (forEach k.doors (endCheckAt k) s)
      ∧ (forEach k.doors (endCheckAt k) s).shape d = (endCheckAt k d u).shape d := by
  obtain ⟨l₁, l₂, h₁, h₂, e⟩ := forEach_at_step k.doors_nodup (ContactCheck.mem_doors.mpr hd) (endCheckAt k) s
  rw [e]
  refine ⟨forEach l₁ (endCheckAt k) s, ?_, ?_, ?_, ?_, ?_⟩
  · exact forEach_keeps (I := s.Follows) (fun a u hu => hu.trans (endCheckAt_follows k a u)) _ s (.refl s)
  · exact forEach_same (P := fun u => u.plan.forgetTotals) (fun a u => plan_of_outsideDock (endCheckAt_outsideDock u k a)) _ s
  · exact forEach_apart (P := fun u => u.shape d) (fun a ha u => endCheckAt_shape_ne (by rintro rfl; exact h₁ ha) k u) s
  · exact forEach_keeps (I := (endCheckAt k d _).Follows) (fun a u hu => hu.trans (endCheckAt_follows k a u)) _ _ (.refl _)
  · exact forEach_apart (P := fun u => u.shape d) (fun a ha u => endCheckAt_shape_ne (by rintro rfl; exact h₂ ha) k u) _

/-- Between s and t the contact check ended (R106). -/
def State.EndsCheck (s t : State) (k : ContactCheck) (ending : Byte) : Prop :=
  t.dock.check = none
    ∧ (∀ d, look k.underTest d = true → look k.sample d = some true →
        (t.door d).loop = .connected
          ∧ ((s.door d).state = .fault →
              (t.door d).state = pairState (s.door d).rawOpen (s.door d).rawPresent
                ∧ (t.door d).debOpen = (s.door d).rawOpen ∧ (t.door d).debPresent = (s.door d).rawPresent
                ∧ (t.door d).session.isSome = (s.door d).rawPresent ∧ (t.door d).cycles = (s.door d).cycles
                ∧ (t.door d).heldT
                    = (if (s.door d).rawOpen = true ∧ (s.door d).rawPresent = false then
                        some (if s.plan.current.fields.kind = .changeover then 2 * (s.door d).cfg.heldTime
                              else (s.door d).cfg.heldTime)
                       else none))
          ∧ ((s.door d).state ≠ .fault →
              (t.door d).forgetLoss
                = { (s.door d).forgetLoss with
                    loop := .connected, contactT := some (s.door d).cfg.debounce
                    presenceT := some (s.door d).cfg.debounce }))
    ∧ (∀ d, look k.underTest d = true → look k.sample d ≠ some true →
        (t.door d).loop = .openLoop ∧ (t.door d).state = .fault
          ∧ (t.door d).contactT = some (s.door d).cfg.debounce ∧ (t.door d).presenceT = some (s.door d).cfg.debounce
          ∧ ((s.door d).state ≠ .fault →
              (t.door d).session = none ∧ s.reports t ⟨.doorFault, s.plan.clock, d, le8 (s.door d).state.code⟩))
    ∧ (∀ d, look k.underTest d = false → (t.door d).forgetLoss = (s.door d).forgetLoss)
    ∧ s.reportsLast t
        ⟨.checkDone, s.plan.clock, 0,
          le32 ((indices 32).map fun d =>
              if look k.underTest d = true ∧ look k.sample d ≠ some true then 2 ^ d.val else 0).sum
            ++ le8 ((indices 32).filter fun d => look k.underTest d).length ++ [ending]⟩

theorem door_of_shape {f : Door → α} (h : t.shape d = s.shape d) (hf : ∀ x, f x.forgetLoss = f x) : f (t.door d) = f (s.door d) := by
  rw [← hf, ← hf (s.door d)]
  exact congrArg f h

/-- The part with its contact check taken away, which each door under test then leaves. -/
def State.unchecked (s : State) : State := s.setDock { s.dock with check := none }

/-- The doors under test, all told their results. -/
def State.tested (s : State) (k : ContactCheck) : State := forEach k.doors (endCheckAt k) s.unchecked

theorem endCheck_eq (k : ContactCheck) (ending : CheckEnding) (s : State) : endCheck k ending s
    = raise .checkDone 0 (le32 (doorMask ((s.tested k).openLoops k)) ++ le8 k.doors.length ++ le8 ending.code) (s.tested k) := rfl

theorem tested_check (s : State) (k : ContactCheck) : (s.tested k).dock.check = none :=
  forEach_keeps (I := fun u => u.dock.check = none) (fun d _ hu => (doorClosed_check d s.unchecked).endCheckAt k hu) _ s.unchecked rfl

theorem tested_clock (s : State) (k : ContactCheck) : (s.tested k).plan.clock = s.plan.clock := by
  have plan : (s.tested k).plan.forgetTotals = s.plan.forgetTotals :=
    forEach_same (P := fun u => u.plan.forgetTotals) (fun a u => plan_of_outsideDock (endCheckAt_outsideDock u k a)) _ s.unchecked
  exact (congrArg PlanUnit.clock plan :)

theorem tested_shape_untested (hd : look k.underTest d = false) (s : State) : (s.tested k).shape d = s.shape d :=
  forEach_apart (P := fun u => u.shape d)
    (fun a ha u => endCheckAt_shape_ne (by rintro rfl; rw [ContactCheck.mem_doors.mp ha] at hd; cases hd) k u) s.unchecked

theorem tested_recovers (hd : look k.underTest d = true) (hk : look k.sample d = some true) (hx : (s.door d).state = .fault) :
    ((s.tested k).shape d).loop = .connected
      ∧ ((s.tested k).shape d).state = pairState (s.door d).rawOpen (s.door d).rawPresent
      ∧ ((s.tested k).shape d).debOpen = (s.door d).rawOpen ∧ ((s.tested k).shape d).debPresent = (s.door d).rawPresent
      ∧ ((s.tested k).shape d).session.isSome = (s.door d).rawPresent ∧ ((s.tested k).shape d).cycles = (s.door d).cycles
      ∧ ((s.tested k).shape d).heldT
          = (if (s.door d).rawOpen = true ∧ (s.door d).rawPresent = false then
              some (if s.plan.current.fields.kind = .changeover then 2 * (s.door d).cfg.heldTime else (s.door d).cfg.heldTime)
             else none) := by
  obtain ⟨u, -, plan, shape, -, after⟩ := endCheck_at k s.unchecked hd
  have shape : u.shape d = s.shape d := shape
  have fault : (u.door d).state = .fault := (state_of_shape shape).trans hx
  have rawOpen : (u.door d).rawOpen = (s.door d).rawOpen := (congrArg Door.rawOpen shape :)
  have rawPresent : (u.door d).rawPresent = (s.door d).rawPresent := (congrArg Door.rawPresent shape :)
  have held : u.heldLengthNow d
      = if s.plan.current.fields.kind = .changeover then 2 * (s.door d).cfg.heldTime else (s.door d).cfg.heldTime := by
    have kind : u.kind = s.plan.current.fields.kind := (congrArg (fun p => p.current.fields.kind) plan :)
    unfold State.heldLengthNow
    rw [kind, cfg_of_shape shape]
  unfold State.tested
  rw [after, endCheckAt_recovers hk fault, rawOpen, rawPresent, held, shape]
  unfold State.aimed State.movedTo
  dsimp only
  refine ⟨rfl, rfl, rfl, rfl, ?_, rfl, ?_⟩
  · rw [pairState_docked]
    have undocked : (s.shape d).state.docked = false := by rw [show (s.shape d).state = .fault from hx]; rfl
    rw [undocked]
    cases (s.door d).rawPresent <;> rfl
  · simp only [pairState_openBare]

theorem tested_stays (hd : look k.underTest d = true) (hk : look k.sample d = some true) (hx : (s.door d).state ≠ .fault) :
    (s.tested k).shape d = { s.shape d with
      loop := .connected, contactT := some (s.door d).cfg.debounce, presenceT := some (s.door d).cfg.debounce } := by
  obtain ⟨u, -, -, shape, -, after⟩ := endCheck_at k s.unchecked hd
  have shape : u.shape d = s.shape d := shape
  unfold State.tested
  rw [after, endCheckAt_stays hk (by rw [state_of_shape shape]; exact hx), cfg_of_shape shape, shape]

theorem tested_fails (hd : look k.underTest d = true) (hk : look k.sample d ≠ some true) :
    ((s.tested k).shape d).loop = .openLoop ∧ ((s.tested k).shape d).state = .fault
      ∧ ((s.tested k).shape d).contactT = some (s.door d).cfg.debounce
      ∧ ((s.tested k).shape d).presenceT = some (s.door d).cfg.debounce
      ∧ ((s.door d).state ≠ .fault → ((s.tested k).shape d).session = none
        ∧ ∀ v, (s.tested k).Follows v → s.reports v ⟨.doorFault, s.plan.clock, d, le8 (s.door d).state.code⟩) := by
  obtain ⟨u, before, plan, shape, behind, after⟩ := endCheck_at k s.unchecked hd
  have shape : u.shape d = s.shape d := shape
  obtain ⟨loop, state, contactT, presenceT, session⟩ := endCheckAt_fails (s := u) hk
  rw [cfg_of_shape shape] at contactT presenceT
  rw [state_of_shape shape] at session
  unfold State.tested
  rw [after]
  refine ⟨loop, state, contactT, presenceT, fun hx => ⟨session hx, fun v hv => ?_⟩⟩
  have reported := endCheckAt_reports (t := s) (u := v) hk (by rw [state_of_shape shape]; exact hx) before (behind.trans hv)
  rw [state_of_shape shape, show u.plan.clock = s.plan.clock from (congrArg PlanUnit.clock plan :)] at reported
  exact reported

theorem tested_loop (hd : look k.underTest d = true) (s : State) :
    ((s.tested k).door d).loop = .openLoop ↔ look k.sample d ≠ some true := by
  by_cases hk : look k.sample d = some true
  · have flowed : ((s.tested k).shape d).loop = .connected := by
      by_cases hx : (s.door d).state = .fault
      · exact (tested_recovers hd hk hx).1
      · rw [tested_stays hd hk hx]
    refine iff_of_false (fun h => ?_) (fun hn => hn hk)
    cases h.symm.trans flowed
  · exact iff_of_true (tested_fails hd hk).1 hk

theorem sum_map_filter {α : Type} (l : List α) (p : α → Bool) (f : α → Nat) :
    ((l.filter p).map f).sum = (l.map fun a => if p a then f a else 0).sum := by
  induction l with
  | nil => rfl
  | cons a l ih =>
    rw [List.filter_cons]
    cases hp : p a <;> simp [hp, ih]

theorem tested_openLoops (s : State) (k : ContactCheck) : doorMask ((s.tested k).openLoops k)
    = ((indices 32).map fun d => if look k.underTest d = true ∧ look k.sample d ≠ some true then 2 ^ d.val else 0).sum := by
  have open_iff (d : Fin 32) : (look k.underTest d && decide (((s.tested k).door d).loop = .openLoop)) = true
      ↔ look k.underTest d = true ∧ look k.sample d ≠ some true := by
    rw [Bool.and_eq_true, decide_eq_true_iff]
    exact and_congr_right fun hd => tested_loop hd s
  unfold doorMask State.openLoops ContactCheck.doors
  rw [List.filter_filter, sum_map_filter]
  refine congrArg List.sum (List.map_congr_left fun d _ => ?_)
  refine if_congr ?_ rfl rfl
  rw [Bool.and_comm]
  exact open_iff d

theorem tested_follows (s : State) (k : ContactCheck) : s.Follows (s.tested k) :=
  forEach_keeps (I := s.Follows) (fun a u hu => hu.trans (endCheckAt_follows k a u)) _ s.unchecked (.refl s)

theorem endCheck_ends {ending : CheckEnding} {code : Byte} (hc : le8 ending.code = [code]) (k : ContactCheck) (s : State) :
    s.EndsCheck (endCheck k ending s) k code := by
  have raised : (s.tested k).Follows (endCheck k ending s) := (State.Follows.refl _).raise _ _ _
  have shape (d : Fin 32) : (endCheck k ending s).shape d = (s.tested k).shape d := raise_shape _ _ _ _ d
  refine ⟨?_, fun d hd hk => ⟨?_, fun hx => ?_, fun hx => ?_⟩, fun d hd hk => ?_, fun d hd => (shape d).trans (tested_shape_untested hd s), ?_⟩
  · rw [endCheck_eq, raise_dock]
    exact tested_check s k
  · refine (congrArg Door.loop (shape d) :).trans ?_
    by_cases hx : (s.door d).state = .fault
    · exact (tested_recovers hd hk hx).1
    · rw [tested_stays hd hk hx]
  · obtain ⟨-, recovered⟩ := tested_recovers hd hk hx
    rw [← shape d] at recovered
    have session : ((endCheck k ending s).shape d).session.isSome = ((endCheck k ending s).door d).session.isSome := Option.isSome_map
    rw [session] at recovered
    exact recovered
  · exact (shape d).trans (tested_stays hd hk hx)
  · obtain ⟨loop, state, contactT, presenceT, entered⟩ := tested_fails (s := s) hd hk
    rw [← shape d] at loop state contactT presenceT entered
    refine ⟨loop, state, contactT, presenceT, fun hx => ?_⟩
    obtain ⟨session, reported⟩ := entered hx
    exact ⟨Option.map_eq_none_iff.mp session, reported _ raised⟩
  · obtain ⟨l, hl⟩ := (tested_follows s k).1
    have last := raise_reportsLast .checkDone 0 (le32 (doorMask ((s.tested k).openLoops k)) ++ le8 k.doors.length ++ le8 ending.code)
      (s := s) (u := s.tested k) ⟨l, hl.symm⟩
    rw [← endCheck_eq, tested_clock, tested_openLoops, hc] at last
    exact last

/-! ### CHECK BEGIN (R104) -/

/-- Both debounce timers of a door are cancelled. -/
def cancelDebounce (d : Fin 32) (s : State) : State := s.putDoor d { s.door d with contactT := none, presenceT := none }

/-- The contact check that begins now. -/
def State.newCheck (s : State) : ContactCheck :=
  { remaining := 30, underTest := s.dock.doors.map (·.cfg.enabled), sample := Vector.replicate 32 none }

theorem beginCheck_eq (s : State) :
    beginCheck s = forEach s.newCheck.doors cancelDebounce (s.setDock { s.dock with check := some s.newCheck }) := rfl

theorem newCheck_underTest (s : State) (d : Fin 32) : look s.newCheck.underTest d = (s.door d).cfg.enabled := look_map _ _ _

theorem beginCheck_door (s : State) (d : Fin 32) :
    (beginCheck s).door d = if (s.door d).cfg.enabled then { s.door d with contactT := none, presenceT := none } else s.door d := by
  have untouched (a b : Fin 32) (u : State) (h : b ≠ a) : (cancelDebounce a u).door b = u.door b := by
    unfold cancelDebounce
    rw [door_putDoor, if_neg (Ne.symm h)]
  rw [beginCheck_eq, forEach_at (P := fun d u => u.door d) (f := cancelDebounce)
    (g := fun u d => { u.door d with contactT := none, presenceT := none }) (fun a u => door_putDoor_self u a _) untouched (fun a b u h => by rw [untouched a b u h]) _ s.newCheck.doors_nodup]
  refine if_congr ?_ rfl rfl
  rw [ContactCheck.mem_doors, newCheck_underTest]

theorem beginCheck_check (s : State) : (beginCheck s).dock.check = some s.newCheck := by
  rw [beginCheck_eq]
  exact forEach_same (P := fun u => u.dock.check) (f := cancelDebounce) (fun _ _ => rfl) _ (s.setDock { s.dock with check := some s.newCheck })

theorem checkBegin_accepted (h : s.takes ⟨tag, 0x3A, []⟩ rest) (idle : s.dock.check = none) (shut : s.openDoors = []) :
    exec (.checkBegin tag []) s = .next (sendReply tag 0x3A
      (stOk ++ le8 ((indices 32).filter fun d => ((s.taken rest).door d).cfg.enabled).length) (beginCheck (s.taken rest))) := by
  change request 0x3A tag [] _ s = _
  refine request_runs (n := 0) (by decide) rfl h ?_
  rw [show (s.taken rest).dock.check = none from idle, show (s.taken rest).openDoors = [] from shut]
  rfl

theorem checkEnd_accepted (h : s.takes ⟨tag, 0x3B, []⟩ rest) (hk : s.dock.check = some k) :
    exec (.checkEnd tag []) s = .next (sendReply tag 0x3B
      (stOk ++ le32 (doorMask ((endCheck k .ended (s.taken rest)).openLoops k)) ++ le8 k.doors.length) (endCheck k .ended (s.taken rest))) := by
  change request 0x3B tag [] _ s = _
  refine request_runs (n := 0) (by decide) rfl h ?_
  rw [show (s.taken rest).dock.check = some k from hk]

theorem endCheck_sent (k : ContactCheck) (ending : CheckEnding) (s : State) : (endCheck k ending s).line.sent = s.line.sent :=
  ((State.Follows.units s).endCheck k ending (.refl s)).sent

/-- The end of a check speaks of the state before it but for the request taken, and of the state after it but for the reply. -/
theorem State.EndsCheck.replied {code : Byte} {kind : Byte} {reply : Bytes} (h : (s.taken rest).EndsCheck t k code) :
    s.EndsCheck (sendReply tag kind reply t) k code := h

/-- Settles O43: each door under test is told its result once, the others keep their record, and CHECK_DONE is raised last. -/
theorem contactCheckBeginsAndEnds : Obligations.ContactCheckBeginsAndEnds := by
  refine ⟨⟨fun s tag rest h hc => ?_, fun s tag rest h hc ho => ?_, fun s tag rest h hc ho => ?_, fun s d flows hs => ?_⟩,
    fun s tag rest h hc => ?_, fun s tag rest k h hk => ?_, fun s k hs hk hr => ?_, fun s hs hn => ?_⟩
  · change request 0x3A tag [] _ s = _
    refine request_answers (n := 0) (by decide) rfl h ?_
    exact if_pos hc
  · change request 0x3A tag [] _ s = _
    refine request_answers (n := 0) (by decide) rfl h ?_
    have open_ : (s.taken rest).openDoors.isEmpty = false := by
      cases hd : s.openDoors with
      | nil => exact absurd hd ho
      | cons a l => rw [show (s.taken rest).openDoors = a :: l from hd]; rfl
    rw [show (s.taken rest).dock.check = none from hc, open_]
    rfl
  · have run := checkBegin_accepted h hc ho
    have check := beginCheck_check (s.taken rest)
    have doors := beginCheck_door (s.taken rest)
    generalize beginCheck (s.taken rest) = t at *
    exact ⟨_, _, run, check, rfl, fun d => ⟨newCheck_underTest _ d, look_replicate _ _⟩, doors⟩
  · change execLoopSample d flows s = _
    unfold execLoopSample
    refine whenRunning_runs hs ?_
    rfl
  · change request 0x3B tag [] _ s = _
    refine request_answers (n := 0) (by decide) rfl h ?_
    rw [show (s.taken rest).dock.check = none from hc]
  · have run := checkEnd_accepted h hk
    have ends := endCheck_ends (ending := .ended) (code := 0x00) rfl k (s.taken rest)
    have sent := endCheck_sent k .ended (s.taken rest)
    generalize endCheck k .ended (s.taken rest) = t at *
    exact ⟨_, run, ends.replied, replied_of_sent sent⟩
  · refine ⟨endCheck k .expired s, ?_, endCheck_ends rfl k s⟩
    change execCheckLimitExpiry s = _
    unfold execCheckLimitExpiry
    refine whenRunning_runs hs ?_
    rw [hk]
    exact if_pos hr
  · change execCheckLimitExpiry s = _
    unfold execCheckLimitExpiry
    refine whenRunning_runs hs ?_
    cases hk : s.dock.check with
    | none => rfl
    | some k => exact if_neg (hn k hk)

end Sys2Proof.Machine
end

section
/-! SUPPORT. Doors under the events of the arbiter: the session at rest, the curtain flag, and the targets a door sends (R99, R100, R109). -/

namespace Sys2Proof.Machine

variable {s t u : State} {d e : Fin 32} {i j : Fin 128}

/-! ### A door whose loss is counted up to the present second -/

/-- The door stands in this state, accrued to the present second, with this session where its counts are within their bounds. -/
structure State.Rests (d : Fin 32) (now : Nat) (st : DoorState) (y : Option Session) (s : State) : Prop where
  seconds : s.seconds = now
  stamp : (s.door d).stamp = now
  state : (s.door d).state = st
  session : y.map (fun x => x.accrued 0 0 st) = y → (s.door d).session = y

namespace State.Rests

variable {now : Nat} {st : DoorState} {y : Option Session}

theorem of_door (h : t.Rests d now st y) (hs : u.seconds = t.seconds) (hd : (u.door d).stamp = (t.door d).stamp)
    (hst : (u.door d).state = (t.door d).state) (hy : (u.door d).session = (t.door d).session) : u.Rests d now st y :=
  ⟨hs.trans h.seconds, hd.trans h.stamp, hst.trans h.state, fun settled => hy.trans (h.session settled)⟩

theorem of_dock (h : t.Rests d now st y) (hs : u.seconds = t.seconds) (hd : u.dock = t.dock) : u.Rests d now st y := by
  have door : u.door d = t.door d := door_of_dock hd d
  exact h.of_door hs (by rw [door]) (by rw [door]) (by rw [door])

/-- A second accrual within the second counts nothing. -/
theorem accrue (h : t.Rests d now st y) (e : Fin 32) : (accrue e t).Rests d now st y := by
  have door := accrue_door e d t
  by_cases hed : e = d
  · subst hed
    rw [if_pos rfl] at door
    have stamp : (t.door e).stamp = t.seconds := h.stamp.trans h.seconds.symm
    have energy : t.accruedEnergy e = 0 := by
      unfold State.accruedEnergy
      rw [stamp, Nat.sub_self, Nat.mul_zero]
    refine ⟨(accrue_seconds e t).trans h.seconds, ?_, ?_, ?_⟩ <;> rw [door] <;> unfold State.accruedDoor <;> dsimp only
    · exact h.seconds
    · exact h.state
    · intro settled
      rw [energy, stamp, Nat.sub_self, h.state, h.session settled]
      exact settled
  · rw [if_neg hed] at door
    exact h.of_door (accrue_seconds e t) (by rw [door]) (by rw [door]) (by rw [door])

theorem setCurtainRunning (h : t.Rests d now st y) (e : Fin 32) (b : Bool) : (setCurtainRunning e b t).Rests d now st y := by
  unfold Machine.setCurtainRunning
  split
  · exact h
  · have accrued := h.accrue e
    generalize Machine.accrue e t = u at accrued ⊢
    have written (v : State) (x : Door) (hv : v.Rests d now st y) (hx : x.stamp = (v.door e).stamp) (hs : x.state = (v.door e).state)
        (hy : x.session = (v.door e).session) : (v.putDoor e x).Rests d now st y := by
      refine hv.of_door rfl ?_ ?_ ?_ <;> rw [door_putDoor] <;> split
      · next he => subst he; exact hx
      · rfl
      · next he => subst he; exact hs
      · rfl
      · next he => subst he; exact hy
      · rfl
    exact written _ _ (written u _ accrued rfl rfl rfl) rfl rfl rfl

theorem arbiter : ArbiterClosed (State.Rests d now st y) where
  put _ _ _ _ _ h := h.of_dock rfl rfl
  light _ _ _ _ _ h := h.of_dock rfl rfl
  grant i g _ _ h := GrantClosed.setGranted (I := State.Rests d now st y)
    ⟨fun _ _ _ h => h.of_dock rfl rfl, fun _ _ h => h.of_dock rfl rfl, fun e b _ _ h => h.setCurtainRunning e b⟩ i g h
  figures _ _ _ h := h.of_dock rfl rfl
  notice k n b s _ h := h.of_dock (raise_seconds k n b s) (raise_dock _ _ _ _)

end State.Rests

/-! ### The curtain flag (R100) -/

/-- Channel i is the curtain channel bound to door d, and the door's flag says whether it holds a step. -/
structure State.CurtainKept (d : Fin 32) (i : Fin 128) (s : State) : Prop where
  named : (s.door d).cfg.curtain = some i
  bound : (s.chan i).boundTo .curtain d = true
  flag : (s.door d).curtainRunning = true ↔ 0 < (s.chan i).granted

/-- The door names no curtain channel that is bound to it, and its flag stands. -/
structure State.CurtainFree (d : Fin 32) (b : Bool) (s : State) : Prop where
  unbound : ∀ i, (s.door d).cfg.curtain = some i → (s.chan i).boundTo .curtain d = false
  flag : (s.door d).curtainRunning = b

theorem setCurtainRunning_running (d e : Fin 32) (b : Bool) (s : State) :
    ((setCurtainRunning d b s).door e).curtainRunning = if d = e then b else (s.door e).curtainRunning := by
  unfold setCurtainRunning
  split
  · next h =>
    split
    · next hde => rw [← hde, h]
    · rfl
  · unfold refreshRate
    rw [door_putDoor]
    split
    · next hde => rw [door_putDoor_self]
    · next hde => rw [door_putDoor, if_neg hde, accrue_door, if_neg hde]

/-- A grant reaches the flag of the door whose curtain channel it is, and no other. -/
theorem setGranted_running (i : Fin 128) (g : Nat) (s : State) (d : Fin 32) : ((setGranted i g s).door d).curtainRunning
    = if (s.chan i).granted ≠ g ∧ (s.chan i).boundTo .curtain d = true ∧ (s.door d).cfg.curtain = some i then decide (0 < g)
      else (s.door d).curtainRunning := by
  unfold setGranted
  dsimp only
  by_cases hg : (s.chan i).granted = g
  · rw [if_pos hg, if_neg fun h => h.1 hg]
    rfl
  · rw [if_neg hg]
    have cfg : ((s.putChan i { s.chan i with granted := g }).chan i).cfg = (s.chan i).cfg := by rw [chan_putChan_self]
    unfold curtainGrant
    rw [cfg]
    by_cases hb : (s.chan i).boundTo .curtain d = true
    · obtain ⟨role, target⟩ := Channel.boundTo_iff.mp hb
      rw [role, target]
      dsimp only
      rw [index?_val]
      dsimp only
      by_cases hc : (s.door d).cfg.curtain = some i
      · rw [if_pos (show ((s.putChan i { s.chan i with granted := g }).door d).cfg.curtain = some i from hc), setCurtainRunning_running,
          if_pos rfl, if_pos ⟨hg, hb, hc⟩]
      · rw [if_neg (show ¬((s.putChan i { s.chan i with granted := g }).door d).cfg.curtain = some i from hc), if_neg fun h => hc h.2.2]
        rfl
    · rw [if_neg fun h => hb h.2.1]
      split
      · next n role target =>
        split
        · next e he =>
          have apart : e ≠ d := by
            rintro rfl
            exact hb (Channel.boundTo_iff.mpr ⟨role, by rw [target, index?_some he]⟩)
          split
          · rw [setCurtainRunning_running, if_neg apart]
            rfl
          · rfl
        · rfl
      · rfl

theorem setGranted_cfg (i : Fin 128) (g : Nat) (s : State) (d : Fin 32) : ((setGranted i g s).door d).cfg = (s.door d).cfg :=
  cfg_of_shape (shape_of_outside (setGranted_outside s i g) d)

/-- A write of channels that keeps the wiring keeps a door's curtain channel bound, or unbound. -/
theorem State.CurtainFree.of_cfg {b : Bool} (h : t.CurtainFree d b) (hc : ∀ i, (u.chan i).cfg = (t.chan i).cfg)
    (hd : (u.door d).cfg = (t.door d).cfg) (hr : (u.door d).curtainRunning = (t.door d).curtainRunning) : u.CurtainFree d b :=
  ⟨fun i hi => (boundTo_congr (hc i) _ _).trans (h.unbound i (hd ▸ hi)), hr.trans h.flag⟩

theorem State.CurtainKept.of_cfg (h : t.CurtainKept d i) (hc : (u.chan i).cfg = (t.chan i).cfg) (hd : (u.door d).cfg = (t.door d).cfg)
    (hr : (u.door d).curtainRunning = true ↔ 0 < (u.chan i).granted) : u.CurtainKept d i :=
  ⟨by rw [hd]; exact h.named, (boundTo_congr hc _ _).trans h.bound, hr⟩

theorem putChan_cfg {c : Channel} (h : c.cfg = (s.chan i).cfg) (j : Fin 128) : ((s.putChan i c).chan j).cfg = (s.chan j).cfg := by
  rw [chan_putChan]
  split
  · next e => subst e; exact h
  · rfl

theorem granted_cfg (i j : Fin 128) (g : Nat) (s : State) : ((s.putChan i { s.chan i with granted := g }).chan j).cfg = (s.chan j).cfg := by
  refine putChan_cfg ?_ j
  rfl

theorem setGranted_chan_cfg (i j : Fin 128) (g : Nat) (s : State) : ((setGranted i g s).chan j).cfg = (s.chan j).cfg := by
  rw [setGranted_chan]
  exact granted_cfg i j g s

theorem State.CurtainFree.arbiter (d : Fin 32) (b : Bool) : ArbiterClosed (State.CurtainFree d b) where
  put _ _ _ hc _ h := h.of_cfg (putChan_cfg hc) rfl rfl
  light j g s _ _ h := h.of_cfg (granted_cfg j · g s) rfl rfl
  grant i g s _ h := by
    refine h.of_cfg (setGranted_chan_cfg i · g s) (setGranted_cfg i g s d) ?_
    rw [setGranted_running, if_neg]
    rintro ⟨-, hb, hc⟩
    rw [h.unbound i hc] at hb
    cases hb
  figures s b hb h := h.of_cfg (fun j => by unfold State.chan; rw [State.setBudget_budget, hb]) rfl rfl
  notice k n b s _ h := by
    have door : (raise k n b s).door d = s.door d := door_of_dock (raise_dock _ _ _ _) d
    exact h.of_cfg (fun j => by rw [raise_chan]) (by rw [door]) (by rw [door])

theorem State.CurtainKept.arbiter (d : Fin 32) (i : Fin 128) : ArbiterClosed (State.CurtainKept d i) where
  put j c s hc hg h := by
    refine h.of_cfg (putChan_cfg hc i) rfl ?_
    rw [chan_putChan]
    split
    · next e => subst e; dsimp only; rw [hg]; exact h.flag
    · exact h.flag
  light j g s hl _ h := by
    refine h.of_cfg (granted_cfg j i g s) rfl ?_
    rw [chan_putChan, if_neg]
    · exact h.flag
    · rintro rfl
      rw [(Channel.boundTo_iff.mp h.bound).1] at hl
      cases hl
  grant j g s _ h := by
    refine h.of_cfg (setGranted_chan_cfg j i g s) (setGranted_cfg j g s d) ?_
    rw [setGranted_running, setGranted_chan, chan_putChan]
    by_cases hij : j = i
    · subst hij
      rw [if_pos rfl]
      dsimp only
      by_cases hg : (s.chan j).granted = g
      · rw [if_neg fun hn => hn.1 hg, ← hg]
        exact h.flag
      · rw [if_pos ⟨hg, h.bound, h.named⟩, decide_eq_true_iff]
    · rw [if_neg hij, if_neg fun hn => hij (Option.some.inj (hn.2.2.symm.trans h.named))]
      exact h.flag
  figures s b hb h := by
    have chan : (s.setBudget b).chan i = s.chan i := by unfold State.chan; rw [State.setBudget_budget, hb]
    exact h.of_cfg (by rw [chan]) rfl (by rw [chan]; exact h.flag)
  notice k n b s _ h := by
    have door : (raise k n b s).door d = s.door d := door_of_dock (raise_dock _ _ _ _) d
    exact h.of_cfg (by rw [raise_chan]) (by rw [door]) (by rw [raise_chan, door]; exact h.flag)

/-! ### The targets a door sends (R99) -/

theorem sendLight_cases (d : Fin 32) (s : State) :
    ((∀ i, (s.door d).cfg.light = some i → s.lightTarget (s.door d) = (s.door d).sentLight) ∧ sendLight d s = s)
      ∨ ∃ i, (s.door d).cfg.light = some i ∧ s.lightTarget (s.door d) ≠ (s.door d).sentLight
        ∧ sendLight d s = targetChange i .docklight d (s.lightTarget (s.door d)) false
            (s.putDoor d { s.door d with sentLight := s.lightTarget (s.door d) }) := by
  unfold sendLight
  dsimp only
  cases hc : (s.door d).cfg.light with
  | none => exact .inl ⟨(fun _ h => by cases h), rfl⟩
  | some i =>
    dsimp only
    split
    · next hv => exact .inl ⟨fun _ _ => hv, rfl⟩
    · next hv => exact .inr ⟨i, rfl, hv, rfl⟩

theorem sendCurtain_cases (d : Fin 32) (s : State) :
    ((∀ i, (s.door d).cfg.curtain = some i → s.curtainTarget (s.door d) = (s.door d).sentCurtain) ∧ sendCurtain d s = s)
      ∨ ∃ i, (s.door d).cfg.curtain = some i ∧ s.curtainTarget (s.door d) ≠ (s.door d).sentCurtain
        ∧ sendCurtain d s = targetChange i .curtain d (s.curtainTarget (s.door d)) false
            (s.putDoor d { s.door d with sentCurtain := s.curtainTarget (s.door d) }) := by
  unfold sendCurtain
  dsimp only
  cases hc : (s.door d).cfg.curtain with
  | none => exact .inl ⟨(fun _ h => by cases h), rfl⟩
  | some i =>
    dsimp only
    split
    · next hv => exact .inl ⟨fun _ _ => hv, rfl⟩
    · next hv => exact .inr ⟨i, rfl, hv, rfl⟩

/-- The targets a door sends go through a property that its last sent targets do not touch. -/
theorem ArbiterClosed.sendDoorTargets {I : State → Prop} (c : ArbiterClosed I) (d : Fin 32)
    (light : ∀ v u, I u → I (u.putDoor d { u.door d with sentLight := v }))
    (curtain : ∀ v u, I u → I (u.putDoor d { u.door d with sentCurtain := v })) (h : I s) : I (sendDoorTargets d s) := by
  have lit : I (sendLight d s) := by
    obtain ⟨-, e⟩ | ⟨i, -, -, e⟩ := sendLight_cases d s
    · rwa [e]
    · rw [e]
      exact c.targetChange i _ _ _ _ (light _ _ h)
  unfold Machine.sendDoorTargets
  generalize sendLight d s = u at lit
  obtain ⟨-, e⟩ | ⟨i, -, -, e⟩ := sendCurtain_cases d u
  · rwa [e]
  · rw [e]
    exact c.targetChange i _ _ _ _ (curtain _ _ lit)

/-- What a door's channel takes of the target worked out for it: nothing new where it was the last sent. -/
def Channel.takesSent (c : Channel) (v sent : Nat) : Nat := if v = sent then c.target else min v c.cfg.steps

theorem takes_of_step {c : Channel} {r : Role} {n : Nat} (h : c.boundTo r n = true) (hr : r ≠ .light) (v : Nat) : c.takes v = min v c.cfg.steps := by
  unfold Channel.takes
  rw [(Channel.boundTo_iff.mp h).1, if_neg hr]

theorem sendLight_asked (h : ¬((s.door d).cfg.light = some i ∧ (s.chan i).boundTo .docklight d = true)) :
    ((sendLight d s).chan i).asked = (s.chan i).asked := by
  obtain ⟨-, e⟩ | ⟨j, hj, -, e⟩ := sendLight_cases d s
  · rw [e]
  · rw [e]
    refine (targetChange_asked_of_ne ?_ _ _).trans rfl
    by_cases hij : j = i
    · subst hij
      exact .inr (Bool.eq_false_of_not_eq_true fun hb => h ⟨hj, hb⟩)
    · exact .inl hij

theorem sendCurtain_asked (h : ¬((s.door d).cfg.curtain = some i ∧ (s.chan i).boundTo .curtain d = true)) :
    ((sendCurtain d s).chan i).asked = (s.chan i).asked := by
  obtain ⟨-, e⟩ | ⟨j, hj, -, e⟩ := sendCurtain_cases d s
  · rw [e]
  · rw [e]
    refine (targetChange_asked_of_ne ?_ _ _).trans rfl
    by_cases hij : j = i
    · subst hij
      exact .inr (Bool.eq_false_of_not_eq_true fun hb => h ⟨hj, hb⟩)
    · exact .inl hij

theorem sendLight_target (hi : (s.door d).cfg.light = some i) (hb : (s.chan i).boundTo .docklight d = true) :
    ((sendLight d s).chan i).target = (s.chan i).takesSent (s.lightTarget (s.door d)) (s.door d).sentLight := by
  unfold Channel.takesSent
  obtain ⟨same, e⟩ | ⟨j, hj, hv, e⟩ := sendLight_cases d s
  · rw [e, if_pos (same i hi)]
  · obtain rfl := Option.some.inj (hi.symm.trans hj)
    rw [e, if_neg hv]
    exact (targetChange_target (s := s.putDoor d _) hb (by decide) _ _).trans (takes_of_step hb (by decide) _)

theorem sendCurtain_target (hi : (s.door d).cfg.curtain = some i) (hb : (s.chan i).boundTo .curtain d = true) :
    ((sendCurtain d s).chan i).target = (s.chan i).takesSent (s.curtainTarget (s.door d)) (s.door d).sentCurtain := by
  unfold Channel.takesSent
  obtain ⟨same, e⟩ | ⟨j, hj, hv, e⟩ := sendCurtain_cases d s
  · rw [e, if_pos (same i hi)]
  · obtain rfl := Option.some.inj (hi.symm.trans hj)
    rw [e, if_neg hv]
    exact (targetChange_target (s := s.putDoor d _) hb (by decide) _ _).trans (takes_of_step hb (by decide) _)

theorem sendLight_chan_cfg (d : Fin 32) (s : State) (i : Fin 128) : ((sendLight d s).chan i).cfg = (s.chan i).cfg := by
  obtain ⟨-, e⟩ | ⟨j, -, -, e⟩ := sendLight_cases d s
  · rw [e]
  · rw [e, targetChange_cfg]
    rfl

/-- The state of a door that the curtain target is worked out from stands over the dock light's. -/
theorem sendLight_curtain (d : Fin 32) (s : State) : ((sendLight d s).door d).cfg = (s.door d).cfg
    ∧ ((sendLight d s).door d).sentCurtain = (s.door d).sentCurtain
    ∧ (sendLight d s).curtainTarget ((sendLight d s).door d) = s.curtainTarget (s.door d) := by
  have light := sendLight_shape d s
  have state : ((sendLight d s).door d).state = (s.door d).state := (congrArg Door.state light :)
  exact ⟨(congrArg Door.cfg light :), (congrArg Door.sentCurtain light :), curtainTarget_congr (sendLight_stop d s) state⟩

/-- What a door's targets ask: its dock light and its curtain channel, each bound to it, and no other. -/
theorem sendDoorTargets_asked (hl : ¬((s.door d).cfg.light = some i ∧ (s.chan i).boundTo .docklight d = true))
    (hc : ¬((s.door d).cfg.curtain = some i ∧ (s.chan i).boundTo .curtain d = true)) :
    ((sendDoorTargets d s).chan i).asked = (s.chan i).asked := by
  unfold sendDoorTargets
  obtain ⟨cfg, -, -⟩ := sendLight_curtain d s
  rw [sendCurtain_asked, sendLight_asked hl]
  rw [cfg, boundTo_congr (sendLight_chan_cfg d s i)]
  exact hc

theorem sendDoorTargets_light (hi : (s.door d).cfg.light = some i) (hb : (s.chan i).boundTo .docklight d = true) :
    ((sendDoorTargets d s).chan i).target = (s.chan i).takesSent (s.lightTarget (s.door d)) (s.door d).sentLight := by
  have uncurtained : ¬(((sendLight d s).door d).cfg.curtain = some i ∧ ((sendLight d s).chan i).boundTo .curtain d = true) := by
    rintro ⟨-, hn⟩
    rw [boundTo_congr (sendLight_chan_cfg d s i)] at hn
    cases (Channel.boundTo_iff.mp hb).1.symm.trans (Channel.boundTo_iff.mp hn).1
  unfold sendDoorTargets
  rw [← sendLight_target hi hb]
  exact congrArg (fun a => a.2.1) (sendCurtain_asked uncurtained)

theorem sendDoorTargets_curtain (hi : (s.door d).cfg.curtain = some i) (hb : (s.chan i).boundTo .curtain d = true) :
    ((sendDoorTargets d s).chan i).target = (s.chan i).takesSent (s.curtainTarget (s.door d)) (s.door d).sentCurtain := by
  have unlit : ¬((s.door d).cfg.light = some i ∧ (s.chan i).boundTo .docklight d = true) := by
    rintro ⟨-, hn⟩
    cases (Channel.boundTo_iff.mp hb).1.symm.trans (Channel.boundTo_iff.mp hn).1
  have asked := sendLight_asked unlit
  simp only [Channel.asked, Prod.mk.injEq] at asked
  obtain ⟨chan, target, -, -⟩ := asked
  obtain ⟨cfg, sent, aim⟩ := sendLight_curtain d s
  unfold sendDoorTargets
  rw [sendCurtain_target (by rw [cfg]; exact hi) ((boundTo_congr chan _ _).trans hb), sent, aim]
  unfold Channel.takesSent
  rw [chan, target]

end Sys2Proof.Machine
end

section
/-! SUPPORT. What a move leaves of the door, the session log and the totals (R94 to R97, R112 to R115). -/

namespace Sys2Proof.Machine

variable {s t u v w : State} {d e : Fin 32} {i : Fin 128} {new : DoorState} {r : EndReason}

/-! ### The close of a session -/

theorem offerSession_budget (x : SessionRecord) (s : State) : (offerSession x s).budget = s.budget := by
  unfold offerSession
  split
  · rfl
  · dsimp only
    split
    · rfl
    · exact raise_budget _ _ _ _

theorem offerSession_seconds (x : SessionRecord) (s : State) : (offerSession x s).seconds = s.seconds := by
  unfold offerSession
  split
  · rfl
  · dsimp only
    split
    · rfl
    · exact raise_seconds _ _ _ _

theorem offerSession_doors (x : SessionRecord) (s : State) : (offerSession x s).dock.doors = s.dock.doors := by
  unfold offerSession
  split
  · rfl
  · dsimp only
    split
    · rfl
    · rw [raise_dock]
      rfl

theorem offerSession_door (x : SessionRecord) (s : State) (e : Fin 32) : (offerSession x s).door e = s.door e := by
  unfold State.door
  rw [offerSession_doors]

theorem closeSession_budget (d : Fin 32) (r : EndReason) (s : State) : (closeSession d r s).budget = s.budget := by
  unfold closeSession
  split
  · rfl
  · exact offerSession_budget _ _

theorem closeSession_seconds (d : Fin 32) (r : EndReason) (s : State) : (closeSession d r s).seconds = s.seconds := by
  unfold closeSession
  split
  · rfl
  · exact offerSession_seconds _ _

theorem closeSession_door (d e : Fin 32) (r : EndReason) (s : State) :
    (closeSession d r s).door e = if d = e then { s.door d with session := none } else s.door e := by
  unfold closeSession
  cases hy : (s.door d).session with
  | none =>
    dsimp only
    split
    · next h => rw [← h, ← hy]
    · rfl
  | some y =>
    dsimp only
    rw [offerSession_door, door_putDoor]

/-- Between s and t the session of a door closed into the log, or into the lost count with LOG_FULL for the first loss (R114, R115). -/
def State.Logs (s t : State) (d : Fin 32) (r : EndReason) (y : Session) : Prop :=
  (s.dock.log.length < 128 →
      t.dock.log = s.dock.log ++ [⟨d, r, s.plan.clock, y⟩] ∧ t.dock.lost = s.dock.lost ∧ t.dock.lossReported = s.dock.lossReported)
    ∧ (128 ≤ s.dock.log.length →
        t.dock.log = s.dock.log ∧ t.dock.lost = min 65535 (s.dock.lost + 1) ∧ t.dock.lossReported = true
          ∧ (s.dock.lossReported = false → ∀ u, t.Follows u →
              s.reports u ⟨.logFull, s.plan.clock, d, le16 y.number ++ le16 t.dock.lost⟩))

theorem offerSession_logs (d : Fin 32) (r : EndReason) (y : Session) (s : State) :
    s.Logs (offerSession ⟨d, r, s.plan.clock, y⟩ s) d r y := by
  refine ⟨fun room => ?_, fun full => ?_⟩
  · unfold offerSession
    rw [if_pos (show s.dock.log.length < Config.maxSessions from room)]
    exact ⟨rfl, rfl, rfl⟩
  · unfold offerSession
    rw [if_neg (show ¬s.dock.log.length < Config.maxSessions from Nat.not_lt.mpr full)]
    dsimp only
    cases hr : s.dock.lossReported with
    | true => exact ⟨rfl, rfl, rfl, fun h => by cases h⟩
    | false =>
      rw [if_neg Bool.false_ne_true, raise_dock]
      refine ⟨rfl, rfl, rfl, fun _ u hu => ?_⟩
      exact reports_of_raise (.of_line (.refl s) rfl) hu

theorem State.Logs.of_view {y : Session} (h : t.Logs u d r y) (hl : t.dock.log = s.dock.log) (hn : t.dock.lost = s.dock.lost)
    (hr : t.dock.lossReported = s.dock.lossReported) (hc : t.plan.clock = s.plan.clock) (hline : t.line = s.line) : s.Logs u d r y := by
  unfold State.Logs State.reports State.joined at *
  rwa [hl, hn, hr, hc, hline] at h

theorem State.Logs.after {y : Session} (h : s.Logs t d r y) (hl : u.dock.log = t.dock.log) (hn : u.dock.lost = t.dock.lost)
    (hr : u.dock.lossReported = t.dock.lossReported) (hu : t.Follows u) : s.Logs u d r y := by
  obtain ⟨room, full⟩ := h
  unfold State.Logs
  rw [hl, hn, hr]
  refine ⟨room, fun hf => ?_⟩
  obtain ⟨log, lost, reported, notice⟩ := full hf
  exact ⟨log, lost, reported, fun hn v hv => notice hn v (hu.trans hv)⟩

theorem closeSession_logs {y : Session} (hy : (s.door d).session = some y) (r : EndReason) : s.Logs (closeSession d r s) d r y := by
  unfold closeSession
  rw [hy]
  exact (offerSession_logs d r y (s.putDoor d { s.door d with session := none })).of_view rfl rfl rfl rfl rfl

theorem closeSession_of_none (hy : (s.door d).session = none) (r : EndReason) : closeSession d r s = s := by
  unfold closeSession
  rw [hy]

/-! ### The entry into a state -/

/-- A door's record as it enters a state, its session counted up to the present second; its rate is worked out behind it. -/
def State.entered (s : State) (d : Fin 32) (new : DoorState) : Door :=
  { s.movedTo (s.accruedDoor d) new (s.heldLengthNow d) with stamp := s.seconds }

theorem accruedDoor_state (s : State) (d : Fin 32) : (s.accruedDoor d).state = (s.door d).state := rfl

theorem leaveSession_door (d e : Fin 32) (new : DoorState) (r : EndReason) (s : State) :
    (leaveSession d new r s).door e
      = if d = e then (if new.docked then s.accruedDoor d else { s.accruedDoor d with session := none }) else s.door e := by
  unfold leaveSession
  split
  · next h => rw [accrue_door]
  · rw [closeSession_door, accrue_door, accrue_door, if_pos rfl]
    split <;> rfl

/-- A door that moves leaves the others their records whole. -/
theorem enterState_door_ne (h : d ≠ e) (new : DoorState) (r : EndReason) (s : State) : (enterState d new r s).door e = s.door e := by
  rw [enterState_eq]
  unfold refreshRate
  rw [door_putDoor, if_neg h]
  dsimp only
  split
  · unfold openSession
    change ((State.putDoor _ d _).door e) = _
    rw [door_putDoor, if_neg h, door_putDoor, if_neg h, leaveSession_door, if_neg h]
  · rw [door_putDoor, if_neg h, leaveSession_door, if_neg h]

theorem openSession_door (d : Fin 32) (s : State) : (openSession d s).door d = { s.door d with session := some s.newSession } := by
  unfold openSession
  change (State.putDoor _ d _).door d = _
  rw [door_putDoor_self]
  rfl

/-- A record written, with the session that opens behind it. -/
theorem written_door (c : Bool) (x : Door) (s : State) : (if c then openSession d (s.putDoor d x) else s.putDoor d x).door d
    = { x with session := if c then some s.newSession else x.session } := by
  cases c with
  | true =>
    rw [if_pos rfl, if_pos rfl, openSession_door, door_putDoor_self]
    rfl
  | false => rw [if_neg Bool.false_ne_true, if_neg Bool.false_ne_true, door_putDoor_self]

theorem refreshRate_door (d : Fin 32) (s : State) : (refreshRate d s).door d = { s.door d with rate := s.lossRate (s.door d) } :=
  door_putDoor_self s d _

theorem enterState_door (d : Fin 32) (new : DoorState) (r : EndReason) (s : State) :
    ∃ rate, (enterState d new r s).door d = { s.entered d new with rate := rate } := by
  have left := leaveSession_door d d new r s
  rw [if_pos rfl] at left
  rw [enterState_eq]
  dsimp only
  rw [refreshRate_door, written_door, leaveSession_heldLengthNow, leaveSession_newSession]
  generalize State.lossRate _ _ = rate
  refine ⟨rate, ?_⟩
  rw [left]
  unfold State.entered State.movedTo
  rw [accruedDoor_state]
  cases hn : new.docked <;> cases ho : (s.door d).state.docked <;> rfl

theorem openSession_budget (d : Fin 32) (s : State) : (openSession d s).budget = s.budget := rfl

theorem leaveSession_budget (d : Fin 32) (new : DoorState) (r : EndReason) (s : State) : (leaveSession d new r s).budget = s.budget := by
  unfold leaveSession
  split
  · exact accrue_budget s d
  · exact (closeSession_budget _ _ _).trans (accrue_budget s d)

theorem leaveSession_seconds (d : Fin 32) (new : DoorState) (r : EndReason) (s : State) : (leaveSession d new r s).seconds = s.seconds := by
  unfold leaveSession
  split
  · exact accrue_seconds d s
  · exact (closeSession_seconds _ _ _).trans (accrue_seconds d s)

theorem leaveSession_plan (d : Fin 32) (new : DoorState) (r : EndReason) (s : State) : (leaveSession d new r s).plan = (accrue d s).plan := by
  unfold leaveSession
  split
  · rfl
  · exact closeSession_plan _ _ _

theorem accrue_counts (d : Fin 32) (s : State) :
    (accrue d s).plan.totals.cycles = s.plan.totals.cycles ∧ (accrue d s).plan.totals.held = s.plan.totals.held := by
  rw [accrue_totals]
  split
  · exact ⟨rfl, rfl⟩
  · split <;> exact ⟨rfl, rfl⟩

/-- The state that a door leaves behind it as it enters another: its session closed, or opened, and its record written. -/
theorem enterState_fields (d : Fin 32) (new : DoorState) (r : EndReason) (s : State) :
    (enterState d new r s).budget = s.budget ∧ (enterState d new r s).seconds = s.seconds
      ∧ (enterState d new r s).plan = (accrue d s).plan
      ∧ (enterState d new r s).dock.log = (leaveSession d new r s).dock.log
      ∧ (enterState d new r s).dock.lost = (leaveSession d new r s).dock.lost
      ∧ (enterState d new r s).dock.lossReported = (leaveSession d new r s).dock.lossReported
      ∧ (enterState d new r s).dock.nextSession
        = (if new.docked && !(s.door d).state.docked then (if s.dock.nextSession < 65534 then s.dock.nextSession + 1 else 0)
          else s.dock.nextSession)
      ∧ (enterState d new r s).line = (leaveSession d new r s).line := by
  have budget := leaveSession_budget d new r s
  have seconds := leaveSession_seconds d new r s
  have plan := leaveSession_plan d new r s
  have next : (leaveSession d new r s).dock.nextSession = s.dock.nextSession := congrArg Session.number (leaveSession_newSession d new r s)
  rw [enterState_eq]
  generalize leaveSession d new r s = u at *
  dsimp only
  cases new.docked && !(s.door d).state.docked with
  | true =>
    refine ⟨budget, seconds, plan, rfl, rfl, rfl, ?_, rfl⟩
    rw [if_pos rfl, ← next]
    rfl
  | false => exact ⟨budget, seconds, plan, rfl, rfl, rfl, next, rfl⟩

theorem enterState_follows (d : Fin 32) (new : DoorState) (r : EndReason) (s : State) : s.Follows (enterState d new r s) :=
  (State.Follows.units s).enterState d new r (.refl s)

theorem accrue_line (d : Fin 32) (s : State) : (accrue d s).line = s.line := by
  unfold accrue
  dsimp only
  split
  · rfl
  · split <;> rfl

/-- The session that a move closes goes to the log, counted up to the present second. -/
theorem enterState_logs {y : Session} (hn : new.docked = false) (hy : (s.door d).session = some y) (r : EndReason) :
    s.Logs (enterState d new r s) d r (y.accrued (s.accruedEnergy d) (s.seconds - (s.door d).stamp) (s.door d).state) := by
  obtain ⟨-, -, -, log, lost, reported, -, line⟩ := enterState_fields d new r s
  have accrued : ((accrue d s).door d).session
      = some (y.accrued (s.accruedEnergy d) (s.seconds - (s.door d).stamp) (s.door d).state) := by
    rw [accrue_door, if_pos rfl]
    unfold State.accruedDoor
    rw [hy]
    rfl
  have dock := accrue_dock d s
  have closed := (closeSession_logs accrued r).of_view (s := s) (by rw [dock]; rfl) (by rw [dock]; rfl) (by rw [dock]; rfl)
    (accrue_plan_clock d s) (accrue_line d s)
  have left : leaveSession d new r s = closeSession d r (accrue d s) := by
    unfold leaveSession
    rw [hn]
    rfl
  rw [left] at log lost reported line
  exact closed.after log lost reported (.of_line (.refl _) line)

theorem enterState_keeps_log (h : new.docked = true ∨ (s.door d).session = none) (r : EndReason) :
    (enterState d new r s).dock.log = s.dock.log ∧ (enterState d new r s).dock.lost = s.dock.lost
      ∧ (enterState d new r s).dock.lossReported = s.dock.lossReported ∧ (enterState d new r s).line = s.line := by
  obtain ⟨-, -, -, log, lost, reported, -, line⟩ := enterState_fields d new r s
  have dock := accrue_dock d s
  have left : leaveSession d new r s = accrue d s := by
    unfold leaveSession
    obtain hn | hy := h
    · rw [if_pos hn]
    · split
      · rfl
      · refine closeSession_of_none ?_ r
        rw [accrue_door, if_pos rfl]
        unfold State.accruedDoor
        rw [hy]
        rfl
  rw [left] at log lost reported line
  rw [log, lost, reported, line, dock]
  exact ⟨rfl, rfl, rfl, accrue_line d s⟩

/-! ### A move (R94, R97) -/

/-- Between s and v a door moved, and counted a cycle or not: what a move leaves before its targets are sent. -/
structure State.Moved (s v : State) (d : Fin 32) (new : DoorState) (c : Bool) : Prop where
  door : ∃ rate, v.door d = { (if c then (s.entered d new).cycled else s.entered d new) with rate := rate }
  others : ∀ e, d ≠ e → v.door e = s.door e
  budget : v.budget = s.budget
  seconds : v.seconds = s.seconds
  clock : v.plan.clock = s.plan.clock
  stop : v.stop = s.stop
  check : v.dock.check = s.dock.check
  zoneDT : v.dock.zoneDT = s.dock.zoneDT
  cycles : v.plan.totals.cycles
    = if c then satAdd Config.max16 s.plan.totals.cycles 1 else s.plan.totals.cycles
  held : v.plan.totals.held = s.plan.totals.held
  next : v.dock.nextSession
    = (if new.docked && !(s.door d).state.docked then (if s.dock.nextSession < 65534 then s.dock.nextSession + 1 else 0)
      else s.dock.nextSession)
  logs : ∀ y, new.docked = false → (s.door d).session = some y →
    s.Logs v d .departed (y.accrued (s.accruedEnergy d) (s.seconds - (s.door d).stamp) (s.door d).state)
  kept : new.docked = true ∨ (s.door d).session = none →
    v.dock.log = s.dock.log ∧ v.dock.lost = s.dock.lost ∧ v.dock.lossReported = s.dock.lossReported ∧ v.line = s.line
  follows : s.Follows v

theorem doorClosed_zoneDT (d : Fin 32) (s : State) : DoorClosed d fun u => u.dock.zoneDT = s.dock.zoneDT where
  target i r v u _ h := by
    have same := congrArg Dock.zoneDT (forgetLoss_of_outside (targetChange_outside u i r d v false))
    exact Eq.trans same h
  door _ _ _ h := h
  log _ _ _ _ _ h := h
  totals _ _ h := h
  notice k n b u h := by
    have same := congrArg Dock.zoneDT (raise_dock k n b u)
    exact Eq.trans same h

theorem enterState_moved (d : Fin 32) (new : DoorState) (s : State) : s.Moved (enterState d new .departed s) d new false := by
  obtain ⟨budget, seconds, plan, -, -, -, next, -⟩ := enterState_fields d new .departed s
  have stop : (enterState d new .departed s).stop = s.stop := stop_of_outsideDock (enterState_outsideDock s d new .departed)
  have check : (enterState d new .departed s).dock.check = s.dock.check := (doorClosed_check d s).enterState new .departed rfl
  have zoneDT : (enterState d new .departed s).dock.zoneDT = s.dock.zoneDT := (doorClosed_zoneDT d s).enterState new .departed rfl
  have clock : (enterState d new .departed s).plan.clock = s.plan.clock := by rw [plan, accrue_plan_clock]
  obtain ⟨cycles, held⟩ := accrue_counts d s
  rw [← plan] at cycles held
  exact ⟨enterState_door d new .departed s, fun e h => enterState_door_ne h new .departed s, budget, seconds, clock, stop, check, zoneDT,
    cycles, held, next, fun y hn hy => enterState_logs hn hy .departed, fun h => enterState_keeps_log h .departed,
    enterState_follows d new .departed s⟩

theorem countCycle_moved (h : s.Moved u d new false) : s.Moved (countCycle d u) d new true := by
  obtain ⟨rate, door⟩ := h.door
  have cycled : (countCycle d u).door d = (u.door d).cycled := door_putDoor_self u d _
  refine ⟨⟨rate, ?_⟩, fun e he => ?_, h.budget, h.seconds, h.clock, h.stop, h.check, h.zoneDT, ?_, h.held, h.next, h.logs, h.kept, h.follows⟩
  · rw [cycled, door]
    rfl
  · refine Eq.trans ?_ (h.others e he)
    change (u.putDoor d _).door e = _
    rw [door_putDoor, if_neg he]
  · have cycles := h.cycles
    rw [if_neg Bool.false_ne_true] at cycles
    rw [if_pos rfl, ← cycles]
    rfl

theorem moveDoor_moved (d : Fin 32) (new : DoorState) (s : State) :
    s.Moved (moveDoor d new s) d new ((s.door d).state.shutType && new.isOpen) := by
  have entered := enterState_moved d new s
  unfold moveDoor
  dsimp only
  generalize enterState d new .departed s = u at *
  cases (s.door d).state.shutType && new.isOpen with
  | false => exact entered
  | true => exact countCycle_moved entered

end Sys2Proof.Machine
end

section
/-! PROOFS. The inputs of a door and the moves they bring (R92 to R99, R112 to R115). -/

namespace Sys2Proof.Machine

variable {s t u v w : State} {d e : Fin 32} {i : Fin 128} {new st : DoorState}

/-! ### The states of a door, in the words of the rules -/

theorem shutType_iff : st.shutType = true ↔ st = .shut ∨ st = .shutDocked ∨ st = .unknown := by cases st <;> simp [DoorState.shutType]

theorem isOpen_iff : st.isOpen = true ↔ st = .openDocked ∨ st = .openBare ∨ st = .held := by cases st <;> simp [DoorState.isOpen]

theorem docked_iff : st.docked = true ↔ st = .shutDocked ∨ st = .openDocked := by cases st <;> simp [DoorState.docked]

theorem lightTarget_eq (s : State) (x : Door) : s.lightTarget x
    = if s.stop.state = .running ∧ (x.state = .openDocked ∨ x.state = .openBare ∨ x.state = .held) then 1 else 0 := by
  unfold State.lightTarget
  simp only [Bool.and_eq_true, plantRunning_iff, isOpen_iff]

theorem curtainTarget_eq (s : State) (x : Door) : s.curtainTarget x
    = if s.stop.state = .running ∧ (x.state = .openBare ∨ x.state = .held) then 1 else 0 := by
  unfold State.curtainTarget
  simp only [Bool.and_eq_true, Bool.or_eq_true, beq_iff_eq, plantRunning_iff]

/-! ### A move, in the words of the rules -/

/-- What a step at a door keeps of it, of the other doors and of the Dock Supervisor. -/
def State.KeepsDoors (s t : State) (d : Fin 32) : Prop :=
  let x := s.door d
  (t.door d).cfg = x.cfg ∧ (t.door d).rawOpen = x.rawOpen ∧ (t.door d).rawPresent = x.rawPresent ∧ (t.door d).loop = x.loop
    ∧ (x.cfg.light = none → (t.door d).sentLight = x.sentLight)
    ∧ (x.cfg.curtain = none → (t.door d).sentCurtain = x.sentCurtain ∧ (t.door d).curtainRunning = x.curtainRunning)
    ∧ (∀ (e : Fin 32) (i : Fin 128), (s.door e).cfg.curtain = some i → (s.chan i).cfg.role = .curtain →
        (s.chan i).cfg.roleTarget = some e.val → ((s.door e).curtainRunning = true ↔ 0 < (s.chan i).granted) →
          ((t.door e).curtainRunning = true ↔ 0 < (t.chan i).granted))
    ∧ (∀ e, e ≠ d → (t.door e).forgetLoss = (s.door e).forgetLoss)
    ∧ { t.dock with
        doors := s.dock.doors, log := s.dock.log, lost := s.dock.lost, lossReported := s.dock.lossReported
        nextSession := s.dock.nextSession } = s.dock

/-- No held episode is counted. -/
def State.KeepsEpisodes (s t : State) (d : Fin 32) : Prop :=
  (t.door d).heldEpisodes = (s.door d).heldEpisodes ∧ t.plan.totals.held = s.plan.totals.held

/-- Between s and t a door moved to a state. -/
def State.Moves (s t : State) (d : Fin 32) (new : DoorState) : Prop :=
  let x := s.door d
  let docked := new = .shutDocked ∨ new = .openDocked
  let opens := docked ∧ x.state ≠ .shutDocked ∧ x.state ≠ .openDocked
  let cycle :=
    (x.state = .shut ∨ x.state = .shutDocked ∨ x.state = .unknown) ∧ (new = .openDocked ∨ new = .openBare ∨ new = .held)
  let counted := fun n => if cycle then min 65535 (n + 1) else n
  let elapsed := s.seconds - x.stamp
  let accrued : Session → Session := fun y =>
    { y with
      loss := min 4294967295 (y.loss + x.rate * elapsed)
      openSeconds := if x.state = .openDocked then min 4294967295 (y.openSeconds + elapsed) else y.openSeconds }
  let held := if s.plan.current.fields.kind = .changeover then 2 * x.cfg.heldTime else x.cfg.heldTime
  let light := if s.stop.state = .running ∧ (new = .openDocked ∨ new = .openBare ∨ new = .held) then 1 else 0
  let curtain := if s.stop.state = .running ∧ (new = .openBare ∨ new = .held) then 1 else 0
  let bound : Fin 128 → Role → Prop := fun i role =>
    (s.chan i).cfg.role = role ∧ (s.chan i).cfg.roleTarget = some d.val
  (t.door d).state = new ∧ (t.door d).stamp = s.seconds
    ∧ (t.door d).cycles = counted x.cycles ∧ t.plan.totals.cycles = counted s.plan.totals.cycles
    ∧ (opens →
        (t.door d).session
            = some ⟨s.dock.nextSession, s.plan.clock, s.plan.current.fields.label, 0, counted 0, 0⟩
          ∧ t.dock.nextSession = if s.dock.nextSession < 65534 then s.dock.nextSession + 1 else 0)
    ∧ (docked → ¬opens → (∀ y ∈ x.session, y.openSeconds ≤ 4294967295) →
        (t.door d).session = x.session.map fun y => { accrued y with cycles := counted y.cycles })
    ∧ (¬docked → (t.door d).session = none)
    ∧ (¬opens → t.dock.nextSession = s.dock.nextSession)
    ∧ (∀ y, ¬docked → x.session = some y →
        (s.dock.log.length < 128 →
            t.dock.log = s.dock.log ++ [⟨d, .departed, s.plan.clock, accrued y⟩] ∧ t.dock.lost = s.dock.lost
              ∧ t.dock.lossReported = s.dock.lossReported)
          ∧ (128 ≤ s.dock.log.length →
              t.dock.log = s.dock.log ∧ t.dock.lost = min 65535 (s.dock.lost + 1) ∧ t.dock.lossReported = true
                ∧ (s.dock.lossReported = false →
                    s.reports t ⟨.logFull, s.plan.clock, d, le16 y.number ++ le16 t.dock.lost⟩)))
    ∧ (docked ∨ x.session = none →
        t.dock.log = s.dock.log ∧ t.dock.lost = s.dock.lost ∧ t.dock.lossReported = s.dock.lossReported)
    ∧ (t.door d).heldT = (if new = .openBare then some held else none)
    ∧ (t.door d).heldLength = (if new = .openBare then held else x.heldLength)
    ∧ (∀ i, x.cfg.light = some i → (t.door d).sentLight = light
        ∧ (bound i .docklight →
            (t.chan i).target = if light = x.sentLight then (s.chan i).target else min light (s.chan i).cfg.steps))
    ∧ (∀ i, x.cfg.curtain = some i → (t.door d).sentCurtain = curtain
        ∧ (bound i .curtain →
            (t.chan i).target = if curtain = x.sentCurtain then (s.chan i).target else min curtain (s.chan i).cfg.steps))
    ∧ (∀ i, ¬(x.cfg.light = some i ∧ bound i .docklight) → ¬(x.cfg.curtain = some i ∧ bound i .curtain) →
        (t.chan i).asked = (s.chan i).asked)

/-! ### A door that moved, before its targets are sent -/

/-- Behind the move, in w, stand notices, and it may be a held episode, and no more. -/
structure State.Beside (v w : State) (d : Fin 32) : Prop where
  door : ∃ n, w.door d = { v.door d with heldEpisodes := n }
  others : ∀ e, d ≠ e → w.door e = v.door e
  budget : w.budget = v.budget
  seconds : w.seconds = v.seconds
  stop : w.stop = v.stop
  dock : { w.dock with doors := v.dock.doors } = v.dock
  cycles : w.plan.totals.cycles = v.plan.totals.cycles
  follows : v.Follows w

theorem State.Beside.refl (v : State) (d : Fin 32) : v.Beside v d :=
  ⟨⟨_, rfl⟩, fun _ _ => rfl, rfl, rfl, rfl, rfl, rfl, .refl v⟩

theorem State.Beside.raise (h : v.Beside w d) (k : NoticeKind) (n : Nat) (b : Bytes) : v.Beside (raise k n b w) d := by
  have door (e : Fin 32) : (Machine.raise k n b w).door e = w.door e := door_of_dock (raise_dock _ _ _ _) e
  refine ⟨?_, fun e he => (door e).trans (h.others e he), (raise_budget _ _ _ _).trans h.budget, (raise_seconds _ _ _ _).trans h.seconds,
    (raise_stop _ _ _ _).trans h.stop, ?_, ?_, h.follows.raise _ _ _⟩
  · rw [door]
    exact h.door
  · rw [raise_dock]
    exact h.dock
  · rw [raise_plan]
    exact h.cycles

theorem sendLight_dock (d : Fin 32) (s : State) (l : Table Door 32) : { (sendLight d s).dock with doors := l } = { s.dock with doors := l } := by
  obtain ⟨-, e⟩ | ⟨i, -, -, e⟩ := sendLight_cases d s
  · rw [e]
  · rw [e]
    exact congrArg (fun k => { k with doors := l })
      (forgetLoss_of_outside (targetChange_outside (s.putDoor d { s.door d with sentLight := s.lightTarget (s.door d) }) i .docklight d
        (s.lightTarget (s.door d)) false))

theorem sendCurtain_dock (d : Fin 32) (s : State) (l : Table Door 32) :
    { (sendCurtain d s).dock with doors := l } = { s.dock with doors := l } := by
  obtain ⟨-, e⟩ | ⟨i, -, -, e⟩ := sendCurtain_cases d s
  · rw [e]
  · rw [e]
    exact congrArg (fun k => { k with doors := l })
      (forgetLoss_of_outside (targetChange_outside (s.putDoor d { s.door d with sentCurtain := s.curtainTarget (s.door d) }) i .curtain d
        (s.curtainTarget (s.door d)) false))

/-- A door's targets leave the Dock Supervisor but for its doors. -/
theorem sendDoorTargets_dock (d : Fin 32) (s : State) (l : Table Door 32) :
    { (sendDoorTargets d s).dock with doors := l } = { s.dock with doors := l } :=
  (sendCurtain_dock d (sendLight d s) l).trans (sendLight_dock d s l)

/-- A write of a door that keeps its configuration and its curtain flag. -/
theorem State.CurtainKept.write {x : Door} (h : u.CurtainKept e i) (hc : x.cfg = (u.door d).cfg)
    (hr : x.curtainRunning = (u.door d).curtainRunning) : (u.putDoor d x).CurtainKept e i := by
  refine h.of_cfg rfl ?_ ?_ <;> rw [door_putDoor] <;> split
  · next he => rw [← he, hc]
  · rfl
  · next he => rw [hr, he]; exact h.flag
  · exact h.flag

theorem State.CurtainFree.write {x : Door} {b : Bool} (h : u.CurtainFree e b) (hc : x.cfg = (u.door d).cfg)
    (hr : x.curtainRunning = (u.door d).curtainRunning) : (u.putDoor d x).CurtainFree e b := by
  refine h.of_cfg (fun _ => rfl) ?_ ?_ <;> rw [door_putDoor] <;> split
  · next he => rw [← he, hc]
  · rfl
  · next he => rw [hr, he]
  · rfl

theorem sendDoorTargets_curtainKept (d : Fin 32) (h : s.CurtainKept e i) : (sendDoorTargets d s).CurtainKept e i :=
  (State.CurtainKept.arbiter e i).sendDoorTargets d (fun _ _ hu => hu.write rfl rfl) (fun _ _ hu => hu.write rfl rfl) h

theorem sendDoorTargets_curtainFree {b : Bool} (d : Fin 32) (h : s.CurtainFree e b) : (sendDoorTargets d s).CurtainFree e b :=
  (State.CurtainFree.arbiter e b).sendDoorTargets d (fun _ _ hu => hu.write rfl rfl) (fun _ _ hu => hu.write rfl rfl) h

/-- Behind the move stand the log and the numbers of the Dock Supervisor. -/
theorem sent_dock (hw : v.Beside w d) : { (sendDoorTargets d w).dock with doors := v.dock.doors } = v.dock :=
  (sendDoorTargets_dock d w v.dock.doors).trans hw.dock

theorem sent_follows (hw : v.Beside w d) : v.Follows (sendDoorTargets d w) := hw.follows.trans ((State.Follows.units w).sendDoorTargets d (.refl w))

theorem sent_counts (d : Fin 32) (w : State) : w.SameCounts (sendDoorTargets d w) := by
  have put (x : Door) (u : State) (hx : x.cfg = (u.door d).cfg) (hu : w.SameCounts u) : w.SameCounts (u.putDoor d x) := by
    refine hu.trans ⟨rfl, rfl, rfl, fun _ => ⟨rfl, rfl⟩, fun e => ?_⟩
    rw [door_putDoor]
    split
    · next he => rw [← he, hx]
    · rfl
  exact (State.SameCounts.arbiter w).sendDoorTargets d (fun _ u hu => put _ u rfl hu) (fun _ u hu => put _ u rfl hu) (.refl w)

theorem accrued_settled {y : Session} (hl : y.loss ≤ Config.max32) (ho : st = .openDocked → y.openSeconds ≤ Config.max32) :
    y.accrued 0 0 st = y := by
  unfold Session.accrued satAdd
  rw [Nat.add_zero, Nat.add_zero, min_eq_right hl]
  split
  · next h => rw [min_eq_right (ho h)]
  · rfl

theorem accrued_bounds (y : Session) (energy elapsed : Nat) (st : DoorState) : (y.accrued energy elapsed st).loss ≤ Config.max32
    ∧ (y.openSeconds ≤ Config.max32 → (y.accrued energy elapsed st).openSeconds ≤ Config.max32) := by
  refine ⟨min_le_left _ _, fun h => ?_⟩
  unfold Session.accrued
  dsimp only
  split
  · exact min_le_left _ _
  · exact h

/-- Counting a cycle leaves what an accrual counts. -/
theorem settled_cycled {x : Door} (h : x.session.map (fun y => y.accrued 0 0 st) = x.session) (c : Bool) :
    (if c then x.cycled else x).session.map (fun y => y.accrued 0 0 st) = (if c then x.cycled else x).session := by
  cases c with
  | false => exact h
  | true =>
    rw [if_pos rfl]
    unfold Door.cycled
    dsimp only
    cases hx : x.session with
    | none => rfl
    | some y =>
      rw [hx] at h
      have same : y.accrued 0 0 st = y := Option.some.inj h
      rw [Option.map_some, Option.map_some]
      exact congrArg some (congrArg (fun z : Session => { z with cycles := satAdd Config.max16 z.cycles 1 }) same)

theorem movedSession_settled (c : Bool) (ho : ∀ y ∈ (s.door d).session, y.openSeconds ≤ Config.max32) :
    (if c then (s.entered d new).cycled else s.entered d new).session.map
        (fun x => x.accrued 0 0 new)
      = (if c then (s.entered d new).cycled else s.entered d new).session := by
  refine settled_cycled ?_ _
  unfold State.entered State.movedTo State.accruedDoor
  dsimp only
  split
  · split
    · cases hx : (s.door d).session with
      | none => rfl
      | some y =>
        obtain ⟨loss, opened⟩ := accrued_bounds y (s.accruedEnergy d) (s.seconds - (s.door d).stamp) (s.door d).state
        exact congrArg some (accrued_settled loss fun _ => opened (ho y hx))
    · exact congrArg some (accrued_settled (Nat.zero_le _) fun _ => Nat.zero_le _)
  · rfl

theorem openedSession_settled (c : Bool) (hn : new.docked = true) (hx : (s.door d).state.docked = false) :
    (if c then (s.entered d new).cycled else s.entered d new).session.map
        (fun x => x.accrued 0 0 new)
      = (if c then (s.entered d new).cycled else s.entered d new).session := by
  refine settled_cycled ?_ _
  unfold State.entered State.movedTo State.accruedDoor
  dsimp only
  rw [hn, hx]
  exact congrArg some (accrued_settled (Nat.zero_le _) fun _ => Nat.zero_le _)

section Sent

variable {c : Bool} (h : s.Moved v d new c) (hw : v.Beside w d)
include h hw

theorem beside_door : ∃ rate n, w.door d = { (if c then (s.entered d new).cycled else s.entered d new)
    with rate := rate, heldEpisodes := n } := by
  obtain ⟨rate, hv⟩ := h.door
  obtain ⟨n, hn⟩ := hw.door
  exact ⟨rate, n, by rw [hn, hv]⟩

/-- The session that the door holds in its new state. -/
theorem beside_rests : w.Rests d s.seconds new
    (if c then (s.entered d new).cycled else s.entered d new).session := by
  obtain ⟨rate, n, hd⟩ := beside_door h hw
  refine ⟨hw.seconds.trans h.seconds, ?_, ?_, fun _ => ?_⟩ <;> rw [hd]
  · split <;> rfl
  · split <;> rfl

theorem sent_rests : (sendDoorTargets d w).Rests d s.seconds new
    (if c then (s.entered d new).cycled else s.entered d new).session := by
  refine State.Rests.arbiter.sendDoorTargets d (fun v u hu => ?_) (fun v u hu => ?_) (beside_rests h hw)
  · exact hu.of_door rfl (by rw [door_putDoor_self]) (by rw [door_putDoor_self]) (by rw [door_putDoor_self])
  · exact hu.of_door rfl (by rw [door_putDoor_self]) (by rw [door_putDoor_self]) (by rw [door_putDoor_self])

/-- The record of the door, but for its loss, its session and curtain running, once its targets are sent. -/
theorem sent_shape : ∃ y, (sendDoorTargets d w).shape d = { s.shape d with
    state := new
    cycles := if c then satAdd Config.max16 (s.door d).cycles 1 else (s.door d).cycles
    heldT := if new = .openBare then some (s.heldLengthNow d) else none
    heldLength := if new = .openBare then s.heldLengthNow d else (s.door d).heldLength
    heldEpisodes := (w.door d).heldEpisodes
    sentLight := if (s.door d).cfg.light = none then (s.door d).sentLight else s.lightTarget { s.door d with state := new }
    sentCurtain := if (s.door d).cfg.curtain = none then (s.door d).sentCurtain else s.curtainTarget { s.door d with state := new }
    session := y } := by
  obtain ⟨rate, n, hd⟩ := beside_door h hw
  have stop : w.stop = s.stop := hw.stop.trans h.stop
  have state : (w.shape d).state = new := (beside_rests h hw).state
  have light := lightTarget_congr (x := { s.door d with state := new }) (y := w.shape d) stop state
  have curtain := curtainTarget_congr (x := { s.door d with state := new }) (y := w.shape d) stop state
  rw [sendDoorTargets_shape]
  unfold State.aimed
  rw [light, curtain]
  refine ⟨(w.shape d).session, ?_⟩
  unfold State.shape
  rw [hd]
  unfold State.entered State.movedTo State.accruedDoor
  generalize s.heldLengthNow d = length, s.lightTarget _ = lit, s.curtainTarget _ = drawn, s.accruedEnergy d = energy
  generalize s.door d = x
  cases c <;> rfl

theorem sent_shape_ne (he : d ≠ e) : (sendDoorTargets d w).shape e = s.shape e := by
  rw [sendDoorTargets_shape_ne he]
  unfold State.shape
  rw [hw.others e he, h.others e he]

/-- The targets work on the door as it moved. -/
theorem beside_aims : (w.door d).cfg = (s.door d).cfg ∧ (w.door d).sentLight = (s.door d).sentLight
    ∧ (w.door d).sentCurtain = (s.door d).sentCurtain ∧ (w.door d).curtainRunning = (s.door d).curtainRunning
    ∧ w.lightTarget (w.door d) = s.lightTarget { s.door d with state := new }
    ∧ w.curtainTarget (w.door d) = s.curtainTarget { s.door d with state := new } := by
  have state : (w.door d).state = new := (beside_rests h hw).state
  have stop : w.stop = s.stop := hw.stop.trans h.stop
  obtain ⟨rate, n, hd⟩ := beside_door h hw
  have same : (w.door d).cfg = (s.door d).cfg ∧ (w.door d).sentLight = (s.door d).sentLight
      ∧ (w.door d).sentCurtain = (s.door d).sentCurtain ∧ (w.door d).curtainRunning = (s.door d).curtainRunning := by
    rw [hd]
    unfold State.entered State.movedTo State.accruedDoor
    cases c <;> exact ⟨rfl, rfl, rfl, rfl⟩
  obtain ⟨cfg, light, curtain, running⟩ := same
  exact ⟨cfg, light, curtain, running, lightTarget_congr stop state, curtainTarget_congr stop state⟩

theorem beside_chan (i : Fin 128) : w.chan i = s.chan i := by
  unfold State.chan
  rw [hw.budget, h.budget]

theorem sent_light (hi : (s.door d).cfg.light = some i) (hb : (s.chan i).boundTo .docklight d = true) :
    ((sendDoorTargets d w).chan i).target
      = (s.chan i).takesSent (s.lightTarget { s.door d with state := new }) (s.door d).sentLight := by
  obtain ⟨cfg, light, -, -, target, -⟩ := beside_aims h hw
  rw [sendDoorTargets_light (by rw [cfg]; exact hi) (by rw [beside_chan h hw]; exact hb), beside_chan h hw, target, light]

theorem sent_curtain (hi : (s.door d).cfg.curtain = some i) (hb : (s.chan i).boundTo .curtain d = true) :
    ((sendDoorTargets d w).chan i).target
      = (s.chan i).takesSent (s.curtainTarget { s.door d with state := new }) (s.door d).sentCurtain := by
  obtain ⟨cfg, -, curtain, -, -, target⟩ := beside_aims h hw
  rw [sendDoorTargets_curtain (by rw [cfg]; exact hi) (by rw [beside_chan h hw]; exact hb), beside_chan h hw, target, curtain]

theorem sent_asked (hl : ¬((s.door d).cfg.light = some i ∧ (s.chan i).boundTo .docklight d = true))
    (hc : ¬((s.door d).cfg.curtain = some i ∧ (s.chan i).boundTo .curtain d = true)) :
    ((sendDoorTargets d w).chan i).asked = (s.chan i).asked := by
  obtain ⟨cfg, -⟩ := beside_aims h hw
  rw [sendDoorTargets_asked, beside_chan h hw]
  · rw [cfg, beside_chan h hw]
    exact hl
  · rw [cfg, beside_chan h hw]
    exact hc

theorem beside_running (e : Fin 32) : (w.door e).cfg = (s.door e).cfg ∧ (w.door e).curtainRunning = (s.door e).curtainRunning := by
  by_cases he : d = e
  · subst he
    obtain ⟨cfg, -, -, running, -⟩ := beside_aims h hw
    exact ⟨cfg, running⟩
  · rw [hw.others e he, h.others e he]
    exact ⟨rfl, rfl⟩

theorem sent_flag (hc : (s.door e).cfg.curtain = some i) (hb : (s.chan i).boundTo .curtain e = true)
    (hf : (s.door e).curtainRunning = true ↔ 0 < (s.chan i).granted) :
    ((sendDoorTargets d w).door e).curtainRunning = true ↔ 0 < ((sendDoorTargets d w).chan i).granted := by
  obtain ⟨cfg, running⟩ := beside_running h hw e
  have kept : w.CurtainKept e i := by
    refine ⟨by rw [cfg]; exact hc, ?_, ?_⟩ <;> rw [beside_chan h hw]
    · exact hb
    · rw [running]
      exact hf
  exact (sendDoorTargets_curtainKept d kept).flag

theorem sent_unflagged (hc : (s.door d).cfg.curtain = none) : ((sendDoorTargets d w).door d).curtainRunning = (s.door d).curtainRunning := by
  obtain ⟨cfg, running⟩ := beside_running h hw d
  have free : w.CurtainFree d (s.door d).curtainRunning :=
    ⟨(fun i hi => by rw [cfg, hc] at hi; cases hi), running⟩
  exact (sendDoorTargets_curtainFree d free).flag

theorem sent_keeps : s.KeepsDoors (sendDoorTargets d w) d := by
  obtain ⟨y, shape⟩ := sent_shape h hw
  have dock := sent_dock hw
  have unflagged := sent_unflagged h hw
  have flag {e : Fin 32} {i : Fin 128} := sent_flag h hw (e := e) (i := i)
  have others (e : Fin 32) (he : e ≠ d) := sent_shape_ne h hw (Ne.symm he)
  generalize sendDoorTargets d w = t at *
  refine ⟨(congrArg Door.cfg shape :), (congrArg Door.rawOpen shape :), (congrArg Door.rawPresent shape :), (congrArg Door.loop shape :),
    fun hn => ?_, fun hn => ⟨?_, unflagged hn⟩, fun e i hc hr ho hf => flag hc (Channel.boundTo_iff.mpr ⟨hr, ho⟩) hf, others, ?_⟩
  · exact (congrArg Door.sentLight shape :).trans (if_pos hn)
  · exact (congrArg Door.sentCurtain shape :).trans (if_pos hn)
  · have check : t.dock.check = s.dock.check := (congrArg Dock.check dock :).trans h.check
    have zoneDT : t.dock.zoneDT = s.dock.zoneDT := (congrArg Dock.zoneDT dock :).trans h.zoneDT
    dsimp only
    rw [check, zoneDT]

/-- The session the door holds behind its move, where the open seconds it had are within their bound. -/
theorem sent_session (ho : ∀ y ∈ (s.door d).session, y.openSeconds ≤ Config.max32) : ((sendDoorTargets d w).door d).session
    = (if c then (s.entered d new).cycled else s.entered d new).session :=
  (sent_rests h hw).session (movedSession_settled c ho)

theorem sent_opens (opens : new.docked = true ∧ (s.door d).state.docked = false) : ((sendDoorTargets d w).door d).session
      = (if c then (s.entered d new).cycled else s.entered d new).session :=
  (sent_rests h hw).session (openedSession_settled c opens.1 opens.2)

theorem sent_closed (hn : new.docked = false) : ((sendDoorTargets d w).door d).session = none := by
  have shape : ((sendDoorTargets d w).shape d).session = none := by
    rw [sendDoorTargets_shape]
    have moved : (w.door d).session = none := by
      obtain ⟨rate, n, hd⟩ := beside_door h hw
      rw [hd]
      unfold State.entered State.movedTo Door.cycled
      rw [hn]
      cases c <;> rfl
    change (w.door d).session.map _ = none
    rw [moved]
    rfl
  exact Option.map_eq_none_iff.mp shape

end Sent

end Sys2Proof.Machine
end

section
/-! PROOFS. The samples, debounce expiries and held expiries of a door (R92 to R99). -/

namespace Sys2Proof.Machine

variable {s t u v w : State} {d e : Fin 32} {i : Fin 128} {new st : DoorState}

/-! ### A move and the targets it sends, in the words of the rules -/

theorem opens_iff (x new : DoorState) : (new.docked && !x.docked) = true
    ↔ (new = .shutDocked ∨ new = .openDocked) ∧ x ≠ .shutDocked ∧ x ≠ .openDocked := by
  rw [Bool.and_eq_true, docked_iff, Bool.not_eq_true', ← Bool.not_eq_true, docked_iff, not_or]

theorem cycles_iff (x new : DoorState) : (x.shutType && new.isOpen) = true
    ↔ (x = .shut ∨ x = .shutDocked ∨ x = .unknown) ∧ (new = .openDocked ∨ new = .openBare ∨ new = .held) := by
  rw [Bool.and_eq_true, shutType_iff, isOpen_iff]

theorem undocked_iff : st.docked = false ↔ ¬(st = .shutDocked ∨ st = .openDocked) := by
  rw [← docked_iff, Bool.not_eq_true]

theorem counted_eq (x new : DoorState) (n : Nat) : (if x.shutType && new.isOpen then satAdd Config.max16 n 1 else n)
    = if (x = .shut ∨ x = .shutDocked ∨ x = .unknown) ∧ (new = .openDocked ∨ new = .openBare ∨ new = .held) then min 65535 (n + 1) else n :=
  if_congr (cycles_iff x new) rfl rfl

theorem openedSession_eq (c : Bool) (hn : new.docked = true) (hx : (s.door d).state.docked = false) :
    (if c then (s.entered d new).cycled else s.entered d new).session
      = some ⟨s.dock.nextSession, s.plan.clock, s.plan.current.fields.label, 0, if c then satAdd Config.max16 0 1 else 0, 0⟩ := by
  have entered : (s.entered d new).session = some s.newSession := by
    unfold State.entered State.movedTo
    dsimp only
    rw [hn, accruedDoor_state, hx]
    rfl
  cases c with
  | false => exact entered
  | true =>
    rw [if_pos rfl]
    unfold Door.cycled
    dsimp only
    rw [entered]
    rfl

theorem keptSession_eq (c : Bool) (hn : new.docked = true) (hx : (s.door d).state.docked = true) :
    (if c then (s.entered d new).cycled else s.entered d new).session
      = (s.door d).session.map fun y =>
          { y.accrued (s.accruedEnergy d) (s.seconds - (s.door d).stamp) (s.door d).state with
            cycles := if c then satAdd Config.max16 y.cycles 1 else y.cycles } := by
  have entered : (s.entered d new).session
      = (s.door d).session.map fun y => y.accrued (s.accruedEnergy d) (s.seconds - (s.door d).stamp) (s.door d).state := by
    unfold State.entered State.movedTo
    dsimp only
    rw [hn, accruedDoor_state, hx]
    rfl
  cases c with
  | false => exact entered
  | true =>
    rw [if_pos rfl]
    unfold Door.cycled
    dsimp only
    rw [entered, Option.map_map]
    rfl

theorem sent_moves (h : s.Moved v d new ((s.door d).state.shutType && new.isOpen)) (hw : v.Beside w d) : s.Moves (sendDoorTargets d w) d new := by
  obtain ⟨y, shape⟩ := sent_shape h hw
  have dock := sent_dock hw
  have follows := sent_follows hw
  have stamp := (sent_rests h hw).stamp
  have cycles : (sendDoorTargets d w).plan.totals.cycles = v.plan.totals.cycles := (sent_counts d w).cycles.trans hw.cycles
  have opened := sent_opens h hw
  have kept := sent_session h hw
  have closed := sent_closed h hw
  have light {i : Fin 128} := sent_light h hw (i := i)
  have curtain {i : Fin 128} := sent_curtain h hw (i := i)
  have asked {i : Fin 128} := sent_asked h hw (i := i)
  generalize sendDoorTargets d w = t at *
  have next : t.dock.nextSession = v.dock.nextSession := (congrArg Dock.nextSession dock :)
  have log : t.dock.log = v.dock.log := (congrArg Dock.log dock :)
  have lost : t.dock.lost = v.dock.lost := (congrArg Dock.lost dock :)
  have reported : t.dock.lossReported = v.dock.lossReported := (congrArg Dock.lossReported dock :)
  refine ⟨(congrArg Door.state shape :), stamp, (congrArg Door.cycles shape :).trans (counted_eq _ _ _),
    cycles.trans (h.cycles.trans (counted_eq _ _ _)), fun ho => ⟨?_, ?_⟩, fun hd hn hb => ?_, fun hn => closed (undocked_iff.mpr hn),
    fun hn => ?_, fun y hn hy => ?_, fun hk => ?_, (congrArg Door.heldT shape :), (congrArg Door.heldLength shape :),
    fun i hi => ⟨?_, fun hb => ?_⟩, fun i hi => ⟨?_, fun hb => ?_⟩, fun i hl hc => ?_⟩
  · have hx : (s.door d).state.docked = false := undocked_iff.mpr (not_or.mpr ho.2)
    rw [opened ⟨docked_iff.mpr ho.1, hx⟩, openedSession_eq _ (docked_iff.mpr ho.1) hx, counted_eq]
  · rw [next, h.next, if_pos ((opens_iff _ _).mpr ho)]
  · have hx : (s.door d).state.docked = true := by
      by_contra hx
      exact hn ⟨hd, not_or.mp (undocked_iff.mp (Bool.eq_false_of_not_eq_true hx))⟩
    rw [kept hb, keptSession_eq _ (docked_iff.mpr hd) hx]
    simp only [counted_eq]
    rfl
  · rw [next, h.next, if_neg fun ho => hn ((opens_iff _ _).mp ho)]
  · obtain ⟨room, full⟩ := (h.logs y (undocked_iff.mpr hn) hy).after log lost reported follows
    refine ⟨room, fun hf => ?_⟩
    obtain ⟨log', lost', reported', notice⟩ := full hf
    exact ⟨log', lost', reported', fun hr => notice hr t (.refl t)⟩
  · obtain ⟨log', lost', reported', -⟩ := h.kept (hk.imp_left docked_iff.mpr)
    exact ⟨log.trans log', lost.trans lost', reported.trans reported'⟩
  · refine (congrArg Door.sentLight shape :).trans ((if_neg ?_).trans (lightTarget_eq _ _))
    rw [hi]
    exact Option.some_ne_none i
  · rw [light hi (Channel.boundTo_iff.mpr hb)]
    unfold Channel.takesSent
    rw [lightTarget_eq]
  · refine (congrArg Door.sentCurtain shape :).trans ((if_neg ?_).trans (curtainTarget_eq _ _))
    rw [hi]
    exact Option.some_ne_none i
  · rw [curtain hi (Channel.boundTo_iff.mpr hb)]
    unfold Channel.takesSent
    rw [curtainTarget_eq]
  · exact asked (fun hn => hl ⟨hn.1, Channel.boundTo_iff.mp hn.2⟩) (fun hn => hc ⟨hn.1, Channel.boundTo_iff.mp hn.2⟩)

end Sys2Proof.Machine
end

section
/-! PROOFS. The samples, debounce expiries and held expiries of a door (R92 to R99): what each step is. -/

namespace Sys2Proof.Machine

variable {s t u v w : State} {d e : Fin 32} {i : Fin 128} {new st : DoorState} {input : DoorInput} {x : Door}

/-! ### A door whose inputs alone are written first -/

/-- The two records differ in their debounced inputs and debounce timers at most. -/
def Door.SameButInputs (x y : Door) : Prop :=
  ∃ a b p q, y = { x with debOpen := a, debPresent := b, contactT := p, presenceT := q }

theorem State.Moves.of_input (hx : (s.door d).SameButInputs x) (h : (s.putDoor d x).Moves t d new) : s.Moves t d new := by
  obtain ⟨a, b, p, q, rfl⟩ := hx
  unfold State.Moves at *
  rw [door_putDoor_self] at h
  exact h

theorem State.KeepsDoors.of_input (hx : (s.door d).SameButInputs x) (h : (s.putDoor d x).KeepsDoors t d) : s.KeepsDoors t d := by
  obtain ⟨a, b, p, q, rfl⟩ := hx
  unfold State.KeepsDoors at *
  rw [door_putDoor_self] at h
  obtain ⟨cfg, rawOpen, rawPresent, loop, light, curtain, flag, others, dock⟩ := h
  refine ⟨cfg, rawOpen, rawPresent, loop, light, curtain, fun e i hc hr ho hf => ?_, fun e he => (others e he).trans ?_, ?_⟩
  · refine flag e i ?_ hr ho ?_ <;> rw [door_putDoor] <;> split
    · next hde => subst hde; exact hc
    · exact hc
    · next hde => subst hde; exact hf
    · exact hf
  · rw [door_putDoor, if_neg (Ne.symm he)]
  · exact congrArg (fun k => { k with doors := s.dock.doors }) dock

theorem State.KeepsEpisodes.of_input (hx : (s.door d).SameButInputs x) (h : (s.putDoor d x).KeepsEpisodes t d) : s.KeepsEpisodes t d := by
  obtain ⟨a, b, p, q, rfl⟩ := hx
  unfold State.KeepsEpisodes at *
  rwa [door_putDoor_self] at h

/-! ### What a debounce expiry is (R92 to R94, R98) -/

/-- A door's record with the raw value of an input taken (R92). -/
def Door.tookRaw (x : Door) : DoorInput → Door
  | .contact => { x with debOpen := x.rawOpen, contactT := none }
  | .presence => { x with debPresent := x.rawPresent, presenceT := none }

theorem takeRaw_eq (d : Fin 32) (input : DoorInput) (s : State) : takeRaw d input s = s.putDoor d ((s.door d).tookRaw input) := by
  cases input <;> rfl

theorem tookRaw_same (x : Door) (input : DoorInput) : x.SameButInputs (x.tookRaw input) := by
  cases input
  · exact ⟨_, _, _, _, rfl⟩
  · exact ⟨_, _, _, _, rfl⟩

/-- The state that the debounced inputs of a door call for. -/
def Door.called (x : Door) (input : DoorInput) : DoorState :=
  if x.state = .unknown ∧ x.loop = .openLoop then .fault else pairState (x.tookRaw input).debOpen (x.tookRaw input).debPresent

theorem debounceExpired_unused (hx : (s.door d).state = .unused) : debounceExpired d input s = s.putDoor d ((s.door d).tookRaw input) := by
  unfold debounceExpired
  dsimp only
  rw [hx, takeRaw_eq]

theorem debounceExpired_unknown (hx : (s.door d).state = .unknown) : debounceExpired d input s
    = sendDoorTargets d (moveDoor d ((s.door d).called input) (s.putDoor d ((s.door d).tookRaw input))) := by
  unfold debounceExpired Door.called
  dsimp only
  rw [hx, takeRaw_eq]
  dsimp only
  rw [door_putDoor_self]
  simp only [true_and]

theorem debounceExpired_fault (hx : (s.door d).state = .fault) : debounceExpired d input s
    = if (s.door d).changes input = true ∧ input = .presence then
        trailerNotice d ((s.door d).tookRaw input).debPresent none (s.putDoor d ((s.door d).tookRaw input))
      else s.putDoor d ((s.door d).tookRaw input) := by
  unfold debounceExpired
  dsimp only
  rw [hx, takeRaw_eq]
  dsimp only
  rw [door_putDoor_self]
  simp only [Bool.and_eq_true, decide_eq_true_eq]

theorem debounceExpired_still (hu : (s.door d).state ≠ .unknown) (hf : (s.door d).state ≠ .fault)
    (hc : (s.door d).changes input = false) : debounceExpired d input s = s.putDoor d ((s.door d).tookRaw input) := by
  unfold debounceExpired
  dsimp only
  split
  · rw [takeRaw_eq]
  · next hx => exact absurd hx hu
  · next hx => exact absurd hx hf
  · rw [hc, takeRaw_eq]
    rfl

theorem debounceExpired_changes (hn : (s.door d).state ≠ .unused) (hu : (s.door d).state ≠ .unknown) (hf : (s.door d).state ≠ .fault)
    (hc : (s.door d).changes input = true) : debounceExpired d input s
    = sendDoorTargets d
        (if input = .presence then
          trailerNotice d ((s.door d).tookRaw input).debPresent ((s.door d).session.map (·.number))
            (moveDoor d ((s.door d).called input) (s.putDoor d ((s.door d).tookRaw input)))
        else moveDoor d ((s.door d).called input) (s.putDoor d ((s.door d).tookRaw input))) := by
  have called : (s.door d).called input = pairState ((s.door d).tookRaw input).debOpen ((s.door d).tookRaw input).debPresent :=
    if_neg fun h => hu h.1
  unfold debounceExpired
  dsimp only
  split
  · next hx => exact absurd hx hn
  · next hx => exact absurd hx hu
  · next hx => exact absurd hx hf
  · rw [hc, takeRaw_eq, door_putDoor_self, called]
    rfl

/-! ### The notices of a move -/

theorem offerSession_raisesOnly {K : NoticeKind → Prop} (hK : K .logFull) (y : SessionRecord) (s : State) : s.RaisesOnly K (offerSession y s) := by
  unfold offerSession
  split
  · exact .of_line (.refl s) rfl
  · dsimp only
    split
    · exact .of_line (.refl s) rfl
    · exact (State.RaisesOnly.of_line (.refl s) rfl).raise hK _ _

theorem closeSession_raisesOnly {K : NoticeKind → Prop} (hK : K .logFull) (d : Fin 32) (r : EndReason) (s : State) :
    s.RaisesOnly K (closeSession d r s) := by
  unfold closeSession
  split
  · exact .refl s
  · next y _ =>
    exact (State.RaisesOnly.of_line (.refl s) rfl).trans
      (offerSession_raisesOnly hK ⟨d, r, s.plan.clock, y⟩ (s.putDoor d { s.door d with session := none }))

theorem enterState_raisesOnly {K : NoticeKind → Prop} (hK : K .logFull) (d : Fin 32) (new : DoorState) (r : EndReason) (s : State) :
    s.RaisesOnly K (enterState d new r s) := by
  obtain ⟨-, -, -, -, -, -, -, line⟩ := enterState_fields d new r s
  refine State.RaisesOnly.of_line ?_ line
  have accrued : s.RaisesOnly K (accrue d s) := .of_line (.refl s) (accrue_line d s)
  unfold leaveSession
  split
  · exact accrued
  · exact accrued.trans (closeSession_raisesOnly hK d r _)

theorem moveDoor_raisesOnly {K : NoticeKind → Prop} (hK : K .logFull) (d : Fin 32) (new : DoorState) (s : State) :
    s.RaisesOnly K (moveDoor d new s) := by
  unfold moveDoor
  dsimp only
  split
  · exact .of_line (enterState_raisesOnly hK d new .departed s) rfl
  · exact enterState_raisesOnly hK d new .departed s

theorem sendDoorTargets_raisesOnly {K : NoticeKind → Prop} (hK : ∀ k : NoticeKind, k.ofHandOver → K k) (d : Fin 32) (h : s.RaisesOnly K t) :
    s.RaisesOnly K (sendDoorTargets d t) :=
  (State.RaisesOnly.arbiter hK s).sendDoorTargets d (fun _ _ hu => hu.of_line rfl) (fun _ _ hu => hu.of_line rfl) h

/-- Not a trailer notice. -/
def NoticeKind.ofNoTrailer (k : NoticeKind) : Prop := k ≠ .trailerArrived ∧ k ≠ .trailerDeparted

theorem ofNoTrailer_of_handOver (k : NoticeKind) (h : k.ofHandOver) : k.ofNoTrailer := by
  obtain rfl | rfl | rfl := h <;> exact ⟨by decide, by decide⟩

end Sys2Proof.Machine
end

section
/-! PROOFS. The samples, debounce expiries and held expiries of a door (R92 to R99). -/

namespace Sys2Proof.Machine

variable {s t u v w : State} {d e : Fin 32} {i : Fin 128} {new st : DoorState} {input : DoorInput} {x : Door}

/-- Behind v stands at most one notice. -/
def State.Heralds (v w : State) : Prop := w = v ∨ ∃ k n b, w = raise k n b v

theorem trailerNotice_heralds (d : Fin 32) (a : Bool) (c : Option Nat) (v : State) : v.Heralds (trailerNotice d a c v) := by
  unfold trailerNotice
  split <;> exact .inr ⟨_, _, _, rfl⟩

theorem State.Heralds.beside (h : v.Heralds w) (d : Fin 32) : v.Beside w d := by
  obtain rfl | ⟨k, n, b, rfl⟩ := h
  · exact .refl _ d
  · exact (State.Beside.refl v d).raise k n b

theorem State.Heralds.same (h : v.Heralds w) (d : Fin 32) : w.door d = v.door d ∧ w.plan = v.plan := by
  obtain rfl | ⟨k, n, b, rfl⟩ := h
  · exact ⟨rfl, rfl⟩
  · exact ⟨door_of_dock (raise_dock _ _ _ _) d, raise_plan _ _ _ _⟩

/-- What a door that moves on its inputs leaves, its targets sent. -/
theorem moved_whole (hx : (s.door d).SameButInputs x) (new : DoorState) (hw : (moveDoor d new (s.putDoor d x)).Heralds w) :
    s.KeepsDoors (sendDoorTargets d w) d ∧ s.KeepsEpisodes (sendDoorTargets d w) d ∧ s.Moves (sendDoorTargets d w) d new
      ∧ ((sendDoorTargets d w).door d).debOpen = x.debOpen ∧ ((sendDoorTargets d w).door d).debPresent = x.debPresent
      ∧ ((sendDoorTargets d w).door d).contactT = x.contactT ∧ ((sendDoorTargets d w).door d).presenceT = x.presenceT := by
  have moved := moveDoor_moved d new (s.putDoor d x)
  have beside := hw.beside d
  obtain ⟨same, plan⟩ := hw.same d
  obtain ⟨y, shape⟩ := sent_shape moved beside
  have record : (s.putDoor d x).shape d = x.forgetLoss := shape_putDoor_self d x s
  rw [record] at shape
  obtain ⟨rate, door⟩ := moved.door
  have episodes : (w.door d).heldEpisodes = x.heldEpisodes := by
    rw [same, door]
    unfold State.entered State.movedTo State.accruedDoor
    rw [door_putDoor_self]
    split <;> rfl
  refine ⟨.of_input hx (sent_keeps moved beside), .of_input hx ⟨?_, ?_⟩, .of_input hx (sent_moves moved beside),
    (congrArg Door.debOpen shape :), (congrArg Door.debPresent shape :), (congrArg Door.contactT shape :), (congrArg Door.presenceT shape :)⟩
  · rw [door_putDoor_self, ← episodes]
    exact (congrArg Door.heldEpisodes shape :)
  · rw [(sent_counts d w).held, plan]
    exact moved.held

/-- A debounce expiry of a door that moves: the move, its notice, and the targets. -/
theorem debounceExpired_moves (hn : (s.door d).state ≠ .unused) (hf : (s.door d).state ≠ .fault)
    (hc : (s.door d).state = .unknown ∨ (s.door d).changes input = true) :
    ∃ w, debounceExpired d input s = sendDoorTargets d w
      ∧ (moveDoor d ((s.door d).called input) (s.putDoor d ((s.door d).tookRaw input))).Heralds w
      ∧ (input = .contact ∨ (s.door d).state = .unknown → w = moveDoor d ((s.door d).called input) (s.putDoor d ((s.door d).tookRaw input)))
      ∧ (input = .presence → (s.door d).state ≠ .unknown →
          w = trailerNotice d (s.door d).rawPresent ((s.door d).session.map (·.number))
            (moveDoor d ((s.door d).called input) (s.putDoor d ((s.door d).tookRaw input)))) := by
  by_cases hu : (s.door d).state = .unknown
  · exact ⟨_, debounceExpired_unknown hu, .inl rfl, fun _ => rfl, fun _ h => absurd hu h⟩
  · have e := debounceExpired_changes hn hu hf (hc.resolve_left hu)
    cases input with
    | contact => exact ⟨_, e, .inl rfl, fun _ => rfl, (fun h => by cases h)⟩
    | presence =>
      exact ⟨_, e, trailerNotice_heralds d _ _ _, (fun h => h.elim (fun h => by cases h) fun h => absurd h hu), fun _ _ => rfl⟩

/-- The trailer notice of a move, or of a door that stays in FAULT (R98). -/
def State.Trails (s t : State) (d : Fin 32) : Prop :=
  s.reports t
    (if (s.door d).rawPresent = true then ⟨.trailerArrived, s.plan.clock, d, le8 (t.door d).state.code⟩
     else
      ⟨.trailerDeparted, s.plan.clock, d,
        le8 (t.door d).state.code
          ++ (match (s.door d).session, (s.door d).state with
            | some y, .shutDocked | some y, .openDocked => le16 y.number
            | _, _ => [0xFF, 0xFF])⟩)

/-- The session that a trailer notice says was closed. -/
def Door.closed (x : Door) : Bytes :=
  match x.session, x.state with
  | some y, .shutDocked | some y, .openDocked => le16 y.number
  | _, _ => [0xFF, 0xFF]

theorem closed_of_docked {x : Door} (h : ∀ y ∈ x.session, x.state = .shutDocked ∨ x.state = .openDocked) :
    leOpt16 (x.session.map (·.number)) = x.closed := by
  unfold Door.closed
  cases hy : x.session with
  | none => rfl
  | some y =>
    obtain hx | hx := h y hy
    · rw [hx]; rfl
    · rw [hx]; rfl

theorem closed_of_fault {x : Door} (h : x.state = .fault) : leOpt16 none = x.closed := by
  unfold Door.closed
  rw [h]
  cases x.session <;> rfl

theorem trailerNotice_trails {c : Option Nat} (hu : s.Follows u) (hclock : u.plan.clock = s.plan.clock)
    (ht : (trailerNotice d (s.door d).rawPresent c u).Follows t) (hs : (t.door d).state = (u.door d).state)
    (hc : leOpt16 c = (s.door d).closed) : s.Trails t d := by
  unfold State.Trails
  change s.reports t (if _ then _ else ⟨_, _, _, _ ++ (s.door d).closed⟩)
  rw [hs, ← hc, ← hclock]
  unfold trailerNotice at ht
  cases hp : (s.door d).rawPresent with
  | true =>
    rw [hp] at ht
    exact reports_of_raise hu ht
  | false =>
    rw [hp] at ht
    exact reports_of_raise hu ht

theorem moved_silent {v w : State} (hv : s.RaisesOnly NoticeKind.ofNoTrailer v) (d : Fin 32) (hw : v.RaisesOnly NoticeKind.ofNoTrailer w) :
    ∀ n ∈ s.joined (sendDoorTargets d w), n.kind ≠ .trailerArrived ∧ n.kind ≠ .trailerDeparted :=
  fun _ hn => (sendDoorTargets_raisesOnly ofNoTrailer_of_handOver d (hv.trans hw)).joined hn

theorem moveDoor_silent (d : Fin 32) (new : DoorState) (x : Door) (s : State) :
    s.RaisesOnly NoticeKind.ofNoTrailer (moveDoor d new (s.putDoor d x)) :=
  (State.RaisesOnly.of_line (.refl s) rfl).trans (moveDoor_raisesOnly ⟨by decide, by decide⟩ d new (s.putDoor d x))

theorem changes_contact (x : Door) : x.changes .contact = true ↔ x.debOpen ≠ x.rawOpen := bne_iff_ne
theorem changes_presence (x : Door) : x.changes .presence = true ↔ x.debPresent ≠ x.rawPresent := bne_iff_ne

theorem exec_debounceExpiry (hs : s.stage = .running) (ht : (s.door d).debounceT input = some 0) :
    exec (.debounceExpiry d input) s = .next (debounceExpired d input s) := by
  change execDebounceExpiry d input s = _
  unfold execDebounceExpiry
  exact whenRunning_runs hs (if_pos ht)

theorem exec_heldTimerExpiry (hs : s.stage = .running) (ht : (s.door d).heldT = some 0) :
    exec (.heldTimerExpiry d) s = .next (heldExpired d s) := by
  change execHeldTimerExpiry d s = _
  unfold execHeldTimerExpiry
  exact whenRunning_runs hs (if_pos ht)

theorem putDoor_putDoor (d : Fin 32) (x y : Door) (s : State) : (s.putDoor d x).putDoor d y = s.putDoor d y := by
  have doors : upd (upd s.dock.doors d x) d y = upd s.dock.doors d y := upd_upd _ _ _ _
  exact congrArg (fun l => s.setDock { s.dock with doors := l }) doors

theorem exec_doorInputSample_timed (hs : s.stage = .running) (hu : (s.door d).state ≠ .unused) (hc : s.dock.check = none) (level : Bool) :
    exec (.doorInputSample d .contact level) s
        = .next (s.putDoor d { s.door d with rawOpen := level, contactT := some (s.door d).cfg.debounce })
      ∧ exec (.doorInputSample d .presence level) s
          = .next (s.putDoor d { s.door d with rawPresent := level, presenceT := some (s.door d).cfg.debounce }) := by
  refine ⟨?_, ?_⟩
  · change execDoorInputSample d .contact level s = _
    unfold execDoorInputSample recordRaw restartDebounce
    dsimp only
    rw [if_pos ⟨hs, hu, hc⟩, putDoor_putDoor, door_putDoor_self]
  · change execDoorInputSample d .presence level s = _
    unfold execDoorInputSample recordRaw restartDebounce
    dsimp only
    rw [if_pos ⟨hs, hu, hc⟩, putDoor_putDoor, door_putDoor_self]

theorem exec_doorInputSample_recorded (h : (s.door d).state = .unused ∨ s.dock.check ≠ none) (level : Bool) :
    exec (.doorInputSample d .contact level) s = .next (s.putDoor d { s.door d with rawOpen := level })
      ∧ exec (.doorInputSample d .presence level) s = .next (s.putDoor d { s.door d with rawPresent := level }) := by
  have untimed : ¬(s.stage = .running ∧ (s.door d).state ≠ .unused ∧ s.dock.check = none) :=
    fun ⟨_, hu, hc⟩ => h.elim (fun h => hu h) fun h => h hc
  refine ⟨?_, ?_⟩
  · change execDoorInputSample d .contact level s = _
    unfold execDoorInputSample
    exact if_neg untimed
  · change execDoorInputSample d .presence level s = _
    unfold execDoorInputSample
    exact if_neg untimed

/-! ### The held timer (R96) -/

theorem heldExpired_eq (d : Fin 32) (s : State) :
    let u := enterState d .held .departed s
    let v := u.putDoor d { u.door d with heldEpisodes := satAdd 255 (u.door d).heldEpisodes 1 }
    heldExpired d s = sendDoorTargets d (raise .heldOpen d (le16 (u.door d).heldLength ++ le8 (u.door d).cfg.zone) (reportHeld v)) := rfl

/-- The door in HELD with its held episode counted and HELD_OPEN raised, before its targets are sent. -/
def State.heldOpen (s : State) (d : Fin 32) : State :=
  raise .heldOpen d (le16 (s.door d).heldLength ++ le8 (s.door d).cfg.zone)
    (reportHeld (s.putDoor d { s.door d with heldEpisodes := satAdd 255 (s.door d).heldEpisodes 1 }))

theorem heldOpen_beside (d : Fin 32) (v : State) : v.Beside (v.heldOpen d) d := by
  have counted : v.Beside (reportHeld (v.putDoor d { v.door d with heldEpisodes := satAdd 255 (v.door d).heldEpisodes 1 })) d := by
    refine ⟨⟨_, door_putDoor_self v d _⟩, fun e he => ?_, rfl, rfl, rfl, rfl, rfl, .refl v⟩
    change (v.putDoor d _).door e = _
    rw [door_putDoor, if_neg he]
  exact counted.raise _ _ _

theorem heldOpen_counts (d : Fin 32) (v : State) : ((v.heldOpen d).door d).heldEpisodes = min 255 ((v.door d).heldEpisodes + 1)
    ∧ (v.heldOpen d).plan.totals.held = min 65535 (v.plan.totals.held + 1) := by
  unfold State.heldOpen
  refine ⟨?_, ?_⟩
  · rw [door_of_dock (raise_dock _ _ _ _) d]
    change ((v.putDoor d _).door d).heldEpisodes = _
    rw [door_putDoor_self]
    rfl
  · rw [raise_plan]
    rfl

section Held

variable (hs : s.stage = .running) (ht : (s.door d).heldT = some 0)
include hs ht

theorem heldExpiry_moves : ∃ t, exec (.heldTimerExpiry d) s = .next t ∧ (t.door d).state = .held ∧ (t.door d).heldT = none
    ∧ (t.door d).heldEpisodes = min 255 ((s.door d).heldEpisodes + 1)
    ∧ t.plan.totals.held = min 65535 (s.plan.totals.held + 1)
    ∧ (t.door d).debOpen = (s.door d).debOpen ∧ (t.door d).debPresent = (s.door d).debPresent
    ∧ (t.door d).contactT = (s.door d).contactT ∧ (t.door d).presenceT = (s.door d).presenceT ∧ s.KeepsDoors t d
    ∧ ((s.door d).session = none → s.admits .heldOpen →
        s.raised t ⟨.heldOpen, s.plan.clock, d, le16 (s.door d).heldLength ++ le8 (s.door d).cfg.zone⟩)
    ∧ ((s.door d).state = .openBare → s.Moves t d .held
      ∧ ∀ n ∈ s.joined t, n.kind ≠ .trailerArrived ∧ n.kind ≠ .trailerDeparted) := by
  have moved := enterState_moved d .held s
  have raises := enterState_raisesOnly (K := NoticeKind.ofNoTrailer) ⟨by decide, by decide⟩ d .held .departed s
  have run := exec_heldTimerExpiry hs ht
  rw [show heldExpired d s = sendDoorTargets d ((enterState d .held .departed s).heldOpen d) from rfl] at run
  generalize enterState d .held .departed s = v at *
  have beside := heldOpen_beside d v
  obtain ⟨episodes, total⟩ := heldOpen_counts d v
  obtain ⟨rate, door⟩ := moved.door
  have entered : v.door d = { s.entered d .held with rate := rate } := door
  obtain ⟨y, shape⟩ := sent_shape moved beside
  refine ⟨_, run, (congrArg Door.state shape :), (congrArg Door.heldT shape :), ?_, ?_, (congrArg Door.debOpen shape :),
    (congrArg Door.debPresent shape :), (congrArg Door.contactT shape :), (congrArg Door.presenceT shape :), sent_keeps moved beside,
    fun hn ha => ?_, fun hx => ⟨?_, ?_⟩⟩
  · refine (congrArg Door.heldEpisodes shape :).trans (episodes.trans ?_)
    rw [entered]
    rfl
  · rw [(sent_counts d (v.heldOpen d)).held, total, moved.held]
  · obtain ⟨-, -, -, line⟩ := moved.kept (.inr hn)
    have raised : s.raised (v.heldOpen d) ⟨.heldOpen, s.plan.clock, d, le16 (v.door d).heldLength ++ le8 (v.door d).cfg.zone⟩ := by
      unfold State.heldOpen
      exact raise_raised line moved.clock _ _ ha
    rw [entered] at raised
    exact raised.follows ((State.Follows.units _).sendDoorTargets d (.refl _))
  · have uncounted : false = ((s.door d).state.shutType && DoorState.held.isOpen) := by rw [hx]; rfl
    exact sent_moves (uncounted ▸ moved) beside
  · have heralded : v.RaisesOnly NoticeKind.ofNoTrailer (v.heldOpen d) := by
      have quiet : NoticeKind.heldOpen.ofNoTrailer := ⟨by decide, by decide⟩
      unfold State.heldOpen
      exact (State.RaisesOnly.of_line (.refl v) rfl).raise quiet _ _
    exact moved_silent raises d heralded

end Held

/-! ### The debounce expiries (R92 to R94, R98) -/

theorem stays_contact (h : (s.door d).state = .unused ∨ (s.door d).state = .fault
    ∨ ((s.door d).state ≠ .unknown ∧ (s.door d).debOpen = (s.door d).rawOpen)) :
    debounceExpired d .contact s = s.putDoor d { s.door d with debOpen := (s.door d).rawOpen, contactT := none } := by
  obtain hx | hx | ⟨hu, same⟩ := h
  · exact debounceExpired_unused hx
  · rw [debounceExpired_fault hx, if_neg (by rintro ⟨-, h⟩; cases h)]
    rfl
  · by_cases hf : (s.door d).state = .fault
    · rw [debounceExpired_fault hf, if_neg (by rintro ⟨-, h⟩; cases h)]
      rfl
    · refine debounceExpired_still hu hf (Bool.eq_false_of_not_eq_true fun h => ?_)
      exact (changes_contact _).mp h same

theorem contact_moves (hs : s.stage = .running) (ht : (s.door d).contactT = some 0)
    (h : ¬((s.door d).state = .unused ∨ (s.door d).state = .fault
      ∨ ((s.door d).state ≠ .unknown ∧ (s.door d).debOpen = (s.door d).rawOpen))) :
    ∃ t, exec (.debounceExpiry d .contact) s = .next t ∧ (t.door d).contactT = none
      ∧ (t.door d).debOpen = (s.door d).rawOpen ∧ (t.door d).debPresent = (s.door d).debPresent
      ∧ (t.door d).presenceT = (s.door d).presenceT ∧ s.KeepsDoors t d ∧ s.KeepsEpisodes t d
      ∧ s.Moves t d ((s.door d).called .contact)
      ∧ ∀ n ∈ s.joined t, n.kind ≠ .trailerArrived ∧ n.kind ≠ .trailerDeparted := by
  rw [not_or, not_or, not_and_or, not_not] at h
  obtain ⟨hn, hf, hc⟩ := h
  obtain ⟨w, e, heralds, plain, -⟩ := debounceExpired_moves hn hf (hc.imp_right fun h => (changes_contact _).mpr h)
  have run := exec_debounceExpiry (input := .contact) hs ht
  obtain rfl := plain (.inl rfl)
  have silent := moved_silent (moveDoor_silent d ((s.door d).called .contact) ((s.door d).tookRaw .contact) s) d (.refl _)
  obtain ⟨keeps, episodes, moves, debOpen, debPresent, contactT, presenceT⟩ :=
    moved_whole (tookRaw_same (s.door d) .contact) ((s.door d).called .contact) heralds
  rw [← e] at keeps episodes moves debOpen debPresent contactT presenceT silent
  exact ⟨_, run, contactT, debOpen, debPresent, presenceT, keeps, episodes, moves, silent⟩

theorem trailerNotice_setLine (d : Fin 32) (a : Bool) (c : Option Nat) (u : State) (l : Line) :
    (trailerNotice d a c u).setLine l = u.setLine l := by
  unfold trailerNotice raise
  split <;> split <;> rfl

theorem trailerNotice_door (d : Fin 32) (a : Bool) (c : Option Nat) (u : State) (e : Fin 32) : (trailerNotice d a c u).door e = u.door e := by
  unfold trailerNotice
  split <;> exact door_of_dock (raise_dock _ _ _ _) e

theorem stays_presence (hs : s.stage = .running) (ht : (s.door d).presenceT = some 0)
    (h : (s.door d).state = .unused ∨ (s.door d).state = .fault
      ∨ ((s.door d).state ≠ .unknown ∧ ¬(s.door d).debPresent ≠ (s.door d).rawPresent)) :
    ∃ t, exec (.debounceExpiry d .presence) s = .next t
      ∧ t.setLine s.line = s.putDoor d { s.door d with debPresent := (s.door d).rawPresent, presenceT := none }
      ∧ ((s.door d).state = .fault ∧ (s.door d).debPresent ≠ (s.door d).rawPresent → s.Trails t d)
      ∧ (¬((s.door d).state = .fault ∧ (s.door d).debPresent ≠ (s.door d).rawPresent) → t.line = s.line) := by
  refine ⟨_, exec_debounceExpiry (input := .presence) hs ht, ?_⟩
  by_cases hf : (s.door d).state = .fault
  · by_cases hc : (s.door d).debPresent ≠ (s.door d).rawPresent
    · rw [debounceExpired_fault hf, if_pos ⟨(changes_presence _).mpr hc, rfl⟩]
      refine ⟨trailerNotice_setLine _ _ _ _ _, fun _ => ?_, fun hn => absurd ⟨hf, hc⟩ hn⟩
      exact trailerNotice_trails (u := s.putDoor d ((s.door d).tookRaw .presence)) (.of_line (.refl s) rfl) rfl (.refl _)
        (congrArg Door.state (trailerNotice_door _ _ _ _ _)) (closed_of_fault hf)
    · rw [debounceExpired_fault hf, if_neg fun h => hc ((changes_presence _).mp h.1)]
      exact ⟨rfl, fun h => absurd h.2 hc, fun _ => rfl⟩
  · have still : debounceExpired d .presence s = s.putDoor d ((s.door d).tookRaw .presence) := by
      obtain hx | hx | ⟨hu, same⟩ := h
      · exact debounceExpired_unused hx
      · exact absurd hx hf
      · exact debounceExpired_still hu hf (Bool.eq_false_of_not_eq_true fun h => same ((changes_presence _).mp h))
    rw [still]
    exact ⟨rfl, fun h => absurd h.1 hf, fun _ => rfl⟩

theorem presence_moves (hs : s.stage = .running) (ht : (s.door d).presenceT = some 0)
    (h : ¬((s.door d).state = .unused ∨ (s.door d).state = .fault
      ∨ ((s.door d).state ≠ .unknown ∧ ¬(s.door d).debPresent ≠ (s.door d).rawPresent))) :
    ∃ t, exec (.debounceExpiry d .presence) s = .next t ∧ (t.door d).presenceT = none
      ∧ (t.door d).debPresent = (s.door d).rawPresent ∧ (t.door d).debOpen = (s.door d).debOpen
      ∧ (t.door d).contactT = (s.door d).contactT ∧ s.KeepsDoors t d ∧ s.KeepsEpisodes t d
      ∧ s.Moves t d ((s.door d).called .presence)
      ∧ ((s.door d).state = .unknown → ∀ n ∈ s.joined t, n.kind ≠ .trailerArrived ∧ n.kind ≠ .trailerDeparted)
      ∧ ((s.door d).state ≠ .unknown → (∀ y ∈ (s.door d).session, (s.door d).state = .shutDocked ∨ (s.door d).state = .openDocked) →
          s.Trails t d) := by
  rw [not_or, not_or, not_and_or, not_not, not_not] at h
  obtain ⟨hn, hf, hc⟩ := h
  obtain ⟨w, e, heralds, plain, trails⟩ := debounceExpired_moves hn hf (hc.imp_right fun h => (changes_presence _).mpr h)
  have run := exec_debounceExpiry (input := .presence) hs ht
  obtain ⟨keeps, episodes, moves, debOpen, debPresent, contactT, presenceT⟩ :=
    moved_whole (tookRaw_same (s.door d) .presence) ((s.door d).called .presence) heralds
  have moved := moveDoor_moved d ((s.door d).called .presence) (s.putDoor d ((s.door d).tookRaw .presence))
  have silent := moveDoor_silent d ((s.door d).called .presence) ((s.door d).tookRaw .presence) s
  rw [e] at run
  refine ⟨_, run, presenceT, debPresent, debOpen, contactT, keeps, episodes, moves, fun hu => ?_, fun hu hy => ?_⟩
  · obtain rfl := plain (.inr hu)
    exact moved_silent silent d (.refl _)
  · have state := moves.1
    obtain rfl := trails rfl hu
    generalize moveDoor d ((s.door d).called .presence) (s.putDoor d ((s.door d).tookRaw .presence)) = v at *
    obtain ⟨rate, door⟩ := moved.door
    refine trailerNotice_trails (u := v) moved.follows moved.clock ((State.Follows.units _).sendDoorTargets d (.refl _)) ?_ (closed_of_docked hy)
    rw [state, door]
    split <;> rfl

/-! ### The obligation -/

/-- Settles O41: an expiry that moves the door is the raw value taken, one move, at most one trailer notice, and the targets sent; whatever the
arbiter then grants reaches the doors by their loss and their curtain flag alone. -/
theorem doorInputsMoveTheDoor : Obligations.DoorInputsMoveTheDoor := by
  refine ⟨⟨fun s d level hs hu hc => exec_doorInputSample_timed hs hu hc level, fun s d level _ h => exec_doorInputSample_recorded h level⟩,
    ⟨fun s d hs ht => ⟨fun stays => ?_, contact_moves hs ht⟩, fun s d hs ht => ⟨stays_presence hs ht, presence_moves hs ht⟩,
      fun s d input hs ht => ?_⟩,
    fun s d hs ht => heldExpiry_moves hs ht, fun s d hs ht => ?_⟩
  · rw [exec_debounceExpiry (input := .contact) hs ht, stays_contact stays]
  · change execDebounceExpiry d input s = _
    unfold execDebounceExpiry
    exact whenRunning_idle (if_neg ht)
  · change execHeldTimerExpiry d s = _
    unfold execHeldTimerExpiry
    exact whenRunning_idle (if_neg ht)

end Sys2Proof.Machine
end

section
/-! SUPPORT. The steps of CONFIG DOOR: the record replaced, the session it closes, and the channels it leaves and takes (R91). -/

namespace Sys2Proof.Machine

variable {s t u v w : State} {d e : Fin 32} {i j : Fin 128} {n : DoorConfig} {r : Role}

/-! ### What a target change does at the other channels -/

theorem settleShed_walked (j : Fin 128) (s : State) : (s.chan j).WalkedTo ((settleShed s).chan j) := by
  rw [settleShed_chan]
  exact .refl _

/-- A target change at one channel leaves the others what a walk leaves them. -/
theorem targetChange_walked (h : i ≠ j) (r : Role) (o v : Nat) (m : Bool) (s : State) :
    (s.chan j).WalkedTo ((targetChange i r o v m s).chan j) := by
  have put (c : Channel) : (s.putChan i c).chan j = s.chan j := chan_putChan_ne _ _ h
  have arbitrated {u : State} (hu : u.chan j = s.chan j) : (s.chan j).WalkedTo ((arbitrate u).chan j) := by
    rw [← hu]
    exact arbitrate_walked j u
  have settled {u : State} (hu : u.chan j = s.chan j) : (s.chan j).WalkedTo ((settleShed u).chan j) := by
    rw [← hu]
    exact settleShed_walked j u
  unfold targetChange
  dsimp only
  split
  · exact .refl _
  · split
    · exact .refl _
    · split
      · exact .refl _
      · unfold lightTargetChange
        dsimp only
        split
        · split
          · exact arbitrated (put _)
          · exact settled (put _)
        · split
          · exact arbitrated ((setGranted_chan_ne h _ _).trans (put _))
          · split
            · exact arbitrated (put _)
            · exact settled (put _)
    · split
      · exact .refl _
      · have kept (b : Bool) (c : Channel) : (keepEntry b i (s.putChan i c)).chan j = s.chan j := (keepEntry_chan_ne h _ _).trans (put _)
        unfold stepTarget
        dsimp only
        split
        · split
          · unfold release
            dsimp only
            refine arbitrated ((keepEntry_chan_ne h _ _).trans ((setGranted_chan_ne h _ _).trans ?_))
            rw [chan_putChan_ne _ _ h]
            exact kept _ _
          · exact settled (kept _ _)
        · split
          · exact arbitrated (kept _ _)
          · exact settled (kept _ _)

/-! ### A channel given up and a channel taken -/

/-- Between s and t the channel bound to the door by the old name was given up, and the one bound by the new name takes a target. -/
structure State.Retargets (s t : State) (r : Role) (d : Fin 32) (old new : Option (Fin 128)) (v : Nat) : Prop where
  cfg : ∀ i, (t.chan i).cfg = (s.chan i).cfg
  asked : ∀ i, ¬((old = some i ∨ new = some i) ∧ (s.chan i).boundTo r d = true) → (t.chan i).asked = (s.chan i).asked
  released : ∀ i, old = some i → new ≠ some i → (s.chan i).boundTo r d = true → (t.chan i).target = 0
  offered : ∀ i, new = some i → (s.chan i).boundTo r d = true → (t.chan i).target = min v (s.chan i).cfg.steps

theorem chan_of_budget (h : t.budget = s.budget) (i : Fin 128) : t.chan i = s.chan i := by
  unfold State.chan
  rw [h]

theorem releaseOld_chan_cfg (old : Option (Fin 128)) (r : Role) (d : Fin 32) (s : State) (i : Fin 128) :
    ((releaseOld old r d s).chan i).cfg = (s.chan i).cfg := by
  unfold releaseOld
  split
  · exact targetChange_cfg _ _ _ _ _ _ _
  · rfl

theorem releaseOld_asked {old : Option (Fin 128)} (h : ¬(old = some i ∧ (s.chan i).boundTo r d = true)) :
    ((releaseOld old r d s).chan i).asked = (s.chan i).asked := by
  unfold releaseOld
  split
  · next j =>
    refine targetChange_asked_of_ne ?_ _ _
    by_cases hj : j = i
    · subst hj
      exact .inr (Bool.eq_false_of_not_eq_true fun hb => h ⟨rfl, hb⟩)
    · exact .inl hj
  · rfl

theorem releaseOld_target (hr : r ≠ .unused) (hl : r ≠ .light) (h : (s.chan i).boundTo r d = true) :
    ((releaseOld (some i) r d s).chan i).target = 0 := by
  unfold releaseOld
  dsimp only
  rw [targetChange_target h hr, takes_of_step h hl, Nat.zero_min]

theorem releaseOld_walked {old : Option (Fin 128)} (h : old ≠ some j) (r : Role) (d : Fin 32) (s : State) :
    (s.chan j).WalkedTo ((releaseOld old r d s).chan j) := by
  unfold releaseOld
  split
  · next i => exact targetChange_walked (fun e => h (by rw [e])) _ _ _ _ _
  · exact .refl _

theorem retargets {old new : Option (Fin 128)} {x : Door} {x' : Door} {v : Nat} (hr : r ≠ .unused) (hl : r ≠ .light)
    (ht : ∀ i, new = some i → t = targetChange i r d v false ((releaseOld old r d s).putDoor d x))
    (hn : new = none → t = (releaseOld old r d s).putDoor d x') : s.Retargets t r d old new v := by
  have cfg := releaseOld_chan_cfg old r d s
  cases new with
  | none =>
    have chan (i : Fin 128) : t.chan i = (releaseOld old r d s).chan i := by rw [hn rfl]; rfl
    refine ⟨fun i => by rw [chan, cfg], fun i h => ?_, fun i ho _ hb => ?_, fun i h => by cases h⟩
    · rw [chan]
      exact releaseOld_asked fun hn => h ⟨.inl hn.1, hn.2⟩
    · rw [chan, ho]
      exact releaseOld_target hr hl hb
  | some k =>
    have ht := ht k rfl
    have bound : (((releaseOld old r d s).putDoor d x).chan k).boundTo r d = (s.chan k).boundTo r d := boundTo_congr (cfg k) _ _
    have apart (i : Fin 128) (h : k ≠ i ∨ (s.chan i).boundTo r d = false) : (t.chan i).asked = ((releaseOld old r d s).chan i).asked := by
      rw [ht]
      refine (targetChange_asked_of_ne ?_ _ _).trans rfl
      by_cases hk : k = i
      · subst hk
        exact .inr (bound.trans (h.resolve_left fun hn => hn rfl))
      · exact .inl hk
    refine ⟨fun i => ?_, fun i h => ?_, fun i ho hn hb => ?_, fun i h hb => ?_⟩
    · rw [ht, targetChange_cfg]
      exact cfg i
    · rw [apart i (not_and_or.mp (fun hn => h ⟨.inr (by rw [hn.1]), hn.2⟩ : ¬(k = i ∧ (s.chan i).boundTo r d = true)) |>.imp id
        Bool.eq_false_of_not_eq_true)]
      exact releaseOld_asked fun hn => h ⟨.inl hn.1, hn.2⟩
    · have ha := apart i (.inl fun e => hn (by rw [e]))
      rw [ho] at ha
      exact (congrArg (fun a => a.2.1) ha :).trans (releaseOld_target hr hl hb)
    · obtain rfl := Option.some.inj h
      rw [ht, targetChange_target (bound.trans hb) hr, takes_of_step (bound.trans hb) hl]
      exact congrArg (fun c : ChannelConfig => min v c.steps) (cfg k)

theorem State.Retargets.of_budget {old new : Option (Fin 128)} {x : Nat} (h : s.Retargets t r d old new x) (hb : u.budget = t.budget) :
    s.Retargets u r d old new x := by
  have chan := chan_of_budget hb
  refine ⟨fun i => ?_, fun i hi => ?_, fun i ho hn hi => ?_, fun i hn hi => ?_⟩ <;> rw [chan]
  · exact h.cfg i
  · exact h.asked i hi
  · exact h.released i ho hn hi
  · exact h.offered i hn hi

/-- The state of the door as its new channels are offered their targets. -/
theorem releaseOld_door (old : Option (Fin 128)) (r : Role) (d : Fin 32) (s : State) : ((releaseOld old r d s).door d).cfg = (s.door d).cfg
    ∧ (releaseOld old r d s).curtainTarget ((releaseOld old r d s).door d) = s.curtainTarget (s.door d)
    ∧ (releaseOld old r d s).lightTarget ((releaseOld old r d s).door d) = s.lightTarget (s.door d) := by
  have shape := releaseOld_shape old r d d s
  have stop := releaseOld_stop old r d s
  exact ⟨cfg_of_shape shape, curtainTarget_congr stop (state_of_shape shape), lightTarget_congr stop (state_of_shape shape)⟩

theorem offerCurtain_retargets (d : Fin 32) (old : Option (Fin 128)) (s : State) :
    s.Retargets (offerCurtain d (releaseOld old .curtain d s)) .curtain d old (s.door d).cfg.curtain (s.curtainTarget (s.door d)) := by
  obtain ⟨cfg, aim, -⟩ := releaseOld_door old .curtain d s
  refine retargets (x := { (releaseOld old .curtain d s).door d with sentCurtain := s.curtainTarget (s.door d) })
    (x' := { (releaseOld old .curtain d s).door d with sentCurtain := 0 }) (by decide) (by decide) (fun i hi => ?_) fun hn => ?_
  · unfold offerCurtain
    dsimp only
    rw [cfg, hi, aim]
  · unfold offerCurtain
    dsimp only
    rw [cfg, hn]

theorem offerLight_retargets (d : Fin 32) (old : Option (Fin 128)) (s : State) :
    s.Retargets (offerLight d (releaseOld old .docklight d s)) .docklight d old (s.door d).cfg.light (s.lightTarget (s.door d)) := by
  obtain ⟨cfg, -, aim⟩ := releaseOld_door old .docklight d s
  refine retargets (x := { (releaseOld old .docklight d s).door d with sentLight := s.lightTarget (s.door d) })
    (x' := { (releaseOld old .docklight d s).door d with sentLight := 0 }) (by decide) (by decide) (fun i hi => ?_) fun hn => ?_
  · unfold offerLight
    dsimp only
    rw [cfg, hi, aim]
  · unfold offerLight
    dsimp only
    rw [cfg, hn]

theorem changeCurtain_same {old : Option (Fin 128)} (h : (s.door d).cfg.curtain = old) : changeCurtain d old s = s := if_pos h

theorem changeCurtain_other {old : Option (Fin 128)} (h : (s.door d).cfg.curtain ≠ old) : changeCurtain d old s
    = setCurtainRunning d (0 < (offerCurtain d (releaseOld old .curtain d s)).curtainSteps d) (offerCurtain d (releaseOld old .curtain d s)) :=
  if_neg h

theorem changeLight_same {old : Option (Fin 128)} (h : (s.door d).cfg.light = old) : changeLight d old s = s := if_pos h

theorem changeLight_other {old : Option (Fin 128)} (h : (s.door d).cfg.light ≠ old) :
    changeLight d old s = offerLight d (releaseOld old .docklight d s) := if_neg h

theorem changeCurtain_retargets {old : Option (Fin 128)} (h : (s.door d).cfg.curtain ≠ old) :
    s.Retargets (changeCurtain d old s) .curtain d old (s.door d).cfg.curtain (s.curtainTarget (s.door d)) := by
  rw [changeCurtain_other h]
  exact (offerCurtain_retargets d old s).of_budget (setCurtainRunning_budget _ _ _)

theorem changeLight_retargets {old : Option (Fin 128)} (h : (s.door d).cfg.light ≠ old) :
    s.Retargets (changeLight d old s) .docklight d old (s.door d).cfg.light (s.lightTarget (s.door d)) := by
  rw [changeLight_other h]
  exact offerLight_retargets d old s

/-! ### What the change of channels leaves of the doors -/

section Closed

variable {I : State → Prop} (c : ArbiterClosed I) (d : Fin 32) (light : ∀ x u, I u → I (u.putDoor d { u.door d with sentLight := x }))
  (curtain : ∀ x u, I u → I (u.putDoor d { u.door d with sentCurtain := x }))

include c

theorem ArbiterClosed.releaseOld (old : Option (Fin 128)) (r : Role) (h : I s) : I (releaseOld old r d s) := by
  unfold Machine.releaseOld
  split
  · exact c.targetChange _ _ _ _ _ h
  · exact h

include light in
theorem ArbiterClosed.changeLight (old : Option (Fin 128)) (h : I s) : I (changeLight d old s) := by
  unfold Machine.changeLight
  split
  · exact h
  · have released := c.releaseOld d old .docklight h
    unfold offerLight
    dsimp only
    split
    · exact c.targetChange _ _ _ _ _ (light _ _ released)
    · exact light _ _ released

include curtain in
theorem ArbiterClosed.offerCurtain (old : Option (Fin 128)) (h : I s) : I (offerCurtain d (Machine.releaseOld old .curtain d s)) := by
  have released := c.releaseOld d old .curtain h
  unfold Machine.offerCurtain
  dsimp only
  split
  · exact c.targetChange _ _ _ _ _ (curtain _ _ released)
  · exact curtain _ _ released

end Closed

theorem offerCurtain_walked {old : Option (Fin 128)} (ho : old ≠ some j) (hb : (s.chan j).boundTo .curtain d = false) :
    (s.chan j).WalkedTo ((offerCurtain d (releaseOld old .curtain d s)).chan j) := by
  have released := releaseOld_walked ho .curtain d s
  have bound := (boundTo_congr (releaseOld_chan_cfg old .curtain d s j) .curtain d).trans hb
  generalize releaseOld old .curtain d s = u at released bound
  unfold offerCurtain
  dsimp only
  split
  · next i _ =>
    by_cases hi : i = j
    · subst hi
      rw [targetChange_of_not_bound (s := u.putDoor d _) bound]
      exact released
    · refine released.trans ?_
      exact targetChange_walked hi _ _ _ _ (u.putDoor d _)
  · exact released

theorem setCurtainRunning_dock (d : Fin 32) (b : Bool) (s : State) (l : Table Door 32) :
    { (setCurtainRunning d b s).dock with doors := l } = { s.dock with doors := l } :=
  congrArg (fun k => { k with doors := l }) (forgetLoss_of_outside (setCurtainRunning_outside s d b))

theorem targetChange_dock (i : Fin 128) (r : Role) (o v : Nat) (m : Bool) (s : State) (l : Table Door 32) :
    { (targetChange i r o v m s).dock with doors := l } = { s.dock with doors := l } :=
  congrArg (fun k => { k with doors := l }) (forgetLoss_of_outside (targetChange_outside s i r o v m))

theorem releaseOld_dock (old : Option (Fin 128)) (r : Role) (d : Fin 32) (s : State) (l : Table Door 32) :
    { (releaseOld old r d s).dock with doors := l } = { s.dock with doors := l } := by
  unfold releaseOld
  split
  · exact targetChange_dock _ _ _ _ _ _ _
  · rfl

theorem changeCurtain_dock (d : Fin 32) (old : Option (Fin 128)) (s : State) (l : Table Door 32) :
    { (changeCurtain d old s).dock with doors := l } = { s.dock with doors := l } := by
  by_cases h : (s.door d).cfg.curtain = old
  · rw [changeCurtain_same h]
  · rw [changeCurtain_other h, setCurtainRunning_dock, ← releaseOld_dock old .curtain d s]
    unfold offerCurtain
    dsimp only
    split
    · rw [targetChange_dock]
      rfl
    · rfl

theorem changeLight_dock (d : Fin 32) (old : Option (Fin 128)) (s : State) (l : Table Door 32) :
    { (changeLight d old s).dock with doors := l } = { s.dock with doors := l } := by
  by_cases h : (s.door d).cfg.light = old
  · rw [changeLight_same h]
  · rw [changeLight_other h, ← releaseOld_dock old .docklight d s]
    unfold offerLight
    dsimp only
    split
    · rw [targetChange_dock]
      rfl
    · rfl

end Sys2Proof.Machine
end

section
/-! SUPPORT. CONFIG DOOR: the record replaced, the enabling changed, and the session that closes (R91). -/

namespace Sys2Proof.Machine

variable {s t u v w : State} {d e : Fin 32} {i j : Fin 128} {n : DoorConfig} {tag : Byte} {body : Bytes} {rest : List Frame}

/-! ### The record replaced and the enabling changed -/

theorem startDebounce_door (d : Fin 32) (s : State) :
    (startDebounce d s).door d = { s.door d with contactT := some (s.door d).cfg.debounce, presenceT := some (s.door d).cfg.debounce } :=
  door_putDoor_self s d _

theorem enablingChange_door (d : Fin 32) (was now : Bool) (s : State) : (enablingChange d was now s).door d = (s.door d).switched was now := by
  unfold enablingChange Door.switched
  cases was <;> cases now <;> dsimp only
  · rw [startDebounce_door, door_putDoor_self]
  · rw [door_putDoor_self, closeSession_door, if_pos rfl]

theorem enablingChange_fields (d : Fin 32) (was now : Bool) (s : State) :
    (enablingChange d was now s).budget = s.budget ∧ (enablingChange d was now s).seconds = s.seconds := by
  unfold enablingChange
  cases was <;> cases now <;> dsimp only
  · exact ⟨rfl, rfl⟩
  · exact ⟨rfl, rfl⟩
  · exact ⟨closeSession_budget _ _ _, closeSession_seconds _ _ _⟩
  · exact ⟨rfl, rfl⟩

theorem switchDoor_door (d : Fin 32) (n : DoorConfig) (s : State) :
    (switchDoor d n s).door d = { s.accruedDoor d with cfg := n }.switched (s.door d).cfg.enabled n.enabled := by
  unfold switchDoor
  rw [enablingChange_door, door_putDoor_self, accrue_door, if_pos rfl]

theorem switchDoor_fields (d : Fin 32) (n : DoorConfig) (s : State) :
    (switchDoor d n s).budget = s.budget ∧ (switchDoor d n s).seconds = s.seconds := by
  unfold switchDoor
  obtain ⟨budget, seconds⟩ := enablingChange_fields d (s.door d).cfg.enabled n.enabled ((accrue d s).putDoor d { (accrue d s).door d with cfg := n })
  exact ⟨budget.trans (accrue_budget s d), seconds.trans (accrue_seconds d s)⟩

theorem switchDoor_follows (d : Fin 32) (n : DoorConfig) (s : State) : s.Follows (switchDoor d n s) := by
  unfold switchDoor
  exact (State.Follows.units s).enablingChange d _ _ ((State.Follows.units s).putDoor d _ ((State.Follows.units s).accrue d (.refl s)))

theorem State.Logs.putDoor {r : EndReason} {y : Session} (h : s.Logs t d r y) (x : Door) : s.Logs (t.putDoor d x) d r y := by
  have line : t.Follows (t.putDoor d x) := .of_line (.refl t) rfl
  exact h.after rfl rfl rfl line

/-- The session of a door that is disabled goes to the log. -/
theorem switchDoor_logs {y : Session} (hw : (s.door d).cfg.enabled = true) (hn : n.enabled = false) (hy : (s.door d).session = some y) :
    s.Logs (switchDoor d n s) d .disabled (y.accrued (s.accruedEnergy d) (s.seconds - (s.door d).stamp) (s.door d).state) := by
  have accrued : (((accrue d s).putDoor d { (accrue d s).door d with cfg := n }).door d).session
      = some (y.accrued (s.accruedEnergy d) (s.seconds - (s.door d).stamp) (s.door d).state) := by
    rw [door_putDoor_self, accrue_door, if_pos rfl]
    unfold State.accruedDoor
    rw [hy]
    rfl
  have dock : { ((accrue d s).putDoor d { (accrue d s).door d with cfg := n }).dock with doors := s.dock.doors } = s.dock := by
    change { (accrue d s).dock with doors := s.dock.doors } = _
    rw [accrue_dock]
    rfl
  have clock : ((accrue d s).putDoor d { (accrue d s).door d with cfg := n }).plan.clock = s.plan.clock := accrue_plan_clock d s
  have line : ((accrue d s).putDoor d { (accrue d s).door d with cfg := n }).line = s.line := accrue_line d s
  unfold switchDoor
  rw [hw, hn]
  generalize (accrue d s).putDoor d { (accrue d s).door d with cfg := n } = u at *
  have closed := (closeSession_logs accrued .disabled).of_view (s := s) (congrArg Dock.log dock :) (congrArg Dock.lost dock :)
    (congrArg Dock.lossReported dock :) clock line
  exact closed.putDoor _

theorem enablingChange_keeps_log {was now : Bool} (h : was = false ∨ now = true ∨ (u.door d).session = none) :
    (enablingChange d was now u).dock.log = u.dock.log ∧ (enablingChange d was now u).dock.lost = u.dock.lost := by
  unfold enablingChange
  cases was with
  | false => cases now <;> exact ⟨rfl, rfl⟩
  | true =>
    cases now with
    | true => exact ⟨rfl, rfl⟩
    | false =>
      have hy : (u.door d).session = none := by simpa using h
      dsimp only
      rw [closeSession_of_none hy]
      exact ⟨rfl, rfl⟩

theorem switchDoor_keeps_log (h : (s.door d).cfg.enabled = false ∨ n.enabled = true ∨ (s.door d).session = none) :
    (switchDoor d n s).dock.log = s.dock.log ∧ (switchDoor d n s).dock.lost = s.dock.lost := by
  have dock := accrue_dock d s
  have accrued : ((accrue d s).putDoor d { (accrue d s).door d with cfg := n }).dock.log = s.dock.log
      ∧ ((accrue d s).putDoor d { (accrue d s).door d with cfg := n }).dock.lost = s.dock.lost := by
    change (accrue d s).dock.log = _ ∧ (accrue d s).dock.lost = _
    rw [dock]
    exact ⟨rfl, rfl⟩
  have session : (s.door d).session = none → (((accrue d s).putDoor d { (accrue d s).door d with cfg := n }).door d).session = none := by
    intro hy
    rw [door_putDoor_self, accrue_door, if_pos rfl]
    unfold State.accruedDoor
    rw [hy]
    rfl
  unfold switchDoor
  generalize (accrue d s).putDoor d { (accrue d s).door d with cfg := n } = u at *
  have kept := enablingChange_keeps_log (h.imp_right (·.imp_right session))
  exact ⟨kept.1.trans accrued.1, kept.2.trans accrued.2⟩

end Sys2Proof.Machine
end

section
/-! PROOFS. CONFIG DOOR (R90, R91). -/

namespace Sys2Proof.Machine

variable {s t u v w : State} {d e : Fin 32} {i j : Fin 128} {n old : DoorConfig} {tag : Byte} {body : Bytes} {rest : List Frame}

/-! ### The channels given up and taken, and the targets sent -/

/-- Step 4 of R91 and the targets a configured door sends. -/
def rewire (d : Fin 32) (old : DoorConfig) (u : State) : State :=
  sendDoorTargets d (changeLight d old.light (changeCurtain d old.curtain u))

theorem configureDoor_rewires (d : Fin 32) (n : DoorConfig) (s : State) :
    configureDoor d n s = refreshRate d (rewire d (s.door d).cfg (switchDoor d n s)) := configureDoor_eq d n s

/-- A channel that no change of the door's curtain reaches keeps what it is asked for. -/
theorem changeCurtain_asked {old : Option (Fin 128)}
    (h : ¬((old = some i ∨ (u.door d).cfg.curtain = some i) ∧ (u.chan i).boundTo .curtain d = true)) :
    ((changeCurtain d old u).chan i).asked = (u.chan i).asked := by
  by_cases hc : (u.door d).cfg.curtain = old
  · rw [changeCurtain_same hc]
  · exact (changeCurtain_retargets hc).asked i h

theorem changeLight_asked {old : Option (Fin 128)}
    (h : ¬((old = some i ∨ (u.door d).cfg.light = some i) ∧ (u.chan i).boundTo .docklight d = true)) :
    ((changeLight d old u).chan i).asked = (u.chan i).asked := by
  by_cases hc : (u.door d).cfg.light = old
  · rw [changeLight_same hc]
  · exact (changeLight_retargets hc).asked i h

theorem changeCurtain_chan_cfg (d : Fin 32) (old : Option (Fin 128)) (u : State) (i : Fin 128) :
    ((changeCurtain d old u).chan i).cfg = (u.chan i).cfg := by
  by_cases hc : (u.door d).cfg.curtain = old
  · rw [changeCurtain_same hc]
  · exact (changeCurtain_retargets hc).cfg i

theorem changeLight_chan_cfg (d : Fin 32) (old : Option (Fin 128)) (u : State) (i : Fin 128) :
    ((changeLight d old u).chan i).cfg = (u.chan i).cfg := by
  by_cases hc : (u.door d).cfg.light = old
  · rw [changeLight_same hc]
  · exact (changeLight_retargets hc).cfg i

/-- What the change of the curtain channel leaves of the door. -/
theorem changeCurtain_aims (d : Fin 32) (old : Option (Fin 128)) (u : State) : ((changeCurtain d old u).door d).cfg = (u.door d).cfg
    ∧ ((changeCurtain d old u).door d).sentLight = (u.door d).sentLight
    ∧ (changeCurtain d old u).lightTarget ((changeCurtain d old u).door d) = u.lightTarget (u.door d)
    ∧ (changeCurtain d old u).curtainTarget ((changeCurtain d old u).door d) = u.curtainTarget (u.door d) := by
  have shape := changeCurtain_shape d old u
  have stop := changeCurtain_stop d old u
  have state : ((changeCurtain d old u).door d).state = (u.door d).state := (congrArg Door.state shape :)
  exact ⟨(congrArg Door.cfg shape :), (congrArg Door.sentLight shape :), lightTarget_congr stop state, curtainTarget_congr stop state⟩

theorem changeLight_aims (d : Fin 32) (old : Option (Fin 128)) (u : State) : ((changeLight d old u).door d).cfg = (u.door d).cfg
    ∧ ((changeLight d old u).door d).sentCurtain = (u.door d).sentCurtain
    ∧ (changeLight d old u).lightTarget ((changeLight d old u).door d) = u.lightTarget (u.door d)
    ∧ (changeLight d old u).curtainTarget ((changeLight d old u).door d) = u.curtainTarget (u.door d) := by
  have shape := changeLight_shape d old u
  have stop := changeLight_stop d old u
  have state : ((changeLight d old u).door d).state = (u.door d).state := (congrArg Door.state shape :)
  exact ⟨(congrArg Door.cfg shape :), (congrArg Door.sentCurtain shape :), lightTarget_congr stop state, curtainTarget_congr stop state⟩

theorem unbound_of_other_role {c : Channel} {r q : Role} {m : Nat} (h : c.boundTo r m = true) (hr : r ≠ q) : ¬c.boundTo q m = true :=
  fun hn => hr ((Channel.boundTo_iff.mp h).1.symm.trans (Channel.boundTo_iff.mp hn).1)

theorem cfg_of_asked {c c' : Channel} (h : c.asked = c'.asked) : c.cfg = c'.cfg := (congrArg (fun x => x.1) h :)
theorem target_of_asked {c c' : Channel} (h : c.asked = c'.asked) : c.target = c'.target := (congrArg (fun x => x.2.1) h :)

theorem takesSent_of_asked {c c' : Channel} (h : c.asked = c'.asked) (v sent : Nat) : c.takesSent v sent = c'.takesSent v sent := by
  unfold Channel.takesSent
  rw [cfg_of_asked h, target_of_asked h]

theorem takesSent_same (c : Channel) (x : Nat) : c.takesSent x x = c.target := if_pos rfl

/-- A channel that the door names neither before nor after, or that is not bound to it so, is asked for nothing. -/
theorem rewire_asked (hc : ¬((u.chan i).boundTo .curtain d = true ∧ (old.curtain = some i ∨ (u.door d).cfg.curtain = some i)))
    (hl : ¬((u.chan i).boundTo .docklight d = true ∧ (old.light = some i ∨ (u.door d).cfg.light = some i))) :
    ((rewire d old u).chan i).asked = (u.chan i).asked := by
  unfold rewire
  obtain ⟨cfg, -⟩ := changeCurtain_aims d old.curtain u
  have wired := changeCurtain_chan_cfg d old.curtain u i
  have first := changeCurtain_asked (old := old.curtain) (fun h => hc ⟨h.2, h.1⟩)
  generalize changeCurtain d old.curtain u = a at *
  have bound (r : Role) : (a.chan i).boundTo r d = (u.chan i).boundTo r d := boundTo_congr wired r d
  obtain ⟨cfg', -⟩ := changeLight_aims d old.light a
  have wired' := changeLight_chan_cfg d old.light a i
  have second : ((changeLight d old.light a).chan i).asked = (a.chan i).asked :=
    changeLight_asked fun h => hl ⟨(bound _).symm.trans h.2, by rw [← cfg]; exact h.1⟩
  generalize changeLight d old.light a = b at *
  have bound' (r : Role) : (b.chan i).boundTo r d = (u.chan i).boundTo r d := (boundTo_congr wired' r d).trans (bound r)
  rw [sendDoorTargets_asked, second, first]
  · rw [cfg', cfg, bound']
    exact fun h => hl ⟨h.2, .inr h.1⟩
  · rw [cfg', cfg, bound']
    exact fun h => hc ⟨h.2, .inr h.1⟩

/-- Behind the change of its curtain channel, a channel bound as a curtain is asked for nothing that the door does not send it. -/
theorem changeLight_curtain_asked (hb : (u.chan i).boundTo .curtain d = true) (old : Option (Fin 128)) :
    ((changeLight d old u).chan i).asked = (u.chan i).asked :=
  changeLight_asked fun h => unbound_of_other_role hb (by decide) h.2

/-- The target that the door's curtain channel takes. -/
theorem rewire_curtain (hi : (u.door d).cfg.curtain = some i) (hb : (u.chan i).boundTo .curtain d = true) : ((rewire d old u).chan i).target
    = if old.curtain = some i then (u.chan i).takesSent (u.curtainTarget (u.door d)) (u.door d).sentCurtain
      else min (u.curtainTarget (u.door d)) (u.chan i).cfg.steps := by
  unfold rewire
  obtain ⟨cfg, -, -, aim⟩ := changeCurtain_aims d old.curtain u
  have wired := changeCurtain_chan_cfg d old.curtain u i
  have taken : ((changeCurtain d old.curtain u).chan i).takesSent (u.curtainTarget (u.door d)) ((changeCurtain d old.curtain u).door d).sentCurtain
      = if old.curtain = some i then (u.chan i).takesSent (u.curtainTarget (u.door d)) (u.door d).sentCurtain
        else min (u.curtainTarget (u.door d)) (u.chan i).cfg.steps := by
    by_cases hc : (u.door d).cfg.curtain = old.curtain
    · rw [changeCurtain_same hc, if_pos (hc.symm.trans hi)]
    · have sent : ((changeCurtain d old.curtain u).door d).sentCurtain = u.curtainTarget (u.door d) := by
        refine (congrArg Door.sentCurtain (changeCurtain_shape d old.curtain u) :).trans ?_
        dsimp only
        rw [if_neg hc, if_neg (by rw [hi]; exact Option.some_ne_none i)]
      rw [if_neg fun h => hc (hi.trans h.symm), sent, takesSent_same]
      exact (changeCurtain_retargets hc).offered i hi hb
  generalize changeCurtain d old.curtain u = a at *
  have bound : (a.chan i).boundTo .curtain d = true := (boundTo_congr wired _ _).trans hb
  obtain ⟨cfg', sent, -, aim'⟩ := changeLight_aims d old.light a
  have kept := changeLight_curtain_asked bound old.light
  generalize changeLight d old.light a = b at *
  rw [sendDoorTargets_curtain (by rw [cfg', cfg]; exact hi) ((boundTo_congr (cfg_of_asked kept) _ _).trans bound), aim', aim, sent, ← taken,
    takesSent_of_asked kept]

/-- The target that the door's dock light channel takes. -/
theorem rewire_light (hi : (u.door d).cfg.light = some i) (hb : (u.chan i).boundTo .docklight d = true) : ((rewire d old u).chan i).target
    = if old.light = some i then (u.chan i).takesSent (u.lightTarget (u.door d)) (u.door d).sentLight
      else min (u.lightTarget (u.door d)) (u.chan i).cfg.steps := by
  unfold rewire
  obtain ⟨cfg, sent, aim, -⟩ := changeCurtain_aims d old.curtain u
  have kept := changeCurtain_asked (old := old.curtain) (fun h => unbound_of_other_role hb (by decide) h.2)
  generalize changeCurtain d old.curtain u = a at *
  have bound : (a.chan i).boundTo .docklight d = true := (boundTo_congr (cfg_of_asked kept) _ _).trans hb
  have named : (a.door d).cfg.light = some i := by rw [cfg]; exact hi
  obtain ⟨cfg', -, aim', -⟩ := changeLight_aims d old.light a
  have wired := changeLight_chan_cfg d old.light a i
  rw [sendDoorTargets_light (by rw [cfg']; exact named) ((boundTo_congr wired _ _).trans bound), aim', ← aim]
  by_cases hc : (a.door d).cfg.light = old.light
  · rw [changeLight_same hc, if_pos (hc.symm.trans named), sent, takesSent_of_asked kept]
  · have resent : ((changeLight d old.light a).door d).sentLight = a.lightTarget (a.door d) := by
      refine (congrArg Door.sentLight (changeLight_shape d old.light a) :).trans ?_
      dsimp only
      rw [if_neg hc, if_neg (by rw [named]; exact Option.some_ne_none i)]
    rw [if_neg fun h => hc (named.trans h.symm), resent, takesSent_same, (changeLight_retargets hc).offered i named bound]
    exact congrArg (fun c : ChannelConfig => min _ c.steps) (cfg_of_asked kept)

/-- A curtain channel that the door gives up is asked for nothing. -/
theorem rewire_releases_curtain (ho : old.curtain = some i) (hn : (u.door d).cfg.curtain ≠ some i) (hb : (u.chan i).boundTo .curtain d = true) :
    ((rewire d old u).chan i).target = 0 := by
  unfold rewire
  have hc : (u.door d).cfg.curtain ≠ old.curtain := by rw [ho]; exact hn
  obtain ⟨cfg, -⟩ := changeCurtain_aims d old.curtain u
  have wired := changeCurtain_chan_cfg d old.curtain u i
  have released := (changeCurtain_retargets hc).released i ho hn hb
  generalize changeCurtain d old.curtain u = a at *
  have bound : (a.chan i).boundTo .curtain d = true := (boundTo_congr wired _ _).trans hb
  obtain ⟨cfg', -⟩ := changeLight_aims d old.light a
  have kept := changeLight_curtain_asked bound old.light
  generalize changeLight d old.light a = b at *
  have bound' : (b.chan i).boundTo .curtain d = true := (boundTo_congr (cfg_of_asked kept) _ _).trans bound
  have last := sendDoorTargets_asked (s := b) (d := d) (i := i) (fun h => unbound_of_other_role bound' (by decide) h.2)
    (fun h => hn (by rw [← cfg, ← cfg']; exact h.1))
  exact (target_of_asked (last.trans kept)).trans released

theorem rewire_releases_light (ho : old.light = some i) (hn : (u.door d).cfg.light ≠ some i) (hb : (u.chan i).boundTo .docklight d = true) :
    ((rewire d old u).chan i).target = 0 := by
  unfold rewire
  obtain ⟨cfg, -⟩ := changeCurtain_aims d old.curtain u
  have wired := changeCurtain_chan_cfg d old.curtain u i
  generalize changeCurtain d old.curtain u = a at *
  have bound : (a.chan i).boundTo .docklight d = true := (boundTo_congr wired _ _).trans hb
  have named : (a.door d).cfg.light ≠ some i := by rw [cfg]; exact hn
  have hc : (a.door d).cfg.light ≠ old.light := by rw [ho]; exact named
  obtain ⟨cfg', -⟩ := changeLight_aims d old.light a
  have wired' := changeLight_chan_cfg d old.light a i
  have released := (changeLight_retargets hc).released i ho named bound
  generalize changeLight d old.light a = b at *
  have bound' : (b.chan i).boundTo .docklight d = true := (boundTo_congr wired' _ _).trans bound
  have last := sendDoorTargets_asked (s := b) (d := d) (i := i) (fun h => named (by rw [← cfg']; exact h.1))
    (fun h => unbound_of_other_role bound' (by decide) h.2)
  exact (target_of_asked last).trans released

/-! ### The curtain flag -/

theorem rewire_curtainKept (h : (changeCurtain d old.curtain u).CurtainKept d i) : (rewire d old u).CurtainKept d i := by
  unfold rewire
  refine sendDoorTargets_curtainKept d ?_
  exact (State.CurtainKept.arbiter d i).changeLight d (fun _ _ hv => hv.write rfl rfl) old.light h

theorem rewire_curtainFree {b : Bool} (h : (changeCurtain d old.curtain u).CurtainFree d b) : (rewire d old u).CurtainFree d b := by
  unfold rewire
  refine sendDoorTargets_curtainFree d ?_
  exact (State.CurtainFree.arbiter d b).changeLight d (fun _ _ hv => hv.write rfl rfl) old.light h

theorem offerCurtain_cfg (d : Fin 32) (old : Option (Fin 128)) (u : State) :
    ((offerCurtain d (releaseOld old .curtain d u)).door d).cfg = (u.door d).cfg := by
  obtain ⟨cfg, -⟩ := releaseOld_door old .curtain d u
  rw [← cfg]
  generalize releaseOld old .curtain d u = r
  unfold offerCurtain
  dsimp only
  split
  · refine (cfg_of_shape (targetChange_shape _ _ _ _ _ _ _)).trans ?_
    rw [door_putDoor_self]
  · rw [door_putDoor_self]

theorem setCurtainRunning_cfg (d : Fin 32) (b : Bool) (u : State) : ((setCurtainRunning d b u).door d).cfg = (u.door d).cfg :=
  cfg_of_shape (setCurtainRunning_shape _ _ _ _)

/-- The flag behind a change of the curtain channel: whether the channel that the door names now holds steps. -/
theorem changeCurtain_running {old : Option (Fin 128)} (h : (u.door d).cfg.curtain ≠ old) :
    ((changeCurtain d old u).door d).curtainRunning = decide (0 < (offerCurtain d (releaseOld old .curtain d u)).curtainSteps d) := by
  rw [changeCurtain_other h, setCurtainRunning_running, if_pos rfl]

theorem changeCurtain_chan {old : Option (Fin 128)} (h : (u.door d).cfg.curtain ≠ old) (i : Fin 128) :
    (changeCurtain d old u).chan i = (offerCurtain d (releaseOld old .curtain d u)).chan i := by
  rw [changeCurtain_other h]
  exact chan_of_budget (setCurtainRunning_budget _ _ _) i

theorem curtainSteps_none (h : (u.door d).cfg.curtain = none) : u.curtainSteps d = 0 := by
  unfold State.curtainSteps
  rw [h]

theorem curtainSteps_some (h : (u.door d).cfg.curtain = some i) : u.curtainSteps d = (u.chan i).drivenSteps := by
  unfold State.curtainSteps
  rw [h]

theorem rewire_without_curtain (hn : (u.door d).cfg.curtain = none) (hc : (u.door d).cfg.curtain ≠ old.curtain) :
    ((rewire d old u).door d).curtainRunning = false := by
  refine (rewire_curtainFree ⟨fun i hi => ?_, ?_⟩).flag
  · rw [(changeCurtain_aims d old.curtain u).1, hn] at hi
    cases hi
  · rw [changeCurtain_running hc, curtainSteps_none (by rw [offerCurtain_cfg]; exact hn)]
    rfl

theorem rewire_bound_curtain (hi : (u.door d).cfg.curtain = some i) (hc : (u.door d).cfg.curtain ≠ old.curtain)
    (hb : (u.chan i).boundTo .curtain d = true) :
    ((rewire d old u).door d).curtainRunning = true ↔ 0 < ((rewire d old u).chan i).granted := by
  have wired := changeCurtain_chan_cfg d old.curtain u i
  have bound : ((changeCurtain d old.curtain u).chan i).boundTo .curtain d = true := (boundTo_congr wired _ _).trans hb
  refine (rewire_curtainKept ⟨?_, bound, ?_⟩).flag
  · rw [(changeCurtain_aims d old.curtain u).1, hi]
  · rw [changeCurtain_running hc, curtainSteps_some (by rw [offerCurtain_cfg]; exact hi), ← changeCurtain_chan hc, decide_eq_true_iff]
    unfold Channel.drivenSteps
    rw [(Channel.boundTo_iff.mp bound).1]
    rfl

/-- A channel that is not bound as the door's curtain counts with the steps it holds as the flag is worked out (log entry 22). -/
theorem rewire_unbound_curtain (hi : (u.door d).cfg.curtain = some i) (hc : (u.door d).cfg.curtain ≠ old.curtain)
    (hb : (u.chan i).boundTo .curtain d = false) :
    ∃ c, (u.chan i).WalkedTo c ∧ ((rewire d old u).door d).curtainRunning = decide (0 < c.drivenSteps) := by
  refine ⟨_, offerCurtain_walked (old := old.curtain) (by rw [← hi]; exact hc.symm) hb, ?_⟩
  refine (rewire_curtainFree ⟨fun j hj => ?_, ?_⟩).flag
  · rw [(changeCurtain_aims d old.curtain u).1, hi] at hj
    obtain rfl := Option.some.inj hj
    exact (boundTo_congr (changeCurtain_chan_cfg _ _ _ _) _ _).trans hb
  · rw [changeCurtain_running hc, curtainSteps_some (by rw [offerCurtain_cfg]; exact hi)]

theorem rewire_kept_curtain (hi : (u.door d).cfg.curtain = some i) (hc : (u.door d).cfg.curtain = old.curtain)
    (hb : (u.chan i).boundTo .curtain d = true) (hf : (u.door d).curtainRunning = true ↔ 0 < (u.chan i).granted) :
    ((rewire d old u).door d).curtainRunning = true ↔ 0 < ((rewire d old u).chan i).granted := by
  refine (rewire_curtainKept ?_).flag
  rw [changeCurtain_same hc]
  exact ⟨hi, hb, hf⟩

/-! ### The session and the log -/

theorem State.Rests.write {now : Nat} {st : DoorState} {y : Option Session} {x : Door} (h : u.Rests d now st y)
    (hx : x.stamp = (u.door d).stamp) (hs : x.state = (u.door d).state) (hy : x.session = (u.door d).session) :
    (u.putDoor d x).Rests d now st y :=
  h.of_door rfl (by rw [door_putDoor_self, hx]) (by rw [door_putDoor_self, hs]) (by rw [door_putDoor_self, hy])

theorem changeCurtain_rests {now : Nat} {st : DoorState} {y : Option Session} (h : u.Rests d now st y) (old : Option (Fin 128)) :
    (changeCurtain d old u).Rests d now st y := by
  by_cases hc : (u.door d).cfg.curtain = old
  · rwa [changeCurtain_same hc]
  · rw [changeCurtain_other hc]
    refine State.Rests.setCurtainRunning ?_ _ _
    exact State.Rests.arbiter.offerCurtain d (fun _ _ hw => hw.write rfl rfl rfl) old h

theorem rewire_rests {now : Nat} {st : DoorState} {y : Option Session} (h : u.Rests d now st y) : (rewire d old u).Rests d now st y := by
  unfold rewire
  refine State.Rests.arbiter.sendDoorTargets d (fun _ _ hw => hw.write rfl rfl rfl) (fun _ _ hw => hw.write rfl rfl rfl) ?_
  exact State.Rests.arbiter.changeLight d (fun _ _ hw => hw.write rfl rfl rfl) old.light (changeCurtain_rests h old.curtain)

/-- The log, the numbers and the contact check stand over the change of the channels. -/
theorem rewire_dock (d : Fin 32) (old : DoorConfig) (u : State) : { (rewire d old u).dock with doors := u.dock.doors } = u.dock := by
  unfold rewire
  rw [sendDoorTargets_dock, changeLight_dock, changeCurtain_dock]

theorem rewire_follows (d : Fin 32) (old : DoorConfig) (u : State) : u.Follows (rewire d old u) := by
  have units := State.Follows.units u
  exact units.sendDoorTargets d (units.changeLight d _ (units.changeCurtain d _ (.refl u)))

end Sys2Proof.Machine
end

section
/-! PROOFS. CONFIG DOOR in full (R90, R91). -/

namespace Sys2Proof.Machine

variable {s t u : State} {d e : Fin 32} {i j : Fin 128} {n : DoorConfig} {tag : Byte} {body : Bytes} {rest : List Frame}

/-! ### The door once its enabling is changed -/

/-- The state of a door after a change of its enabling (R91 step 3). -/
def Door.switchedState (x : Door) (now : Bool) : DoorState :=
  if now = x.cfg.enabled then x.state else if now then .unknown else .unused

theorem switched_state (x : Door) (n : DoorConfig) :
    ({ x with cfg := n }.switched x.cfg.enabled n.enabled).state = x.switchedState n.enabled := by
  unfold Door.switched Door.switchedState
  cases x.cfg.enabled <;> cases n.enabled <;> rfl

theorem switched_running (x : Door) (was now : Bool) : (x.switched was now).curtainRunning = x.curtainRunning := by
  unfold Door.switched
  cases was <;> cases now <;> rfl

theorem switched_same (x : Door) (b : Bool) : x.switched b b = x := by
  cases b <;> rfl

/-- What the change of the enabling leaves for the channels to work on. -/
structure State.Switched (s u : State) (d : Fin 32) (n : DoorConfig) : Prop where
  chan : ∀ i, u.chan i = s.chan i
  cfg : (u.door d).cfg = n
  light : u.lightTarget (u.door d) = s.lightTarget { s.door d with state := (s.door d).switchedState n.enabled }
  curtain : u.curtainTarget (u.door d) = s.curtainTarget { s.door d with state := (s.door d).switchedState n.enabled }
  sentLight : (u.door d).sentLight = (s.door d).sentLight
  sentCurtain : (u.door d).sentCurtain = (s.door d).sentCurtain
  running : (u.door d).curtainRunning = (s.door d).curtainRunning

theorem switchDoor_switched (d : Fin 32) (n : DoorConfig) (s : State) : s.Switched (switchDoor d n s) d n := by
  have door := switchDoor_door d n s
  have stop := switchDoor_stop d n s
  obtain ⟨budget, -⟩ := switchDoor_fields d n s
  generalize switchDoor d n s = u at *
  have state : (u.door d).state = (s.door d).switchedState n.enabled := by
    rw [door]
    exact switched_state (s.accruedDoor d) n
  refine ⟨chan_of_budget budget, ?_, lightTarget_congr stop state, curtainTarget_congr stop state, ?_, ?_, ?_⟩ <;> rw [door]
  · exact switched_cfg _ _ _
  · exact switched_sentLight _ _ _
  · exact switched_sentCurtain _ _ _
  · exact switched_running _ _ _

/-! ### The channels -/

/-- The rate worked out afresh reaches the door's record alone. -/
theorem refreshRate_apart (d : Fin 32) (u : State) (l : Table Door 32) : (refreshRate d u).budget = u.budget
    ∧ { (refreshRate d u).dock with doors := l } = { u.dock with doors := l } ∧ (refreshRate d u).line = u.line := ⟨rfl, rfl, rfl⟩

theorem configureDoor_chan (d : Fin 32) (n : DoorConfig) (s : State) (i : Fin 128) :
    (configureDoor d n s).chan i = (rewire d (s.door d).cfg (switchDoor d n s)).chan i := by
  rw [configureDoor_rewires]
  exact chan_of_budget (refreshRate_apart d _ s.dock.doors).1 i

theorem configureDoor_running (d : Fin 32) (n : DoorConfig) (s : State) :
    ((configureDoor d n s).door d).curtainRunning = ((rewire d (s.door d).cfg (switchDoor d n s)).door d).curtainRunning := by
  rw [configureDoor_rewires, refreshRate_door]

section Channels

variable (d) (n) (s)

theorem configureDoor_asked
    (hc : ¬((s.chan i).boundTo .curtain d = true ∧ ((s.door d).cfg.curtain = some i ∨ n.curtain = some i)))
    (hl : ¬((s.chan i).boundTo .docklight d = true ∧ ((s.door d).cfg.light = some i ∨ n.light = some i))) :
    ((configureDoor d n s).chan i).asked = (s.chan i).asked := by
  have switched := switchDoor_switched d n s
  rw [configureDoor_chan]
  generalize switchDoor d n s = u at *
  rw [← switched.chan, ← switched.cfg] at hc hl
  rw [rewire_asked hc hl, switched.chan]

theorem configureDoor_curtain (hi : n.curtain = some i) (hb : (s.chan i).boundTo .curtain d = true) :
    ((configureDoor d n s).chan i).target
      = if (s.door d).cfg.curtain = some i
        then (s.chan i).takesSent (s.curtainTarget { s.door d with state := (s.door d).switchedState n.enabled }) (s.door d).sentCurtain
        else min (s.curtainTarget { s.door d with state := (s.door d).switchedState n.enabled }) (s.chan i).cfg.steps := by
  have switched := switchDoor_switched d n s
  rw [configureDoor_chan]
  generalize switchDoor d n s = u at *
  rw [rewire_curtain (by rw [switched.cfg, hi]) (by rw [switched.chan, hb]), switched.chan, switched.curtain, switched.sentCurtain]

theorem configureDoor_light (hi : n.light = some i) (hb : (s.chan i).boundTo .docklight d = true) :
    ((configureDoor d n s).chan i).target
      = if (s.door d).cfg.light = some i
        then (s.chan i).takesSent (s.lightTarget { s.door d with state := (s.door d).switchedState n.enabled }) (s.door d).sentLight
        else min (s.lightTarget { s.door d with state := (s.door d).switchedState n.enabled }) (s.chan i).cfg.steps := by
  have switched := switchDoor_switched d n s
  rw [configureDoor_chan]
  generalize switchDoor d n s = u at *
  rw [rewire_light (by rw [switched.cfg, hi]) (by rw [switched.chan, hb]), switched.chan, switched.light, switched.sentLight]

theorem configureDoor_releases_curtain (ho : (s.door d).cfg.curtain = some i) (hn : n.curtain ≠ some i)
    (hb : (s.chan i).boundTo .curtain d = true) : ((configureDoor d n s).chan i).target = 0 := by
  have switched := switchDoor_switched d n s
  rw [configureDoor_chan]
  generalize switchDoor d n s = u at *
  exact rewire_releases_curtain ho (by rw [switched.cfg]; exact hn) (by rw [switched.chan, hb])

theorem configureDoor_releases_light (ho : (s.door d).cfg.light = some i) (hn : n.light ≠ some i)
    (hb : (s.chan i).boundTo .docklight d = true) : ((configureDoor d n s).chan i).target = 0 := by
  have switched := switchDoor_switched d n s
  rw [configureDoor_chan]
  generalize switchDoor d n s = u at *
  exact rewire_releases_light ho (by rw [switched.cfg]; exact hn) (by rw [switched.chan, hb])

theorem configureDoor_without_curtain (hn : n.curtain = none) (hc : n.curtain ≠ (s.door d).cfg.curtain) :
    ((configureDoor d n s).door d).curtainRunning = false := by
  have switched := switchDoor_switched d n s
  rw [configureDoor_running]
  generalize switchDoor d n s = u at *
  exact rewire_without_curtain (by rw [switched.cfg, hn]) (by rw [switched.cfg]; exact hc)

theorem configureDoor_bound_curtain (hi : n.curtain = some i) (hc : n.curtain ≠ (s.door d).cfg.curtain)
    (hb : (s.chan i).boundTo .curtain d = true) :
    ((configureDoor d n s).door d).curtainRunning = true ↔ 0 < ((configureDoor d n s).chan i).granted := by
  have switched := switchDoor_switched d n s
  rw [configureDoor_running, configureDoor_chan]
  generalize switchDoor d n s = u at *
  exact rewire_bound_curtain (by rw [switched.cfg, hi]) (by rw [switched.cfg]; exact hc) (by rw [switched.chan, hb])

theorem configureDoor_unbound_curtain (hi : n.curtain = some i) (hc : n.curtain ≠ (s.door d).cfg.curtain)
    (hb : (s.chan i).boundTo .curtain d = false) :
    ∃ c, (s.chan i).WalkedTo c ∧ ((configureDoor d n s).door d).curtainRunning = decide (0 < c.drivenSteps) := by
  have switched := switchDoor_switched d n s
  rw [configureDoor_running]
  generalize switchDoor d n s = u at *
  rw [← switched.chan]
  exact rewire_unbound_curtain (by rw [switched.cfg, hi]) (by rw [switched.cfg]; exact hc) (by rw [switched.chan, hb])

theorem configureDoor_kept_curtain (hi : n.curtain = some i) (hc : n.curtain = (s.door d).cfg.curtain)
    (hb : (s.chan i).boundTo .curtain d = true) (hf : (s.door d).curtainRunning = true ↔ 0 < (s.chan i).granted) :
    ((configureDoor d n s).door d).curtainRunning = true ↔ 0 < ((configureDoor d n s).chan i).granted := by
  have switched := switchDoor_switched d n s
  rw [configureDoor_running, configureDoor_chan]
  generalize switchDoor d n s = u at *
  refine rewire_kept_curtain (by rw [switched.cfg, hi]) (by rw [switched.cfg]; exact hc) (by rw [switched.chan, hb]) ?_
  rw [switched.running, switched.chan]
  exact hf

end Channels

/-- A channel that a walk may only have served counts with steps where it held some, and with none where it waited for none (log entry 22). -/
theorem drivenSteps_walked {c c' : Channel} (h : c.WalkedTo c') :
    (c.cfg.role.isStep = false → c'.drivenSteps = 0)
      ∧ (c.cfg.role.isStep = true → (0 < c.granted → 0 < c'.drivenSteps) ∧ (c.granted = 0 → c.entry = none → c'.drivenSteps = 0)) := by
  have cfg := cfg_of_asked h.asked
  unfold Channel.drivenSteps
  rw [cfg]
  refine ⟨fun hr => by rw [hr]; rfl, fun hr => ?_⟩
  rw [if_pos hr]
  refine ⟨fun hg => Nat.lt_of_lt_of_le hg h.granted, fun hg he => ?_⟩
  have idle : c.deficit = 0 := by
    unfold Channel.deficit
    split
    · next hl => rw [hl] at hr; cases hr
    · rfl
  rw [h.same idle (.inl he), hg]

/-- A channel kept takes its target where it differs from the last sent, and a new one takes it. -/
theorem takesSent_if (p : Prop) [Decidable p] (c : Channel) (v sent : Nat) :
    (if p then c.takesSent v sent else min v c.cfg.steps) = if p ∧ v = sent then c.target else min v c.cfg.steps := by
  unfold Channel.takesSent
  by_cases hp : p <;> simp only [hp, if_true, if_false, true_and, false_and]

/-! ### The session and the log -/

theorem switchDoor_rests (d : Fin 32) (n : DoorConfig) (s : State) :
    (switchDoor d n s).Rests d s.seconds ((s.door d).switchedState n.enabled)
      ({ s.accruedDoor d with cfg := n }.switched (s.door d).cfg.enabled n.enabled).session := by
  have door := switchDoor_door d n s
  obtain ⟨-, seconds⟩ := switchDoor_fields d n s
  generalize switchDoor d n s = u at *
  refine ⟨seconds, ?_, ?_, fun _ => by rw [door]⟩ <;> rw [door]
  · unfold Door.switched
    cases (s.door d).cfg.enabled <;> cases n.enabled <;> rfl
  · exact switched_state (s.accruedDoor d) n

theorem configureDoor_rests (d : Fin 32) (n : DoorConfig) (s : State) :
    (configureDoor d n s).Rests d s.seconds ((s.door d).switchedState n.enabled)
      ({ s.accruedDoor d with cfg := n }.switched (s.door d).cfg.enabled n.enabled).session := by
  rw [configureDoor_rewires]
  exact (rewire_rests (switchDoor_rests d n s)).write rfl rfl rfl

/-- A session that stays open is counted up to the request. -/
theorem configureDoor_session (hn : n.enabled = (s.door d).cfg.enabled) : ((configureDoor d n s).door d).session
    = (s.door d).session.map (fun y => y.accrued (s.accruedEnergy d) (s.seconds - (s.door d).stamp) (s.door d).state) := by
  have rests := configureDoor_rests d n s
  rw [hn, switched_same] at rests
  refine rests.session ?_
  unfold Door.switchedState
  rw [if_pos rfl]
  unfold State.accruedDoor
  dsimp only
  rw [Option.map_map]
  refine congrArg (fun f => (s.door d).session.map f) (funext fun y => ?_)
  obtain ⟨loss, -⟩ := accrued_bounds y (s.accruedEnergy d) (s.seconds - (s.door d).stamp) (s.door d).state
  refine accrued_settled loss fun ho => ?_
  unfold Session.accrued
  dsimp only
  rw [if_pos ho]
  exact min_le_left _ _

theorem configureDoor_closes (hw : (s.door d).cfg.enabled = true) (hn : n.enabled = false) :
    ((configureDoor d n s).door d).session = none := by
  have rests := configureDoor_rests d n s
  rw [hn, hw] at rests
  exact rests.session rfl

theorem configureDoor_dock (d : Fin 32) (n : DoorConfig) (s : State) :
    { (configureDoor d n s).dock with doors := (switchDoor d n s).dock.doors } = (switchDoor d n s).dock := by
  rw [configureDoor_rewires, (refreshRate_apart d _ _).2.1]
  exact rewire_dock d (s.door d).cfg (switchDoor d n s)

theorem configureDoor_logs {y : Session} (hw : (s.door d).cfg.enabled = true) (hn : n.enabled = false) (hy : (s.door d).session = some y) :
    s.Logs (configureDoor d n s) d .disabled (y.accrued (s.accruedEnergy d) (s.seconds - (s.door d).stamp) (s.door d).state) := by
  have logs := switchDoor_logs hw hn hy
  have dock := configureDoor_dock d n s
  have follows : (switchDoor d n s).Follows (configureDoor d n s) := by
    rw [configureDoor_rewires]
    exact .of_line (rewire_follows d (s.door d).cfg (switchDoor d n s)) (refreshRate_apart d _ s.dock.doors).2.2
  generalize switchDoor d n s = u, configureDoor d n s = t at *
  exact logs.after (congrArg Dock.log dock :) (congrArg Dock.lost dock :) (congrArg Dock.lossReported dock :) follows

theorem configureDoor_keeps_log (h : (s.door d).cfg.enabled = false ∨ n.enabled = true ∨ (s.door d).session = none) :
    (configureDoor d n s).dock.log = s.dock.log ∧ (configureDoor d n s).dock.lost = s.dock.lost := by
  obtain ⟨log, lost⟩ := switchDoor_keeps_log h
  have dock := configureDoor_dock d n s
  generalize switchDoor d n s = u, configureDoor d n s = t at *
  exact ⟨(congrArg Dock.log dock :).trans log, (congrArg Dock.lost dock :).trans lost⟩

/-! ### The request -/

theorem doorSent?_eq (h : doorSent? body = some n) : n.zone.val = u8 body 2 ∧ channelField? (u8 body 7) = some n.curtain
    ∧ channelField? (u8 body 8) = some n.light ∧ n.enabled = uFlag body 1 ∧ n.kd = u8 body 3 ∧ n.heldTime = u16 body 4
    ∧ n.debounce = u8 body 6 := by
  unfold doorSent? at h
  simp only [Option.bind_eq_bind, Option.bind_eq_some_iff, Option.pure_def, Option.some.injEq] at h
  obtain ⟨z, hz, c, hc, l, hl, rfl⟩ := h
  exact ⟨index?_some hz, hc, hl, rfl, rfl, rfl, rfl⟩

theorem treatDoor_eq (n : DoorConfig) : treatDoor n = { n with
    kd := min n.kd 100, heldTime := max 30 (min 3600 n.heldTime), debounce := max 1 (min 10 n.debounce) } := rfl

theorem sameChannel_iff {a b : Option (Fin 128)} : sameChannel a b = true ↔ (a.isSome ∧ a = b) := by
  unfold sameChannel
  rw [Bool.and_eq_true, beq_iff_eq]

section Config

variable (hlen : body.length = 9) (h : s.takes ⟨tag, 0x38, body⟩ rest)
include hlen h

theorem configDoor_outOfRange (hf : 32 ≤ u8 body 0 ∨ doorSent? body = none) :
    exec (.configDoor tag body) s = .next (s.answered rest tag 0x38 [0x12]) := by
  change request 0x38 tag body _ s = _
  refine request_answers (n := 9) (by decide) hlen h ?_
  dsimp only
  cases hi : index? 32 (u8 body 0) with
  | none => rfl
  | some d =>
    cases hs : doorSent? body with
    | none => rfl
    | some sent =>
      obtain hd | hn := hf
      · rw [index?_none hd] at hi
        cases hi
      · rw [hn] at hs
        cases hs

section Sent

variable (hd : u8 body 0 = d) (hn : doorSent? body = some n)
include hd hn

theorem configDoor_duplicate (hs : n.curtain.isSome ∧ n.curtain = n.light) :
    exec (.configDoor tag body) s = .next (s.answered rest tag 0x38 [0x14]) := by
  change request 0x38 tag body _ s = _
  refine request_answers (n := 9) (by decide) hlen h ?_
  rw [index?_of_eq hd, hn]
  exact if_pos (sameChannel_iff.mpr hs)

theorem configDoor_busy (hs : ¬(n.curtain.isSome ∧ n.curtain = n.light)) (hc : s.dock.check.isSome) :
    exec (.configDoor tag body) s = .next (s.answered rest tag 0x38 [0x16]) := by
  change request 0x38 tag body _ s = _
  refine request_answers (n := 9) (by decide) hlen h ?_
  rw [index?_of_eq hd, hn]
  dsimp only
  rw [if_neg fun hb => hs (sameChannel_iff.mp hb)]
  exact if_pos hc

theorem configDoor_accepted (hs : ¬(n.curtain.isSome ∧ n.curtain = n.light)) (hc : s.dock.check = none) :
    exec (.configDoor tag body) s = .next (sendReply tag 0x38
      (stTreated (treatDoor n != n) ++ le8 d ++ le8 ((configureDoor d (treatDoor n) (s.taken rest)).door d).state.code
        ++ le8 ((configureDoor d (treatDoor n) (s.taken rest)).door d).loop.code) (configureDoor d (treatDoor n) (s.taken rest))) := by
  change request 0x38 tag body _ s = _
  refine request_runs (n := 9) (by decide) hlen h ?_
  rw [index?_of_eq hd, hn]
  dsimp only
  rw [if_neg fun hb => hs (sameChannel_iff.mp hb), if_neg (by rw [show (s.taken rest).dock.check = none from hc]; exact Bool.false_ne_true)]

end Sent

end Config

/-! ### The record configured -/

theorem configuredDoor_cfg (s : State) (x : Door) (n : DoorConfig) : (s.configuredDoor x n).cfg = n := switched_cfg _ _ _

theorem configuredDoor_disabled {x : Door} (hw : x.cfg.enabled = true) (hn : n.enabled = false) : (s.configuredDoor x n).contactT = none
    ∧ (s.configuredDoor x n).presenceT = none ∧ (s.configuredDoor x n).heldT = none := by
  unfold State.configuredDoor Door.switched
  rw [hw, hn]
  exact ⟨rfl, rfl, rfl⟩

theorem configuredDoor_enabled {x : Door} (hw : x.cfg.enabled = false) (hn : n.enabled = true) :
    (s.configuredDoor x n).contactT = some n.debounce ∧ (s.configuredDoor x n).presenceT = some n.debounce
      ∧ (s.configuredDoor x n).debOpen = x.rawOpen ∧ (s.configuredDoor x n).debPresent = x.rawPresent := by
  unfold State.configuredDoor Door.switched
  rw [hw, hn]
  exact ⟨rfl, rfl, rfl, rfl⟩

theorem configuredDoor_same {x : Door} (hn : n.enabled = x.cfg.enabled) : (s.configuredDoor x n).contactT = x.contactT
    ∧ (s.configuredDoor x n).presenceT = x.presenceT ∧ (s.configuredDoor x n).heldT = x.heldT
    ∧ (s.configuredDoor x n).debOpen = x.debOpen ∧ (s.configuredDoor x n).debPresent = x.debPresent := by
  unfold State.configuredDoor
  rw [hn, switched_same]
  exact ⟨rfl, rfl, rfl, rfl, rfl⟩

/-- The targets last sent to the channels that the door names. -/
theorem configuredDoor_sent (s : State) (x : Door) (n : DoorConfig) :
    (n.light = some i → (s.configuredDoor x n).sentLight = s.lightTarget { x with state := x.switchedState n.enabled })
      ∧ (n.curtain = some i → (s.configuredDoor x n).sentCurtain = s.curtainTarget { x with state := x.switchedState n.enabled }) := by
  have state := switched_state x n
  unfold State.configuredDoor
  dsimp only
  refine ⟨fun hl => ?_, fun hc => ?_⟩
  · rw [if_neg (by rw [hl]; exact Option.some_ne_none i)]
    exact lightTarget_congr rfl state
  · rw [if_neg (by rw [hc]; exact Option.some_ne_none i)]
    exact curtainTarget_congr rfl state

/-- Settles O44: an accepted configuration is the record replaced after an accrual, the enabling changed, the old channels released and the
new ones offered the present targets, and the targets sent. -/
theorem configDoorTakesEffect : Obligations.ConfigDoorTakesEffect := by
  refine ⟨fun s tag body rest hlen h => configDoor_outOfRange hlen h,
    fun s tag body rest n hlen h hd hn => ⟨configDoor_duplicate hlen h (d := ⟨u8 body 0, hd⟩) rfl hn,
      configDoor_busy hlen h (d := ⟨u8 body 0, hd⟩) rfl hn⟩,
    fun s tag body rest d n hlen h hd hn hs hc => ?_⟩
  obtain ⟨zone, curtain, light, enabled, kd, heldTime, debounce⟩ := doorSent?_eq hn
  have run := configDoor_accepted hlen h hd hn hs hc
  have shape := configureDoor_shape d (treatDoor n) (s.taken rest)
  have others (e : Fin 32) (he : e ≠ d) := configureDoor_shape_ne (Ne.symm he) (treatDoor n) (s.taken rest)
  have rests := configureDoor_rests d (treatDoor n) (s.taken rest)
  have stays := configureDoor_session (d := d) (n := treatDoor n) (s := s.taken rest)
  have closes := configureDoor_closes (d := d) (n := treatDoor n) (s := s.taken rest)
  have logs (y : Session) := configureDoor_logs (d := d) (n := treatDoor n) (s := s.taken rest) (y := y)
  have keeps := configureDoor_keeps_log (d := d) (n := treatDoor n) (s := s.taken rest)
  have asked (i : Fin 128) := configureDoor_asked (s.taken rest) d (treatDoor n) (i := i)
  have drawn (i : Fin 128) := configureDoor_curtain (s.taken rest) d (treatDoor n) (i := i)
  have lit (i : Fin 128) := configureDoor_light (s.taken rest) d (treatDoor n) (i := i)
  have undrawn (i : Fin 128) := configureDoor_releases_curtain (s.taken rest) d (treatDoor n) (i := i)
  have unlit (i : Fin 128) := configureDoor_releases_light (s.taken rest) d (treatDoor n) (i := i)
  have uncurtained := configureDoor_without_curtain (s.taken rest) d (treatDoor n)
  have running (i : Fin 128) := configureDoor_bound_curtain (s.taken rest) d (treatDoor n) (i := i)
  have unbound (i : Fin 128) := configureDoor_unbound_curtain (s.taken rest) d (treatDoor n) (i := i)
  have kept (i : Fin 128) := configureDoor_kept_curtain (s.taken rest) d (treatDoor n) (i := i)
  generalize configureDoor d (treatDoor n) (s.taken rest) = t at *
  have bound_iff (i : Fin 128) (r : Role) : ((s.chan i).cfg.role = r ∧ (s.chan i).cfg.roleTarget = some d.val)
      ↔ ((s.taken rest).chan i).boundTo r d = true := Channel.boundTo_iff.symm
  have aimLight := lightTarget_eq (s.taken rest)
    { (s.taken rest).door d with state := ((s.taken rest).door d).switchedState (treatDoor n).enabled }
  have aimCurtain := curtainTarget_eq (s.taken rest)
    { (s.taken rest).door d with state := ((s.taken rest).door d).switchedState (treatDoor n).enabled }
  refine ⟨_, run, ?_, ?_, zone, channelField?_eq curtain, channelField?_eq light, rests.state, rests.stamp, ?_, keeps, ?_, ?_, ?_, ?_, ?_, ?_,
    ?_, ?_, ?_, others⟩
  · refine ((congrArg Door.cfg shape :).trans (configuredDoor_cfg _ _ _)).trans ?_
    rw [treatDoor_eq, kd, heldTime, debounce]
  · rw [enabled]
    exact bne_iff_ne
  · intro hw hx
    obtain ⟨contactT, presenceT, heldT⟩ := configuredDoor_disabled (s := s.taken rest) (x := (s.taken rest).shape d) (n := treatDoor n) hw hx
    refine ⟨closes hw hx, (congrArg Door.contactT shape :).trans contactT, (congrArg Door.presenceT shape :).trans presenceT,
      (congrArg Door.heldT shape :).trans heldT, fun y hy => ?_⟩
    obtain ⟨room, full⟩ := logs y hw hx hy
    refine ⟨fun hr => ?_, fun hf => ?_⟩
    · obtain ⟨log, lost, -⟩ := room hr
      exact ⟨log, lost⟩
    · obtain ⟨log, lost, reported, notice⟩ := full hf
      exact ⟨log, lost, reported, fun hl => notice hl t (.refl t)⟩
  · intro hw hx
    obtain ⟨contactT, presenceT, debOpen, debPresent⟩ :=
      configuredDoor_enabled (s := s.taken rest) (x := (s.taken rest).shape d) (n := treatDoor n) hw hx
    have bounded : (treatDoor n).debounce = max 1 (min 10 (u8 body 6)) := by
      rw [treatDoor_eq, debounce]
    rw [bounded] at contactT presenceT
    exact ⟨(congrArg Door.contactT shape :).trans contactT, (congrArg Door.presenceT shape :).trans presenceT,
      (congrArg Door.debOpen shape :).trans debOpen, (congrArg Door.debPresent shape :).trans debPresent⟩
  · intro hx
    obtain ⟨contactT, presenceT, heldT, debOpen, debPresent⟩ :=
      configuredDoor_same (s := s.taken rest) (x := (s.taken rest).shape d) (n := treatDoor n) hx
    exact ⟨(congrArg Door.contactT shape :).trans contactT, (congrArg Door.presenceT shape :).trans presenceT,
      (congrArg Door.heldT shape :).trans heldT, (congrArg Door.debOpen shape :).trans debOpen,
      (congrArg Door.debPresent shape :).trans debPresent, stays hx⟩
  · exact fun j ho hj hb => undrawn j ho hj ((bound_iff _ _).mp hb)
  · exact fun j ho hj hb => unlit j ho hj ((bound_iff _ _).mp hb)
  · intro i hi
    obtain ⟨-, sent⟩ := configuredDoor_sent (i := i) (s.taken rest) ((s.taken rest).shape d) (treatDoor n)
    refine ⟨((congrArg Door.sentCurtain shape :).trans (sent hi)).trans aimCurtain, fun hb => ?_⟩
    refine (drawn i hi ((bound_iff _ _).mp hb)).trans ?_
    rw [aimCurtain]
    exact takesSent_if _ _ _ _
  · intro i hi
    obtain ⟨sent, -⟩ := configuredDoor_sent (i := i) (s.taken rest) ((s.taken rest).shape d) (treatDoor n)
    refine ⟨((congrArg Door.sentLight shape :).trans (sent hi)).trans aimLight, fun hb => ?_⟩
    refine (lit i hi ((bound_iff _ _).mp hb)).trans ?_
    rw [aimLight]
    exact takesSent_if _ _ _ _
  · intro hx
    refine ⟨fun hn => uncurtained hn hx, fun i hi => ⟨fun hb => running i hi hx ((bound_iff _ _).mp hb), fun hb hr => ?_, fun hb hr => ?_⟩⟩
    · obtain ⟨c, walked, flag⟩ := unbound i hi hx (Bool.eq_false_of_not_eq_true fun h => hb ((bound_iff _ _).mpr h))
      refine flag.trans ?_
      rw [(drivenSteps_walked walked).1 hr]
      rfl
    · obtain ⟨c, walked, flag⟩ := unbound i hi hx (Bool.eq_false_of_not_eq_true fun h => hb ((bound_iff _ _).mpr h))
      obtain ⟨held, none⟩ := (drivenSteps_walked walked).2 hr
      change (0 < _ → (t.door d).curtainRunning = true) ∧ (_ → _ → (t.door d).curtainRunning = false)
      rw [flag]
      exact ⟨fun hg => decide_eq_true (held hg), fun hg he => by rw [none hg he]; rfl⟩
  · exact fun hx i hi hb hf => kept i hi hx ((bound_iff _ _).mp hb) hf
  · exact fun i hc' hl' => asked i (fun h => hc' ⟨(bound_iff _ _).mpr h.1, h.2⟩) (fun h => hl' ⟨(bound_iff _ _).mpr h.1, h.2⟩)

end Sys2Proof.Machine
end

section
/-! SUPPORT. A channel that CONFIG CHANNEL left afresh, under the target of its role unit and the arbiter (R44 to R52, R76). -/

namespace Sys2Proof.Machine

variable {s t u : State} {i j : Fin 128} {c d : Channel} {b : Bool} {m : Timer}

/-- A channel with a new configuration, with trip condition b and the min-off m where one runs: what it holds, waits for and times as
long as no unit asks it for anything less (R52). -/
structure Channel.Fresh (c : Channel) (b : Bool) (m : Timer) : Prop where
  tripped : c.tripped = b
  role : b = true → c.cfg.role.isStep = true
  quiet : c.cfg.role = .unused ∨ b = true → c.granted = 0 ∧ c.entry = none ∧ c.minOnT = none
  untimed : c.cfg.role = .unused ∨ c.cfg.role = .light ∨ c.cfg.minOff = 0 → c.minOffT = none
  held : m.isSome → c.cfg.role.isStep = true ∧ c.minOffT = m ∧ c.granted = 0 ∧ c.minOnT = none
  light : c.cfg.role = .light → c.entry = none ∧ c.minOnT = none
  young : ∀ e, c.entry = some e → e.age = 0

namespace Channel.Fresh

theorem of_fields (h : c.Fresh b m) (hc : d.cfg.role = c.cfg.role ∧ d.cfg.minOff = c.cfg.minOff) (ht : d.tripped = c.tripped)
    (hg : c.cfg.role ≠ .light → d.granted = c.granted) (he : d.entry = c.entry) (hn : d.minOnT = c.minOnT) (hf : d.minOffT = c.minOffT) :
    d.Fresh b m := by
  obtain ⟨role, minOff⟩ := hc
  refine ⟨ht.trans h.tripped, ?_, ?_, ?_, ?_, ?_, ?_⟩ <;> rw [role] at *
  · exact h.role
  · intro hq
    have other : c.cfg.role ≠ .light := hq.elim (fun hr => by rw [hr]; decide) fun hb => isStep_ne_light (h.role hb)
    rw [hg other, he, hn]
    exact h.quiet hq
  · rw [minOff, hf]
    exact h.untimed
  · intro hm
    obtain ⟨step, off, granted, on⟩ := h.held hm
    exact ⟨step, hf.trans off, (hg (isStep_ne_light step)).trans granted, hn.trans on⟩
  · rw [he, hn]
    exact h.light
  · rw [he]
    exact h.young

theorem target (h : c.Fresh b m) (v : Nat) (o : Output) : { c with target := v, out := o }.Fresh b m :=
  h.of_fields ⟨rfl, rfl⟩ rfl (fun _ => rfl) rfl rfl rfl

/-- The arbiter serves a channel afresh only where it waits with no timer running. -/
theorem walked (h : c.Fresh b m) (hw : c.WalkedTo d) : d.Fresh b m := by
  have asked := hw.asked
  simp only [Channel.asked, Prod.mk.injEq] at asked
  obtain ⟨cfg, -, -, tripped⟩ := asked
  have kept (hr : c.cfg.role ≠ .light) (he : c.entry = none ∨ c.minOffT.isSome) : d = c := hw.same (deficit_of_not_light hr) he
  refine ⟨tripped.trans h.tripped, ?_, fun hq => ?_, ?_, fun hm => ?_, fun hl => ?_, fun e he => ?_⟩
  · rw [cfg]
    exact h.role
  · rw [cfg] at hq
    obtain ⟨granted, entry, minOn⟩ := h.quiet hq
    have other : c.cfg.role ≠ .light := hq.elim (fun hr => by rw [hr]; decide) fun hb => isStep_ne_light (h.role hb)
    rw [kept other (.inl entry)]
    exact ⟨granted, entry, minOn⟩
  · rw [cfg, hw.minOff]
    exact h.untimed
  · obtain ⟨step, off, granted, on⟩ := h.held hm
    rw [kept (isStep_ne_light step) (.inr (by rw [off]; exact hm))]
    exact ⟨step, off, granted, on⟩
  · rw [cfg] at hl
    obtain ⟨entry, minOn⟩ := h.light hl
    exact ⟨hw.entry.elim (fun e => e.trans entry) id, (hw.minOn entry).trans minOn⟩
  · obtain same | gone := hw.entry
    · exact h.young e (same.symm.trans he)
    · rw [gone] at he
      cases he

/-- The upkeep of the queue gives a channel afresh a new entry, or none. -/
theorem kept (h : c.Fresh b m) (s : State) (mark : Bool) (o : Output) : { c with entry := s.entryKept mark c, out := o }.Fresh b m := by
  have idle (hw : c.wantsEntry s.stop.state = false) : s.entryKept mark c = none := by
    unfold State.entryKept
    rw [hw]
    rfl
  have unstepped (hr : c.cfg.role.isStep = false) : c.wantsEntry s.stop.state = false := by
    unfold Channel.wantsEntry
    rw [hr]
    rfl
  refine ⟨h.tripped, h.role, fun hq => ?_, h.untimed, h.held, fun hl => ?_, fun e he => ?_⟩
  · obtain ⟨granted, -, minOn⟩ := h.quiet hq
    refine ⟨granted, idle ?_, minOn⟩
    obtain hr | hb := hq
    · exact unstepped (by rw [hr]; rfl)
    · unfold Channel.wantsEntry
      rw [h.tripped, hb, Bool.not_true, Bool.and_false]
      rfl
  · exact ⟨idle (unstepped (by rw [show c.cfg.role = .light from hl]; rfl)), (h.light hl).2⟩
  · have written : s.entryKept mark c = some e := he
    unfold State.entryKept at written
    split at written
    · cases hc : c.entry with
      | none =>
        rw [hc] at written
        obtain rfl := Option.some.inj written
        rfl
      | some e' =>
        rw [hc] at written
        obtain rfl := Option.some.inj written
        split <;> exact h.young e' hc
    · cases written

end Channel.Fresh

/-! ### The operations of the Load Budget Unit -/

theorem fresh_arbitrate (h : (s.chan j).Fresh b m) : ((arbitrate s).chan j).Fresh b m := h.walked (arbitrate_walked j s)

theorem fresh_settleShed (h : (s.chan j).Fresh b m) : ((settleShed s).chan j).Fresh b m := by
  rwa [settleShed_chan]

theorem fresh_keepEntry (mark : Bool) (h : (s.chan i).Fresh b m) : ((keepEntry mark i s).chan i).Fresh b m := by
  obtain ⟨o, hc, -⟩ := keepEntry_chan_self mark i s
  rw [hc]
  exact h.kept s mark o

theorem shedOne_step (hr : (s.chan i).cfg.role.isStep = true) :
    ∃ g, shedOne i s = keepEntry false i (setGranted i g (s.putChan i { s.chan i with minOffT := startTimer (s.chan i).cfg.minOff })) := by
  unfold shedOne
  dsimp only
  split
  · next hl => rw [hl] at hr; cases hr
  · exact ⟨_, rfl⟩

/-- A pass of shedding takes from a channel afresh only what it holds with no min-off running. -/
theorem fresh_shedOne (hi : 0 < (s.chan i).nonProtected s.stop.state) (h : (s.chan i).Fresh b m) : ((shedOne i s).chan i).Fresh b m := by
  by_cases hl : (s.chan i).cfg.role = .light
  · obtain ⟨o, hc⟩ := shedOne_chan_light hl
    rw [hc]
    exact h.of_fields ⟨rfl, rfl⟩ rfl (fun hn => absurd hl hn) rfl rfl rfl
  · have granted : (s.chan i).granted ≠ 0 := by
      intro hg
      unfold Channel.nonProtected at hi
      rw [hg] at hi
      split at hi <;> simp at hi
    have used : (s.chan i).cfg.role ≠ .unused := fun hr => granted (h.quiet (.inl hr)).1
    have step : (s.chan i).cfg.role.isStep = true := by
      cases hr : (s.chan i).cfg.role with
      | unused => exact absurd hr used
      | light => exact absurd hr hl
      | heater | fan | curtain | docklight => rfl
    obtain ⟨g, e⟩ := shedOne_step step
    rw [e]
    refine fresh_keepEntry false ?_
    rw [setGranted_chan, chan_putChan_self, chan_putChan_self]
    exact {
      tripped := h.tripped
      role := h.role
      quiet := fun hq => absurd (h.quiet hq).1 granted
      untimed := fun hu => by
        obtain hu | hu | hu := hu
        · exact absurd hu used
        · exact absurd hu hl
        · exact if_pos hu
      held := fun hm => absurd (h.held hm).2.2.1 granted
      light := fun hn => absurd hn hl
      young := h.young }

theorem fresh_shedLoop (n : Nat) (h : (s.chan j).Fresh b m) : ((shedLoop n s).chan j).Fresh b m := by
  induction n generalizing s with
  | zero => exact h
  | succ n ih =>
    obtain safe | exceeded := le_or_gt s.poolUse s.budget.pool
    · rwa [shedLoop_of_safe _ safe]
    · obtain ⟨i, ⟨spare, -⟩, e⟩ := shedLoop_succ n exceeded
      rw [e]
      refine ih ?_
      by_cases hij : i = j
      · subst hij
        exact fresh_shedOne spare h
      · rwa [shedOne_chan_ne hij]

theorem fresh_handOver (cause : ShedCause) (h : (s.chan j).Fresh b m) : ((handOver cause s).chan j).Fresh b m := by
  unfold handOver
  refine fresh_arbitrate ?_
  unfold shedding
  dsimp only
  split
  · exact h
  · have shed := fresh_shedLoop (s.poolUse - s.budget.pool) h
    generalize shedLoop (s.poolUse - s.budget.pool) s = u at shed ⊢
    have reported (v : State) : ((reportShed v).setBudget { (reportShed v).budget with shed := true }).chan j = v.chan j := rfl
    rw [reported, raise_chan]
    exact shed

theorem fresh_reprotect (h : (s.chan j).Fresh b m) : ((reprotect s).chan j).Fresh b m := fresh_handOver _ h

/-! ### The target of a role unit (R40) -/

theorem fresh_stepTarget (v : Nat) (mark : Bool) (hg : (s.chan i).granted = 0) (h : (s.chan i).Fresh b m) :
    ((stepTarget i v mark s).chan i).Fresh b m := by
  have kept (k : Bool) : ((keepEntry k i (s.putChan i { s.chan i with target := v })).chan i).Fresh b m := by
    refine fresh_keepEntry k ?_
    rw [chan_putChan_self]
    exact h.target v _
  unfold stepTarget
  dsimp only
  rw [if_neg (by rw [hg]; exact Nat.not_lt_zero v)]
  split
  · exact fresh_arbitrate (kept _)
  · exact fresh_settleShed (kept _)

theorem fresh_lightTargetChange (v : Nat) (hl : (s.chan i).cfg.role = .light) (h : (s.chan i).Fresh b m) :
    ((lightTargetChange i v s).chan i).Fresh b m := by
  have put : ((s.putChan i { s.chan i with target := v }).chan i).Fresh b m := by
    rw [chan_putChan_self]
    exact h.target v _
  have granted (g : Nat) : ((setGranted i g (s.putChan i { s.chan i with target := v })).chan i).Fresh b m := by
    rw [setGranted_chan, chan_putChan_self, chan_putChan_self]
    exact h.of_fields ⟨rfl, rfl⟩ rfl (fun hn => absurd hl hn) rfl rfl rfl
  unfold lightTargetChange
  dsimp only
  split
  · split
    · exact fresh_arbitrate put
    · exact fresh_settleShed put
  · split
    · exact fresh_arbitrate (granted _)
    · split
      · exact fresh_arbitrate put
      · exact fresh_settleShed put

theorem fresh_targetChange (r : Role) (o v : Nat) (mark : Bool) (hg : (s.chan i).cfg.role ≠ .light → (s.chan i).granted = 0)
    (h : (s.chan i).Fresh b m) : ((targetChange i r o v mark s).chan i).Fresh b m := by
  unfold targetChange
  dsimp only
  split
  · exact h
  · next bound =>
    have role : (s.chan i).cfg.role = r := (Channel.boundTo_iff.mp (by simpa using bound)).1
    split
    · exact h
    · split
      · exact h
      · exact fresh_lightTargetChange v role h
    · next hl =>
      split
      · exact h
      · exact fresh_stepTarget _ mark (hg (by rw [role]; exact hl)) h

theorem fresh_protectedMinimum (z : Fin 24) (v : Nat) (h : (s.chan i).Fresh b m) : ((protectedMinimum i z v s).chan i).Fresh b m := by
  unfold protectedMinimum
  dsimp only
  split
  · exact h
  · next bound =>
    have role : (s.chan i).cfg.role = .light := (Channel.boundTo_iff.mp (by simpa using bound)).1
    split
    · exact h
    · refine fresh_reprotect ?_
      rw [chan_putChan_self]
      exact h.of_fields ⟨rfl, rfl⟩ rfl (fun hn => absurd role hn) rfl rfl rfl

/-- The role unit that owns a channel afresh answers with its present target (R52 step 4). -/
theorem fresh_channelBound (hg : (s.chan i).cfg.role ≠ .light → (s.chan i).granted = 0) (h : (s.chan i).Fresh b m) :
    ((channelBound i s).chan i).Fresh b m := by
  obtain e | ⟨z, -, -, e⟩ | ⟨z, -, -, e⟩ | ⟨z, hr, -, e⟩ | ⟨d, -, -, e⟩ | ⟨d, -, -, e⟩ := channelBound_cases i s <;> rw [e]
  · exact h
  · unfold heaterBound
    split
    · exact fresh_targetChange _ _ _ _ hg h
    · exact h
  · unfold fanBound
    split
    · exact fresh_targetChange _ _ _ _ hg h
    · exact h
  · unfold lightBound
    dsimp only
    split
    · have minimum := fresh_protectedMinimum (s := s.putLight z { s.light z with lastSent := (s.light z).target }) z (s.light z).cfg.protMin h
      have asked := (protectedMinimum_protects i z (s.light z).cfg.protMin (s.putLight z { s.light z with lastSent := (s.light z).target })).cfg i
      refine fresh_targetChange _ _ _ _ (fun hn => absurd ?_ hn) minimum
      rw [asked]
      exact hr
    · exact h
  · unfold curtainBound
    dsimp only
    split
    · exact fresh_targetChange (s := s.putDoor d _) _ _ _ _ hg h
    · exact h
  · unfold docklightBound
    dsimp only
    split
    · exact fresh_targetChange (s := s.putDoor d _) _ _ _ _ hg h
    · exact h

end Sys2Proof.Machine
end

section
/-! SUPPORT. The steps of CONFIG CHANNEL: the configuration applied, the role unit's answer, the figures afresh, and the trip at its end
(R40, R47, R52). -/

namespace Sys2Proof.Machine

variable {s t u : State} {i j : Fin 128} {n : ChannelConfig} {c : ChannelConfig} {p : PlantState}

/-! ### The configuration applied (R52 steps 1 to 4) -/

/-- The state in which the role unit answers. -/
def State.applied (s : State) (i : Fin 128) (n : ChannelConfig) : State := applyConfig i (s.chan i) n (bringToZero i s)

theorem reconfigure_eq (i : Fin 128) (n : ChannelConfig) (s : State) :
    reconfigure i n s = tripIfAsserted i (reprotect (channelBound i (s.applied i n))) := rfl

theorem applied_chan (s : State) (i : Fin 128) (n : ChannelConfig) : ∃ g o, (s.applied i n).chan i = { s.chan i with
    cfg := n, entry := none, minOnT := none, minOffT := (s.chan i).settledMinOff n, tripped := (s.chan i).staysTripped n
    target := if n.role = .light then n.protMin else 0, granted := g, out := o } ∧ g = { s.chan i with cfg := n }.protPart s.stop.state := by
  have zero : ∃ o, (bringToZero i s).chan i = { s.chan i with entry := none, minOnT := none, granted := 0, out := o } := by
    unfold bringToZero
    rw [setGranted_chan, chan_putChan_self, chan_putChan_self]
    exact ⟨_, rfl⟩
  have stop : (bringToZero i s).stop = s.stop := stop_of_outside (bringToZero_outside s i)
  obtain ⟨o, zero⟩ := zero
  unfold State.applied applyConfig
  rw [chan_putChan_self, zero, stop]
  exact ⟨_, _, rfl, rfl⟩

theorem applied_chan_ne (h : i ≠ j) (n : ChannelConfig) (s : State) : (s.applied i n).chan j = s.chan j := by
  unfold State.applied applyConfig
  rw [chan_putChan_ne _ _ h, bringToZero_chan_ne h]

theorem applied_asked (s : State) (i : Fin 128) (n : ChannelConfig) : ((s.applied i n).chan i).asked
    = (n, if n.role = .light then n.protMin else 0, (s.chan i).tripIn, (s.chan i).staysTripped n) := by
  obtain ⟨g, o, hc, -⟩ := applied_chan s i n
  rw [hc]
  rfl

theorem applied_outside (s : State) (i : Fin 128) (n : ChannelConfig) : (s.applied i n).outsideBudget = s.outsideBudget := by
  unfold State.applied
  rw [applyConfig_outside, bringToZero_outside]

theorem applied_lit (s : State) (i : Fin 128) (n : ChannelConfig) : (s.applied i n).Lit i n s.stop.state := by
  obtain ⟨g, o, hc, hg⟩ := applied_chan s i n
  refine ⟨congrArg StopControl.state (stop_of_outside (applied_outside s i n)), by rw [hc], ?_⟩
  rw [hc]
  exact (le_of_eq hg.symm)

theorem applied_basis (s : State) (i : Fin 128) (n : ChannelConfig) : (s.applied i n).basis = s.basis := by
  have outside := bringToZero_outside s i
  have zero : (bringToZero i s).unshared = s.unshared := by
    unfold bringToZero
    rw [setGranted_unshared]
    exact putChan_unshared s i _ rfl
  have basis := basis_eq zero (plan_of_outside outside) (stop_of_outside outside)
  unfold State.applied
  generalize bringToZero i s = u at basis
  exact basis

theorem settledMinOff_of_not_step {c : Channel} (h : n.role.isStep = false) : c.settledMinOff n = none := by
  unfold Channel.settledMinOff
  rw [h]
  rfl

theorem settledMinOff_of_zero {c : Channel} (h : n.minOff = 0) : c.settledMinOff n = none := by
  unfold Channel.settledMinOff
  rw [h]
  split
  · rfl
  · split
    · rfl
    · cases c.minOffT <;> rfl

/-- A channel that was brought to zero or leaves TRIPPED takes the whole min-off time. -/
theorem settledMinOff_of_zeroed {c : Channel} (hr : n.role.isStep = true)
    (h : (c.cfg.role.isStep = true ∧ 0 < c.granted) ∨ (c.tripped = true ∧ c.staysTripped n = false)) :
    c.settledMinOff n = startTimer n.minOff := by
  unfold Channel.settledMinOff
  rw [hr]
  simp only [Bool.not_true, Bool.false_eq_true, if_false, Bool.and_eq_true, Bool.or_eq_true, decide_eq_true_eq, Bool.not_eq_true']
  rw [if_pos h]

/-- A running min-off is cut to the new time. -/
theorem settledMinOff_of_running {c : Channel} {m : Nat} (hr : n.role.isStep = true) (hg : ¬(c.cfg.role.isStep = true ∧ 0 < c.granted))
    (ht : c.tripped = false) (hm : c.minOffT = some m) (hn : 0 < n.minOff) : c.settledMinOff n = some (min m n.minOff) := by
  unfold Channel.settledMinOff
  rw [hr, hm, ht]
  simp only [Bool.not_true, Bool.false_eq_true, if_false, Bool.and_eq_true, Bool.or_eq_true, decide_eq_true_eq, Bool.false_and, or_false]
  rw [if_neg hg, if_neg (Nat.pos_iff_ne_zero.mp hn)]

theorem applied_fresh (s : State) (i : Fin 128) (n : ChannelConfig) :
    ((s.applied i n).chan i).Fresh ((s.chan i).staysTripped n) ((s.chan i).settledMinOff n) := by
  obtain ⟨g, o, hc, hg⟩ := applied_chan s i n
  have unlit (h : n.role ≠ .light) : g = 0 := hg.trans (protPart_of_not_light h)
  have stays (h : (s.chan i).staysTripped n = true) : n.role.isStep = true := by
    unfold Channel.staysTripped at h
    simp only [Bool.and_eq_true] at h
    exact h.1.2
  rw [hc]
  refine ⟨rfl, stays, fun hq => ?_, fun hu => ?_, fun hm => ?_, fun _ => ⟨rfl, rfl⟩, fun e he => by cases he⟩
  · refine ⟨unlit ?_, rfl, rfl⟩
    exact hq.elim (fun hr => by rw [show n.role = .unused from hr]; decide) fun hb => isStep_ne_light (stays hb)
  · obtain hr | hr | hz := hu
    · exact settledMinOff_of_not_step (by rw [show n.role = .unused from hr]; rfl)
    · exact settledMinOff_of_not_step (by rw [show n.role = .light from hr]; rfl)
    · exact settledMinOff_of_zero hz
  · have step : n.role.isStep = true := by
      refine Bool.eq_true_of_not_eq_false fun hr => ?_
      rw [settledMinOff_of_not_step hr] at hm
      cases hm
    exact ⟨step, rfl, unlit (isStep_ne_light step), rfl⟩

/-! ### The role unit's answer (R40, R100, R133, R150) -/

section Bound

variable {z : Fin 12} {l : Fin 24} {d : Fin 32}

theorem channelBound_heater (hr : (s.chan i).cfg.role = .heater) (ht : (s.chan i).cfg.roleTarget = some z.val) :
    channelBound i s = heaterBound i z s := by
  unfold channelBound
  rw [hr, ht]
  dsimp only
  rw [index?_val]

theorem channelBound_fan (hr : (s.chan i).cfg.role = .fan) (ht : (s.chan i).cfg.roleTarget = some z.val) :
    channelBound i s = fanBound i z s := by
  unfold channelBound
  rw [hr, ht]
  dsimp only
  rw [index?_val]

theorem channelBound_light (hr : (s.chan i).cfg.role = .light) (ht : (s.chan i).cfg.roleTarget = some l.val) :
    channelBound i s = lightBound i l s := by
  unfold channelBound
  rw [hr, ht]
  dsimp only
  rw [index?_val]

theorem channelBound_curtain (hr : (s.chan i).cfg.role = .curtain) (ht : (s.chan i).cfg.roleTarget = some d.val) :
    channelBound i s = curtainBound i d s := by
  unfold channelBound
  rw [hr, ht]
  dsimp only
  rw [index?_val]

theorem channelBound_docklight (hr : (s.chan i).cfg.role = .docklight) (ht : (s.chan i).cfg.roleTarget = some d.val) :
    channelBound i s = docklightBound i d s := by
  unfold channelBound
  rw [hr, ht]
  dsimp only
  rw [index?_val]

theorem channelBound_unused (hr : (s.chan i).cfg.role = .unused) : channelBound i s = s := by
  unfold channelBound
  rw [hr]

/-- What the answer asks of the channel: a target, and of a LIGHT channel the zone's protected minimum. -/
structure State.Answers (s t : State) (i : Fin 128) : Prop where
  basis : t.basis = s.basis
  others : ∀ j, i ≠ j → (t.chan j).asked = (s.chan j).asked
  cfg : (t.chan i).cfg = { (s.chan i).cfg with protMin := (t.chan i).cfg.protMin }
  unlit : (s.chan i).cfg.role ≠ .light → (t.chan i).cfg = (s.chan i).cfg
  trip : (t.chan i).tripIn = (s.chan i).tripIn ∧ (t.chan i).tripped = (s.chan i).tripped
  lit : ∀ p, (s.Lit i (s.chan i).cfg p) → t.Lit i (t.chan i).cfg p

theorem State.Answers.refl (s : State) (i : Fin 128) : s.Answers s i := ⟨rfl, fun _ _ => rfl, rfl, fun _ => rfl, ⟨rfl, rfl⟩, fun _ h => h⟩

theorem State.Answers.before (h : u.Answers t i) (hb : u.budget = s.budget) (hs : u.basis = s.basis) (hp : u.stop = s.stop) :
    s.Answers t i := by
  have chan := chan_of_budget hb
  obtain ⟨basis, others, cfg, unlit, trip, lit⟩ := h
  simp only [chan] at others cfg unlit trip lit
  refine ⟨basis.trans hs, others, cfg, unlit, trip, fun p hl => lit p ?_⟩
  obtain ⟨state, same, held⟩ := hl
  exact ⟨by rw [hp]; exact state, by rw [chan], by rw [chan]; exact held⟩

theorem State.Answers.trans (h : s.Answers t i) (h' : t.Answers u i) : s.Answers u i := by
  refine ⟨h'.basis.trans h.basis, fun j hj => (h'.others j hj).trans (h.others j hj), by rw [h'.cfg, h.cfg], fun hr => ?_,
    ⟨h'.trip.1.trans h.trip.1, h'.trip.2.trans h.trip.2⟩, fun p hl => h'.lit p (h.lit p hl)⟩
  rw [h'.unlit (by rw [h.unlit hr]; exact hr), h.unlit hr]

theorem targetChange_answers (i : Fin 128) (r : Role) (o v : Nat) (m : Bool) (s : State) : s.Answers (targetChange i r o v m s) i := by
  have cfg := targetChange_cfg s i i r o v m
  refine ⟨(targetChange_figures i r o v m s).1, fun j hj => targetChange_asked_of_ne (.inl hj) _ _, by rw [cfg], fun _ => cfg, ?_, fun p hl => ?_⟩
  · obtain e | ⟨-, -, e⟩ := targetChange_asked s i i r o v m
    · exact ⟨congrArg (fun a => a.2.2.1) e, congrArg (fun a => a.2.2.2) e⟩
    · exact ⟨congrArg (fun a => a.2.2.1) e, congrArg (fun a => a.2.2.2) e⟩
  · rw [cfg]
    exact (State.Lit.arbiter i (s.chan i).cfg p).targetChange i r o v m hl

/-- The figures worked out afresh leave a LIGHT channel its protected part. -/
theorem reprotect_lit (h : s.Lit i c p) : (reprotect s).Lit i c p := by
  have closed := State.Lit.arbiter i c p
  unfold reprotect
  exact closed.handOver (fun u hu => hu.of_chan rfl rfl id) _ (closed.figure (closed.protect h))

theorem protectedMinimum_answers (hb : (s.chan i).boundTo .light l = true) (v : Nat) : s.Answers (protectedMinimum i l v s) i := by
  have asked := protectedMinimum_asked hb v
  have self := asked i
  rw [if_pos rfl] at self
  simp only [Channel.asked, Prod.mk.injEq] at self
  obtain ⟨cfg, -, tripIn, tripped⟩ := self
  refine ⟨(protectedMinimum_protects i l v s).basis, fun j hj => by rw [asked, if_neg hj], by rw [cfg],
    fun hr => absurd (Channel.boundTo_iff.mp hb).1 hr, ⟨tripIn, tripped⟩, fun p hl => ?_⟩
  rw [cfg]
  obtain e | ⟨c, hc, held, -, e⟩ := protectedMinimum_moves i l v s
  · rw [e] at cfg ⊢
    rwa [← cfg]
  · rw [e]
    refine reprotect_lit ⟨hl.1, ?_, ?_⟩ <;> rw [chan_putChan_self]
    · exact hc
    · rw [← hl.1]
      exact held

theorem channelBound_answers (i : Fin 128) (s : State) : s.Answers (channelBound i s) i := by
  obtain e | ⟨z, -, -, e⟩ | ⟨z, -, -, e⟩ | ⟨l, hr, ht, e⟩ | ⟨d, -, -, e⟩ | ⟨d, -, -, e⟩ := channelBound_cases i s <;> rw [e]
  · exact .refl s i
  · unfold heaterBound
    split
    · exact targetChange_answers _ _ _ _ _ _
    · exact .refl s i
  · unfold fanBound
    split
    · exact targetChange_answers _ _ _ _ _ _
    · exact .refl s i
  · unfold lightBound
    dsimp only
    split
    · have bound : ((s.putLight l { s.light l with lastSent := (s.light l).target }).chan i).boundTo .light l = true :=
        Channel.boundTo_iff.mpr ⟨hr, ht⟩
      exact ((protectedMinimum_answers bound _).trans (targetChange_answers _ _ _ _ _ _)).before rfl rfl rfl
    · exact .refl s i
  · unfold curtainBound
    dsimp only
    split
    · exact (targetChange_answers _ _ _ _ _ _).before rfl rfl rfl
    · exact .refl s i
  · unfold docklightBound
    dsimp only
    split
    · exact (targetChange_answers _ _ _ _ _ _).before rfl rfl rfl
    · exact .refl s i

/-! ### The target of the answer -/

theorem takes_of_unlit {c : Channel} (h : c.cfg.role ≠ .light) (v : Nat) : c.takes v = min v c.cfg.steps := if_neg h

theorem heaterBound_target (hr : (s.chan i).cfg.role = .heater) (ht : (s.chan i).cfg.roleTarget = some z.val) (h0 : (s.chan i).target = 0) :
    ((heaterBound i z s).chan i).target
      = if (s.zone z).cfg.heater = some i then min (s.zone z).heaterTarget (s.chan i).cfg.steps else 0 := by
  unfold heaterBound
  split
  · rw [targetChange_target (Channel.boundTo_iff.mpr ⟨hr, ht⟩) (by decide), takes_of_unlit (by rw [hr]; decide)]
  · exact h0

theorem fanBound_target (hr : (s.chan i).cfg.role = .fan) (ht : (s.chan i).cfg.roleTarget = some z.val) (h0 : (s.chan i).target = 0) :
    ((fanBound i z s).chan i).target = if (s.zone z).cfg.fan = some i then min (s.zone z).fanTarget (s.chan i).cfg.steps else 0 := by
  unfold fanBound
  split
  · rw [targetChange_target (Channel.boundTo_iff.mpr ⟨hr, ht⟩) (by decide), takes_of_unlit (by rw [hr]; decide)]
  · exact h0

theorem lightBound_asked (hr : (s.chan i).cfg.role = .light) (ht : (s.chan i).cfg.roleTarget = some l.val)
    (hc : (s.light l).cfg.channel = some i) :
    ((lightBound i l s).chan i).cfg.protMin = (s.light l).cfg.protMin ∧ ((lightBound i l s).chan i).target = (s.light l).target
      ∧ ((lightBound i l s).light l).lastSent = (s.light l).target := by
  unfold lightBound
  dsimp only
  rw [if_pos hc]
  have bound : ((s.putLight l { s.light l with lastSent := (s.light l).target }).chan i).boundTo .light l = true :=
    Channel.boundTo_iff.mpr ⟨hr, ht⟩
  have asked := protectedMinimum_asked bound (s.light l).cfg.protMin i
  rw [if_pos rfl] at asked
  have lighting := protectedMinimum_lighting (s.putLight l { s.light l with lastSent := (s.light l).target }) i l (s.light l).cfg.protMin
  have light : ((s.putLight l { s.light l with lastSent := (s.light l).target }).light l).lastSent = (s.light l).target := by
    rw [light_putLight_self]
  generalize s.putLight l { s.light l with lastSent := (s.light l).target } = u at *
  generalize protectedMinimum i l (s.light l).cfg.protMin u = v at *
  have bound' : (v.chan i).boundTo .light l = true := by
    refine Channel.boundTo_iff.mpr ?_
    rw [cfg_of_asked (c := v.chan i) (c' := { u.chan i with cfg := { (u.chan i).cfg with protMin := (s.light l).cfg.protMin } }) asked]
    exact Channel.boundTo_iff.mp bound
  refine ⟨?_, ?_, ?_⟩
  · rw [targetChange_cfg]
    exact congrArg (fun a => a.1.protMin) asked
  · rw [targetChange_target bound' (by decide), Channel.takes, if_pos (Channel.boundTo_iff.mp bound').1]
  · rw [light_of_lighting (targetChange_lighting _ _ _ _ _ _), light_of_lighting lighting, light]

theorem curtainBound_target (hr : (s.chan i).cfg.role = .curtain) (ht : (s.chan i).cfg.roleTarget = some d.val) (h0 : (s.chan i).target = 0)
    (h1 : (s.chan i).cfg.steps = 1) :
    ((s.door d).cfg.curtain = some i → ((curtainBound i d s).chan i).target = s.curtainTarget (s.door d)
        ∧ ((curtainBound i d s).door d).sentCurtain = s.curtainTarget (s.door d))
      ∧ ((s.door d).cfg.curtain ≠ some i → ((curtainBound i d s).chan i).target = 0) := by
  unfold curtainBound
  dsimp only
  refine ⟨fun hc => ?_, fun hc => ?_⟩
  · rw [if_pos hc]
    have bound : ((s.putDoor d { s.door d with sentCurtain := s.curtainTarget (s.door d) }).chan i).boundTo .curtain d = true :=
      Channel.boundTo_iff.mpr ⟨hr, ht⟩
    constructor
    · rw [targetChange_target bound (by decide), takes_of_step bound (by decide)]
      refine (congrArg (min _) h1).trans (min_eq_left ?_)
      rw [curtainTarget_eq]
      split <;> decide
    · have shape := targetChange_shape i .curtain d (s.curtainTarget (s.door d)) false
        (s.putDoor d { s.door d with sentCurtain := s.curtainTarget (s.door d) }) d
      rw [shape_putDoor_self] at shape
      exact (congrArg Door.sentCurtain shape :)
  · rw [if_neg hc]
    exact h0

theorem docklightBound_target (hr : (s.chan i).cfg.role = .docklight) (ht : (s.chan i).cfg.roleTarget = some d.val)
    (h0 : (s.chan i).target = 0) (h1 : (s.chan i).cfg.steps = 1) :
    ((s.door d).cfg.light = some i → ((docklightBound i d s).chan i).target = s.lightTarget (s.door d)
        ∧ ((docklightBound i d s).door d).sentLight = s.lightTarget (s.door d))
      ∧ ((s.door d).cfg.light ≠ some i → ((docklightBound i d s).chan i).target = 0) := by
  unfold docklightBound
  dsimp only
  refine ⟨fun hc => ?_, fun hc => ?_⟩
  · rw [if_pos hc]
    have bound : ((s.putDoor d { s.door d with sentLight := s.lightTarget (s.door d) }).chan i).boundTo .docklight d = true :=
      Channel.boundTo_iff.mpr ⟨hr, ht⟩
    constructor
    · rw [targetChange_target bound (by decide), takes_of_step bound (by decide)]
      refine (congrArg (min _) h1).trans (min_eq_left ?_)
      rw [lightTarget_eq]
      split <;> decide
    · have shape := targetChange_shape i .docklight d (s.lightTarget (s.door d)) false
        (s.putDoor d { s.door d with sentLight := s.lightTarget (s.door d) }) d
      rw [shape_putDoor_self] at shape
      exact (congrArg Door.sentLight shape :)
  · rw [if_neg hc]
    exact h0

end Bound

/-! ### The end of CONFIG CHANNEL (R50, R52) -/

/-- A trip leaves the figures and what they are worked out from. -/
theorem trip_figures (i : Fin 128) (s : State) : (trip i s).basis = s.basis ∧ (trip i s).figures = s.figures
    ∧ (∀ j, ((trip i s).chan j).cfg = (s.chan j).cfg) ∧ ∀ j, i ≠ j → ((trip i s).chan j).asked = (s.chan j).asked := by
  have written : (trip i s).unshared
      = (s.putChan i { s.chan i with tripped := true, entry := none, minOnT := none, minOffT := none }).unshared := by
    unfold trip
    dsimp only
    rw [arbitrate_unshared, raise_unshared, setGranted_unshared]
  have outside := trip_outside s i
  have put (j : Fin 128) : ((s.putChan i { s.chan i with tripped := true, entry := none, minOnT := none, minOffT := none }).chan j).cfg
      = (s.chan j).cfg := putChan_cfg (by rfl) j
  refine ⟨(basis_eq written (plan_of_outside outside) (stop_of_outside outside)).trans rfl, (figures_eq_of_unshared written).trans rfl,
    fun j => (chan_cfg_of_unshared written j).trans (put j), fun j hj => (asked_of_unshared written j).trans ?_⟩
  rw [chan_putChan_ne _ _ hj]

end Sys2Proof.Machine
end

section
/-! PROOFS. CONFIG CHANNEL (R38 to R40, R52). -/

namespace Sys2Proof.Machine

variable {s t u : State} {i j : Fin 128} {n : ChannelConfig} {tag : Byte} {body : Bytes} {rest : List Frame}

/-! ### What the events behind the role unit's answer leave -/

/-- The figures worked out afresh behind the role unit's answer. -/
def State.refigured (s : State) (i : Fin 128) (n : ChannelConfig) : State := reprotect (channelBound i (s.applied i n))

theorem clock_of_outsideRoles (h : t.outsideRoles = s.outsideRoles) : t.plan.clock = s.plan.clock := (congrArg (fun u => u.plan.clock) h :)

theorem reprotect_asked (s : State) (j : Fin 128) : ((reprotect s).chan j).asked = (s.chan j).asked :=
  asked_of_unshared (s := figure (protect s)) (handOver_unshared _ _) j

theorem applied_answers (s : State) (i : Fin 128) (n : ChannelConfig) : (s.applied i n).Answers (channelBound i (s.applied i n)) i :=
  channelBound_answers i _

theorem refigured_asked (s : State) (i : Fin 128) (n : ChannelConfig) (j : Fin 128) :
    ((s.refigured i n).chan j).asked = ((channelBound i (s.applied i n)).chan j).asked := reprotect_asked _ j

theorem refigured_trip (s : State) (i : Fin 128) (n : ChannelConfig) : ((s.refigured i n).chan i).tripIn = (s.chan i).tripIn
    ∧ ((s.refigured i n).chan i).tripped = (s.chan i).staysTripped n := by
  have asked := refigured_asked s i n i
  have applied := applied_asked s i n
  obtain ⟨tripIn, tripped⟩ := (applied_answers s i n).trip
  simp only [Channel.asked, Prod.mk.injEq] at asked applied
  exact ⟨asked.2.2.1.trans (tripIn.trans applied.2.2.1), asked.2.2.2.trans (tripped.trans applied.2.2.2)⟩

theorem refigured_cfg (s : State) (i : Fin 128) (n : ChannelConfig) :
    ((s.refigured i n).chan i).cfg = { n with protMin := ((s.refigured i n).chan i).cfg.protMin }
      ∧ (n.role ≠ .light → ((s.refigured i n).chan i).cfg = n) := by
  have answers := applied_answers s i n
  have applied : ((s.applied i n).chan i).cfg = n := (applied_lit s i n).2.1
  rw [cfg_of_asked (refigured_asked s i n i)]
  refine ⟨?_, fun hr => ?_⟩
  · have cfg := answers.cfg
    rw [applied] at cfg
    exact cfg
  · rw [answers.unlit (by rw [applied]; exact hr), applied]

theorem refigured_fresh (s : State) (i : Fin 128) (n : ChannelConfig) :
    ((s.refigured i n).chan i).Fresh ((s.chan i).staysTripped n) ((s.chan i).settledMinOff n) := by
  refine fresh_reprotect (fresh_channelBound (fun hr => ?_) (applied_fresh s i n))
  obtain ⟨g, o, hc, hg⟩ := applied_chan s i n
  rw [hc] at hr ⊢
  exact hg.trans (protPart_of_not_light hr)

theorem refigured_reprotects (s : State) (i : Fin 128) (n : ChannelConfig) : s.reprotects (s.refigured i n) :=
  (reprotect_reprotects (channelBound i (s.applied i n))).before ((applied_answers s i n).basis.trans (applied_basis s i n))

theorem refigured_lit (s : State) (i : Fin 128) (n : ChannelConfig) :
    (s.refigured i n).Lit i ((s.refigured i n).chan i).cfg s.stop.state := by
  have lit := applied_lit s i n
  have applied : ((s.applied i n).chan i).cfg = n := lit.2.1
  rw [cfg_of_asked (refigured_asked s i n i)]
  exact reprotect_lit ((applied_answers s i n).lit _ (by rw [applied]; exact lit))

theorem reconfigure_trips (i : Fin 128) (n : ChannelConfig) (s : State) : reconfigure i n s = tripIfAsserted i (s.refigured i n) :=
  reconfigure_eq i n s

/-- CONFIG CHANNEL ends there, or with a trip. -/
theorem tripIfAsserted_cases (i : Fin 128) (u : State) : ((u.chan i).tripsNow = false ∧ tripIfAsserted i u = u)
    ∨ ((u.chan i).tripsNow = true ∧ (u.chan i).cfg.role.isStep = true ∧ tripIfAsserted i u = trip i u) := by
  cases h : (u.chan i).tripsNow with
  | false => exact .inl ⟨rfl, tripIfAsserted_of_not h⟩
  | true =>
    refine .inr ⟨rfl, ?_, if_pos h⟩
    unfold Channel.tripsNow at h
    simp only [Bool.and_eq_true] at h
    exact h.1.1.1

theorem tripsNow_iff (s : State) (i : Fin 128) (n : ChannelConfig) : ((s.refigured i n).chan i).tripsNow = true
    ↔ n.role.isStep = true ∧ n.tripUsed = true ∧ (s.chan i).staysTripped n = false ∧ (s.chan i).tripIn = true := by
  obtain ⟨tripIn, tripped⟩ := refigured_trip s i n
  obtain ⟨cfg, -⟩ := refigured_cfg s i n
  unfold Channel.tripsNow
  rw [tripIn, tripped, cfg]
  simp only [Bool.and_eq_true, Bool.not_eq_true', and_assoc]

/-! ### What CONFIG CHANNEL leaves -/

section Reconfigured

variable (s : State) (i : Fin 128) (n : ChannelConfig)

/-- The channel as CONFIG CHANNEL leaves it. -/
theorem reconfigure_chan : (((s.refigured i n).chan i).tripsNow = false ∧ (reconfigure i n s).chan i = (s.refigured i n).chan i)
    ∨ (((s.refigured i n).chan i).tripsNow = true ∧ ∃ o, (reconfigure i n s).chan i = { (s.refigured i n).chan i with
        tripped := true, entry := none, minOnT := none, minOffT := none, granted := 0, out := o }) := by
  rw [reconfigure_trips]
  generalize s.refigured i n = u
  obtain ⟨stays, e⟩ | ⟨trips, hr, e⟩ := tripIfAsserted_cases i u <;> rw [e]
  · exact .inl ⟨stays, rfl⟩
  · exact .inr ⟨trips, trip_chan hr⟩

theorem reconfigure_asked : ((reconfigure i n s).chan i).cfg = ((s.refigured i n).chan i).cfg
    ∧ ((reconfigure i n s).chan i).target = ((channelBound i (s.applied i n)).chan i).target := by
  have asked := target_of_asked (refigured_asked s i n i)
  have shape := reconfigure_chan s i n
  generalize (s.refigured i n).chan i = c at *
  obtain ⟨-, e⟩ | ⟨-, o, e⟩ := shape <;> rw [e]
  · exact ⟨rfl, asked⟩
  · exact ⟨rfl, asked⟩

theorem reconfigure_tripped : ((reconfigure i n s).chan i).tripped = true
    ↔ n.role.isStep = true ∧ n.tripUsed = true ∧ ((s.chan i).tripped = true ∨ (s.chan i).tripIn = true) := by
  have trips := tripsNow_iff s i n
  have stays : (s.chan i).staysTripped n = true ↔ (s.chan i).tripped = true ∧ n.role.isStep = true ∧ n.tripUsed = true := by
    unfold Channel.staysTripped
    simp only [Bool.and_eq_true, and_assoc]
  obtain ⟨-, tripped⟩ := refigured_trip s i n
  obtain ⟨no, e⟩ | ⟨yes, o, e⟩ := reconfigure_chan s i n <;> rw [e]
  · rw [no] at trips
    rw [tripped, stays]
    cases hs : (s.chan i).staysTripped n with
    | true =>
      rw [hs] at stays
      simp only [true_iff] at stays
      exact ⟨fun h => ⟨h.2.1, h.2.2, .inl h.1⟩, fun _ => stays⟩
    | false =>
      rw [hs] at trips stays
      simp only [Bool.false_eq_true, false_iff, true_and] at trips stays
      refine ⟨fun h => absurd h stays, fun h => ?_⟩
      obtain ht | hin := h.2.2
      · exact absurd ⟨ht, h.1, h.2.1⟩ stays
      · exact absurd ⟨h.1, h.2.1, hin⟩ trips
  · obtain ⟨hr, hu, -, hin⟩ := trips.mp yes
    exact ⟨fun _ => ⟨hr, hu, .inr hin⟩, fun _ => rfl⟩

theorem refigured_role : ((s.refigured i n).chan i).cfg.role = n.role ∧ ((s.refigured i n).chan i).cfg.minOff = n.minOff := by
  obtain ⟨cfg, -⟩ := refigured_cfg s i n
  rw [cfg]
  exact ⟨rfl, rfl⟩

theorem reconfigure_quiet (h : n.role = .unused ∨ ((reconfigure i n s).chan i).tripped = true) :
    ((reconfigure i n s).chan i).granted = 0 ∧ ((reconfigure i n s).chan i).entry = none ∧ ((reconfigure i n s).chan i).minOnT = none := by
  have fresh := refigured_fresh s i n
  obtain ⟨role, -⟩ := refigured_role s i n
  obtain ⟨-, e⟩ | ⟨-, o, e⟩ := reconfigure_chan s i n
  · rw [e] at h ⊢
    exact fresh.quiet (h.imp role.trans fresh.tripped.symm.trans)
  · rw [e]
    exact ⟨rfl, rfl, rfl⟩

theorem reconfigure_untimed (h : n.role = .unused ∨ n.role = .light ∨ n.minOff = 0) : ((reconfigure i n s).chan i).minOffT = none := by
  have fresh := refigured_fresh s i n
  obtain ⟨role, minOff⟩ := refigured_role s i n
  obtain ⟨-, e⟩ | ⟨-, o, e⟩ := reconfigure_chan s i n <;> rw [e]
  exact fresh.untimed (h.imp role.trans (·.imp role.trans minOff.trans))

theorem reconfigure_held {m : Nat} (ht : ((reconfigure i n s).chan i).tripped = false) (hm : (s.chan i).settledMinOff n = some m) :
    ((reconfigure i n s).chan i).minOffT = some m ∧ ((reconfigure i n s).chan i).granted = 0
      ∧ ((reconfigure i n s).chan i).minOnT = none := by
  have fresh := refigured_fresh s i n
  obtain ⟨-, e⟩ | ⟨-, o, e⟩ := reconfigure_chan s i n <;> rw [e] at ht ⊢
  · rw [hm] at fresh
    exact (fresh.held rfl).2
  · cases ht

theorem reconfigure_light (h : n.role = .light) : ((reconfigure i n s).chan i).entry = none ∧ ((reconfigure i n s).chan i).minOnT = none := by
  have fresh := refigured_fresh s i n
  obtain ⟨role, -⟩ := refigured_role s i n
  obtain ⟨-, e⟩ | ⟨-, o, e⟩ := reconfigure_chan s i n <;> rw [e]
  · exact fresh.light (role.trans h)
  · exact ⟨rfl, rfl⟩

theorem reconfigure_young (e : QueueEntry) (h : ((reconfigure i n s).chan i).entry = some e) : e.age = 0 := by
  have fresh := refigured_fresh s i n
  obtain ⟨-, c⟩ | ⟨-, o, c⟩ := reconfigure_chan s i n <;> rw [c] at h
  · exact fresh.young e h
  · cases h

theorem reconfigure_protected (h : n.role = .light) :
    ((reconfigure i n s).chan i).protPart s.stop.state ≤ ((reconfigure i n s).chan i).granted := by
  obtain ⟨-, -, held⟩ := refigured_lit s i n
  obtain ⟨-, e⟩ | ⟨yes, -⟩ := reconfigure_chan s i n
  · rw [e]
    exact held
  · obtain ⟨hr, -⟩ := (tripsNow_iff s i n).mp yes
    rw [h] at hr
    cases hr

theorem reconfigure_others (h : i ≠ j) : ((reconfigure i n s).chan j).asked = (s.chan j).asked := by
  have before : ((s.refigured i n).chan j).asked = (s.chan j).asked := by
    rw [refigured_asked, (applied_answers s i n).others j h, applied_chan_ne h]
  rw [reconfigure_trips, ← before]
  obtain ⟨-, e⟩ | ⟨-, -, e⟩ := tripIfAsserted_cases i (s.refigured i n) <;> rw [e]
  exact (trip_figures i _).2.2.2 j h

theorem reconfigure_reprotects : s.reprotects (reconfigure i n s) := by
  have before := refigured_reprotects s i n
  rw [reconfigure_trips]
  obtain ⟨-, e⟩ | ⟨-, -, e⟩ := tripIfAsserted_cases i (s.refigured i n) <;> rw [e]
  · exact before
  · obtain ⟨basis, figures, cfg, -⟩ := trip_figures i (s.refigured i n)
    exact before.after figures (State.Protects.total_congr basis cfg)

theorem reconfigure_outsideBudget : (reconfigure i n s).outsideBudget = (channelBound i (s.applied i n)).outsideBudget := by
  rw [reconfigure_eq, tripIfAsserted_outside, reprotect_outside]

/-- A trip on the way reports what the channel held. -/
theorem trip_reports (h : s.Follows u) :
    s.reports (trip i u) ⟨.channelTripped, u.plan.clock, i, tripData (u.chan i) (u.chan i).granted⟩ := by
  have budget := State.Follows.budget s
  have zero := budget.setGranted i 0 (.of_line h rfl :
    s.Follows (u.putChan i { u.chan i with tripped := true, entry := none, minOnT := none, minOffT := none }))
  have clock : (setGranted i 0 (u.putChan i { u.chan i with tripped := true, entry := none, minOnT := none, minOffT := none })).plan.clock
      = u.plan.clock := (congrArg PlanUnit.clock (plan_of_outside (setGranted_outside _ i 0)) :)
  unfold trip
  dsimp only
  rw [← clock]
  exact reports_of_raise zero ((State.Follows.budget _).arbitrate (.refl _))

/-- A channel that its asserted trip line trips reports what it held. -/
theorem reconfigure_reports (hr : n.role.isStep = true) (hu : n.tripUsed = true) (ht : (s.chan i).tripped = false)
    (hin : (s.chan i).tripIn = true) : ∃ held, s.reports (reconfigure i n s)
      ⟨.channelTripped, s.plan.clock, i, le8 n.role.code ++ leOpt8 n.roleTarget ++ le8 held⟩ := by
  have stays : (s.chan i).staysTripped n = false := by
    unfold Channel.staysTripped
    rw [ht]
    rfl
  have trips := (tripsNow_iff s i n).mpr ⟨hr, hu, stays, hin⟩
  obtain ⟨cfg, -⟩ := refigured_cfg s i n
  have follows : s.Follows (s.refigured i n) := by
    have units := State.Follows.units s
    have budget := State.Follows.budget s
    exact budget.reprotect (units.channelBound i (budget.applyConfig i _ n (budget.bringToZero i (.refl s))))
  have clock : (s.refigured i n).plan.clock = s.plan.clock := by
    have outside : (s.refigured i n).outsideRoles = s.outsideRoles := by
      unfold State.refigured
      rw [outsideRoles_of_budget (reprotect_outside _), channelBound_outsideRoles, outsideRoles_of_budget (applied_outside s i n)]
    exact clock_of_outsideRoles outside
  rw [reconfigure_trips]
  obtain ⟨no, -⟩ | ⟨-, -, e⟩ := tripIfAsserted_cases i (s.refigured i n)
  · rw [no] at trips
    cases trips
  · rw [e]
    refine ⟨((s.refigured i n).chan i).granted, ?_⟩
    have data : tripData ((s.refigured i n).chan i) ((s.refigured i n).chan i).granted
        = le8 n.role.code ++ leOpt8 n.roleTarget ++ le8 ((s.refigured i n).chan i).granted := by
      unfold tripData
      rw [cfg]
    rw [← data, ← clock]
    generalize s.refigured i n = u at follows ⊢
    exact trip_reports s i follows

end Reconfigured

end Sys2Proof.Machine
end

section
/-! PROOFS. The request CONFIG CHANNEL (R38 to R40, R52). -/

namespace Sys2Proof.Machine

variable {s t u : State} {i j : Fin 128} {r : Role} {target : Option Nat} {n : ChannelConfig} {tag : Byte} {body : Bytes} {rest : List Frame}

theorem treatSteps_eq (r : Role) (k : Nat) : treatSteps r k = match r with
    | .heater => max 1 (min 8 k)
    | .fan => max 1 (min 6 k)
    | .curtain | .docklight => 1
    | .light | .unused => Config.ignoredSteps k := by
  cases r <;> rfl

theorem channelTreated_eq (r : Role) (target : Option Nat) (body : Bytes) : channelTreated r target body
    = { role := r, roleTarget := target, steps := treatSteps r (u8 body 3), rating := max 1 (min 2000 (u16 body 4))
        priority := min (u8 body 6) 7, minOn := min (u16 body 7) 900, minOff := min (u16 body 9) 900
        tripUsed := uFlag body 11 && r != .light, protMin := if r = .light then min (u16 body 12) 1000 else 0 } := rfl

/-- The configuration that is taken, but for the protected minimum (R39). -/
theorem channelTreated_wiring (r : Role) (target : Option Nat) (body : Bytes) : { channelTreated r target body with protMin := 0 }
    = { role := r, roleTarget := target
        steps := match r with
          | .heater => max 1 (min 8 (u8 body 3))
          | .fan => max 1 (min 6 (u8 body 3))
          | .curtain | .docklight => 1
          | .light | .unused => Config.ignoredSteps (u8 body 3)
        rating := max 1 (min 2000 (u16 body 4)), priority := min (u8 body 6) 7, minOn := min (u16 body 7) 900
        minOff := min (u16 body 9) 900, tripUsed := decide (u8 body 11 ≠ 0 ∧ r ≠ .light), protMin := 0 } := by
  have used : (uFlag body 11 && r != .light) = decide (u8 body 11 ≠ 0 ∧ r ≠ .light) := by
    rw [Bool.eq_iff_iff, decide_eq_true_iff, Bool.and_eq_true, bne_iff_ne]
    exact and_congr_left fun _ => bne_iff_ne
  rw [channelTreated_eq, ← used, treatSteps_eq]

theorem tripUsed_iff (r : Role) (target : Option Nat) (body : Bytes) :
    (channelTreated r target body).tripUsed = true ↔ (u8 body 11 ≠ 0 ∧ r ≠ .light) := by
  rw [channelTreated_eq]
  dsimp only
  rw [Bool.and_eq_true, bne_iff_ne]
  exact and_congr_left fun _ => bne_iff_ne

theorem boundElsewhere_of_held {k : Nat} (hr : r ≠ .unused) (hj : j ≠ i) (role : (s.chan j).cfg.role = r)
    (bound : (s.chan j).cfg.roleTarget = some k) : s.boundElsewhere i r (some k) = true := by
  unfold State.boundElsewhere
  rw [Bool.and_eq_true, bne_iff_ne, List.any_eq_true]
  refine ⟨hr, j, mem_indices j, ?_⟩
  rw [role, bound]
  simp [hj]

theorem role?_none {k : Nat} (h : 6 ≤ k) : role? k = none := by
  obtain ⟨m, rfl⟩ := Nat.exists_eq_add_of_le' h
  rfl

section Config

variable (hlen : body.length = 14) (h : s.takes ⟨tag, 0x28, body⟩ rest)
include hlen h

theorem configChannel_outOfRange
    (hf : 128 ≤ u8 body 0 ∨ 6 ≤ u8 body 1 ∨ ∃ r, role? (u8 body 1) = some r ∧ roleTarget? r (u8 body 2) = none) :
    exec (.configChannel tag body) s = .next (s.answered rest tag 0x28 [0x12]) := by
  change request 0x28 tag body _ s = _
  refine request_answers (n := 14) (by decide) hlen h ?_
  dsimp only
  cases hi : index? 128 (u8 body 0) with
  | none => rfl
  | some i =>
    cases hr : role? (u8 body 1) with
    | none => rfl
    | some r =>
      obtain hb | hb | ⟨r', hr', ht⟩ := hf
      · rw [index?_none hb] at hi
        cases hi
      · rw [role?_none hb] at hr
        cases hr
      · obtain rfl := Option.some.inj (hr.symm.trans hr')
        dsimp only
        rw [ht]

theorem configChannel_duplicate (hi : u8 body 0 = i) (hr : role? (u8 body 1) = some r) (ht : roleTarget? r (u8 body 2) = some target)
    (hb : s.boundElsewhere i r target = true) :
    exec (.configChannel tag body) s = .next (s.answered rest tag 0x28 [0x14]) := by
  change request 0x28 tag body _ s = _
  refine request_answers (n := 14) (by decide) hlen h ?_
  rw [index?_of_eq hi, hr]
  dsimp only
  rw [ht]
  exact if_pos hb

theorem configChannel_accepted (hi : u8 body 0 = i) (hr : role? (u8 body 1) = some r) (ht : roleTarget? r (u8 body 2) = some target)
    (hb : s.boundElsewhere i r target = false) :
    exec (.configChannel tag body) s = .next (sendReply tag 0x28
      (stTreated (channelClamped body (channelTreated r target body)) ++ le8 i ++ classByte r
        ++ channelStateBytes ((reconfigure i (channelTreated r target body) (s.taken rest)).chan i))
      (reconfigure i (channelTreated r target body) (s.taken rest))) := by
  change request 0x28 tag body _ s = _
  refine request_runs (n := 14) (by decide) hlen h ?_
  rw [index?_of_eq hi, hr]
  dsimp only
  rw [ht]
  exact if_neg (by rw [show (s.taken rest).boundElsewhere i r target = false from hb]; exact Bool.false_ne_true)

end Config

/-! ### The target that the role unit answers with -/

theorem zone_of_climate (h : t.climate = s.climate) (z : Fin 12) : t.zone z = s.zone z := by
  unfold State.zone
  rw [h]

theorem sent_of_shape {d : Fin 32} (h : t.shape d = s.shape d) : (t.door d).sentCurtain = (s.door d).sentCurtain
    ∧ (t.door d).sentLight = (s.door d).sentLight := ⟨(congrArg Door.sentCurtain h :), (congrArg Door.sentLight h :)⟩

theorem protPart_light {c : Channel} {p : PlantState} (h : c.cfg.role = .light) :
    c.protPart p = units c.cfg.rating (if p = .running then c.cfg.protMin else 1000) := by
  unfold Channel.protPart
  rw [h]
  exact (apply_ite _ _ _ _).symm

section Targets

variable (s i n)

theorem applied_units : (∀ z, (s.applied i n).zone z = s.zone z) ∧ (∀ l, (s.applied i n).light l = s.light l)
    ∧ (∀ d, (s.applied i n).shape d = s.shape d) ∧ (s.applied i n).stop = s.stop := by
  have outside := applied_outside s i n
  exact ⟨fun z => zone_of_climate (climate_of_outside outside) z, fun l => light_of_lighting (lighting_of_outside outside) l,
    fun d => shape_of_outside outside d, stop_of_outside outside⟩

theorem applied_channel : ((s.applied i n).chan i).cfg = n ∧ (n.role ≠ .light → ((s.applied i n).chan i).target = 0) := by
  obtain ⟨g, o, hc, -⟩ := applied_chan s i n
  rw [hc]
  exact ⟨rfl, fun hr => if_neg hr⟩

variable {s i n}

theorem reconfigure_unused (hr : n.role = .unused) : ((reconfigure i n s).chan i).target = 0 := by
  obtain ⟨cfg, zero⟩ := applied_channel s i n
  rw [(reconfigure_asked s i n).2, channelBound_unused (by rw [cfg, hr])]
  exact zero (by rw [hr]; decide)

theorem reconfigure_heater {z : Fin 12} (hr : n.role = .heater) (ht : n.roleTarget = some z.val) :
    ((reconfigure i n s).chan i).target = if (s.zone z).cfg.heater = some i then min (s.zone z).heaterTarget n.steps else 0 := by
  obtain ⟨cfg, zero⟩ := applied_channel s i n
  obtain ⟨zone, -⟩ := applied_units s i n
  rw [(reconfigure_asked s i n).2, channelBound_heater (by rw [cfg, hr]) (by rw [cfg, ht]),
    heaterBound_target (by rw [cfg, hr]) (by rw [cfg, ht]) (zero (by rw [hr]; decide)), zone, cfg]

theorem reconfigure_fan {z : Fin 12} (hr : n.role = .fan) (ht : n.roleTarget = some z.val) :
    ((reconfigure i n s).chan i).target = if (s.zone z).cfg.fan = some i then min (s.zone z).fanTarget n.steps else 0 := by
  obtain ⟨cfg, zero⟩ := applied_channel s i n
  obtain ⟨zone, -⟩ := applied_units s i n
  rw [(reconfigure_asked s i n).2, channelBound_fan (by rw [cfg, hr]) (by rw [cfg, ht]),
    fanBound_target (by rw [cfg, hr]) (by rw [cfg, ht]) (zero (by rw [hr]; decide)), zone, cfg]

theorem reconfigure_cfg_answered : ((reconfigure i n s).chan i).cfg = ((channelBound i (s.applied i n)).chan i).cfg :=
  (reconfigure_asked s i n).1.trans (cfg_of_asked (refigured_asked s i n i))

theorem reconfigure_named_light {l : Fin 24} (hr : n.role = .light) (ht : n.roleTarget = some l.val) (hc : (s.light l).cfg.channel = some i) :
    ((reconfigure i n s).chan i).cfg.protMin = (s.light l).cfg.protMin ∧ ((reconfigure i n s).chan i).target = (s.light l).target
      ∧ ((reconfigure i n s).light l).lastSent = (s.light l).target := by
  obtain ⟨cfg, -⟩ := applied_channel s i n
  obtain ⟨-, light, -⟩ := applied_units s i n
  have answered := lightBound_asked (s := s.applied i n) (i := i) (l := l) (by rw [cfg, hr]) (by rw [cfg, ht]) (by rw [light]; exact hc)
  rw [← channelBound_light (by rw [cfg, hr]) (by rw [cfg, ht]), light] at answered
  rw [reconfigure_cfg_answered, (reconfigure_asked s i n).2, light_of_lighting (lighting_of_outside (reconfigure_outsideBudget s i n))]
  exact answered

theorem reconfigure_unnamed_light {l : Fin 24} (hr : n.role = .light) (ht : n.roleTarget = some l.val) (hc : (s.light l).cfg.channel ≠ some i) :
    ((reconfigure i n s).chan i).cfg.protMin = n.protMin ∧ ((reconfigure i n s).chan i).target = n.protMin := by
  obtain ⟨cfg, -⟩ := applied_channel s i n
  obtain ⟨-, light, -⟩ := applied_units s i n
  have silent : lightBound i l (s.applied i n) = s.applied i n := by
    unfold lightBound
    dsimp only
    rw [light, if_neg hc]
  rw [reconfigure_cfg_answered, (reconfigure_asked s i n).2, channelBound_light (by rw [cfg, hr]) (by rw [cfg, ht]), silent]
  obtain ⟨g, o, hc, -⟩ := applied_chan s i n
  rw [hc]
  exact ⟨rfl, if_pos hr⟩

theorem reconfigure_curtain {d : Fin 32} (hr : n.role = .curtain) (ht : n.roleTarget = some d.val) (h1 : n.steps = 1) :
    ((s.door d).cfg.curtain = some i → ((reconfigure i n s).chan i).target = s.curtainTarget (s.door d)
        ∧ ((reconfigure i n s).door d).sentCurtain = s.curtainTarget (s.door d))
      ∧ ((s.door d).cfg.curtain ≠ some i → ((reconfigure i n s).chan i).target = 0) := by
  obtain ⟨cfg, zero⟩ := applied_channel s i n
  obtain ⟨-, -, shape, stop⟩ := applied_units s i n
  have answered := curtainBound_target (s := s.applied i n) (i := i) (d := d) (by rw [cfg, hr]) (by rw [cfg, ht])
    (zero (by rw [hr]; decide)) (by rw [cfg, h1])
  have sent : ((reconfigure i n s).door d).sentCurtain = ((channelBound i (s.applied i n)).door d).sentCurtain :=
    (sent_of_shape (shape_of_outside (reconfigure_outsideBudget s i n) d)).1
  rw [← channelBound_curtain (by rw [cfg, hr]) (by rw [cfg, ht]), cfg_of_shape (shape d),
    curtainTarget_congr stop (state_of_shape (shape d))] at answered
  rw [(reconfigure_asked s i n).2, sent]
  exact answered

theorem reconfigure_docklight {d : Fin 32} (hr : n.role = .docklight) (ht : n.roleTarget = some d.val) (h1 : n.steps = 1) :
    ((s.door d).cfg.light = some i → ((reconfigure i n s).chan i).target = s.lightTarget (s.door d)
        ∧ ((reconfigure i n s).door d).sentLight = s.lightTarget (s.door d))
      ∧ ((s.door d).cfg.light ≠ some i → ((reconfigure i n s).chan i).target = 0) := by
  obtain ⟨cfg, zero⟩ := applied_channel s i n
  obtain ⟨-, -, shape, stop⟩ := applied_units s i n
  have answered := docklightBound_target (s := s.applied i n) (i := i) (d := d) (by rw [cfg, hr]) (by rw [cfg, ht])
    (zero (by rw [hr]; decide)) (by rw [cfg, h1])
  have sent : ((reconfigure i n s).door d).sentLight = ((channelBound i (s.applied i n)).door d).sentLight :=
    (sent_of_shape (shape_of_outside (reconfigure_outsideBudget s i n) d)).2
  rw [← channelBound_docklight (by rw [cfg, hr]) (by rw [cfg, ht]), cfg_of_shape (shape d),
    lightTarget_congr stop (state_of_shape (shape d))] at answered
  rw [(reconfigure_asked s i n).2, sent]
  exact answered

end Targets

/-- Settles O29: an accepted configuration is the channel brought to zero and configured afresh, the answer of its role unit, the figures
afresh, and the trip of a channel whose trip line stands asserted. -/
theorem configChannelTakesEffect : Obligations.ConfigChannelTakesEffect := by
  refine ⟨fun s tag body rest hlen hf h => configChannel_outOfRange hlen h hf,
    fun s tag body rest i j r n hlen hi hr hu ht hj role bound h =>
      configChannel_duplicate hlen h hi hr ht (boundElsewhere_of_held hu hj role bound),
    fun s tag body rest i r target hlen hi hr ht hb h => ?_⟩
  have run := configChannel_accepted hlen h hi hr ht hb
  have eq := channelTreated_eq r target body
  have used := tripUsed_iff r target body
  have wiring := channelTreated_wiring r target body
  generalize channelTreated r target body = n at *
  obtain ⟨cfg, unlit⟩ := refigured_cfg (s.taken rest) i n
  obtain ⟨same, -⟩ := reconfigure_asked (s.taken rest) i n
  rw [← same] at cfg unlit
  have tripped := reconfigure_tripped (s.taken rest) i n
  have quiet := reconfigure_quiet (s.taken rest) i n
  have untimed := reconfigure_untimed (s.taken rest) i n
  have held (m : Nat) := reconfigure_held (s.taken rest) i n (m := m)
  have light := reconfigure_light (s.taken rest) i n
  have young := reconfigure_young (s.taken rest) i n
  have prot := reconfigure_protected (s.taken rest) i n
  have others (j : Fin 128) := reconfigure_others (s.taken rest) i n (j := j)
  have afresh := reconfigure_reprotects (s.taken rest) i n
  have outside := reconfigure_outsideRoles (s.taken rest) i n
  have reports := reconfigure_reports (s.taken rest) i n
  have unused := reconfigure_unused (s := s.taken rest) (i := i) (n := n)
  have heater (z : Fin 12) := reconfigure_heater (s := s.taken rest) (i := i) (n := n) (z := z)
  have fan (z : Fin 12) := reconfigure_fan (s := s.taken rest) (i := i) (n := n) (z := z)
  have named (l : Fin 24) := reconfigure_named_light (s := s.taken rest) (i := i) (n := n) (l := l)
  have unnamed (l : Fin 24) := reconfigure_unnamed_light (s := s.taken rest) (i := i) (n := n) (l := l)
  have curtain (d : Fin 32) := reconfigure_curtain (s := s.taken rest) (i := i) (n := n) (d := d)
  have docklight (d : Fin 32) := reconfigure_docklight (s := s.taken rest) (i := i) (n := n) (d := d)
  generalize reconfigure i n (s.taken rest) = t at *
  have role : n.role = r := by rw [eq]
  have bound : n.roleTarget = target := by rw [eq]
  have steps : n.steps = treatSteps r (u8 body 3) := by rw [eq]
  have minOff : n.minOff = min (u16 body 9) 900 := by rw [eq]
  have protMin : n.protMin = if r = .light then min (u16 body 12) 1000 else 0 := by rw [eq]
  have climate := climate_of_outsideRoles outside
  have stop := stop_of_outsideRoles outside
  have store := store_of_outsideRoles outside
  have plan := plan_of_outsideRoles outside
  rw [treatSteps_eq] at steps
  refine ⟨_, run, ?_, fun hl => ?_, ?_, fun hs hu ht' hin => ?_, fun hq => quiet (hq.imp_left role.trans), fun hu => ?_, fun hs ht' hm => ?_,
    fun hl => ?_, young, fun hu => unused (role.trans hu), fun z hz => ⟨fun hr' => ?_, fun hr' => ?_⟩, fun l hz hl => ⟨fun hc => ?_, fun hc => ?_⟩,
    fun d hz => ⟨fun hr' => ?_, fun hr' => ?_⟩, fun j hj => others j (Ne.symm hj), climate, stop, store, plan,
    afresh⟩
  · exact (congrArg (fun c : ChannelConfig => { c with protMin := 0 }) cfg).trans wiring
  · rw [← role] at hl
    exact (congrArg ChannelConfig.protMin (unlit hl)).trans (by rw [protMin, if_neg (by rw [← role]; exact hl)])
  · rw [role, used] at tripped
    exact tripped
  · obtain ⟨k, report⟩ := reports (by rw [role]; exact hs) (used.mpr hu) ht' hin
    rw [role, bound] at report
    exact ⟨k, report⟩
  · rw [role, minOff] at untimed
    exact untimed hu
  · have step : n.role.isStep = true := by rw [role]; exact hs
    have positive : 0 < n.minOff := by rw [minOff]; exact hm
    refine ⟨fun hz => ?_, fun hg hc m hmo => ?_⟩
    · refine held _ ht' ?_
      refine (settledMinOff_of_zeroed step (hz.imp_right fun hc => ⟨hc, ?_⟩)).trans ?_
      case refine_2 => rw [startTimer_eq, if_neg (Nat.pos_iff_ne_zero.mp positive), minOff]
      unfold Channel.staysTripped
      rw [hc, step]
      refine Bool.eq_false_of_not_eq_true fun hu => ?_
      exact Bool.false_ne_true (ht'.symm.trans (tripped.mpr ⟨step, hu, .inl hc⟩))
    · rw [← minOff]
      exact held _ ht' (settledMinOff_of_running step hg hc hmo positive)
  · have part := prot (role.trans hl)
    have lightRole : (t.chan i).cfg.role = .light := by rw [cfg]; exact role.trans hl
    refine ⟨?_, light (role.trans hl)⟩
    rw [protPart_light lightRole] at part
    exact part
  · refine (heater z (role.trans hr') (bound.trans hz)).trans ?_
    rw [steps]
    subst hr'
    rfl
  · refine (fan z (role.trans hr') (bound.trans hz)).trans ?_
    rw [steps]
    subst hr'
    rfl
  · exact named l (role.trans hl) (bound.trans hz) hc
  · have asked := unnamed l (role.trans hl) (bound.trans hz) hc
    rw [protMin, if_pos hl] at asked
    exact asked
  · have asked := curtain d (role.trans hr') (bound.trans hz) (by rw [steps, hr'])
    rw [curtainTarget_eq] at asked
    simp only [List.mem_cons, List.not_mem_nil, or_false]
    exact asked
  · have asked := docklight d (role.trans hr') (bound.trans hz) (by rw [steps, hr'])
    rw [lightTarget_eq] at asked
    simp only [List.mem_cons, List.not_mem_nil, or_false]
    exact asked

end Sys2Proof.Machine
end

section
/-! PROOFS. CONFIG ZONE and READ ZONE (R122, R123, R134, R138, R144). -/

namespace Sys2Proof.Machine

variable {s t u : State} {z y : Fin 12} {i j : Fin 128} {r : Role} {n : ZoneConfig} {tag : Byte} {body : Bytes} {rest : List Frame}

/-! ### A channel that the zone gives up (R123 steps 1 and 2) -/

/-- Target 0 to a channel that the zone named in a role. -/
def releaseZone (old : Option (Fin 128)) (r : Role) (z : Fin 12) (s : State) : State :=
  match old with
  | some i => targetChange i r z 0 false s
  | none => s

theorem releaseZone_zone (old : Option (Fin 128)) (r : Role) (z y : Fin 12) (s : State) : (releaseZone old r z s).zone y = s.zone y := by
  unfold releaseZone
  split
  · exact zone_of_climate (targetChange_climate _ _ _ _ _ _) y
  · rfl

theorem releaseZone_cfg (old : Option (Fin 128)) (r : Role) (z : Fin 12) (s : State) (j : Fin 128) :
    ((releaseZone old r z s).chan j).cfg = (s.chan j).cfg := by
  unfold releaseZone
  split
  · exact targetChange_cfg _ _ _ _ _ _ _
  · rfl

theorem releaseZone_asked {old : Option (Fin 128)} (h : ¬(old = some j ∧ (s.chan j).boundTo r z = true)) :
    ((releaseZone old r z s).chan j).asked = (s.chan j).asked := by
  unfold releaseZone
  split
  · next i =>
    refine targetChange_asked_of_ne ?_ _ _
    by_cases hj : i = j
    · subst hj
      exact .inr (Bool.eq_false_of_not_eq_true fun hb => h ⟨rfl, hb⟩)
    · exact .inl hj
  · rfl

theorem releaseZone_target (hr : r ≠ .unused) (hl : r ≠ .light) (h : (s.chan j).boundTo r z = true) :
    ((releaseZone (some j) r z s).chan j).target = 0 := by
  unfold releaseZone
  dsimp only
  rw [targetChange_target h hr, takes_of_step h hl, Nat.zero_min]

/-- A changed heater and a changed fan: the channel released, and the zone's record cleared of it. -/
theorem changeHeater_eq (z : Fin 12) (new : Option (Fin 128)) (s : State) : changeHeater z new s
    = if (s.zone z).cfg.heater = new then s
      else (releaseZone (s.zone z).cfg.heater .heater z s).putZone z { s.zone z with heaterTarget := 0, integral := 0, call := 0 } := by
  unfold changeHeater
  dsimp only
  split
  · rfl
  · change (releaseZone (s.zone z).cfg.heater .heater z s).putZone z
      { (releaseZone (s.zone z).cfg.heater .heater z s).zone z with heaterTarget := 0, integral := 0, call := 0 } = _
    rw [releaseZone_zone]

theorem changeFan_eq (z : Fin 12) (new : Option (Fin 128)) (s : State) : changeFan z new s
    = if (s.zone z).cfg.fan = new then s
      else (releaseZone (s.zone z).cfg.fan .fan z s).putZone z { s.zone z with fanTarget := 0, lowerCandidate := none } := by
  unfold changeFan
  dsimp only
  split
  · rfl
  · change (releaseZone (s.zone z).cfg.fan .fan z s).putZone z
      { (releaseZone (s.zone z).cfg.fan .fan z s).zone z with fanTarget := 0, lowerCandidate := none } = _
    rw [releaseZone_zone]

/-- What such a change does at the channels and at the other zones. -/
structure State.Releases (s t : State) (z : Fin 12) (r : Role) (old new : Option (Fin 128)) : Prop where
  cfg : ∀ j, (t.chan j).cfg = (s.chan j).cfg
  asked : ∀ j, ¬(old = some j ∧ new ≠ some j ∧ (s.chan j).boundTo r z = true) → (t.chan j).asked = (s.chan j).asked
  target : ∀ j, old = some j → new ≠ some j → (s.chan j).boundTo r z = true → (t.chan j).target = 0
  others : ∀ y, y ≠ z → t.zone y = s.zone y

theorem releases_same {old : Option (Fin 128)} : s.Releases s z r old old :=
  ⟨fun _ => rfl, fun _ _ => rfl, fun _ ho hn _ => absurd ho hn, fun _ _ => rfl⟩

theorem releases_changed {old new : Option (Fin 128)} (h : old ≠ new) (hr : r ≠ .unused) (hl : r ≠ .light) (x : Zone) :
    s.Releases ((releaseZone old r z s).putZone z x) z r old new where
  cfg j := releaseZone_cfg old r z s j
  asked j hj := releaseZone_asked fun hn => hj ⟨hn.1, fun hnew => h (hn.1.trans hnew.symm), hn.2⟩
  target j ho _ hb := by
    rw [ho]
    exact releaseZone_target hr hl hb
  others y hy := by
    rw [zone_putZone, if_neg (Ne.symm hy), releaseZone_zone]

theorem changeHeater_releases (z : Fin 12) (new : Option (Fin 128)) (s : State) :
    s.Releases (changeHeater z new s) z .heater (s.zone z).cfg.heater new := by
  rw [changeHeater_eq]
  split
  · next h =>
    rw [h]
    exact releases_same
  · next h => exact releases_changed h (by decide) (by decide) _

theorem changeFan_releases (z : Fin 12) (new : Option (Fin 128)) (s : State) :
    s.Releases (changeFan z new s) z .fan (s.zone z).cfg.fan new := by
  rw [changeFan_eq]
  split
  · next h =>
    rw [h]
    exact releases_same
  · next h => exact releases_changed h (by decide) (by decide) _

theorem changeHeater_zone (z : Fin 12) (new : Option (Fin 128)) (s : State) : (changeHeater z new s).zone z
    = if (s.zone z).cfg.heater = new then s.zone z else { s.zone z with heaterTarget := 0, integral := 0, call := 0 } := by
  rw [changeHeater_eq]
  split
  · rfl
  · exact zone_putZone_self _ _ _

theorem changeFan_zone (z : Fin 12) (new : Option (Fin 128)) (s : State) : (changeFan z new s).zone z
    = if (s.zone z).cfg.fan = new then s.zone z else { s.zone z with fanTarget := 0, lowerCandidate := none } := by
  rw [changeFan_eq]
  split
  · rfl
  · exact zone_putZone_self _ _ _

/-! ### CONFIG ZONE -/

/-- The zone's record after an accepted CONFIG ZONE. -/
def Zone.configured (x : Zone) (n : ZoneConfig) : Zone :=
  let a := if x.cfg.heater = n.heater then x else { x with heaterTarget := 0, integral := 0, call := 0 }
  let b := if x.cfg.fan = n.fan then a else { a with fanTarget := 0, lowerCandidate := none }
  { b with cfg := n, integral := clampInt (-n.imax) n.imax b.integral }

theorem configureZone_zone (z : Fin 12) (n : ZoneConfig) (s : State) : (configureZone z n s).zone z = (s.zone z).configured n := by
  have fan : ((changeHeater z n.heater s).zone z).cfg.fan = (s.zone z).cfg.fan := by
    rw [changeHeater_zone]
    split <;> rfl
  unfold configureZone Zone.configured
  rw [zone_putZone_self, changeFan_zone, fan, changeHeater_zone]

section Configure

variable (z : Fin 12) (n : ZoneConfig) (s : State)

/-- CONFIG ZONE writes the zone's record behind the two changes. -/
theorem configureZone_apart : (∀ j, (configureZone z n s).chan j = (changeFan z n.fan (changeHeater z n.heater s)).chan j)
    ∧ ∀ y, y ≠ z → (configureZone z n s).zone y = (changeFan z n.fan (changeHeater z n.heater s)).zone y := by
  unfold configureZone
  generalize changeFan z n.fan (changeHeater z n.heater s) = u
  refine ⟨fun j => rfl, fun y hy => ?_⟩
  rw [zone_putZone, if_neg (Ne.symm hy)]

theorem changes_releases : s.Releases (changeHeater z n.heater s) z .heater (s.zone z).cfg.heater n.heater
    ∧ (changeHeater z n.heater s).Releases (changeFan z n.fan (changeHeater z n.heater s)) z .fan (s.zone z).cfg.fan n.fan := by
  have fan : ((changeHeater z n.heater s).zone z).cfg.fan = (s.zone z).cfg.fan := by
    rw [changeHeater_zone]
    split <;> rfl
  rw [← fan]
  exact ⟨changeHeater_releases z n.heater s, changeFan_releases z n.fan _⟩

theorem configureZone_others (h : y ≠ z) : (configureZone z n s).zone y = s.zone y := by
  obtain ⟨heater, fan⟩ := changes_releases z n s
  rw [(configureZone_apart z n s).2 y h, fan.others y h, heater.others y h]

theorem configureZone_cfg (j : Fin 128) : ((configureZone z n s).chan j).cfg = (s.chan j).cfg := by
  obtain ⟨heater, fan⟩ := changes_releases z n s
  rw [(configureZone_apart z n s).1 j, fan.cfg, heater.cfg]

/-- The channel is bound to the zone in a role, and the zone is to name another or none. -/
def State.gives (s : State) (z : Fin 12) (r : Role) (old new : Option (Fin 128)) (i : Fin 128) : Prop :=
  old = some i ∧ new ≠ some i ∧ (s.chan i).boundTo r z = true

theorem configureZone_asked (hh : ¬s.gives z .heater (s.zone z).cfg.heater n.heater j) (hf : ¬s.gives z .fan (s.zone z).cfg.fan n.fan j) :
    ((configureZone z n s).chan j).asked = (s.chan j).asked := by
  obtain ⟨heater, fan⟩ := changes_releases z n s
  rw [(configureZone_apart z n s).1 j, fan.asked j, heater.asked j hh]
  rwa [boundTo_congr (heater.cfg j)]

theorem configureZone_released (h : s.gives z .heater (s.zone z).cfg.heater n.heater j ∨ s.gives z .fan (s.zone z).cfg.fan n.fan j) :
    ((configureZone z n s).chan j).target = 0 := by
  obtain ⟨heater, fan⟩ := changes_releases z n s
  rw [(configureZone_apart z n s).1 j]
  obtain ⟨ho, hn, hb⟩ | ⟨ho, hn, hb⟩ := h
  · have stands := fan.asked j fun hf => by
      have bound := hf.2.2
      rw [boundTo_congr (heater.cfg j)] at bound
      exact unbound_of_other_role hb (by decide) bound
    rw [target_of_asked stands]
    exact heater.target j ho hn hb
  · exact fan.target j ho hn (by rw [boundTo_congr (heater.cfg j)]; exact hb)

end Configure

/-! ### The request -/

theorem exhaustField?_eq {k : Nat} {c : Option (Fin 12)} (h : exhaustField? k = some c) (p : Fin 12) : c = some p ↔ k = p := by
  unfold exhaustField? at h
  split at h
  · next e =>
    obtain rfl := Option.some.inj h
    have := p.isLt
    simp only [reduceCtorEq, false_iff]
    omega
  · obtain ⟨x, hx, rfl⟩ := Option.map_eq_some_iff.mp h
    rw [← index?_some hx, Option.some.injEq, Fin.ext_iff]

/-- The fields of a CONFIG ZONE body. -/
theorem zoneSent?_eq (h : zoneSent? body = some n) : channelField? (u8 body 1) = some n.heater ∧ channelField? (u8 body 2) = some n.fan
    ∧ n.tempPoint.val = u8 body 3 ∧ exhaustField? (u8 body 4) = some n.exhaustPoint
    ∧ n = { n with kp := u16 body 5, ki := u8 body 7, imax := u16 body 8, phi := u16 body 10, kv := u8 body 12, mz := u8 body 13
                   occupiedFallback := u16 body 14, setbackFallback := u16 body 16, x1 := u16 body 18, x2 := u16 body 20
                   xp := u16 body 22 } := by
  unfold zoneSent? at h
  simp only [Option.bind_eq_bind, Option.bind_eq_some_iff, Option.pure_def, Option.some.injEq] at h
  obtain ⟨heater, hh, fan, hf, tp, ht, xp, hx, rfl⟩ := h
  exact ⟨hh, hf, index?_some ht, hx, rfl⟩

section Config

variable (hlen : body.length = 24) (h : s.takes ⟨tag, 0x40, body⟩ rest)
include hlen h

theorem configZone_outOfRange (hf : 12 ≤ u8 body 0 ∨ zoneSent? body = none) :
    exec (.configZone tag body) s = .next (s.answered rest tag 0x40 [0x12]) := by
  change request 0x40 tag body _ s = _
  refine request_answers (n := 24) (by decide) hlen h ?_
  dsimp only
  cases hi : index? 12 (u8 body 0) with
  | none => rfl
  | some z =>
    cases hs : zoneSent? body with
    | none => rfl
    | some sent =>
      obtain hz | hn := hf
      · rw [index?_none hz] at hi
        cases hi
      · rw [hn] at hs
        cases hs

theorem configZone_duplicate (hz : u8 body 0 = z) (hn : zoneSent? body = some n) (hs : n.heater.isSome) (he : n.heater = n.fan) :
    exec (.configZone tag body) s = .next (s.answered rest tag 0x40 [0x14]) := by
  change request 0x40 tag body _ s = _
  refine request_answers (n := 24) (by decide) hlen h ?_
  rw [index?_of_eq hz, hn]
  exact if_pos (sameChannel_iff.mpr ⟨hs, he⟩)

theorem configZone_accepted (hz : u8 body 0 = z) (hn : zoneSent? body = some n) (hs : ¬(n.heater.isSome ∧ n.heater = n.fan)) :
    exec (.configZone tag body) s = .next (sendReply tag 0x40
      ([if treatZone n = n then 0x00 else 0x01] ++ le8 z ++ le8 ((configureZone z (treatZone n) (s.taken rest)).zone z).mode.code
        ++ leFlag ((configureZone z (treatZone n) (s.taken rest)).heaterPresent z)
        ++ leFlag ((configureZone z (treatZone n) (s.taken rest)).fanPresent z)) (configureZone z (treatZone n) (s.taken rest))) := by
  change request 0x40 tag body _ s = _
  refine request_runs (n := 24) (by decide) hlen h ?_
  rw [index?_of_eq hz, hn]
  dsimp only
  rw [← stTreated_ne]
  exact if_neg fun hb => hs (sameChannel_iff.mp hb)

end Config

/-! ### The record configured (R123) -/

theorem configured_heater_kept {x : Zone} (h : x.cfg.heater = n.heater) : (x.configured n).integral = clampInt (-n.imax) n.imax x.integral
    ∧ (x.configured n).call = x.call ∧ (x.configured n).heaterTarget = x.heaterTarget := by
  unfold Zone.configured
  dsimp only
  rw [if_pos h]
  split <;> exact ⟨rfl, rfl, rfl⟩

theorem configured_heater_changed {x : Zone} (h : x.cfg.heater ≠ n.heater) : (x.configured n).integral = 0
    ∧ (x.configured n).call = 0 ∧ (x.configured n).heaterTarget = 0 := by
  have zero : clampInt (-n.imax) n.imax 0 = 0 := by
    unfold clampInt
    omega
  unfold Zone.configured
  dsimp only
  rw [if_neg h]
  split <;> exact ⟨zero, rfl, rfl⟩

theorem configured_fan_kept {x : Zone} (h : x.cfg.fan = n.fan) : (x.configured n).fanTarget = x.fanTarget
    ∧ (x.configured n).lowerCandidate = x.lowerCandidate := by
  unfold Zone.configured
  dsimp only
  rw [if_pos h]
  split <;> exact ⟨rfl, rfl⟩

theorem configured_fan_changed {x : Zone} (h : x.cfg.fan ≠ n.fan) : (x.configured n).fanTarget = 0
    ∧ (x.configured n).lowerCandidate = none := by
  unfold Zone.configured
  dsimp only
  rw [if_neg h]
  exact ⟨rfl, rfl⟩

/-- What CONFIG ZONE leaves of the record. -/
theorem configured_kept (x : Zone) (n : ZoneConfig) : (x.configured n).cfg = n ∧ (x.configured n).evalT = x.evalT
    ∧ (x.configured n).mode = x.mode ∧ (x.configured n).vent = x.vent ∧ (x.configured n).figures = x.figures
    ∧ (x.configured n).deltaT = x.deltaT ∧ (x.configured n).purgeStart = x.purgeStart := by
  unfold Zone.configured
  dsimp only
  split <;> split <;> exact ⟨rfl, rfl, rfl, rfl, rfl, rfl, rfl⟩

/-! ### READ ZONE -/

/-- The figures of the last evaluation, each open where it did not work it out. -/
theorem termBytes_eq (s : State) (z : Fin 12) : s.termBytes z =
    openInt16 1 z s.drawn ((s.zone z).figures.terms.map (·.error)) ++ openInt16 2 z s.drawn ((s.zone z).figures.terms.map (·.proportional))
      ++ leInt16 (s.zone z).figures.integral ++ openInt16 3 z s.drawn ((s.zone z).figures.terms.map (·.integralTerm))
      ++ openInt16 4 z s.drawn ((s.zone z).figures.terms.map fun m => (m.feedforward : Int))
      ++ (match (s.zone z).figures.terms with
        | some m => le32 m.loss
        | none => openInt16 5 z s.drawn none ++ openInt16 6 z s.drawn none)
      ++ (match (s.zone z).figures.evaluated, (s.zone z).figures.terms.bind (·.frozen) with
        | false, _ => [0x00, 0x00]
        | true, some c => 0x01 :: le8 c.code
        | true, none => [0x00, Config.noFreezeByte]) := by
  unfold State.termBytes
  dsimp only
  generalize (s.zone z).figures = f
  cases f.evaluated with
  | false => rfl
  | true =>
    cases f.terms with
    | none => rfl
    | some m =>
      obtain ⟨error, proportional, integralTerm, loss, feedforward, frozen⟩ := m
      cases frozen <;> rfl

theorem fanSteps_eq (s : State) (z : Fin 12) : s.fanSteps z
    = match (s.zone z).cfg.fan with
      | some i => if s.present (some i) .fan z then (s.chan i).cfg.steps else 0
      | none => 0 := by
  unfold State.fanSteps State.boundChannel
  cases (s.zone z).cfg.fan with
  | none => rfl
  | some i =>
    change (match (if s.present (some i) .fan z then some (s.chan i) else none) with
      | some c => c.cfg.steps
      | none => 0) = if s.present (some i) .fan z then (s.chan i).cfg.steps else 0
    cases s.present (some i) .fan z <;> rfl

theorem readZone_outOfRange {k : Byte} (hz : 12 ≤ k.toNat) (h : s.takes ⟨tag, 0x41, [k]⟩ rest) :
    exec (.readZone tag [k]) s = .next (s.answered rest tag 0x41 [0x12]) := by
  change request 0x41 tag [k] _ s = _
  refine request_answers (n := 1) (by decide) rfl h ?_
  rw [index?_none (show 12 ≤ u8 [k] 0 from hz)]

theorem readZone_reports {k : Byte} (hz : k.toNat = z) (h : s.takes ⟨tag, 0x41, [k]⟩ rest) :
    exec (.readZone tag [k]) s = .next (s.answered rest tag 0x41 ([0x00] ++ s.heatingFields z ++ s.ventFields z)) := by
  change request 0x41 tag [k] _ s = _
  refine request_answers (n := 1) (by decide) rfl h ?_
  rw [show u8 [k] 0 = z from hz, index?_val]
  rfl

/-- Settles O49: the two changed channels are released before the record is written, and the read reports the record. -/
theorem zoneRequestsAnswer : Obligations.ZoneRequestsAnswer := by
  refine ⟨fun s tag body rest hlen h => configZone_outOfRange hlen h,
    fun s tag body rest n hlen h hz hn => configZone_duplicate hlen h (z := ⟨u8 body 0, hz⟩) rfl hn,
    fun s tag body rest z n hlen h hz hn hs => ?_, fun s tag k rest z hz h => ?_, fun s tag k rest hz h => readZone_outOfRange hz h⟩
  · obtain ⟨heater, fan, temp, exhaust, sent⟩ := zoneSent?_eq hn
    have run := configZone_accepted hlen h hz hn hs
    have record := configureZone_zone z (treatZone n) (s.taken rest)
    have wiring := configureZone_cfg z (treatZone n) (s.taken rest)
    have asked (j : Fin 128) := configureZone_asked z (treatZone n) (s.taken rest) (j := j)
    have released (j : Fin 128) := configureZone_released z (treatZone n) (s.taken rest) (j := j)
    have others (y : Fin 12) := configureZone_others z (treatZone n) (s.taken rest) (y := y)
    have line := ((State.Follows.units (s.taken rest)).configureZone z (treatZone n) (.refl _)).sent
    generalize configureZone z (treatZone n) (s.taken rest) = t at *
    obtain ⟨cfg, evalT, mode, vent, figures, deltaT, purgeStart⟩ := configured_kept ((s.taken rest).zone z) (treatZone n)
    rw [← record] at cfg evalT mode vent figures deltaT purgeStart
    have heated : t.heaterPresent z = (s.taken rest).present n.heater .heater z := by
      unfold State.heaterPresent
      rw [cfg, present_congr wiring]
      rfl
    have fanned : t.fanPresent z = (s.taken rest).present n.fan .fan z := by
      unfold State.fanPresent
      rw [cfg, present_congr wiring]
      rfl
    rw [heated, fanned, mode, ← cfg] at run
    refine ⟨_, run, ?_, channelField?_eq heater, channelField?_eq fan, temp, exhaustField?_eq exhaust, fun hk => ?_, fun hk => ?_, fun hk => ?_,
      fun hk => ?_, released, asked, evalT, mode, vent, figures, deltaT, purgeStart, ?_, others⟩
    · refine cfg.trans ?_
      rw [sent]
      rfl
    · obtain ⟨integral, call, target⟩ := configured_heater_kept (x := (s.taken rest).zone z) (n := treatZone n) hk
      rw [← record] at integral call target
      refine ⟨integral.trans ?_, call, target⟩
      rw [sent]
      rfl
    · obtain ⟨integral, call, target⟩ := configured_heater_changed (x := (s.taken rest).zone z) (n := treatZone n) hk
      rw [← record] at integral call target
      exact ⟨integral, call, target⟩
    · obtain ⟨target, candidate⟩ := configured_fan_kept (x := (s.taken rest).zone z) (n := treatZone n) hk
      rw [← record] at target candidate
      exact ⟨target, candidate⟩
    · obtain ⟨target, candidate⟩ := configured_fan_changed (x := (s.taken rest).zone z) (n := treatZone n) hk
      rw [← record] at target candidate
      exact ⟨target, candidate⟩
    · exact replied_of_sent line
  · rw [readZone_reports hz h]
    unfold State.heatingFields State.ventFields zoneConfigBytes State.heaterPresent State.fanPresent
    rw [termBytes_eq, fanSteps_eq]
    unfold State.present State.namedSteps openInt16 channelFieldByte Channel.drivenSteps
    dsimp only
    rw [← apply_ite le16]
    generalize s.zone z = x
    cases x.cfg.heater <;> cases x.cfg.fan <;> simp only [List.append_assoc] <;> rfl

end Sys2Proof.Machine
end

section
/-! SUPPORT. The steps of a zone evaluation: what each leaves of the zone's record, the channels and the rest (R125 to R131, R139 to R142). -/

namespace Sys2Proof.Machine

variable {s t u : State} {z y : Fin 12} {i j : Fin 128} {r : Role}

/-! ### The zone's record -/

theorem putZone_self (z : Fin 12) (s : State) : s.putZone z (s.zone z) = s := by
  unfold State.putZone State.zone
  rw [upd_look]
  rfl

theorem climate_putZone (h : t.climate = s.climate) (z : Fin 12) (x : Zone) : (t.putZone z x).climate = (s.putZone z x).climate := by
  unfold State.putZone
  rw [h]
  rfl

theorem putZone_putZone (z : Fin 12) (x x' : Zone) (s : State) : (s.putZone z x).putZone z x' = s.putZone z x' := by
  unfold State.putZone
  exact congrArg (fun l => s.setClimate { s.climate with zones := l }) (upd_upd _ _ _ _)

/-- A second record in the place of the first. -/
theorem climate_rewritten {x x' : Zone} (h : t.climate = (s.putZone z x).climate) : (t.putZone z x').climate = (s.putZone z x').climate := by
  rw [climate_putZone h, putZone_putZone]

theorem zone_of_written {x : Zone} (h : t.climate = (s.putZone z x).climate) : t.zone z = x := by
  rw [zone_of_climate h, zone_putZone_self]

theorem zone_of_written_ne {x : Zone} (h : t.climate = (s.putZone z x).climate) (hy : y ≠ z) : t.zone y = s.zone y := by
  rw [zone_of_climate h, zone_putZone, if_neg (Ne.symm hy)]

theorem points_of_written {x : Zone} (h : t.climate = (s.putZone z x).climate) :
    t.climate.temps = s.climate.temps ∧ t.climate.exhausts = s.climate.exhausts := by
  rw [h]
  exact ⟨rfl, rfl⟩

/-! ### A target that a zone sends (R130, R142) -/

/-- The channel that a zone names in a role, while it is bound to the zone so. -/
def State.wired (s : State) (z : Fin 12) (r : Role) (named : Option (Fin 128)) : Option (Fin 128) :=
  named.filter fun i => (s.chan i).cfg.role == r && (s.chan i).cfg.roleTarget == some z.val

theorem wired_iff {named : Option (Fin 128)} : s.wired z r named = some i ↔ named = some i ∧ (s.chan i).boundTo r z = true :=
  Option.filter_eq_some_iff

theorem wired_congr (h : ∀ j, (t.chan j).cfg = (s.chan j).cfg) (z : Fin 12) (r : Role) (named : Option (Fin 128)) :
    t.wired z r named = s.wired z r named := by
  unfold State.wired
  simp only [h]

theorem present_eq_wired (s : State) (z : Fin 12) (r : Role) (named : Option (Fin 128)) :
    s.present named r z = (s.wired z r named).isSome := by
  cases hw : s.wired z r named with
  | some i =>
    obtain ⟨hn, hb⟩ := wired_iff.mp hw
    rw [hn]
    exact hb
  | none =>
    cases named with
    | none => rfl
    | some i =>
      refine Bool.eq_false_of_not_eq_true fun hb => ?_
      rw [wired_iff.mpr ⟨rfl, hb⟩] at hw
      cases hw

theorem boundChannel_eq_wired (s : State) (z : Fin 12) (r : Role) (named : Option (Fin 128)) :
    s.boundChannel named r z = (s.wired z r named).map s.chan := by
  unfold State.boundChannel
  cases named with
  | none => rfl
  | some i =>
    dsimp only
    split
    · next hb => rw [wired_iff.mpr ⟨rfl, hb⟩, Option.map_some]
    · next hb =>
      cases hw : s.wired z r (some i) with
      | none => rfl
      | some j =>
        obtain ⟨hn, hj⟩ := wired_iff.mp hw
        obtain rfl := Option.some.inj hn
        exact absurd hj hb

theorem seconds_of_outside (h : t.outsideBudget = s.outsideBudget) : t.seconds = s.seconds :=
  show t.outsideBudget.seconds = s.outsideBudget.seconds by rw [h]

/-- Between s and t the channel that is bound takes the new target where it differs from the old, and no other is asked for anything. -/
structure State.SendsZone (s t : State) (z : Fin 12) (r : Role) (named : Option (Fin 128)) (old new : Nat) : Prop where
  cfg : ∀ j, (t.chan j).cfg = (s.chan j).cfg
  others : ∀ j, s.wired z r named ≠ some j → (t.chan j).asked = (s.chan j).asked
  target : ∀ j, s.wired z r named = some j → (t.chan j).target = if new = old then (s.chan j).target else min new (s.chan j).cfg.steps

/-- What else a zone's target leaves alone. -/
structure State.BesideZone (s t : State) : Prop where
  stop : t.stop = s.stop
  seconds : t.seconds = s.seconds
  plan : t.plan.forgetTotals = s.plan.forgetTotals
  zoneDT : t.dock.zoneDT = s.dock.zoneDT
  follows : s.Follows t

namespace State.BesideZone

theorem refl (s : State) : s.BesideZone s := ⟨rfl, rfl, rfl, rfl, .refl s⟩

theorem trans (h : s.BesideZone t) (h' : t.BesideZone u) : s.BesideZone u :=
  ⟨h'.stop.trans h.stop, h'.seconds.trans h.seconds, h'.plan.trans h.plan, h'.zoneDT.trans h.zoneDT, h.follows.trans h'.follows⟩

theorem putZone (h : s.BesideZone t) (z : Fin 12) (x : Zone) : s.BesideZone (t.putZone z x) :=
  h.trans ⟨rfl, rfl, rfl, rfl, .of_line (.refl t) rfl⟩

theorem targetChange (h : s.BesideZone t) (i : Fin 128) (r : Role) (o v : Nat) (m : Bool) : s.BesideZone (targetChange i r o v m t) := by
  have outside := targetChange_outside t i r o v m
  have dock : (Machine.targetChange i r o v m t).dock.zoneDT = t.dock.zoneDT :=
    (congrArg Dock.zoneDT (targetChange_dock i r o v m t t.dock.doors) :)
  exact h.trans ⟨stop_of_outside outside, seconds_of_outside outside, plan_of_outside outside, dock,
    (State.Follows.units t).target i r o v m t (.refl t)⟩

theorem raise (h : s.BesideZone t) (k : NoticeKind) (n : Nat) (b : Bytes) : s.BesideZone (raise k n b t) :=
  h.trans ⟨raise_stop _ _ _ _, raise_seconds _ _ _ _, plan_of_outside (raise_outside _ _ _ _), congrArg Dock.zoneDT (raise_dock _ _ _ _),
    (State.Follows.refl t).raise k n b⟩

end State.BesideZone

/-- A send is the record written, and a target change where the target is new and the channel bound. -/
theorem sendHeater_cases (z : Fin 12) (v : Nat) (s : State) :
    ((v = (s.zone z).heaterTarget ∨ s.wired z .heater (s.zone z).cfg.heater = none)
        ∧ sendHeater z v s = s.putZone z { s.zone z with heaterTarget := v })
      ∨ ∃ i, s.wired z .heater (s.zone z).cfg.heater = some i ∧ v ≠ (s.zone z).heaterTarget
        ∧ sendHeater z v s = targetChange i .heater z v false (s.putZone z { s.zone z with heaterTarget := v }) := by
  unfold sendHeater
  dsimp only
  split
  · next h =>
    refine .inl ⟨.inl h, ?_⟩
    rw [h]
    exact (putZone_self z s).symm
  · next h =>
    have present : s.heaterPresent z = (s.wired z .heater (s.zone z).cfg.heater).isSome := present_eq_wired s z .heater _
    cases hc : (s.zone z).cfg.heater with
    | none => exact .inl ⟨.inr rfl, rfl⟩
    | some i =>
      dsimp only
      cases hw : s.wired z .heater (some i) with
      | none =>
        rw [hc, hw] at present
        exact .inl ⟨.inr rfl, if_neg fun h => Bool.false_ne_true (present.symm.trans h)⟩
      | some j =>
        obtain ⟨hn, -⟩ := wired_iff.mp hw
        obtain rfl := Option.some.inj hn
        rw [hc, hw] at present
        exact .inr ⟨i, rfl, h, if_pos present⟩

theorem sendFan_cases (z : Fin 12) (v : Nat) (s : State) :
    ((v = (s.zone z).fanTarget ∨ s.wired z .fan (s.zone z).cfg.fan = none)
        ∧ sendFan z v s = s.putZone z { s.zone z with fanTarget := v })
      ∨ ∃ i, s.wired z .fan (s.zone z).cfg.fan = some i ∧ v ≠ (s.zone z).fanTarget
        ∧ sendFan z v s = targetChange i .fan z v ((s.zone z).vent == .purge) (s.putZone z { s.zone z with fanTarget := v }) := by
  unfold sendFan
  dsimp only
  split
  · next h =>
    refine .inl ⟨.inl h, ?_⟩
    rw [h]
    exact (putZone_self z s).symm
  · next h =>
    have present : s.fanPresent z = (s.wired z .fan (s.zone z).cfg.fan).isSome := present_eq_wired s z .fan _
    cases hc : (s.zone z).cfg.fan with
    | none => exact .inl ⟨.inr rfl, rfl⟩
    | some i =>
      dsimp only
      cases hw : s.wired z .fan (some i) with
      | none =>
        rw [hc, hw] at present
        exact .inl ⟨.inr rfl, if_neg fun h => Bool.false_ne_true (present.symm.trans h)⟩
      | some j =>
        obtain ⟨hn, -⟩ := wired_iff.mp hw
        obtain rfl := Option.some.inj hn
        rw [hc, hw] at present
        exact .inr ⟨i, rfl, h, if_pos present⟩

theorem sendsZone_of_stands {named : Option (Fin 128)} {old new : Nat} (h : new = old ∨ s.wired z r named = none) (x : Zone) :
    s.SendsZone (s.putZone z x) z r named old new where
  cfg _ := rfl
  others _ _ := rfl
  target j hj := by
    obtain same | none := h
    · rw [if_pos same]
      rfl
    · rw [none] at hj
      cases hj

theorem sendsZone_of_change {named : Option (Fin 128)} {old new : Nat} (h : new ≠ old) (hw : s.wired z r named = some i)
    (hr : r ≠ .unused) (hl : r ≠ .light) (m : Bool) (x : Zone) :
    s.SendsZone (targetChange i r z new m (s.putZone z x)) z r named old new where
  cfg j := targetChange_cfg _ _ _ _ _ _ _
  others j hj := by
    refine (targetChange_asked_of_ne (.inl ?_) _ _).trans rfl
    rintro rfl
    exact hj hw
  target j hj := by
    obtain rfl := Option.some.inj (hw.symm.trans hj)
    have bound : ((s.putZone z x).chan i).boundTo r z = true := (wired_iff.mp hw).2
    rw [if_neg h, targetChange_target bound hr, takes_of_step bound hl]
    rfl

theorem sendHeater_sends (z : Fin 12) (v : Nat) (s : State) :
    s.SendsZone (sendHeater z v s) z .heater (s.zone z).cfg.heater (s.zone z).heaterTarget v := by
  obtain ⟨h, e⟩ | ⟨i, hw, h, e⟩ := sendHeater_cases z v s <;> rw [e]
  · exact sendsZone_of_stands h _
  · exact sendsZone_of_change h hw (by decide) (by decide) _ _

theorem sendFan_sends (z : Fin 12) (v : Nat) (s : State) :
    s.SendsZone (sendFan z v s) z .fan (s.zone z).cfg.fan (s.zone z).fanTarget v := by
  obtain ⟨h, e⟩ | ⟨i, hw, h, e⟩ := sendFan_cases z v s <;> rw [e]
  · exact sendsZone_of_stands h _
  · exact sendsZone_of_change h hw (by decide) (by decide) _ _

theorem sendHeater_climate (z : Fin 12) (v : Nat) (s : State) :
    (sendHeater z v s).climate = (s.putZone z { s.zone z with heaterTarget := v }).climate := by
  obtain ⟨-, e⟩ | ⟨i, -, -, e⟩ := sendHeater_cases z v s <;> rw [e]
  exact targetChange_climate _ _ _ _ _ _

theorem sendFan_climate (z : Fin 12) (v : Nat) (s : State) :
    (sendFan z v s).climate = (s.putZone z { s.zone z with fanTarget := v }).climate := by
  obtain ⟨-, e⟩ | ⟨i, -, -, e⟩ := sendFan_cases z v s <;> rw [e]
  exact targetChange_climate _ _ _ _ _ _

theorem sendHeater_beside (z : Fin 12) (v : Nat) (h : s.BesideZone t) : s.BesideZone (sendHeater z v t) := by
  obtain ⟨-, e⟩ | ⟨i, -, -, e⟩ := sendHeater_cases z v t <;> rw [e]
  · exact h.putZone z _
  · exact (h.putZone z _).targetChange _ _ _ _ _

theorem sendFan_beside (z : Fin 12) (v : Nat) (h : s.BesideZone t) : s.BesideZone (sendFan z v t) := by
  obtain ⟨-, e⟩ | ⟨i, -, -, e⟩ := sendFan_cases z v t <;> rw [e]
  · exact h.putZone z _
  · exact (h.putZone z _).targetChange _ _ _ _ _

/-! ### The ventilation state (R139) -/

/-- The record as a ventilation state leaves it. -/
def State.vented (s : State) (z : Fin 12) (v : VentState) : Zone :=
  { s.zone z with
    vent := v, purgeStart := if v = .purge ∧ (s.zone z).vent ≠ .purge then s.seconds else (s.zone z).purgeStart }

theorem setVent_enters {v : VentState} (h : v = .purge ∧ (s.zone z).vent ≠ .purge) :
    setVent z v s = raise .purgeStart z
      (leOpt8 ((s.zone z).cfg.exhaustPoint.map (·.val)) ++ leInt16 ((s.exhaustReading z).getD 0) ++ le16 (s.zone z).cfg.xp)
      (s.putZone z (s.vented z v)) := if_pos h

theorem setVent_leaves {v : VentState} (h : (s.zone z).vent = .purge ∧ v ≠ .purge) :
    setVent z v s = raise .purgeEnd z
      (le8 v.code ++ leOpt16 ((s.exhaustReading z).map Int.toNat) ++ le16 (min Config.max16 (s.seconds - (s.zone z).purgeStart)))
      (s.putZone z (s.vented z v)) := (if_neg fun enters => h.2 enters.1).trans (if_pos h)

theorem setVent_cases (z : Fin 12) (v : VentState) (s : State) :
    setVent z v s = s.putZone z (s.vented z v) ∨ ∃ k b, setVent z v s = raise k z b (s.putZone z (s.vented z v)) := by
  by_cases enters : v = .purge ∧ (s.zone z).vent ≠ .purge
  · exact .inr ⟨_, _, setVent_enters enters⟩
  · by_cases leaves : (s.zone z).vent = .purge ∧ v ≠ .purge
    · exact .inr ⟨_, _, setVent_leaves leaves⟩
    · exact .inl ((if_neg enters).trans (if_neg leaves))

theorem setVent_climate (z : Fin 12) (v : VentState) (s : State) : (setVent z v s).climate = (s.putZone z (s.vented z v)).climate := by
  obtain e | ⟨k, b, e⟩ := setVent_cases z v s <;> rw [e]
  exact raise_climate _ _ _ _

theorem setVent_budget (z : Fin 12) (v : VentState) (s : State) : (setVent z v s).budget = s.budget := by
  obtain e | ⟨k, b, e⟩ := setVent_cases z v s <;> rw [e]
  · rfl
  · exact raise_budget _ _ _ _

theorem setVent_beside (z : Fin 12) (v : VentState) (h : s.BesideZone t) : s.BesideZone (setVent z v t) := by
  obtain e | ⟨k, b, e⟩ := setVent_cases z v t <;> rw [e]
  · exact h.putZone z _
  · exact (h.putZone z _).raise _ _ _

end Sys2Proof.Machine
end

section
/-! SUPPORT. One zone evaluation as a whole: the record that it leaves, the channels that it asks, the notices of PURGE and the rest (R125 to R131, R139 to R142). -/

namespace Sys2Proof.Machine

variable {s t u : State} {z y : Fin 12} {i j : Fin 128} {r : Role}

/-! ### What the steps read stands alike -/

/-- What the ventilation steps read beside the zone's own fields stands alike in s and t. -/
structure State.SeesAlike (s t : State) (z : Fin 12) : Prop where
  exhausts : t.climate.exhausts = s.climate.exhausts
  cfg : (t.zone z).cfg = (s.zone z).cfg
  chan : ∀ j, (t.chan j).cfg = (s.chan j).cfg
  beside : s.BesideZone t

namespace State.SeesAlike

theorem reading (h : s.SeesAlike t z) : t.exhaustReading z = s.exhaustReading z := by
  unfold State.exhaustReading
  rw [h.cfg, h.exhausts]

theorem stale (h : s.SeesAlike t z) : t.exhaustStale z = s.exhaustStale z := by
  unfold State.exhaustStale
  rw [h.cfg, h.exhausts]

theorem current (h : s.SeesAlike t z) : t.plan.current = s.plan.current := (congrArg PlanUnit.current h.beside.plan :)

theorem kind (h : s.SeesAlike t z) : t.kind = s.kind := congrArg (fun c => c.fields.kind) h.current

theorem climateSets (h : s.SeesAlike t z) : t.plan.climateSets = s.plan.climateSets := (congrArg PlanUnit.climateSets h.beside.plan :)

theorem entry (h : s.SeesAlike t z) : t.currentEntry z = s.currentEntry z := by
  unfold State.currentEntry
  rw [h.climateSets, h.current]

theorem running (h : s.SeesAlike t z) : t.plantRunning = s.plantRunning := by
  unfold State.plantRunning
  rw [h.beside.stop]

theorem fanSteps (h : s.SeesAlike t z) : t.fanSteps z = s.fanSteps z := by
  unfold State.fanSteps
  rw [h.cfg, boundChannel_eq_wired, boundChannel_eq_wired, wired_congr h.chan]
  cases s.wired z .fan (s.zone z).cfg.fan with
  | none => rfl
  | some i => exact congrArg ChannelConfig.steps (h.chan i)

theorem ventMin (h : s.SeesAlike t z) : t.ventMin z = s.ventMin z := by
  unfold State.ventMin
  rw [h.kind, h.entry, h.fanSteps]

theorem computedFan (h : s.SeesAlike t z) (v : VentState) : t.computedFan z v = s.computedFan z v := by
  unfold State.computedFan
  rw [h.cfg, h.kind, h.ventMin, h.fanSteps, h.reading]

theorem ventNow (h : s.SeesAlike t z) (hv : (t.zone z).vent = (s.zone z).vent) : t.ventNow z = s.ventNow z := by
  unfold State.ventNow
  rw [h.running, h.stale, h.reading, h.cfg, hv]

theorem refl (s : State) (z : Fin 12) : s.SeesAlike s z := ⟨rfl, rfl, fun _ => rfl, .refl s⟩

theorem trans (h : s.SeesAlike t z) (h' : t.SeesAlike u z) : s.SeesAlike u z :=
  ⟨h'.exhausts.trans h.exhausts, h'.cfg.trans h.cfg, fun j => (h'.chan j).trans (h.chan j), h.beside.trans h'.beside⟩

end State.SeesAlike

/-! ### The heating steps -/

/-- The zone's record after the heating steps (R126 to R130). -/
def State.heated (s : State) (z : Fin 12) : Zone :=
  { s.zone z with
    mode := s.modeNow z, integral := (s.heating z (s.modeNow z)).integral, call := (s.heating z (s.modeNow z)).call
    heaterTarget := (s.heating z (s.modeNow z)).target
    figures :=
      { (s.zone z).figures with
        evaluated := true, setpoint := (s.setpoint z).1, source := (s.setpoint z).2.1, lead := (s.lead z).map (·.2.2)
        temperature := (s.zonePoint z).value, outdoor := s.outdoor.1, terms := (s.heating z (s.modeNow z)).terms
        integral := (s.heating z (s.modeNow z)).integral, fallbackCall := (s.heating z (s.modeNow z)).fallback
        call := (s.heating z (s.modeNow z)).call, target := (s.heating z (s.modeNow z)).target } }

/-- The heating steps write the record but for the target, which is then sent. -/
theorem heat_eq (z : Fin 12) (s : State) :
    heat z s = sendHeater z (s.heating z (s.modeNow z)).target (s.putZone z { s.heated z with heaterTarget := (s.zone z).heaterTarget }) := rfl

theorem heat_climate (z : Fin 12) (s : State) : (heat z s).climate = (s.putZone z (s.heated z)).climate := by
  rw [heat_eq, sendHeater_climate, zone_putZone_self, putZone_putZone]
  rfl

theorem heat_beside (z : Fin 12) (s : State) : s.BesideZone (heat z s) := sendHeater_beside z _ ((State.BesideZone.refl s).putZone z _)

theorem heat_sends (z : Fin 12) (s : State) :
    s.SendsZone (heat z s) z .heater (s.zone z).cfg.heater (s.zone z).heaterTarget (s.heating z (s.modeNow z)).target := by
  have sends := sendHeater_sends z (s.heating z (s.modeNow z)).target
    (s.putZone z { s.heated z with heaterTarget := (s.zone z).heaterTarget })
  rw [zone_putZone_self, ← heat_eq] at sends
  generalize heat z s = t at *
  exact ⟨sends.cfg, sends.others, sends.target⟩

theorem heat_seesAlike (z : Fin 12) (s : State) : s.SeesAlike (heat z s) z where
  exhausts := (points_of_written (heat_climate z s)).2
  cfg := (congrArg Zone.cfg (zone_of_written (heat_climate z s)) :)
  chan := (heat_sends z s).cfg
  beside := heat_beside z s

/-! ### The ventilation steps -/

/-- The fan target and the lower candidate that the ventilation steps adopt (R141). -/
def State.adopted (s : State) (z : Fin 12) : Nat × Option Nat :=
  adoptFan (s.ventNow z) (s.computedFan z (s.ventNow z)) (s.zone z).fanTarget (s.zone z).lowerCandidate

/-- The zone's record after the ventilation steps, but for the fan target (R139 to R141). -/
def State.aired (s : State) (z : Fin 12) : Zone :=
  { s.vented z (s.ventNow z) with
    lowerCandidate := (s.adopted z).2
    figures :=
      { (s.zone z).figures with
        exhaust := s.exhaustReading z, ventMin := s.ventMin z, computed := s.computedFan z (s.ventNow z) } }

theorem setVent_seesAlike (z : Fin 12) (v : VentState) (s : State) : s.SeesAlike (setVent z v s) z where
  exhausts := (points_of_written (setVent_climate z v s)).2
  cfg := (congrArg Zone.cfg (zone_of_written (setVent_climate z v s)) :)
  chan j := congrArg Channel.cfg (chan_of_budget (setVent_budget z v s) j)
  beside := setVent_beside z v (.refl s)

/-- The ventilation steps set the state, write the record but for the fan target, and send that. -/
theorem ventilate_eq (z : Fin 12) (s : State) :
    ventilate z s = sendFan z (s.adopted z).1 ((setVent z (s.ventNow z) s).putZone z (s.aired z)) := by
  have alike := setVent_seesAlike z (s.ventNow z) s
  have zone : (setVent z (s.ventNow z) s).zone z = s.vented z (s.ventNow z) := zone_of_written (setVent_climate z _ s)
  unfold ventilate State.aired
  dsimp only
  rw [zone, alike.computedFan, alike.reading, alike.ventMin]
  rfl

theorem ventilate_climate (z : Fin 12) (s : State) :
    (ventilate z s).climate = (s.putZone z { s.aired z with fanTarget := (s.adopted z).1 }).climate := by
  rw [ventilate_eq, sendFan_climate, zone_putZone_self, putZone_putZone]
  exact climate_rewritten (setVent_climate z _ s)

theorem ventilate_beside (z : Fin 12) (s : State) : s.BesideZone (ventilate z s) := by
  rw [ventilate_eq]
  exact sendFan_beside z _ ((setVent_beside z _ (.refl s)).putZone z _)

theorem ventilate_sends (z : Fin 12) (s : State) :
    s.SendsZone (ventilate z s) z .fan (s.zone z).cfg.fan (s.zone z).fanTarget (s.adopted z).1 := by
  have sends := sendFan_sends z (s.adopted z).1 ((setVent z (s.ventNow z) s).putZone z (s.aired z))
  have chan (j : Fin 128) : ((setVent z (s.ventNow z) s).putZone z (s.aired z)).chan j = s.chan j :=
    chan_of_budget (setVent_budget z _ s) j
  rw [zone_putZone_self, ← ventilate_eq] at sends
  generalize (setVent z (s.ventNow z) s).putZone z (s.aired z) = m at *
  generalize ventilate z s = t at *
  have wired : m.wired z .fan (s.zone z).cfg.fan = s.wired z .fan (s.zone z).cfg.fan := wired_congr (fun j => congrArg Channel.cfg (chan j)) _ _ _
  refine ⟨fun j => ?_, fun j hj => ?_, fun j hj => ?_⟩
  · rw [← chan j]
    exact sends.cfg j
  · rw [← chan j]
    exact sends.others j (wired ▸ hj)
  · rw [← chan j]
    exact sends.target j (wired ▸ hj)

/-! ### The evaluation -/

/-- The zone's record after an evaluation (R125 to R131, R139 to R141). -/
def State.evaluated (s : State) (z : Fin 12) : Zone :=
  { s.heated z with
    vent := s.ventNow z
    purgeStart := if s.ventNow z = .purge ∧ (s.zone z).vent ≠ .purge then s.seconds else (s.zone z).purgeStart
    lowerCandidate := (s.adopted z).2, fanTarget := (s.adopted z).1, deltaT := s.zoneDT z
    figures :=
      { (s.heated z).figures with
        exhaust := s.exhaustReading z, ventMin := s.ventMin z, computed := s.computedFan z (s.ventNow z) } }

section
variable (z s)

/-- The ventilation steps read what the heating steps leave alone. -/
theorem heat_ventNow : (heat z s).ventNow z = s.ventNow z :=
  (heat_seesAlike z s).ventNow (congrArg Zone.vent (zone_of_written (heat_climate z s)) :)

theorem heat_adopted : (heat z s).adopted z = s.adopted z := by
  unfold State.adopted
  rw [heat_ventNow, (heat_seesAlike z s).computedFan, zone_of_written (heat_climate z s)]
  rfl

theorem heat_aired : { (heat z s).aired z with fanTarget := ((heat z s).adopted z).1, deltaT := s.zoneDT z } = s.evaluated z := by
  unfold State.aired State.vented
  rw [heat_adopted, heat_ventNow, (heat_seesAlike z s).computedFan, (heat_seesAlike z s).reading, (heat_seesAlike z s).ventMin,
    (heat_beside z s).seconds, zone_of_written (heat_climate z s)]
  rfl

/-- The record that the heating and the ventilation steps leave, with the zone ΔT in it. -/
theorem evaluated_eq : { (ventilate z (heat z s)).zone z with deltaT := s.zoneDT z } = s.evaluated z := by
  rw [zone_of_written (ventilate_climate z (heat z s))]
  exact heat_aired s z

theorem evaluate_climate : (evaluate z s).climate = (s.putZone z (s.evaluated z)).climate := by
  have ventilated := (ventilate_climate z (heat z s)).trans (climate_rewritten (heat_climate z s))
  have written := climate_rewritten (x' := s.evaluated z) ventilated
  have delivered := zoneDTEvent_climate ((ventilate z (heat z s)).putZone z { (ventilate z (heat z s)).zone z with deltaT := s.zoneDT z })
    z (s.zoneDT z)
  rw [evaluated_eq] at delivered
  unfold evaluate
  dsimp only
  rw [evaluated_eq]
  exact (State.draw_climate _).trans (delivered.trans written)

theorem zoneDTEvent_zoneDT (v : Nat) : (zoneDTEvent z v s).dock.zoneDT = upd s.dock.zoneDT z v := by
  have accrued : (forEach (s.doorsOfZone z) accrue s).dock.zoneDT = s.dock.zoneDT :=
    forEach_same (P := fun t => t.dock.zoneDT) (fun d u => (congrArg Dock.zoneDT (accrue_dock d u) :)) _ _
  have rated (u : State) : (forEach (s.doorsOfZone z) refreshRate u).dock.zoneDT = u.dock.zoneDT :=
    forEach_same (P := fun t => t.dock.zoneDT) (f := refreshRate) (fun _ _ => rfl) _ _
  unfold zoneDTEvent
  dsimp only
  rw [rated, ← accrued]
  rfl

/-- The state after the steps of an evaluation, before the zone ΔT is delivered. -/
def State.worked : State := (ventilate z (heat z s)).putZone z (s.evaluated z)

theorem evaluate_eq : evaluate z s = (zoneDTEvent z (s.zoneDT z) (s.worked z)).draw := by
  unfold State.worked evaluate
  rw [← evaluated_eq]

theorem worked_beside : s.BesideZone (s.worked z) :=
  ((heat_beside z s).trans (ventilate_beside z _)).putZone z _

theorem evaluate_chan (j : Fin 128) : (evaluate z s).chan j = (ventilate z (heat z s)).chan j := by
  have drawn (u : State) : u.draw.chan j = u.chan j := rfl
  have put (u : State) (x : Zone) : (u.putZone z x).chan j = u.chan j := rfl
  rw [evaluate_eq, drawn, chan_of_budget (State.SameBudget.zoneDTEvent z (s.zoneDT z) (s.worked z)).budget j]
  exact put _ _

end

end Sys2Proof.Machine
end

section
/-! SUPPORT. What a zone evaluation asks of the channels, the urgent mark of a fan in PURGE, and the notices of PURGE (R76, R77, R130, R139, R142). -/

namespace Sys2Proof.Machine

variable {s t u : State} {z y : Fin 12} {i j : Fin 128} {r : Role}

/-! ### The urgent mark (R76, R77) -/

/-- An entry that the channel has is urgent. -/
def Channel.Urged (c : Channel) : Prop := ∀ e, c.entry = some e → e.urgent = true

theorem Channel.Urged.walked {c d : Channel} (h : c.Urged) (w : c.WalkedTo d) : d.Urged := by
  obtain same | none := w.entry
  · intro e he
    exact h e (same.symm.trans he)
  · intro e he
    rw [none] at he
    cases he

theorem entryKept_urged {c : Channel} {e : QueueEntry} (h : s.entryKept true c = some e) : e.urgent = true := by
  unfold State.entryKept at h
  split at h
  · cases hc : c.entry with
    | none =>
      rw [hc] at h
      obtain rfl := Option.some.inj h
      rfl
    | some f =>
      rw [hc] at h
      obtain rfl := Option.some.inj h
      cases hf : f.urgent <;> simp [hf]
  · cases h

theorem keepEntry_urged (i : Fin 128) (s : State) : ((keepEntry true i s).chan i).Urged := fun _ he =>
  entryKept_urged ((keepEntry_entry true i s).symm.trans he)

/-- A channel that is released to its target has no entry. -/
theorem release_entry (i : Fin 128) (s : State) : ((release i s).chan i).entry = none := by
  unfold release
  dsimp only
  generalize hm : setGranted i (s.chan i).target (s.putChan i { s.chan i with minOffT := startTimer (s.chan i).cfg.minOff }) = m
  have none : ((keepEntry false i m).chan i).entry = none := by
    rw [keepEntry_entry, ← hm, setGranted_chan, chan_putChan_self, chan_putChan_self]
    simp [State.entryKept, Channel.wantsEntry]
  exact (arbitrate_walked i (keepEntry false i m)).entry.elim (fun h => h.trans none) id

/-- A raised target with the urgent mark leaves no entry that is not urgent (R76). -/
theorem stepTarget_urged {v : Nat} (h : (s.chan i).target < v) : ((stepTarget i v true s).chan i).Urged := by
  unfold stepTarget
  dsimp only
  rw [decide_eq_true h, Bool.and_self]
  have kept := keepEntry_urged i (s.putChan i { s.chan i with target := v })
  generalize keepEntry true i (s.putChan i { s.chan i with target := v }) = t at kept
  split
  · split
    · intro e he
      rw [release_entry] at he
      cases he
    · exact kept.walked (settleShed_walked i t)
  · split
    · exact kept.walked (arbitrate_walked i t)
    · exact kept.walked (settleShed_walked i t)

theorem targetChange_urged {v o : Nat} (hb : (s.chan i).boundTo .fan o = true) (h : (s.chan i).target < min v (s.chan i).cfg.steps) :
    ((targetChange i .fan o v true s).chan i).Urged := by
  unfold targetChange
  dsimp only
  rw [hb, if_neg (by decide), if_neg (Nat.ne_of_gt h)]
  exact stepTarget_urged h

/-! ### The channels at an evaluation -/

section
variable (z s)

theorem evaluate_zone : (evaluate z s).zone z = s.evaluated z := zone_of_written (evaluate_climate s z)

theorem evaluate_zone_ne (hy : y ≠ z) : (evaluate z s).zone y = s.zone y := zone_of_written_ne (evaluate_climate s z) hy

/-- The ventilation steps ask the fan channel alone, as the state before the evaluation names it. -/
theorem evaluate_fanSends : (heat z s).SendsZone (ventilate z (heat z s)) z .fan (s.zone z).cfg.fan (s.zone z).fanTarget (s.adopted z).1 := by
  have sends := ventilate_sends z (heat z s)
  rw [heat_adopted, zone_of_written (heat_climate z s)] at sends
  exact sends

theorem heat_wired (r : Role) (named : Option (Fin 128)) : (heat z s).wired z r named = s.wired z r named :=
  wired_congr (heat_sends z s).cfg z r named

end

theorem wired_ne {q : Role} {a b : Option (Fin 128)} (h : s.wired z r a = some i) (hr : r ≠ q) : s.wired z q b ≠ some i := fun hb =>
  unbound_of_other_role (wired_iff.mp h).2 hr (wired_iff.mp hb).2

theorem evaluate_heaterTarget (h : s.wired z .heater (s.zone z).cfg.heater = some i) :
    ((evaluate z s).chan i).target = if (s.heating z (s.modeNow z)).target = (s.zone z).heaterTarget then (s.chan i).target
      else min (s.heating z (s.modeNow z)).target (s.chan i).cfg.steps := by
  rw [evaluate_chan]
  refine (target_of_asked ((evaluate_fanSends s z).others i ?_)).trans ((heat_sends z s).target i h)
  rw [heat_wired]
  exact wired_ne h (by decide)

theorem heat_fan_asked (h : s.wired z .fan (s.zone z).cfg.fan = some i) : ((heat z s).chan i).asked = (s.chan i).asked :=
  (heat_sends z s).others i (wired_ne h (by decide))

theorem evaluate_fanTarget (h : s.wired z .fan (s.zone z).cfg.fan = some i) :
    ((evaluate z s).chan i).target = if (s.adopted z).1 = (s.zone z).fanTarget then (s.chan i).target
      else min (s.adopted z).1 (s.chan i).cfg.steps := by
  have asked := heat_fan_asked h
  rw [evaluate_chan, (evaluate_fanSends s z).target i ((heat_wired s z _ _).trans h), target_of_asked asked, cfg_of_asked asked]

theorem evaluate_asked (hh : s.wired z .heater (s.zone z).cfg.heater ≠ some i) (hf : s.wired z .fan (s.zone z).cfg.fan ≠ some i) :
    ((evaluate z s).chan i).asked = (s.chan i).asked := by
  rw [evaluate_chan]
  exact ((evaluate_fanSends s z).others i (by rwa [heat_wired])).trans ((heat_sends z s).others i hh)

/-- In PURGE a raised fan target leaves no entry that is not urgent (R142). -/
theorem evaluate_urged (h : s.wired z .fan (s.zone z).cfg.fan = some i) (hv : s.ventNow z = .purge) (hn : (s.adopted z).1 ≠ (s.zone z).fanTarget)
    (ht : (s.chan i).target < min (s.adopted z).1 (s.chan i).cfg.steps) : ((evaluate z s).chan i).Urged := by
  have asked := heat_fan_asked h
  have named := heat_wired s z .fan (s.zone z).cfg.fan
  have cfg : ((heat z s).zone z).cfg = (s.zone z).cfg := (heat_seesAlike z s).cfg
  have fan : ((heat z s).zone z).fanTarget = (s.zone z).fanTarget := (congrArg Zone.fanTarget (zone_of_written (heat_climate z s)) :)
  have vent := heat_ventNow s z
  have adopted := heat_adopted s z
  rw [evaluate_chan, ventilate_eq]
  generalize heat z s = m at *
  have chan (j : Fin 128) : ((setVent z (m.ventNow z) m).putZone z (m.aired z)).chan j = m.chan j := chan_of_budget (setVent_budget z _ m) j
  have zone : ((setVent z (m.ventNow z) m).putZone z (m.aired z)).zone z = m.aired z := zone_putZone_self _ _ _
  have airedCfg : (m.aired z).cfg = (m.zone z).cfg := rfl
  have airedFan : (m.aired z).fanTarget = (m.zone z).fanTarget := rfl
  have airedVent : (m.aired z).vent = m.ventNow z := rfl
  generalize (setVent z (m.ventNow z) m).putZone z (m.aired z) = w at *
  have wired : w.wired z .fan (w.zone z).cfg.fan = some i := by
    rw [zone, airedCfg, cfg, wired_congr (fun j => congrArg Channel.cfg (chan j)), named, h]
  obtain ⟨stands | none, -⟩ | ⟨j, hj, -, e⟩ := sendFan_cases z (m.adopted z).1 w
  · rw [zone, airedFan, adopted, fan] at stands
    exact absurd stands hn
  · rw [wired] at none
    cases none
  · obtain rfl := Option.some.inj (wired.symm.trans hj)
    have mark : ((w.zone z).vent == VentState.purge) = true := by
      rw [zone, airedVent, vent, hv]
      rfl
    rw [e, mark]
    have put (x : Zone) : (w.putZone z x).chan i = m.chan i := chan i
    refine targetChange_urged ?_ ?_
    · rw [put, ← chan i]
      exact (wired_iff.mp wired).2
    · rw [put, target_of_asked asked, cfg_of_asked asked, adopted]
      exact ht

/-! ### The notices of PURGE, and the rest -/

theorem clock_of_plan (h : t.plan.forgetTotals = s.plan.forgetTotals) : t.plan.clock = s.plan.clock := (congrArg PlanUnit.clock h :)

/-- Behind the ventilation state an evaluation adds to the notices. -/
theorem evaluate_follows (z : Fin 12) (s : State) : (setVent z (s.ventNow z) (heat z s)).Follows (evaluate z s) := by
  have aired : (setVent z (s.ventNow z) (heat z s)).BesideZone (ventilate z (heat z s)) := by
    rw [ventilate_eq, heat_ventNow]
    exact sendFan_beside z _ ((State.BesideZone.refl _).putZone z _)
  have worked : (setVent z (s.ventNow z) (heat z s)).Follows (s.worked z) := (aired.putZone z (s.evaluated z)).follows
  rw [evaluate_eq]
  generalize s.worked z = w at *
  exact worked.trans (.of_line ((State.Follows.units w).zoneDTEvent z _ (.refl w)) rfl)

theorem evaluate_reports_start (hv : s.ventNow z = .purge) (hx : (s.zone z).vent ≠ .purge) (hu : (evaluate z s).Follows u) :
    s.reports u ⟨.purgeStart, s.plan.clock, z,
      leOpt8 ((s.zone z).cfg.exhaustPoint.map (·.val)) ++ leInt16 ((s.exhaustReading z).getD 0) ++ le16 (s.zone z).cfg.xp⟩ := by
  have alike := heat_seesAlike z s
  have vent : ((heat z s).zone z).vent = (s.zone z).vent := (congrArg Zone.vent (zone_of_written (heat_climate z s)) :)
  have follows := (evaluate_follows z s).trans hu
  rw [← clock_of_plan alike.beside.plan, ← alike.cfg, ← alike.reading]
  rw [setVent_enters ⟨hv, by rwa [vent]⟩] at follows
  generalize heat z s = m at *
  exact reports_of_raise (t := m.putZone z (m.vented z (s.ventNow z))) (alike.beside.putZone z _).follows follows

theorem evaluate_reports_end (hv : s.ventNow z ≠ .purge) (hx : (s.zone z).vent = .purge) (hu : (evaluate z s).Follows u) :
    s.reports u ⟨.purgeEnd, s.plan.clock, z,
      le8 (s.ventNow z).code ++ leOpt16 ((s.exhaustReading z).map Int.toNat)
        ++ le16 (min Config.max16 (s.seconds - (s.zone z).purgeStart))⟩ := by
  have alike := heat_seesAlike z s
  have zone : ((heat z s).zone z).vent = (s.zone z).vent ∧ ((heat z s).zone z).purgeStart = (s.zone z).purgeStart := by
    rw [zone_of_written (heat_climate z s)]
    exact ⟨rfl, rfl⟩
  have follows := (evaluate_follows z s).trans hu
  rw [← clock_of_plan alike.beside.plan, ← alike.reading, ← alike.beside.seconds, ← zone.2]
  rw [setVent_leaves ⟨zone.1.trans hx, hv⟩] at follows
  generalize heat z s = m at *
  exact reports_of_raise (t := m.putZone z (m.vented z (s.ventNow z))) (alike.beside.putZone z _).follows follows

theorem seconds_of_outsideClimate (h : t.outsideClimate = s.outsideClimate) : t.seconds = s.seconds := (congrArg State.seconds h :)

section
variable (z s)

theorem evaluate_stop : (evaluate z s).stop = s.stop := by
  have worked := (worked_beside s z).stop
  rw [evaluate_eq]
  generalize s.worked z = w at *
  exact (stop_of_outsideClimate (zoneDTEvent_outsideClimate w z _)).trans worked

theorem evaluate_plan : (evaluate z s).plan.forgetTotals = s.plan.forgetTotals := by
  have worked := (worked_beside s z).plan
  rw [evaluate_eq]
  generalize s.worked z = w at *
  exact (plan_of_outsideClimate (zoneDTEvent_outsideClimate w z _)).trans worked

theorem evaluate_seconds : (evaluate z s).seconds = s.seconds := by
  have worked := (worked_beside s z).seconds
  rw [evaluate_eq]
  generalize s.worked z = w at *
  exact (seconds_of_outsideClimate (zoneDTEvent_outsideClimate w z _)).trans worked

theorem evaluate_zoneDT : (evaluate z s).dock.zoneDT = upd s.dock.zoneDT z (s.zoneDT z) := by
  have worked := (worked_beside s z).zoneDT
  rw [evaluate_eq, ← worked]
  generalize s.worked z = w at *
  exact zoneDTEvent_zoneDT w z _

end

end Sys2Proof.Machine
end

section
/-! SUPPORT. The figures of a zone evaluation in the words of the rules (R119, R126 to R131, R139 to R141), each tied to the model's. -/

namespace Sys2Proof.Machine

variable {s : State} {z : Fin 12} {i : Fin 128}

/-! ### Temperatures (R117, R119, R131) -/

/-- The reading of a GOOD point. -/
def SensorPoint.felt (p : SensorPoint) : Option Int := if p.state = .good then p.value else none

/-- The outdoor temperature in use. -/
def State.outside (s : State) : Int := (look s.climate.temps s.climate.outdoorPoint).felt.getD s.climate.designTemp

theorem outdoor_eq (s : State) : s.outdoor.1 = s.outside := by
  unfold State.outdoor State.outside SensorPoint.felt
  obtain ⟨state, value⟩ := look s.climate.temps s.climate.outdoorPoint
  cases state <;> cases value <;> rfl

theorem exhaustReading_eq (s : State) (z : Fin 12) :
    s.exhaustReading z = ((s.zone z).cfg.exhaustPoint.map (look s.climate.exhausts ·)).bind SensorPoint.felt := by
  unfold State.exhaustReading
  cases (s.zone z).cfg.exhaustPoint with
  | none => rfl
  | some p => rfl

theorem exhaustStale_iff (s : State) (z : Fin 12) :
    s.exhaustStale z = true ↔ ((s.zone z).cfg.exhaustPoint.map (look s.climate.exhausts ·)).map (·.state) = some .stale := by
  unfold State.exhaustStale
  cases (s.zone z).cfg.exhaustPoint with
  | none => simp
  | some p => simp

/-- The zone ΔT on the readings as they stand. -/
def State.spread (s : State) (z : Fin 12) : Nat :=
  match (s.zonePoint z).value with
  | some v => (max 0 (min 1300 (v - s.outside))).toNat
  | none => 0

theorem zoneDT_eq (s : State) (z : Fin 12) : s.zoneDT z = s.spread z := by
  unfold State.zoneDT State.spread
  rw [outdoor_eq]
  rfl

/-! ### Mode and setpoint (R126, R127) -/

/-- The channel that is the zone's heater, and the one that is its fan. -/
def State.heaterOf (s : State) (z : Fin 12) : Option (Fin 128) := s.wired z .heater (s.zone z).cfg.heater
def State.fanOf (s : State) (z : Fin 12) : Option (Fin 128) := s.wired z .fan (s.zone z).cfg.fan

/-- The value of the zone's override. -/
def State.overridden (s : State) (z : Fin 12) : Option Int := (s.plan.overrides.find? (fun o => o.target = .climate z)).map (·.value)

theorem overrideFor_climate (s : State) (z : Fin 12) : s.overrideFor (.climate z) = s.overridden z := by
  unfold State.overrideFor State.overridden
  congr 2

/-- The start, the entry and the lead in minutes of the phase that a zone may precondition toward. -/
def State.toward (s : State) (z : Fin 12) : Option (Nat × ClimateEntry × Nat) :=
  match s.plan.next.bind (fun m => s.plan.phases.find? (·.start = m)), (s.zonePoint z).felt with
  | some r, some v =>
    let e := look (look s.plan.climateSets r.fields.climateSet) z
    if s.overridden z = none ∧ (s.heaterOf z).isSome ∧ s.stop.state = .running ∧ r.fields.precondition = true
        ∧ (s.currentEntry z).setpoint < e.setpoint then
      some (r.start, e, (max 0 (min 240 (((e.setpoint - v) * (s.zone z).cfg.mz).tdiv 10))).toNat)
    else none
  | _, _ => none

theorem heaterPresent_eq (s : State) (z : Fin 12) : s.heaterPresent z = (s.heaterOf z).isSome := present_eq_wired s z .heater _

theorem nextRecord_eq (s : State) : s.nextRecord = s.plan.next.bind (fun m => s.plan.phases.find? (·.start = m)) := by
  unfold State.nextRecord
  cases s.plan.next <;> rfl

theorem lead_eq (s : State) (z : Fin 12) : (s.lead z).map (fun l => (l.1.start, l.2.1, l.2.2)) = s.toward z := by
  unfold State.lead State.toward SensorPoint.felt
  rw [nextRecord_eq, overrideFor_climate, heaterPresent_eq]
  dsimp only
  cases s.plan.next.bind (fun m => s.plan.phases.find? (·.start = m)) with
  | none => rfl
  | some r =>
    cases (s.zonePoint z).value with
    | none =>
      rw [ite_self]
      rfl
    | some v =>
      by_cases hg : (s.zonePoint z).state = .good
      · rw [if_pos hg]
        simp only [hg, plantRunning_iff, Bool.and_eq_true, Option.isNone_iff_eq_none, beq_self_eq_true, decide_eq_true_eq, and_true, and_assoc]
        split <;> rfl
      · rw [if_neg hg]
        dsimp only
        rw [if_neg (by simp [hg])]
        rfl

/-- The entry that the zone preconditions toward. -/
def State.warms (s : State) (z : Fin 12) : Option ClimateEntry :=
  match s.toward z, s.plan.clock with
  | some (start, e, lead), some now =>
    let left := (start * 60 + 604800 - now) % 604800
    if (if left = 0 then 604800 else left) ≤ lead * 60 then some e else none
  | _, _ => none

theorem preconditions_eq (s : State) (z : Fin 12) : s.preconditions z = s.warms z := by
  unfold State.preconditions State.warms
  rw [← lead_eq]
  cases s.lead z with
  | none => rfl
  | some l => cases s.plan.clock <;> rfl

/-- The mode of the first line that applies. -/
def State.modeDue (s : State) (z : Fin 12) : ZoneMode :=
  if ¬s.stop.state = .running then .stopped
  else if s.heaterOf z = none then .off
  else if (s.warms z).isSome then .precondition
  else if s.plan.current.fields.kind = .setback then .setback
  else .occupied

theorem occupied_iff (k : PhaseKind) : k.occupied = true ↔ k ≠ .setback := by cases k <;> decide

theorem modeNow_eq (s : State) (z : Fin 12) : s.modeNow z = s.modeDue z := by
  unfold State.modeNow State.modeDue
  rw [preconditions_eq, heaterPresent_eq]
  simp only [Bool.not_eq_true', ← Bool.not_eq_true, plantRunning_iff, Option.isSome_iff_ne_none, ne_eq, Decidable.not_not, occupied_iff,
    State.kind, ite_not]

/-- The setpoint, its source and the cap of the active set. -/
def State.aim (s : State) (z : Fin 12) : Int := (s.overridden z).getD ((s.warms z).getD (s.currentEntry z)).setpoint
def State.aimSource (s : State) (z : Fin 12) : SetpointSource :=
  if (s.overridden z).isSome then .override else if (s.warms z).isSome then .next else .current
def State.aimCap (s : State) (z : Fin 12) : Nat :=
  if (s.overridden z).isSome then (s.currentEntry z).cap else ((s.warms z).getD (s.currentEntry z)).cap

theorem setpoint_eq (s : State) (z : Fin 12) : s.setpoint z = (s.aim z, s.aimSource z, s.aimCap z) := by
  unfold State.setpoint State.aim State.aimSource State.aimCap
  rw [overrideFor_climate, preconditions_eq]
  cases s.overridden z <;> cases s.warms z <;> rfl

end Sys2Proof.Machine
end

section
/-! SUPPORT. The heating and ventilation figures of an evaluation in the words of the rules (R128 to R130, R139 to R141). -/

namespace Sys2Proof.Machine

variable {s : State} {z : Fin 12} {i : Fin 128}

/-! ### The heat call (R128, R129) -/

/-- The condition that freezes the integral, for the channel h, the last call and the error. -/
def freezeDue (h : Channel) (call : Nat) (e : Int) : Option FreezeCondition :=
  if h.tripped = true then some .tripped
  else if h.granted < h.target ∧ 0 < e then some .heldBack
  else if call = 1000 ∧ 0 < e then some .atTop
  else if call = 0 ∧ e < 0 then some .atBottom
  else none

theorem freezeCondition_eq (h : Channel) (call : Nat) (e : Int) : freezeCondition h call e = freezeDue h call e := by
  unfold freezeCondition freezeDue
  simp only [Bool.and_eq_true, decide_eq_true_eq]

/-- The granted steps of the zone's fan. -/
def State.blowing (s : State) (z : Fin 12) : Nat :=
  match s.fanOf z with
  | some j => (s.chan j).granted
  | none => 0

/-- The zone's loss. -/
def State.lossDue (s : State) (z : Fin 12) : Nat :=
  ((indices 32).map fun d => if (s.door d).cfg.zone = z then (s.door d).rate else 0).sum
    + (s.zone z).cfg.kv * s.blowing z * s.spread z / 10

theorem boundFan_eq (s : State) (z : Fin 12) : s.boundChannel (s.zone z).cfg.fan .fan z = (s.fanOf z).map s.chan :=
  boundChannel_eq_wired s z .fan _

theorem boundHeater_eq (s : State) (z : Fin 12) : s.boundChannel (s.zone z).cfg.heater .heater z = (s.heaterOf z).map s.chan :=
  boundChannel_eq_wired s z .heater _

theorem blowing_eq (s : State) (z : Fin 12) : s.blowing z = (match (s.fanOf z).map s.chan with
    | some c => c.granted
    | none => 0) := by
  unfold State.blowing
  cases s.fanOf z <;> rfl

theorem zoneLoss_eq (s : State) (z : Fin 12) : s.zoneLoss z = s.lossDue z := by
  unfold State.zoneLoss State.lossDue State.doorsOfZone
  rw [boundFan_eq, zoneDT_eq, sum_map_filter, blowing_eq]
  simp only [decide_eq_true_eq] <;> rfl

/-- The terms of the heat call, worked out in RUNNING with a GOOD point and a heater. -/
def State.termsDue (s : State) (z : Fin 12) : Option HeatTerms :=
  match s.heaterOf z, (s.zonePoint z).felt with
  | some i, some v =>
    let h := s.chan i
    let e := max (-300) (min 300 (s.aim z - v))
    let frozen := freezeDue h (s.zone z).call e
    let integral := if frozen.isSome then (s.zone z).integral
      else max (-((s.zone z).cfg.imax : Int)) (min (s.zone z).cfg.imax ((s.zone z).integral + e))
    if s.stop.state = .running then
      some ⟨e, ((s.zone z).cfg.kp * e).tdiv 10, ((s.zone z).cfg.ki * integral).tdiv 10, s.lossDue z,
        min 1000 (s.lossDue z * (s.zone z).cfg.phi / (h.cfg.steps * h.cfg.rating)), frozen⟩
    else none
  | _, _ => none

/-- The integral that follows from the terms. -/
def State.integralDue (s : State) (z : Fin 12) : Int :=
  match s.termsDue z with
  | some m =>
    if m.frozen.isSome then (s.zone z).integral
    else max (-((s.zone z).cfg.imax : Int)) (min (s.zone z).cfg.imax ((s.zone z).integral + m.error))
  | none => (s.zone z).integral

/-- Whether the call is a fallback call. -/
abbrev State.FallsBack (s : State) (z : Fin 12) : Prop := s.stop.state = .running ∧ s.heaterOf z ≠ none ∧ (s.zonePoint z).felt = none


/-- The heat call. -/
def State.callDue (s : State) (z : Fin 12) : Nat :=
  match s.termsDue z with
  | some m => (max 0 (min 1000 (m.proportional + m.integralTerm + m.feedforward))).toNat
  | none =>
    if s.FallsBack z then (if s.modeDue z = .setback then (s.zone z).cfg.setbackFallback else (s.zone z).cfg.occupiedFallback) else 0

/-! ### The heater target (R130) -/

/-- N of the heater. -/
def State.heaterSteps (s : State) (z : Fin 12) : Nat :=
  match s.heaterOf z with
  | some i => (s.chan i).cfg.steps
  | none => 0

/-- The heater target. -/
def State.heaterDue (s : State) (z : Fin 12) : Nat :=
  let up := (s.callDue z * s.heaterSteps z + 400) / 1000
  let down := (s.callDue z * s.heaterSteps z + 600) / 1000
  let staged := if (s.zone z).heaterTarget < up then up
    else if down < (s.zone z).heaterTarget then down else (s.zone z).heaterTarget
  if s.stop.state = .running ∧ s.heaterOf z ≠ none then min staged (min (s.heaterSteps z) (s.aimCap z)) else 0

/-- What the heating steps work out, in the words of the rules. -/
def State.heatDue (s : State) (z : Fin 12) : HeatResult :=
  ⟨s.termsDue z, s.integralDue z, s.callDue z, s.FallsBack z, s.heaterDue z⟩

/-- Stopped, or without a heater, nothing is called for. -/
theorem heatDue_idle (h : s.stop.state ≠ .running ∨ s.heaterOf z = none) : s.heatDue z = ⟨none, (s.zone z).integral, 0, false, 0⟩ := by
  have terms : s.termsDue z = none := by
    unfold State.termsDue
    obtain stopped | none := h
    · split
      · exact if_neg stopped
      · rfl
    · rw [none]
  have falls : ¬s.FallsBack z := fun f => h.elim (fun n => n f.1) f.2.1
  have target : s.heaterDue z = 0 := if_neg fun r => h.elim (fun n => n r.1) r.2
  unfold State.heatDue State.integralDue State.callDue
  rw [terms, target, decide_eq_false falls]
  dsimp only
  rw [if_neg falls]

theorem modeNow_runs (hr : s.stop.state = .running) (hh : s.heaterOf z = some i) : ¬(s.modeNow z = .off ∨ s.modeNow z = .stopped) := by
  rw [modeNow_eq]
  unfold State.modeDue
  rw [if_neg (not_not.mpr hr), if_neg (by rw [hh]; exact Option.some_ne_none i)]
  split
  · decide
  · split <;> decide

theorem felt_eq {p : SensorPoint} {v : Int} (h : p.felt = some v) : p.state = .good ∧ p.value = some v := by
  unfold SensorPoint.felt at h
  split at h
  · next good => exact ⟨good, h⟩
  · cases h

theorem termsDue_felt {v : Int} (hr : s.stop.state = .running) (hh : s.heaterOf z = some i) (hv : (s.zonePoint z).felt = some v) :
    s.termsDue z = some (s.heatTerms z (s.chan i) v).1 := by
  unfold State.termsDue State.heatTerms
  rw [hh, hv]
  dsimp only
  rw [if_pos hr, setpoint_eq, zoneLoss_eq, freezeCondition_eq]
  rfl

theorem integralDue_felt {v : Int} (hr : s.stop.state = .running) (hh : s.heaterOf z = some i) (hv : (s.zonePoint z).felt = some v) :
    s.integralDue z = (s.heatTerms z (s.chan i) v).2 := by
  unfold State.integralDue
  rw [termsDue_felt hr hh hv]
  rfl

/-- With a GOOD point the call follows from the terms. -/
theorem heating_felt {v : Int} (hr : s.stop.state = .running) (hh : s.heaterOf z = some i) (hv : (s.zonePoint z).felt = some v) :
    s.heating z (s.modeNow z) = s.heatDue z := by
  have falls : ¬s.FallsBack z := fun f => Option.some_ne_none v (hv.symm.trans f.2.2)
  have call : s.callDue z = (clampInt 0 1000 ((s.heatTerms z (s.chan i) v).1.proportional + (s.heatTerms z (s.chan i) v).1.integralTerm
      + (s.heatTerms z (s.chan i) v).1.feedforward)).toNat := by
    unfold State.callDue
    rw [termsDue_felt hr hh hv]
    rfl
  have steps : s.heaterSteps z = (s.chan i).cfg.steps := by
    unfold State.heaterSteps
    rw [hh]
  have target : s.heaterDue z = stages (s.callDue z) (s.chan i).cfg.steps (s.zone z).heaterTarget (s.setpoint z).2.2 := by
    unfold State.heaterDue
    rw [steps, if_pos ⟨hr, by rw [hh]; exact Option.some_ne_none i⟩, setpoint_eq]
    rfl
  obtain ⟨good, value⟩ := felt_eq hv
  unfold State.heating State.heatDue
  dsimp only
  rw [decide_eq_false falls, boundHeater_eq, hh, target, call, integralDue_felt hr hh hv, termsDue_felt hr hh hv]
  dsimp only [Option.map_some]
  rw [if_neg (modeNow_runs hr hh), good, value]

/-- Without a GOOD point the call is the fallback call of the mode. -/
theorem heating_blind (hr : s.stop.state = .running) (hh : s.heaterOf z = some i) (hv : (s.zonePoint z).felt = none) :
    s.heating z (s.modeNow z) = s.heatDue z := by
  have named : s.heaterOf z ≠ none := by
    rw [hh]
    exact Option.some_ne_none i
  have falls : s.FallsBack z := ⟨hr, named, hv⟩
  have terms : s.termsDue z = none := by
    unfold State.termsDue
    rw [hh, hv]
  have call : s.callDue z = if s.modeNow z = .setback then (s.zone z).cfg.setbackFallback else (s.zone z).cfg.occupiedFallback := by
    unfold State.callDue
    rw [terms]
    dsimp only
    rw [if_pos falls, modeNow_eq]
  have steps : s.heaterSteps z = (s.chan i).cfg.steps := by
    unfold State.heaterSteps
    rw [hh]
  have target : s.heaterDue z = stages (s.callDue z) (s.chan i).cfg.steps (s.zone z).heaterTarget (s.setpoint z).2.2 := by
    unfold State.heaterDue
    rw [steps, if_pos ⟨hr, named⟩, setpoint_eq]
    rfl
  have integral : s.integralDue z = (s.zone z).integral := by
    unfold State.integralDue
    rw [terms]
  unfold State.heating State.heatDue
  dsimp only
  rw [decide_eq_true falls, boundHeater_eq, hh, target, call, integral, terms]
  dsimp only [Option.map_some]
  rw [if_neg (modeNow_runs hr hh)]
  unfold SensorPoint.felt at hv
  split
  · next good value =>
    rw [if_pos good, value] at hv
    cases hv
  · rfl

theorem heating_eq (s : State) (z : Fin 12) : s.heating z (s.modeNow z) = s.heatDue z := by
  by_cases hr : s.stop.state = .running
  · cases hh : s.heaterOf z with
    | none =>
      rw [heatDue_idle (.inr hh)]
      unfold State.heating
      dsimp only
      rw [boundHeater_eq, hh]
      rfl
    | some i =>
      cases hv : (s.zonePoint z).felt with
      | some v => exact heating_felt hr hh hv
      | none => exact heating_blind hr hh hv
  · have mode : s.modeNow z = .stopped := by
      rw [modeNow_eq]
      exact if_pos hr
    rw [heatDue_idle (.inl hr), mode]
    unfold State.heating
    dsimp only
    split
    · rfl
    · exact if_pos (.inr rfl)

/-! ### Ventilation (R139 to R141) -/

/-- The exhaust point that the zone names, and its reading. -/
def State.exhaustOf (s : State) (z : Fin 12) : Option SensorPoint := (s.zone z).cfg.exhaustPoint.map (look s.climate.exhausts ·)
def State.fumes (s : State) (z : Fin 12) : Option Int := (s.exhaustOf z).bind fun p => if p.state = .good then p.value else none

/-- The ventilation state. -/
def State.ventDue (s : State) (z : Fin 12) : VentState :=
  if ¬s.stop.state = .running then .stopped
  else if (s.exhaustOf z).map (·.state) = some .stale then .blind
  else
    match s.fumes z with
    | none => .normal
    | some v => if ((s.zone z).vent = .purge ∧ ((s.zone z).cfg.xp : Int) - 100 ≤ v) ∨ (s.zone z).cfg.xp ≤ v then .purge else .normal

theorem ventNow_eq (s : State) (z : Fin 12) : s.ventNow z = s.ventDue z := by
  have reading : s.exhaustReading z = s.fumes z := exhaustReading_eq s z
  have stale := exhaustStale_iff s z
  unfold State.ventNow State.ventDue State.exhaustOf
  rw [reading]
  simp only [stale, ← plantRunning_iff, Bool.not_eq_true', Bool.not_eq_true]
  cases s.fumes z with
  | none => rfl
  | some v =>
    dsimp only
    simp only [ite_or]

/-- N of the fan, the ventilation minimum and the computed target. -/
def State.fanN (s : State) (z : Fin 12) : Nat :=
  match s.fanOf z with
  | some i => (s.chan i).cfg.steps
  | none => 0
def State.leastDue (s : State) (z : Fin 12) : Nat :=
  if s.plan.current.fields.kind = .setback then 0 else min (s.currentEntry z).ventMin (s.fanN z)
def State.computedDue (s : State) (z : Fin 12) : Nat :=
  match s.ventDue z with
  | .stopped => 0
  | .purge => s.fanN z
  | .blind => if s.plan.current.fields.kind = .setback then s.leastDue z else s.fanN z
  | .normal =>
    match s.fumes z with
    | none => s.leastDue z
    | some v =>
      if v.toNat ≤ (s.zone z).cfg.x1 then s.leastDue z
      else if (s.zone z).cfg.x2 ≤ v.toNat then s.fanN z
      else s.leastDue z + ((v.toNat - (s.zone z).cfg.x1) * (s.fanN z - s.leastDue z) + ((s.zone z).cfg.x2 - (s.zone z).cfg.x1) - 1)
        / ((s.zone z).cfg.x2 - (s.zone z).cfg.x1)

theorem fanSteps_eq_fanN (s : State) (z : Fin 12) : s.fanSteps z = s.fanN z := by
  unfold State.fanSteps State.fanN
  rw [boundFan_eq]
  cases s.fanOf z <;> rfl

theorem ventMin_eq (s : State) (z : Fin 12) : s.ventMin z = s.leastDue z := by
  unfold State.ventMin State.leastDue
  rw [fanSteps_eq_fanN]
  rfl

theorem computedFan_eq (s : State) (z : Fin 12) : s.computedFan z (s.ventNow z) = s.computedDue z := by
  have reading : s.exhaustReading z = s.fumes z := exhaustReading_eq s z
  unfold State.computedFan State.computedDue
  rw [ventNow_eq, ventMin_eq, fanSteps_eq_fanN, reading]
  cases s.ventDue z with
  | stopped => rfl
  | purge => rfl
  | blind =>
    dsimp only
    simp only [occupied_iff, State.kind, ne_eq, ite_not]
  | normal =>
    cases s.fumes z <;> rfl

/-- The computed target falls below the fan target, in NORMAL. -/
abbrev State.FanFalls (s : State) (z : Fin 12) : Prop := s.ventDue z = .normal ∧ s.computedDue z < (s.zone z).fanTarget

/-- A fall waits for a second evaluation; anything else is adopted at once (R141). -/
theorem adopted_eq (s : State) (z : Fin 12) :
    s.adopted z = (if s.FanFalls z then ((s.zone z).lowerCandidate.map (max (s.computedDue z) ·)).getD (s.zone z).fanTarget else s.computedDue z,
      if s.FanFalls z ∧ (s.zone z).lowerCandidate = none then some (s.computedDue z) else none) := by
  unfold State.adopted State.FanFalls
  rw [computedFan_eq, ventNow_eq]
  generalize s.computedDue z = c
  generalize (s.zone z).fanTarget = f
  by_cases hv : s.ventDue z = .normal
  · unfold adoptFan
    rw [if_neg (not_not.mpr hv)]
    obtain below | same | above := lt_trichotomy c f
    · rw [if_neg (by omega), if_neg (by omega), if_pos ⟨hv, below⟩]
      cases (s.zone z).lowerCandidate with
      | none => simp [hv, below]
      | some k => simp
    · simp [hv, same]
    · rw [if_pos above]
      have : ¬c < f := by omega
      simp [this]
  · simp [adoptFan, hv]

end Sys2Proof.Machine
end

section
/-! THEOREM. A due zone evaluation is taken whole. -/

namespace Sys2Proof.Machine

variable {s : State} {z : Fin 12} {i : Fin 128}

theorem exec_evaluation_due (hs : s.stage = .running) (h : (s.zone z).evalT = 0) :
    exec (.zoneEvaluation z) s = .next (evaluationExpired z s) := by
  change execZoneEvaluation z s = _
  unfold execZoneEvaluation
  refine whenRunning_runs hs ?_
  rw [if_pos h]

theorem exec_evaluation_idle (hs : s.stage = .running) (h : (s.zone z).evalT ≠ 0) : exec (.zoneEvaluation z) s = .next s := by
  change execZoneEvaluation z s = _
  unfold execZoneEvaluation
  refine whenRunning_runs hs ?_
  rw [if_neg h]

theorem evaluationExpired_eq (z : Fin 12) (s : State) : evaluationExpired z s = (evaluate z s).putZone z { s.evaluated z with evalT := 60 } := by
  unfold evaluationExpired
  dsimp only
  rw [evaluate_zone]

/-- The zone's figures in the words of the rules. -/
theorem evaluated_figures (s : State) (z : Fin 12) :
    (s.evaluated z).figures
      = { evaluated := true, setpoint := s.aim z, source := s.aimSource z
          lead := (s.toward z).map (·.2.2), temperature := (s.zonePoint z).value, outdoor := s.outside, terms := s.termsDue z
          integral := s.integralDue z, fallbackCall := s.FallsBack z, call := s.callDue z, target := s.heaterDue z
          exhaust := s.fumes z, ventMin := s.leastDue z, computed := s.computedDue z } := by
  have reading : s.exhaustReading z = s.fumes z := exhaustReading_eq s z
  have lead : (s.lead z).map (·.2.2) = (s.toward z).map (·.2.2) := by
    rw [← lead_eq, Option.map_map]
    rfl
  unfold State.evaluated State.heated
  dsimp only
  rw [heating_eq, setpoint_eq, outdoor_eq, reading, lead, ventMin_eq, computedFan_eq]
  rfl

theorem evaluated_heat (s : State) (z : Fin 12) :
    (s.evaluated z).mode = s.modeDue z ∧ (s.evaluated z).integral = s.integralDue z ∧ (s.evaluated z).call = s.callDue z
      ∧ (s.evaluated z).heaterTarget = s.heaterDue z := by
  unfold State.evaluated State.heated
  dsimp only
  rw [heating_eq, modeNow_eq]
  exact ⟨rfl, rfl, rfl, rfl⟩

theorem evaluated_air (s : State) (z : Fin 12) :
    (s.evaluated z).vent = s.ventDue z ∧ (s.evaluated z).fanTarget = (s.adopted z).1 ∧ (s.evaluated z).lowerCandidate = (s.adopted z).2
      ∧ (s.evaluated z).deltaT = s.spread z := by
  rw [← ventNow_eq, ← zoneDT_eq]
  exact ⟨rfl, rfl, rfl, rfl⟩

theorem evaluationExpired_chan (z : Fin 12) (s : State) (i : Fin 128) : (evaluationExpired z s).chan i = (evaluate z s).chan i := by
  rw [evaluationExpired_eq]
  generalize evaluate z s = t
  rfl

theorem evaluationExpired_zone (z : Fin 12) (s : State) : (evaluationExpired z s).zone z = { s.evaluated z with evalT := 60 } := by
  rw [evaluationExpired_eq, zone_putZone_self]

theorem evaluationExpired_zone_ne {y : Fin 12} (z : Fin 12) (s : State) (hy : y ≠ z) : (evaluationExpired z s).zone y = s.zone y := by
  rw [evaluationExpired_eq, zone_putZone, if_neg (Ne.symm hy)]
  exact evaluate_zone_ne s z hy

theorem evaluationExpired_zoneDT (z : Fin 12) (s : State) : (evaluationExpired z s).dock.zoneDT = upd s.dock.zoneDT z (s.spread z) := by
  rw [evaluationExpired_eq, ← zoneDT_eq, ← evaluate_zoneDT]
  generalize evaluate z s = t
  rfl

theorem evaluationExpired_follows (z : Fin 12) (s : State) : (evaluate z s).Follows (evaluationExpired z s) := by
  rw [evaluationExpired_eq]
  generalize evaluate z s = t
  exact .of_line (.refl t) rfl

theorem leOpt16_map_toNat (r : Option Int) : leOpt16 (r.map Int.toNat) = (match r with
    | some v => le16 v.toNat
    | none => [0xFF, 0xFF]) := by
  cases r <;> rfl

/-- Settles O50: the steps of the evaluation write the zone's record and ask the heater and the fan (R125 to R131, R139 to R142), and the record
is read in the words of the rules. -/
theorem zoneEvaluationIsTakenWhole : Obligations.ZoneEvaluationIsTakenWhole := by
  unfold Obligations.ZoneEvaluationIsTakenWhole
  refine ⟨fun s z hs he => ?_, fun s z hs he => exec_evaluation_idle hs he⟩
  intro x running kind fan heater inside temperature yard outdoor deltaT active override toward warm mode setpoint cap steps terms integral fallback
    call up down staged target point reading vent n least computed falls fanTarget
  have run := exec_evaluation_due hs he
  have adopted := adopted_eq s z
  obtain ⟨hmode, hintegral, hcall, htarget⟩ := evaluated_heat s z
  obtain ⟨hvent, hfan, hcandidate, hdeltaT⟩ := evaluated_air s z
  have figures := evaluated_figures s z
  have purge : (s.evaluated z).purgeStart = if s.ventNow z = .purge ∧ (s.zone z).vent ≠ .purge then s.seconds else (s.zone z).purgeStart := rfl
  have cfg : (s.evaluated z).cfg = (s.zone z).cfg := rfl
  have chan (i : Fin 128) := evaluationExpired_chan z s i
  have zone := evaluationExpired_zone z s
  have others (y : Fin 12) (hy : y ≠ z) := evaluationExpired_zone_ne z s hy
  have dock := evaluationExpired_zoneDT z s
  have follows := evaluationExpired_follows z s
  generalize evaluationExpired z s = t at *
  refine ⟨t, run, ?_⟩
  rw [zone]
  generalize s.evaluated z = r at *
  have steps (i : Fin 128) (hi : fan = some i) : n = (s.chan i).cfg.steps := by
    show (match fan with | some i => (s.chan i).cfg.steps | none => 0) = _
    rw [hi]
  have fanDue : (s.adopted z).1 = fanTarget := congrArg Prod.fst adopted
  refine ⟨rfl, cfg, hmode, hintegral, hcall, htarget, figures, hvent, hfan.trans fanDue, hcandidate.trans (congrArg Prod.snd adopted), fun i hi => ?_,
    fun i hi => ⟨?_, fun hv hn ht => ?_⟩, fun i hh hf => ?_, fun hv hx => ⟨?_, ?_⟩, fun hx hv => ?_, hdeltaT, dock, others⟩
  · rw [chan, evaluate_heaterTarget hi, heating_eq]
    rfl
  · rw [chan, evaluate_fanTarget hi, fanDue, steps i hi]
  · rw [chan]
    exact evaluate_urged hi ((ventNow_eq s z).trans hv) (by rwa [fanDue]) (by rw [fanDue, ← steps i hi]; exact ht)
  · rw [chan]
    exact evaluate_asked hh hf
  · rw [purge, ventNow_eq]
    exact if_pos ⟨hv, hx⟩
  · have reading : s.exhaustReading z = s.fumes z := exhaustReading_eq s z
    have notice := evaluate_reports_start ((ventNow_eq s z).trans hv) hx follows
    rw [reading] at notice
    exact notice
  · have reading : s.exhaustReading z = s.fumes z := exhaustReading_eq s z
    have notice := evaluate_reports_end (fun h => hv ((ventNow_eq s z).symm.trans h)) hx follows
    rw [reading, ventNow_eq, leOpt16_map_toNat] at notice
    exact notice

end Sys2Proof.Machine
end

section
/-! SUPPORT. The events of the arbiter and of the doors read nothing of the Climate Unit: with another Climate Unit in its place they do the same. -/

namespace Sys2Proof.Machine

variable {s : State} {c : Climate}

/-- With another Climate Unit in its place the operation does the same. -/
def ClimateBlind (f : State → State) : Prop := ∀ s c, f (s.setClimate c) = (f s).setClimate c

namespace ClimateBlind

variable {f g : State → State}

theorem id : ClimateBlind fun s => s := fun _ _ => rfl

theorem comp (hg : ClimateBlind g) (hf : ClimateBlind f) : ClimateBlind fun s => g (f s) := fun s c => by
  dsimp only
  rw [hf s c, hg]

/-- A choice by what the Climate Unit does not hold. -/
theorem ite {p : State → Prop} [DecidablePred p] (hp : ∀ s c, p (s.setClimate c) ↔ p s) (hf : ClimateBlind f) (hg : ClimateBlind g) :
    ClimateBlind fun s => if p s then f s else g s := fun s c => by
  dsimp only
  by_cases h : p s
  · rw [if_pos h, if_pos ((hp s c).mpr h), hf]
  · rw [if_neg h, if_neg fun h' => h ((hp s c).mp h'), hg]

theorem forEach {α : Type} {f : α → State → State} (h : ∀ a, ClimateBlind (f a)) (l : List α) : ClimateBlind (forEach l f) := by
  induction l with
  | nil => exact id
  | cons a l ih =>
    intro s c
    rw [forEach_cons, forEach_cons, h, ih]

theorem raise (k : NoticeKind) (n : Nat) (b : Bytes) : ClimateBlind (raise k n b) := by
  intro s c
  unfold Machine.raise
  by_cases h : s.line.level.passes k.cls = true
  · rw [if_pos h]
    exact if_pos h
  · rw [if_neg h]
    exact if_neg h

theorem accrue (d : Fin 32) : ClimateBlind (accrue d) := by
  unfold Machine.accrue
  exact ite (fun _ _ => .rfl) (fun _ _ => rfl) (ite (p := fun s => (s.door d).session.isSome = true) (fun _ _ => .rfl) (fun _ _ => rfl) (fun _ _ => rfl))

theorem refreshRate (d : Fin 32) : ClimateBlind (refreshRate d) := fun _ _ => rfl

theorem setCurtainRunning (d : Fin 32) (b : Bool) : ClimateBlind (setCurtainRunning d b) := by
  have write : ClimateBlind fun t => t.putDoor d { t.door d with curtainRunning := b } := fun _ _ => rfl
  unfold Machine.setCurtainRunning
  exact ite (fun _ _ => .rfl) id ((refreshRate d).comp (write.comp (accrue d)))

/-- A choice by an optional value that the Climate Unit does not hold. -/
theorem elim {α : Type} {v : State → Option α} {h : α → State → State} (hv : ∀ s c, v (s.setClimate c) = v s) (hg : ClimateBlind g)
    (hh : ∀ a, ClimateBlind (h a)) : ClimateBlind fun s => (v s).elim (g s) fun a => h a s := fun s c => by
  dsimp only
  rw [hv]
  cases v s with
  | none => exact hg s c
  | some a => exact hh a s c

end ClimateBlind

/-- The door that hears of a grant of a channel (R100). -/
def State.hears (s : State) (i : Fin 128) : Option (Fin 32) :=
  (if (s.chan i).cfg.role = .curtain then (s.chan i).cfg.roleTarget.bind (index? 32) else none).filter
    fun d => (s.door d).cfg.curtain = some i

theorem curtainGrant_eq (i : Fin 128) (g : Nat) (s : State) :
    curtainGrant i g s = (s.hears i).elim s fun d => setCurtainRunning d (0 < g) s := by
  unfold curtainGrant State.hears
  cases hr : (s.chan i).cfg.role with
  | curtain =>
    cases ht : (s.chan i).cfg.roleTarget with
    | none => rfl
    | some n =>
      simp only [if_true, Option.bind_some]
      cases index? 32 n with
      | none => rfl
      | some d => by_cases hd : (s.door d).cfg.curtain = some i <;> simp [hd, Option.filter]
  | _ => simp

namespace ClimateBlind

variable {f g : State → State}

theorem curtainGrant (i : Fin 128) (g : Nat) : ClimateBlind (curtainGrant i g) := by
  have told : ClimateBlind fun s => (s.hears i).elim s fun d => Machine.setCurtainRunning d (0 < g) s :=
    elim (fun _ _ => rfl) id fun d => setCurtainRunning d _
  intro s c
  rw [curtainGrant_eq, curtainGrant_eq]
  exact told s c

theorem setGranted (i : Fin 128) (g : Nat) : ClimateBlind (setGranted i g) := by
  have write : ClimateBlind fun s => s.putChan i { s.chan i with granted := g } := fun _ _ => rfl
  unfold Machine.setGranted
  exact ite (p := fun s => (s.chan i).granted = g) (fun _ _ => .rfl) write ((curtainGrant i g).comp write)

theorem keepEntry (m : Bool) (i : Fin 128) : ClimateBlind (keepEntry m i) := by
  have marked (e : QueueEntry) : ClimateBlind fun s => s.putChan i { s.chan i with entry := some { e with urgent := true } } :=
    fun _ _ => rfl
  have wanted : ClimateBlind fun s => match (s.chan i).entry with
      | none => s.putChan i { s.chan i with entry := some ⟨0, m || s.urgencyTime (s.chan i) == 0⟩ }
      | some e => if m && !e.urgent then s.putChan i { s.chan i with entry := some { e with urgent := true } } else s := by
    intro s c
    have same : ((s.setClimate c).chan i).entry = (s.chan i).entry := rfl
    dsimp only
    rw [same]
    cases (s.chan i).entry with
    | none => rfl
    | some e => exact ite (p := fun _ => (m && !e.urgent) = true) (fun _ _ => .rfl) (marked e) id s c
  have dropped : ClimateBlind fun s => s.putChan i { s.chan i with entry := none } := fun _ _ => rfl
  unfold Machine.keepEntry
  exact ite (p := fun s => (s.chan i).wantsEntry s.stop.state = true) (fun _ _ => .rfl) wanted
    (ite (p := fun s => (s.chan i).entry.isSome = true) (fun _ _ => .rfl) dropped id)

theorem takeSerial (i : Fin 128) : ClimateBlind (takeSerial i) := fun _ _ => rfl

theorem stepUp (i : Fin 128) (k : State → Nat) (hk : ∀ s c, k (s.setClimate c) = k s) : ClimateBlind fun s => stepUp i (k s) s := by
  intro s c
  dsimp only
  rw [hk]
  have write : ClimateBlind fun s => s.putChan i { s.chan i with minOnT := startTimer (s.chan i).cfg.minOn } := fun _ _ => rfl
  exact (keepEntry false i).comp ((setGranted i ((s.chan i).granted + k s)).comp ((takeSerial i).comp write)) s c

theorem lightVisit (i : Fin 128) : ClimateBlind (lightVisit i) := by
  have granted : ClimateBlind fun s => Machine.takeSerial i (s.putChan i { s.chan i with
      granted := (s.chan i).granted + min (s.chan i).deficit (s.avail .light) }) := fun _ _ => rfl
  unfold Machine.lightVisit
  exact ite (p := fun s => min (s.chan i).deficit (s.avail .light) = 0) (fun _ _ => .rfl) id granted

theorem visitQueue (l : List (Fin 128)) : ClimateBlind (visitQueue l) := by
  induction l with
  | nil => exact id
  | cons i l ih =>
    have wanted := stepUp i (fun s => (s.chan i).wanted) fun _ _ => rfl
    have paid : ClimateBlind fun s => if 0 < s.payable (s.chan i) then Machine.stepUp i (s.payable (s.chan i)) s else s :=
      ite (p := fun s => 0 < s.payable (s.chan i)) (fun _ _ => .rfl) (stepUp i _ fun _ _ => rfl) id
    intro s c
    unfold Machine.visitQueue
    dsimp only
    have same : ((s.setClimate c).chan i).entry = (s.chan i).entry := rfl
    rw [same]
    cases (s.chan i).entry with
    | none => exact ih s c
    | some e =>
      exact ite (p := fun s => (s.chan i).heldEntry = true) (fun _ _ => .rfl) ih
        (ite (p := fun s => (s.chan i).wanted ≤ s.payable (s.chan i)) (fun _ _ => .rfl) (ih.comp wanted)
          (ite (p := fun _ => e.urgent = true) (fun _ _ => .rfl) paid (ih.comp paid))) s c

theorem walk : ClimateBlind walk := by
  intro s c
  unfold Machine.walk
  have members : ClimateBlind fun u => Machine.forEach s.deficitOrder Machine.lightVisit u := forEach lightVisit _
  have order : (s.setClimate c).deficitOrder = s.deficitOrder := rfl
  have visits : Machine.forEach s.deficitOrder Machine.lightVisit (s.setClimate c)
      = (Machine.forEach s.deficitOrder Machine.lightVisit s).setClimate c := members s c
  dsimp only
  rw [order, visits]
  exact visitQueue _ _ c

theorem settleShed : ClimateBlind settleShed := by
  unfold Machine.settleShed
  exact ite (p := fun s => (s.queued.isEmpty && s.deficitMembers.isEmpty) = true) (fun _ _ => .rfl) (fun _ _ => rfl) id

theorem settleTight : ClimateBlind settleTight := by
  have flag : ClimateBlind fun s => s.setBudget { s.budget with tight := s.isTight } := fun _ _ => rfl
  have told : ClimateBlind fun s => Machine.raise (if s.isTight then .budgetTight else .budgetEased) 0 s.tightData
      (s.setBudget { s.budget with tight := s.isTight }) := fun s c =>
    raise (if s.isTight then .budgetTight else .budgetEased) 0 s.tightData (s.setBudget { s.budget with tight := s.isTight }) c
  unfold Machine.settleTight
  exact ite (p := fun s => s.isTight = s.budget.tight) (fun _ _ => .rfl) id told

theorem arbitrate : ClimateBlind arbitrate := settleTight.comp (settleShed.comp walk)

theorem chan (i : Fin 128) (s : State) (c : Climate) : (s.setClimate c).chan i = s.chan i := rfl

theorem putChan (i : Fin 128) (x : Channel) (s : State) (c : Climate) : (s.setClimate c).putChan i x = (s.putChan i x).setClimate c := rfl

theorem release (i : Fin 128) : ClimateBlind (release i) := by
  intro s c
  unfold Machine.release
  dsimp only
  rw [chan, putChan, setGranted, keepEntry, arbitrate]

theorem stepTarget (i : Fin 128) (v : Nat) (m : Bool) : ClimateBlind (stepTarget i v m) := by
  intro s c
  unfold Machine.stepTarget
  dsimp only
  rw [chan, putChan, keepEntry]
  generalize Machine.keepEntry (m && (s.chan i).target < v) i (s.putChan i { s.chan i with target := v }) = t
  rw [chan]
  split
  · split
    · exact release i t c
    · exact settleShed t c
  · split
    · exact arbitrate t c
    · exact settleShed t c

theorem lightTargetChange (i : Fin 128) (v : Nat) : ClimateBlind (lightTargetChange i v) := by
  intro s c
  have stop : (s.setClimate c).stop = s.stop := rfl
  unfold Machine.lightTargetChange
  dsimp only
  rw [chan, stop, putChan]
  generalize s.putChan i { s.chan i with target := v } = t
  generalize max (units (s.chan i).cfg.rating v) ((s.chan i).protPart s.stop.state) = keep
  generalize s.chan i = x
  have lower : ClimateBlind fun t => Machine.arbitrate (Machine.setGranted i keep t) := arbitrate.comp (setGranted i keep)
  have raised : ClimateBlind fun t => if units x.cfg.rating x.target < units x.cfg.rating v then Machine.arbitrate t else Machine.settleShed t :=
    ite (p := fun _ => units x.cfg.rating x.target < units x.cfg.rating v) (fun _ _ => .rfl) arbitrate settleShed
  have others : ClimateBlind fun t => if 0 < x.deficit then Machine.arbitrate t else Machine.settleShed t :=
    ite (p := fun _ => 0 < x.deficit) (fun _ _ => .rfl) arbitrate settleShed
  have lowered : ClimateBlind fun t => if (v < x.target && keep < x.granted) = true then Machine.arbitrate (Machine.setGranted i keep t)
      else if 0 < x.deficit then Machine.arbitrate t else Machine.settleShed t :=
    ite (p := fun _ => (v < x.target && keep < x.granted) = true) (fun _ _ => .rfl) lower others
  exact ite (p := fun _ => x.granted < units x.cfg.rating v) (fun _ _ => .rfl) raised lowered t c

theorem targetChange (i : Fin 128) (r : Role) (o v : Nat) (m : Bool) : ClimateBlind (targetChange i r o v m) := by
  intro s c
  unfold Machine.targetChange
  dsimp only
  rw [chan]
  split
  · rfl
  · split
    · rfl
    · split
      · rfl
      · exact lightTargetChange i v s c
    · split
      · rfl
      · exact stepTarget i _ m s c

theorem zoneDTEvent (z : Fin 12) (v : Nat) : ClimateBlind (zoneDTEvent z v) := by
  intro s c
  have doors : (s.setClimate c).doorsOfZone z = s.doorsOfZone z := rfl
  unfold Machine.zoneDTEvent
  dsimp only
  rw [doors, forEach accrue]
  generalize Machine.forEach (s.doorsOfZone z) Machine.accrue s = t
  exact forEach refreshRate _ (t.setDock { t.dock with zoneDT := upd t.dock.zoneDT z v }) c

end ClimateBlind

end Sys2Proof.Machine
end

section
/-! SUPPORT. An evaluation as what it does outside the Climate Unit and the record it leaves; so it does the same whenever its timer stands elsewhere (R125, R132). -/

namespace Sys2Proof.Machine

variable {s t u : State} {z y : Fin 12} {i j : Fin 128} {r : Role}

/-- The target change that a zone's new target brings. -/
def State.asks (s : State) (z : Fin 12) (r : Role) (named : Option (Fin 128)) (old new : Nat) (m : Bool) : State → State :=
  if new = old then fun u => u else (s.wired z r named).elim (fun u => u) fun i => targetChange i r z new m

theorem asks_blind {named : Option (Fin 128)} {old new : Nat} {m : Bool} : ClimateBlind (s.asks z r named old new m) := by
  unfold State.asks
  split
  · exact .id
  · cases s.wired z r named with
    | none => exact .id
    | some i => exact .targetChange i r z new m

theorem sendHeater_asks (z : Fin 12) (v : Nat) (s : State) :
    sendHeater z v s = s.asks z .heater (s.zone z).cfg.heater (s.zone z).heaterTarget v false (s.putZone z { s.zone z with heaterTarget := v }) := by
  unfold State.asks
  obtain ⟨same | none, e⟩ | ⟨i, hw, hn, e⟩ := sendHeater_cases z v s
  · rw [if_pos same, e]
  · rw [none, e]
    split <;> rfl
  · rw [if_neg hn, hw, e]
    rfl

theorem sendFan_asks (z : Fin 12) (v : Nat) (s : State) :
    sendFan z v s = s.asks z .fan (s.zone z).cfg.fan (s.zone z).fanTarget v ((s.zone z).vent == .purge) (s.putZone z { s.zone z with fanTarget := v }) := by
  unfold State.asks
  obtain ⟨same | none, e⟩ | ⟨i, hw, hn, e⟩ := sendFan_cases z v s
  · rw [if_pos same, e]
  · rw [none, e]
    split <;> rfl
  · rw [if_neg hn, hw, e]
    rfl

/-- The notice that a ventilation state brings. -/
def State.purges (s : State) (z : Fin 12) (v : VentState) : State → State :=
  if v = .purge ∧ (s.zone z).vent ≠ .purge then
    raise .purgeStart z (leOpt8 ((s.zone z).cfg.exhaustPoint.map (·.val)) ++ leInt16 ((s.exhaustReading z).getD 0) ++ le16 (s.zone z).cfg.xp)
  else if (s.zone z).vent = .purge ∧ v ≠ .purge then
    raise .purgeEnd z
      (le8 v.code ++ leOpt16 ((s.exhaustReading z).map Int.toNat) ++ le16 (min Config.max16 (s.seconds - (s.zone z).purgeStart)))
  else fun u => u

theorem purges_blind {v : VentState} : ClimateBlind (s.purges z v) := by
  unfold State.purges
  split
  · exact .raise _ _ _
  · split
    · exact .raise _ _ _
    · exact .id

theorem setVent_purges (z : Fin 12) (v : VentState) (s : State) : setVent z v s = s.purges z v (s.putZone z (s.vented z v)) := by
  unfold State.purges
  by_cases enters : v = .purge ∧ (s.zone z).vent ≠ .purge
  · rw [if_pos enters]
    exact setVent_enters enters
  · rw [if_neg enters]
    by_cases leaves : (s.zone z).vent = .purge ∧ v ≠ .purge
    · rw [if_pos leaves]
      exact setVent_leaves leaves
    · rw [if_neg leaves]
      exact (if_neg enters).trans (if_neg leaves)

/-! ### The evaluation outside the Climate Unit -/

/-- What an evaluation asks of the heater, what it raises, and what it asks of the fan. -/
def State.heats (s : State) (z : Fin 12) : State → State :=
  s.asks z .heater (s.zone z).cfg.heater (s.zone z).heaterTarget (s.heating z (s.modeNow z)).target false
def State.blows (s : State) (z : Fin 12) : State → State :=
  s.asks z .fan (s.zone z).cfg.fan (s.zone z).fanTarget (s.adopted z).1 (s.ventNow z == .purge)

/-- What an evaluation does outside the Climate Unit, but for the free-value counter. -/
def State.acts (s : State) (z : Fin 12) (u : State) : State :=
  zoneDTEvent z (s.zoneDT z) (s.blows z (s.purges z (s.ventNow z) (s.heats z u)))

theorem acts_blind : ClimateBlind (s.acts z) :=
  (ClimateBlind.zoneDTEvent z _).comp (.comp asks_blind (.comp purges_blind asks_blind))

theorem putZone_eq (z : Fin 12) (x : Zone) (s : State) : s.putZone z x = s.setClimate (s.putZone z x).climate := rfl

theorem setClimate_setClimate (c c' : Climate) (s : State) : (s.setClimate c).setClimate c' = s.setClimate c' := rfl

/-- A blind operation after a write of the Climate Unit is the operation, with the Climate Unit as written. -/
theorem ClimateBlind.putZone {f : State → State} (h : ClimateBlind f) (z : Fin 12) (x : Zone) (s : State) :
    f (s.putZone z x) = (f s).setClimate (s.putZone z x).climate := h s _

theorem heat_acts (z : Fin 12) (s : State) : heat z s = (s.heats z s).setClimate (s.putZone z (s.heated z)).climate := by
  rw [heat_eq, sendHeater_asks, zone_putZone_self, putZone_putZone]
  exact asks_blind.putZone _ _ _

theorem setVent_acts (z : Fin 12) (v : VentState) (s : State) :
    setVent z v s = (s.purges z v s).setClimate (s.putZone z (s.vented z v)).climate := by
  rw [setVent_purges]
  exact purges_blind.putZone _ _ _

theorem asks_congr (h : ∀ named, t.wired z r named = s.wired z r named) (named : Option (Fin 128)) (old new : Nat) (m : Bool) :
    t.asks z r named old new m = s.asks z r named old new m := by
  unfold State.asks
  rw [h]

theorem ventilate_acts (z : Fin 12) (s : State) :
    ventilate z s = (s.blows z (s.purges z (s.ventNow z) s)).setClimate (s.putZone z { s.aired z with fanTarget := (s.adopted z).1 }).climate := by
  have wired (named : Option (Fin 128)) : ((setVent z (s.ventNow z) s).putZone z (s.aired z)).wired z .fan named = s.wired z .fan named :=
    wired_congr (fun j => congrArg Channel.cfg (chan_of_budget (setVent_budget z _ s) j)) _ _ _
  have written : (setVent z (s.ventNow z) s).putZone z { s.aired z with fanTarget := (s.adopted z).1 }
      = (s.purges z (s.ventNow z) s).setClimate (s.putZone z { s.aired z with fanTarget := (s.adopted z).1 }).climate := by
    rw [putZone_eq, climate_rewritten (setVent_climate z _ s), setVent_acts]
    rfl
  rw [ventilate_eq, sendFan_asks, zone_putZone_self, putZone_putZone, written, asks_congr wired]
  exact asks_blind _ _

/-- The ventilation steps ask and raise the same after the heating steps. -/
theorem heat_blows (z : Fin 12) (s : State) : (heat z s).blows z = s.blows z := by
  unfold State.blows
  rw [heat_adopted, heat_ventNow, zone_of_written (heat_climate z s), asks_congr fun named => heat_wired s z .fan named]
  rfl

theorem heat_purges (z : Fin 12) (s : State) (v : VentState) : (heat z s).purges z v = s.purges z v := by
  unfold State.purges
  rw [(heat_seesAlike z s).reading, (heat_beside z s).seconds, zone_of_written (heat_climate z s)]
  rfl

theorem ventilate_heat_acts (z : Fin 12) (s : State) (x : Zone) :
    (ventilate z (heat z s)).putZone z x = (s.blows z (s.purges z (s.ventNow z) (s.heats z s))).setClimate (s.putZone z x).climate := by
  have climate : ((ventilate z (heat z s)).putZone z x).climate = (s.putZone z x).climate :=
    climate_rewritten ((ventilate_climate z (heat z s)).trans (climate_rewritten (heat_climate z s)))
  have acts := ventilate_acts z (heat z s)
  have both : s.blows z (s.purges z (s.ventNow z) (heat z s))
      = (s.blows z (s.purges z (s.ventNow z) (s.heats z s))).setClimate (s.putZone z (s.heated z)).climate := by
    rw [heat_acts]
    exact (ClimateBlind.comp asks_blind purges_blind) _ _
  rw [heat_blows, heat_purges, heat_ventNow, both] at acts
  rw [putZone_eq, climate, acts, setClimate_setClimate, setClimate_setClimate]

/-- An evaluation is what it does outside the Climate Unit, with the zone's record written. -/
theorem evaluate_acts (z : Fin 12) (s : State) : evaluate z s = ((s.acts z s).setClimate (s.putZone z (s.evaluated z)).climate).draw := by
  have worked : s.worked z = (s.blows z (s.purges z (s.ventNow z) (s.heats z s))).setClimate (s.putZone z (s.evaluated z)).climate :=
    ventilate_heat_acts z s _
  have delivered := ClimateBlind.zoneDTEvent z (s.zoneDT z) (s.blows z (s.purges z (s.ventNow z) (s.heats z s))) (s.putZone z (s.evaluated z)).climate
  rw [← worked] at delivered
  rw [evaluate_eq, delivered]
  rfl

/-! ### The evaluation timer stands elsewhere -/

/-- The state with a zone's evaluation timer at n. -/
def State.retime (s : State) (z : Fin 12) (n : Nat) : State := s.putZone z { s.zone z with evalT := n }

section
variable (n : Nat)

theorem retime_zone (s : State) (z : Fin 12) : (s.retime z n).zone z = { s.zone z with evalT := n } := zone_putZone_self _ _ _

theorem retime_zonePoint : (s.retime z n).zonePoint z = s.zonePoint z := by
  unfold State.zonePoint
  rw [retime_zone]
  rfl

theorem retime_zoneDT : (s.retime z n).zoneDT z = s.zoneDT z := by
  unfold State.zoneDT
  rw [retime_zonePoint]
  rfl

theorem retime_heaterPresent : (s.retime z n).heaterPresent z = s.heaterPresent z := by
  unfold State.heaterPresent
  rw [retime_zone]
  rfl

theorem retime_lead : (s.retime z n).lead z = s.lead z := by
  unfold State.lead
  rw [retime_zonePoint, retime_heaterPresent, retime_zone]
  rfl

theorem retime_preconditions : (s.retime z n).preconditions z = s.preconditions z := by
  unfold State.preconditions
  rw [retime_lead]
  rfl

theorem retime_modeNow : (s.retime z n).modeNow z = s.modeNow z := by
  unfold State.modeNow
  rw [retime_heaterPresent, retime_preconditions]
  rfl

theorem retime_setpoint : (s.retime z n).setpoint z = s.setpoint z := by
  unfold State.setpoint
  rw [retime_preconditions]
  rfl

theorem retime_zoneLoss : (s.retime z n).zoneLoss z = s.zoneLoss z := by
  unfold State.zoneLoss
  rw [retime_zone, retime_zoneDT]
  rfl

theorem retime_heatTerms (h : Channel) (v : Int) : (s.retime z n).heatTerms z h v = s.heatTerms z h v := by
  unfold State.heatTerms
  rw [retime_zone, retime_setpoint, retime_zoneLoss]
  rfl

theorem retime_heating (m : ZoneMode) : (s.retime z n).heating z m = s.heating z m := by
  unfold State.heating
  simp only [retime_zone, retime_setpoint, retime_zonePoint, retime_heatTerms]
  rfl

theorem retime_exhaustReading : (s.retime z n).exhaustReading z = s.exhaustReading z := by
  unfold State.exhaustReading
  rw [retime_zone]
  rfl

theorem retime_exhaustStale : (s.retime z n).exhaustStale z = s.exhaustStale z := by
  unfold State.exhaustStale
  rw [retime_zone]
  rfl

theorem retime_ventNow : (s.retime z n).ventNow z = s.ventNow z := by
  unfold State.ventNow
  rw [retime_exhaustReading, retime_exhaustStale, retime_zone]
  rfl

theorem retime_fanSteps : (s.retime z n).fanSteps z = s.fanSteps z := by
  unfold State.fanSteps
  rw [retime_zone]
  rfl

theorem retime_ventMin : (s.retime z n).ventMin z = s.ventMin z := by
  unfold State.ventMin
  rw [retime_fanSteps]
  rfl

theorem retime_computedFan (v : VentState) : (s.retime z n).computedFan z v = s.computedFan z v := by
  unfold State.computedFan
  simp only [retime_ventMin, retime_fanSteps, retime_exhaustReading, retime_zone]
  rfl

theorem retime_adopted : (s.retime z n).adopted z = s.adopted z := by
  unfold State.adopted
  rw [retime_computedFan, retime_ventNow, retime_zone]

theorem retime_asks (r : Role) (named : Option (Fin 128)) (old new : Nat) (m : Bool) :
    (s.retime z n).asks z r named old new m = s.asks z r named old new m := asks_congr (fun _ => rfl) _ _ _ _

theorem retime_acts (u : State) : (s.retime z n).acts z u = s.acts z u := by
  have heats : (s.retime z n).heats z = s.heats z := by
    unfold State.heats
    rw [retime_asks, retime_modeNow, retime_heating, retime_zone]
  have blows : (s.retime z n).blows z = s.blows z := by
    unfold State.blows
    rw [retime_asks, retime_adopted, retime_ventNow, retime_zone]
  have purges (v : VentState) : (s.retime z n).purges z v = s.purges z v := by
    unfold State.purges
    rw [retime_exhaustReading, retime_zone]
    rfl
  unfold State.acts
  rw [heats, blows, purges, retime_zoneDT, retime_ventNow]

theorem retime_heated : (s.retime z n).heated z = { s.heated z with evalT := n } := by
  unfold State.heated
  rw [retime_modeNow, retime_heating, retime_setpoint, retime_lead, retime_zonePoint, retime_zone]
  rfl

theorem retime_evaluated : (s.retime z n).evaluated z = { s.evaluated z with evalT := n } := by
  unfold State.evaluated
  rw [retime_heated, retime_ventNow, retime_adopted, retime_zoneDT, retime_exhaustReading, retime_ventMin, retime_computedFan, retime_zone]
  rfl

/-- An evaluation does the same wherever the zone's timer stands. -/
theorem evaluate_retime : evaluate z (s.retime z n) = (evaluate z s).retime z n := by
  have acts : s.acts z (s.retime z n) = (s.acts z s).setClimate (s.retime z n).climate := acts_blind.putZone _ _ _
  have climate : ((s.retime z n).putZone z { s.evaluated z with evalT := n }).climate = (s.putZone z { s.evaluated z with evalT := n }).climate := by
    unfold State.retime
    rw [putZone_putZone]
  have written := climate_rewritten (x' := { s.evaluated z with evalT := n }) (evaluate_climate s z)
  have right : (evaluate z s).retime z n = (evaluate z s).setClimate (s.putZone z { s.evaluated z with evalT := n }).climate := by
    unfold State.retime
    rw [evaluate_zone, putZone_eq, written]
  rw [right, evaluate_acts, retime_acts, acts, retime_evaluated, climate, evaluate_acts]
  generalize s.acts z s = w
  rfl

end

end Sys2Proof.Machine
end

section
/-! SUPPORT. One zone after another: what a zone's part of a plant stop or of RESUME leaves, and what it finds (R132, R143). -/

namespace Sys2Proof.Machine

variable {s t u : State} {z y : Fin 12} {i j : Fin 128} {r : Role}

/-- A loop over every index, cut at one of them. -/
theorem forEach_split {n : Nat} (z : Fin n) : ∃ before after : List (Fin n), z ∉ before ∧ z ∉ after
    ∧ ∀ (f : Fin n → State → State) s, forEach (indices n) f s = forEach after f (f z (forEach before f s)) := by
  obtain ⟨before, after, e⟩ := List.append_of_mem (mem_indices z)
  have distinct := nodup_indices n
  rw [e] at distinct
  obtain ⟨-, later, apart⟩ := List.nodup_append.mp distinct
  refine ⟨before, after, fun h => apart z h z List.mem_cons_self rfl, (List.nodup_cons.mp later).1, fun f s => ?_⟩
  rw [e]
  unfold forEach
  rw [List.foldl_append, List.foldl_cons]

/-- What holds over a loop that does not reach one index. -/
theorem forEach_keeps_besides {α : Type} {I : State → Prop} {f : α → State → State} {a : α} (h : ∀ b u, b ≠ a → I u → I (f b u))
    {l : List α} (hl : a ∉ l) (hs : I s) : I (forEach l f s) := by
  induction l generalizing s with
  | nil => exact hs
  | cons b l ih =>
    rw [forEach_cons]
    obtain ⟨hb, hl⟩ := not_or.mp (List.mem_cons.not.mp hl)
    exact ih hl (h b s (Ne.symm hb) hs)

/-! ### A zone is served -/

/-- Between s and t a zone takes a record, its heater and its fan are sent its targets where they are new, and no other channel is asked
for anything. -/
structure State.TakesZone (s t : State) (z : Fin 12) (x : Zone) : Prop where
  climate : t.climate = (s.putZone z x).climate
  cfg : ∀ j, (t.chan j).cfg = (s.chan j).cfg
  others : ∀ j, s.heaterOf z ≠ some j → s.fanOf z ≠ some j → (t.chan j).asked = (s.chan j).asked
  heater : ∀ j, s.heaterOf z = some j →
    (t.chan j).target = if x.heaterTarget = (s.zone z).heaterTarget then (s.chan j).target else min x.heaterTarget (s.chan j).cfg.steps
  fan : ∀ j, s.fanOf z = some j →
    (t.chan j).target = if x.fanTarget = (s.zone z).fanTarget then (s.chan j).target else min x.fanTarget (s.chan j).cfg.steps

theorem evaluate_cfg (z : Fin 12) (s : State) (j : Fin 128) : ((evaluate z s).chan j).cfg = (s.chan j).cfg := by
  rw [evaluate_chan]
  exact ((evaluate_fanSends s z).cfg j).trans ((heat_sends z s).cfg j)

theorem evaluate_takes (z : Fin 12) (s : State) : s.TakesZone (evaluate z s) z (s.evaluated z) where
  climate := evaluate_climate s z
  cfg := evaluate_cfg z s
  others _ hh hf := evaluate_asked hh hf
  heater _ h := evaluate_heaterTarget h
  fan _ h := evaluate_fanTarget h

/-- The zone's record after a change to STOPPED. -/
def State.stoppedZone (s : State) (z : Fin 12) : Zone :=
  { s.zone z with
    mode := .stopped, integral := 0, call := 0, heaterTarget := 0, vent := .stopped, fanTarget := 0, lowerCandidate := none }

/-- The zone's part of a change to STOPPED, up to the heater target. -/
def coolZone (z : Fin 12) (s : State) : State := sendHeater z 0 (s.putZone z { s.zone z with mode := .stopped, integral := 0, call := 0 })

theorem stopZone_eq (z : Fin 12) (s : State) : stopZone z s = sendFan z 0 ((setVent z .stopped (coolZone z s)).putZone z
    { (setVent z .stopped (coolZone z s)).zone z with lowerCandidate := none }) := rfl

theorem coolZone_climate (z : Fin 12) (s : State) :
    (coolZone z s).climate = (s.putZone z { s.zone z with mode := .stopped, integral := 0, call := 0, heaterTarget := 0 }).climate := by
  unfold coolZone
  rw [sendHeater_climate, zone_putZone_self, putZone_putZone]

theorem coolZone_sends (z : Fin 12) (s : State) :
    s.SendsZone (coolZone z s) z .heater (s.zone z).cfg.heater (s.zone z).heaterTarget 0 := by
  have sends := sendHeater_sends z 0 (s.putZone z { s.zone z with mode := .stopped, integral := 0, call := 0 })
  rw [zone_putZone_self] at sends
  change State.SendsZone _ (coolZone z s) z .heater (s.zone z).cfg.heater (s.zone z).heaterTarget 0 at sends
  generalize coolZone z s = t at *
  exact ⟨sends.cfg, sends.others, sends.target⟩

theorem stopped_zone (z : Fin 12) (s : State) : (setVent z .stopped (coolZone z s)).zone z
    = { s.zone z with mode := .stopped, integral := 0, call := 0, heaterTarget := 0, vent := .stopped } := by
  rw [zone_of_written (setVent_climate z .stopped (coolZone z s))]
  unfold State.vented
  rw [zone_of_written (coolZone_climate z s), if_neg (fun h => by cases h.1)]

theorem stopZone_climate (z : Fin 12) (s : State) : (stopZone z s).climate = (s.putZone z (s.stoppedZone z)).climate := by
  rw [stopZone_eq, sendFan_climate, zone_putZone_self, putZone_putZone, stopped_zone]
  exact climate_rewritten ((setVent_climate z .stopped (coolZone z s)).trans (climate_rewritten (coolZone_climate z s)))

theorem coolZone_wired (z : Fin 12) (s : State) (r : Role) (named : Option (Fin 128)) : (coolZone z s).wired z r named = s.wired z r named :=
  wired_congr (coolZone_sends z s).cfg z r named

theorem stopZone_fanSends (z : Fin 12) (s : State) :
    (coolZone z s).SendsZone (stopZone z s) z .fan (s.zone z).cfg.fan (s.zone z).fanTarget 0 := by
  have chan (j : Fin 128) (x : Zone) : ((setVent z .stopped (coolZone z s)).putZone z x).chan j = (coolZone z s).chan j :=
    chan_of_budget (setVent_budget z .stopped (coolZone z s)) j
  have sends := sendFan_sends z 0 ((setVent z .stopped (coolZone z s)).putZone z
    { (setVent z .stopped (coolZone z s)).zone z with lowerCandidate := none })
  rw [← stopZone_eq, zone_putZone_self, stopped_zone] at sends
  have chan (j : Fin 128) := chan j { (setVent z .stopped (coolZone z s)).zone z with lowerCandidate := none }
  rw [stopped_zone] at chan
  generalize stopZone z s = t at *
  generalize (setVent z .stopped (coolZone z s)).putZone z _ = m at *
  generalize coolZone z s = h at *
  have wired (named : Option (Fin 128)) : m.wired z .fan named = h.wired z .fan named := wired_congr (fun j => congrArg Channel.cfg (chan j)) _ _ _
  refine ⟨fun j => ?_, fun j hj => ?_, fun j hj => ?_⟩
  · rw [← chan j]
    exact sends.cfg j
  · rw [← chan j]
    exact sends.others j ((wired _).symm ▸ hj)
  · rw [← chan j]
    exact sends.target j ((wired _).trans hj)

theorem stopZone_takes (z : Fin 12) (s : State) : s.TakesZone (stopZone z s) z (s.stoppedZone z) where
  climate := stopZone_climate z s
  cfg j := ((stopZone_fanSends z s).cfg j).trans ((coolZone_sends z s).cfg j)
  others j hh hf := ((stopZone_fanSends z s).others j (by rwa [coolZone_wired])).trans ((coolZone_sends z s).others j hh)
  heater j h := by
    refine (target_of_asked ((stopZone_fanSends z s).others j ?_)).trans ((coolZone_sends z s).target j h)
    rw [coolZone_wired]
    exact wired_ne h (by decide)
  fan j h := by
    have asked := (coolZone_sends z s).others j (wired_ne h (by decide))
    rw [(stopZone_fanSends z s).target j ((coolZone_wired z s _ _).trans h), target_of_asked asked, cfg_of_asked asked]
    rfl

/-! ### Zones served one after another -/

/-- Between s and u other zones than z were served. -/
structure State.PassesZone (s u : State) (z : Fin 12) : Prop where
  zone : u.zone z = s.zone z
  climate : { u.climate with zones := s.climate.zones } = s.climate
  cfg : ∀ j, (u.chan j).cfg = (s.chan j).cfg
  asked : ∀ j, (s.chan j).boundTo .heater z = true ∨ (s.chan j).boundTo .fan z = true → (u.chan j).asked = (s.chan j).asked

theorem boundTo_unique {c : Channel} {q : Role} {a b : Nat} (ha : c.boundTo r a = true) (hb : c.boundTo q b = true) : a = b :=
  Option.some.inj ((Channel.boundTo_iff.mp ha).2.symm.trans (Channel.boundTo_iff.mp hb).2)

theorem roles_agree {c : Channel} {q : Role} {a b : Nat} (ha : c.boundTo r a = true) (hb : c.boundTo q b = true) : r = q :=
  (Channel.boundTo_iff.mp ha).1.symm.trans (Channel.boundTo_iff.mp hb).1

/-- A channel of zone z is none of another zone's. -/
theorem apart_of_bound (h : (s.chan j).boundTo .heater z = true ∨ (s.chan j).boundTo .fan z = true) (hy : y ≠ z) :
    s.heaterOf y ≠ some j ∧ s.fanOf y ≠ some j := by
  have other (q : Role) (hq : (s.chan j).boundTo q z = true) (named : Option (Fin 128)) : s.wired y q named ≠ some j := fun hw =>
    hy (Fin.ext (boundTo_unique (wired_iff.mp hw).2 hq))
  obtain heater | fan := h
  · exact ⟨other _ heater _, fun hw => absurd (roles_agree heater (wired_iff.mp hw).2) (by decide)⟩
  · exact ⟨fun hw => absurd (roles_agree fan (wired_iff.mp hw).2) (by decide), other _ fan _⟩

namespace State.PassesZone

theorem refl (s : State) (z : Fin 12) : s.PassesZone s z := ⟨rfl, rfl, fun _ => rfl, fun _ _ => rfl⟩

theorem takes {x : Zone} (h : s.PassesZone u z) (hy : y ≠ z) (ht : u.TakesZone t y x) : s.PassesZone t z where
  zone := (zone_of_written_ne ht.climate (Ne.symm hy)).trans h.zone
  climate := by
    rw [ht.climate]
    exact h.climate
  cfg j := (ht.cfg j).trans (h.cfg j)
  asked j hj := by
    have same := h.asked j hj
    have bound : (u.chan j).boundTo .heater z = true ∨ (u.chan j).boundTo .fan z = true := by
      unfold Channel.boundTo at hj ⊢
      rwa [h.cfg j]
    obtain ⟨hh, hf⟩ := apart_of_bound bound hy
    exact (ht.others j hh hf).trans same

end State.PassesZone

section
variable {f : Fin 12 → State → State} {x : State → Fin 12 → Zone} (takes : ∀ (z : Fin 12) (u : State), u.TakesZone (f z u) z (x u z))
include takes

theorem passes_forEach {l : List (Fin 12)} (hl : z ∉ l) (s : State) : s.PassesZone (forEach l f s) z :=
  forEach_keeps_besides (I := fun u => s.PassesZone u z) (fun y u hy hu => hu.takes hy (takes y u)) hl (.refl s z)

/-- Every zone is served once, after some of the others and before the rest. -/
theorem served (s : State) (z : Fin 12) : ∃ before after, z ∉ before ∧ z ∉ after
    ∧ forEach (indices 12) f s = forEach after f (f z (forEach before f s))
    ∧ s.PassesZone (forEach before f s) z ∧ (f z (forEach before f s)).PassesZone (forEach (indices 12) f s) z := by
  obtain ⟨before, after, hb, ha, e⟩ := forEach_split z
  refine ⟨before, after, hb, ha, e f s, passes_forEach takes hb s, ?_⟩
  rw [e f s]
  exact passes_forEach takes ha _

theorem served_cfg (s : State) (j : Fin 128) : ((forEach (indices 12) f s).chan j).cfg = (s.chan j).cfg :=
  forEach_same (P := fun u => (u.chan j).cfg) (fun z u => (takes z u).cfg j) _ _

/-- A channel that is no zone's heater and no zone's fan is asked for nothing. -/
theorem served_asked (hx : ∀ (u : State) (z : Fin 12), (x u z).cfg = (u.zone z).cfg) (hj : ∀ z, s.heaterOf z ≠ some j ∧ s.fanOf z ≠ some j) :
    ((forEach (indices 12) f s).chan j).asked = (s.chan j).asked := by
  refine (forEach_keeps (I := fun u => (u.chan j).asked = (s.chan j).asked ∧ (∀ i, (u.chan i).cfg = (s.chan i).cfg)
    ∧ ∀ z, (u.zone z).cfg = (s.zone z).cfg) (fun z u hu => ?_) _ s ⟨rfl, fun _ => rfl, fun _ => rfl⟩).1
  obtain ⟨asked, cfg, zones⟩ := hu
  have heater : u.heaterOf z = s.heaterOf z := by
    unfold State.heaterOf
    rw [zones, wired_congr cfg]
  have fan : u.fanOf z = s.fanOf z := by
    unfold State.fanOf
    rw [zones, wired_congr cfg]
  refine ⟨((takes z u).others j (heater ▸ (hj z).1) (fan ▸ (hj z).2)).trans asked, fun i => ((takes z u).cfg i).trans (cfg i), fun y => ?_⟩
  by_cases hy : y = z
  · subst hy
    rw [zone_of_written (takes y u).climate, hx, zones]
  · rw [zone_of_written_ne (takes z u).climate hy, zones]

end

end Sys2Proof.Machine
end

section
/-! SUPPORT. The doors at a change of the plant-stop state (R99, R101). -/

namespace Sys2Proof.Machine

variable {s t u : State} {d e : Fin 32} {i j : Fin 128}

/-- Between s and u other doors than d sent their targets. -/
structure State.PassesDoor (s u : State) (d : Fin 32) : Prop where
  shape : u.shape d = s.shape d
  stop : u.stop = s.stop
  cfg : ∀ j, (u.chan j).cfg = (s.chan j).cfg
  asked : ∀ j, (s.chan j).boundTo .docklight d = true ∨ (s.chan j).boundTo .curtain d = true → (u.chan j).asked = (s.chan j).asked

theorem sendDoorTargets_chan_cfg (d : Fin 32) (s : State) (j : Fin 128) : ((sendDoorTargets d s).chan j).cfg = (s.chan j).cfg := by
  unfold sendDoorTargets
  obtain ⟨-, e⟩ | ⟨i, -, -, e⟩ := sendCurtain_cases d (sendLight d s) <;> rw [e]
  · exact sendLight_chan_cfg d s j
  · rw [targetChange_cfg]
    exact sendLight_chan_cfg d s j

theorem State.PassesDoor.refl (s : State) (d : Fin 32) : s.PassesDoor s d := ⟨rfl, rfl, fun _ => rfl, fun _ _ => rfl⟩

theorem State.PassesDoor.sends (h : s.PassesDoor u d) (he : e ≠ d) : s.PassesDoor (sendDoorTargets e u) d where
  shape := (sendDoorTargets_shape_ne he u).trans h.shape
  stop := (sendDoorTargets_stop e u).trans h.stop
  cfg j := (sendDoorTargets_chan_cfg e u j).trans (h.cfg j)
  asked j hj := by
    rw [← boundTo_congr (h.cfg j), ← boundTo_congr (h.cfg j)] at hj
    have other (r : Role) : ¬(u.chan j).boundTo r e = true := fun hn =>
      he (Fin.ext (hj.elim (fun hb => boundTo_unique hn hb) fun hb => boundTo_unique hn hb))
    exact (sendDoorTargets_asked (fun hl => other _ hl.2) (fun hc => other _ hc.2)).trans
      (h.asked j (by rwa [boundTo_congr (h.cfg j), boundTo_congr (h.cfg j)] at hj))

theorem passesDoor_forEach {l : List (Fin 32)} (hl : d ∉ l) (s : State) : s.PassesDoor (forEach l sendDoorTargets s) d :=
  forEach_keeps_besides (I := fun u => s.PassesDoor u d) (fun _ _ he hu => hu.sends he) hl (.refl s d)

/-- Every door sends its targets once, after some of the others and before the rest. -/
theorem dockPlantChange_split (d : Fin 32) (s : State) : ∃ u, s.PassesDoor u d ∧ (sendDoorTargets d u).PassesDoor (dockPlantChange s) d := by
  obtain ⟨before, after, hb, ha, e⟩ := forEach_split d
  refine ⟨forEach before sendDoorTargets s, passesDoor_forEach hb s, ?_⟩
  unfold dockPlantChange
  rw [e sendDoorTargets s]
  exact passesDoor_forEach ha _

section
variable (s)

theorem dockPlantChange_chan_cfg (j : Fin 128) : ((dockPlantChange s).chan j).cfg = (s.chan j).cfg :=
  forEach_same (P := fun u => (u.chan j).cfg) (fun d u => sendDoorTargets_chan_cfg d u j) _ _

theorem dockPlantChange_dock (l : Table Door 32) : { (dockPlantChange s).dock with doors := l } = { s.dock with doors := l } := by
  unfold dockPlantChange
  refine forEach_keeps (I := fun u => ({ u.dock with doors := l } : Dock) = { s.dock with doors := l }) (fun d u hu => ?_) _ s (Eq.refl _)
  exact (sendDoorTargets_dock d u l).trans hu

theorem dockPlantChange_shape (d : Fin 32) : (dockPlantChange s).shape d = s.aimed (s.shape d) := by
  obtain ⟨u, before, after⟩ := dockPlantChange_split d s
  rw [after.shape, sendDoorTargets_shape, before.shape]
  unfold State.aimed
  rw [lightTarget_congr before.stop rfl, curtainTarget_congr before.stop rfl]

theorem fields_of_shape (h : t.shape d = s.shape d) : (t.door d).cfg = (s.door d).cfg ∧ (t.door d).state = (s.door d).state
    ∧ (t.door d).sentLight = (s.door d).sentLight ∧ (t.door d).sentCurtain = (s.door d).sentCurtain :=
  ⟨(congrArg Door.cfg h :), (congrArg Door.state h :), (congrArg Door.sentLight h :), (congrArg Door.sentCurtain h :)⟩

end

theorem dockPlantChange_light (hi : (s.door d).cfg.light = some i) (hb : (s.chan i).boundTo .docklight d = true) :
    ((dockPlantChange s).chan i).target = (s.chan i).takesSent (s.lightTarget (s.door d)) (s.door d).sentLight := by
  obtain ⟨u, before, after⟩ := dockPlantChange_split d s
  obtain ⟨cfg, state, sent, -⟩ := fields_of_shape s before.shape
  have asked := before.asked i (.inl hb)
  have bound : (u.chan i).boundTo .docklight d = true := (boundTo_congr (before.cfg i) _ _).trans hb
  have still : ((sendDoorTargets d u).chan i).boundTo .docklight d = true := (boundTo_congr (sendDoorTargets_chan_cfg d u i) _ _).trans bound
  rw [target_of_asked (after.asked i (.inl still)), sendDoorTargets_light (cfg ▸ hi) bound, sent, lightTarget_congr before.stop state,
    takesSent_of_asked asked]

theorem dockPlantChange_curtain (hi : (s.door d).cfg.curtain = some i) (hb : (s.chan i).boundTo .curtain d = true) :
    ((dockPlantChange s).chan i).target = (s.chan i).takesSent (s.curtainTarget (s.door d)) (s.door d).sentCurtain := by
  obtain ⟨u, before, after⟩ := dockPlantChange_split d s
  obtain ⟨cfg, state, -, sent⟩ := fields_of_shape s before.shape
  have asked := before.asked i (.inr hb)
  have bound : (u.chan i).boundTo .curtain d = true := (boundTo_congr (before.cfg i) _ _).trans hb
  have still : ((sendDoorTargets d u).chan i).boundTo .curtain d = true := (boundTo_congr (sendDoorTargets_chan_cfg d u i) _ _).trans bound
  rw [target_of_asked (after.asked i (.inr still)), sendDoorTargets_curtain (cfg ▸ hi) bound, sent, curtainTarget_congr before.stop state,
    takesSent_of_asked asked]

/-- A channel that is no door's light and no door's curtain is asked for nothing. -/
theorem dockPlantChange_asked (h : ∀ d, ¬((s.door d).cfg.light = some i ∧ (s.chan i).boundTo .docklight d = true)
    ∧ ¬((s.door d).cfg.curtain = some i ∧ (s.chan i).boundTo .curtain d = true)) :
    ((dockPlantChange s).chan i).asked = (s.chan i).asked := by
  refine (forEach_keeps (I := fun u => (u.chan i).asked = (s.chan i).asked ∧ ∀ d, (u.door d).cfg = (s.door d).cfg) (fun d u hu => ?_) _ s
    ⟨rfl, fun _ => rfl⟩).1
  obtain ⟨asked, doors⟩ := hu
  have cfg := cfg_of_asked asked
  refine ⟨(sendDoorTargets_asked ?_ ?_).trans asked, fun e => ?_⟩
  · rw [doors, boundTo_congr cfg]
    exact (h d).1
  · rw [doors, boundTo_congr cfg]
    exact (h d).2
  · by_cases he : d = e
    · subst he
      exact (congrArg Door.cfg (sendDoorTargets_shape d u) :).trans (doors d)
    · exact (congrArg Door.cfg (sendDoorTargets_shape_ne he u) :).trans (doors e)

end Sys2Proof.Machine
end

section
/-! SUPPORT. The channels of a plant that is stopped: the step channels hold nothing and wait for nothing, and every LIGHT channel holds
units(1000) (R49, R78). -/

namespace Sys2Proof.Machine

variable {s t u : State} {a c d : Channel} {i j : Fin 128} {z : Fin 24}

/-! ### A channel that holds nothing and waits for nothing -/

theorem shedLoop_chan_idle (n : Nat) (h : (s.chan j).granted = 0) : (shedLoop n s).chan j = s.chan j := by
  induction n generalizing s with
  | zero => rfl
  | succ n ih =>
    unfold shedLoop
    split
    · rfl
    · cases e : firstBy (shedPrecedes s) s.shedCandidates with
      | none => rfl
      | some i =>
        have candidate := (mem_shedCandidates.mp (firstBy_mem e)).1
        have other : i ≠ j := by
          rintro rfl
          unfold Channel.nonProtected at candidate
          rw [h] at candidate
          split at candidate <;> simp at candidate
        have kept := shedOne_chan_ne other s
        dsimp only
        rw [ih (by rw [kept]; exact h), kept]

theorem shedding_chan_idle (cause : ShedCause) (h : (s.chan j).granted = 0) : (shedding cause s).chan j = s.chan j := by
  unfold shedding
  dsimp only
  split
  · rfl
  · exact (congrFun (congrArg look (congrArg LoadBudget.channels (raise_budget _ _ _ _))) j).trans (shedLoop_chan_idle _ h)

/-- A hand-over leaves a step channel that holds nothing and waits for nothing as it stands. -/
theorem handOver_chan_idle (cause : ShedCause) (hr : (s.chan j).cfg.role.isStep = true) (hg : (s.chan j).granted = 0)
    (he : (s.chan j).entry = none) : (handOver cause s).chan j = s.chan j := by
  have kept := shedding_chan_idle cause hg
  unfold handOver
  rw [arbitrate_chan_of_unqueued (by rw [kept]; exact hr) (by rw [kept]; exact he), kept]

theorem protPart_stopped {p : PlantState} (hp : p ≠ .running) (hl : c.cfg.role = .light) : c.protPart p = units c.cfg.rating 1000 := by
  unfold Channel.protPart
  rw [hl]
  simp [hp]

theorem lit_handOver {n : ChannelConfig} {p : PlantState} (cause : ShedCause) (h : s.Lit i n p) : (handOver cause s).Lit i n p :=
  (State.Lit.arbiter i n p).handOver (fun _ hu => hu.of_chan rfl rfl id) cause h

/-! ### Every channel of a stopped plant -/

/-- What a channel that came into the stop as a holds while the plant is stopped (R49). -/
def Channel.Stilled (a c : Channel) : Prop :=
  (c.cfg.role.isStep = true → c.granted = 0 ∧ c.entry = none ∧ c.minOnT = a.minOnT ∧ c.minOffT = a.minOffT)
    ∧ (c.cfg.role = .light → units c.cfg.rating 1000 ≤ c.granted)

/-- The plant is not RUNNING, and the channels, which came into the stop as those of s, stand so. -/
def State.Stilled (s u : State) : Prop := u.stop.state ≠ .running ∧ ∀ i, (s.chan i).Stilled (u.chan i)

theorem Channel.Stilled.walked (h : a.Stilled c) (w : c.WalkedTo d) : a.Stilled d := by
  have cfg := cfg_of_asked w.asked
  unfold Channel.Stilled
  rw [cfg]
  refine ⟨fun hr => ?_, fun hl => (h.2 hl).trans w.granted⟩
  have idle := h.1 hr
  rw [w.same (deficit_of_not_light (isStep_ne_light hr)) (.inl idle.2.1)]
  exact idle

theorem Channel.Stilled.light (hl : c.cfg.role = .light) (h : units c.cfg.rating 1000 ≤ c.granted) : a.Stilled c :=
  ⟨fun hr => absurd hl (isStep_ne_light hr), fun _ => h⟩

theorem stilled_of_lit {p : PlantState} {n : ChannelConfig} (hp : p ≠ .running) (hl : n.role = .light) (h : u.Lit i n p) : a.Stilled (u.chan i) := by
  obtain ⟨-, cfg, held⟩ := h
  have role : (u.chan i).cfg.role = .light := by rw [cfg, hl]
  rw [protPart_stopped hp role] at held
  exact .light role held

theorem lit_of_stilled (hp : u.stop.state ≠ .running) (hl : (u.chan i).cfg.role = .light) (h : a.Stilled (u.chan i)) :
    u.Lit i (u.chan i).cfg u.stop.state := by
  refine ⟨rfl, rfl, ?_⟩
  rw [protPart_stopped hp hl]
  exact h.2 hl

namespace State.Stilled

theorem of_chan (h : s.Stilled u) (hs : t.stop.state = u.stop.state) (hc : ∀ i, t.chan i = u.chan i) : s.Stilled t := by
  refine ⟨by rw [hs]; exact h.1, fun i => ?_⟩
  rw [hc]
  exact h.2 i

theorem handOver (cause : ShedCause) (h : s.Stilled u) : s.Stilled (handOver cause u) := by
  refine ⟨by rw [stop_of_outside (handOver_outside u cause)]; exact h.1, fun i => ?_⟩
  by_cases hl : (u.chan i).cfg.role = .light
  · exact stilled_of_lit h.1 hl (lit_handOver cause (lit_of_stilled h.1 hl (h.2 i)))
  · by_cases hr : (u.chan i).cfg.role.isStep = true
    · obtain ⟨granted, entry, -⟩ := (h.2 i).1 hr
      rw [handOver_chan_idle cause hr granted entry]
      exact h.2 i
    · have cfg : ((Machine.handOver cause u).chan i).cfg = (u.chan i).cfg := chan_cfg_of_unshared (handOver_unshared _ _) i
      exact ⟨fun h' => absurd (cfg ▸ h') hr, fun h' => absurd (cfg ▸ h') hl⟩

theorem reprotect (h : s.Stilled u) : s.Stilled (reprotect u) := handOver _ (h.of_chan rfl fun _ => rfl)

end State.Stilled

/-- A stopped plant's step channel stores a new target and waits for nothing. -/
theorem stepTarget_stilled (hp : u.stop.state ≠ .running) (hg : (u.chan i).granted = 0) (v : Nat) (m : Bool) :
    ∃ o, (stepTarget i v m u).chan i = { u.chan i with target := v, entry := none, out := o } := by
  unfold stepTarget
  dsimp only
  obtain ⟨o, kept, -⟩ := keepEntry_chan_self (m && (u.chan i).target < v) i (u.putChan i { u.chan i with target := v })
  have unqueued : (u.putChan i { u.chan i with target := v }).entryKept (m && (u.chan i).target < v)
      ((u.putChan i { u.chan i with target := v }).chan i) = none := by
    unfold State.entryKept Channel.wantsEntry
    simp [hp]
  rw [unqueued] at kept
  generalize keepEntry (m && (u.chan i).target < v) i (u.putChan i { u.chan i with target := v }) = t at kept ⊢
  rw [if_neg (by omega), if_neg (by rw [kept]; simp), settleShed_chan, kept, chan_putChan_self]
  exact ⟨o, rfl⟩

theorem targetChange_stilled (i : Fin 128) (r : Role) (o v : Nat) (m : Bool) (h : s.Stilled u) : s.Stilled (targetChange i r o v m u) := by
  refine ⟨by rw [targetChange_stop]; exact h.1, fun j => ?_⟩
  by_cases hij : i = j
  · subst hij
    by_cases hl : (u.chan i).cfg.role = .light
    · exact stilled_of_lit h.1 hl ((State.Lit.arbiter i _ _).targetChange i r o v m (lit_of_stilled h.1 hl (h.2 i)))
    · by_cases hr : (u.chan i).cfg.role.isStep = true
      · obtain ⟨granted, entry, minOn, minOff⟩ := (h.2 i).1 hr
        have stored (w : Nat) : (s.chan i).Stilled ((stepTarget i w m u).chan i) := by
          obtain ⟨o, e⟩ := stepTarget_stilled h.1 granted w m
          rw [e]
          exact ⟨fun _ => ⟨granted, rfl, minOn, minOff⟩, fun h' => absurd h' hl⟩
        unfold targetChange
        dsimp only
        split
        · exact h.2 i
        · next hb =>
          split
          · exact h.2 i
          · exact absurd (Channel.boundTo_iff.mp (by simpa using hb)).1 hl
          · split
            · exact h.2 i
            · exact stored _
      · refine ⟨fun h' => absurd h' ?_, fun h' => absurd h' ?_⟩ <;> rw [targetChange_cfg]
        · exact hr
        · exact hl
  · exact (h.2 j).walked (targetChange_walked hij r o v m u)

theorem protectedMinimum_stilled (i : Fin 128) (z : Fin 24) (v : Nat) (h : s.Stilled u) : s.Stilled (protectedMinimum i z v u) := by
  by_cases hb : (u.chan i).boundTo .light z = true
  · obtain e | ⟨c, cfg, held, -, e⟩ := protectedMinimum_moves i z v u <;> rw [e]
    · exact h
    · refine State.Stilled.reprotect ⟨h.1, fun j => ?_⟩
      rw [chan_putChan]
      split
      · have role : c.cfg.role = .light := by
          rw [cfg]
          exact (Channel.boundTo_iff.mp hb).1
        rw [protPart_stopped h.1 role] at held
        exact .light role held
      · exact h.2 j
  · rw [protectedMinimum_of_not_bound (Bool.eq_false_of_not_eq_true hb)]
    exact h

/-- What a stop leaves of the channels stands over whatever the role units ask for then. -/
theorem stilled_property (s : State) : BudgetProperty s.Stilled where
  target i r o v m _ h := targetChange_stilled i r o v m h
  minimum i z v _ _ h := protectedMinimum_stilled i z v h
  other _ _ same h := h.of_chan (congrArg StopControl.state same.stop) (chan_of_budget same.budget)

end Sys2Proof.Machine
end

section
/-! SUPPORT. The Load Budget Unit's part of a plant stop (R49, R78), and that nothing is shed where no LIGHT channel held more than units(1000). -/

namespace Sys2Proof.Machine

variable {s t u : State} {c : Channel} {i j : Fin 128} {p : PlantState}

/-! ### Each channel's part (R49) -/

/-- A channel as its part of a stop leaves it, but for its output. -/
def Channel.stopped (p : PlantState) (c : Channel) : Channel :=
  if c.cfg.role.isStep then
    { c with
      granted := 0, entry := none
      minOnT := if 0 < c.granted then none else c.minOnT
      minOffT := if 0 < c.granted then startTimer c.cfg.minOff else c.minOffT }
  else if c.cfg.role = .light then { c with granted := max c.granted (c.protPart p) } else c

/-- A step channel's part of a stop. -/
theorem stopChannel_step (hr : (s.chan i).cfg.role.isStep = true) : stopChannel i s = keepEntry false i
    (if 0 < (s.chan i).granted then setGranted i 0 (s.putChan i { s.chan i with minOnT := none, minOffT := startTimer (s.chan i).cfg.minOff })
      else s) := by
  unfold stopChannel
  dsimp only
  cases h : (s.chan i).cfg.role with
  | unused | light =>
    rw [h] at hr
    cases hr
  | heater | fan | curtain | docklight => rfl

theorem stopChannel_chan (hp : s.stop.state ≠ .running) (i : Fin 128) :
    ∃ o, (stopChannel i s).chan i = { (s.chan i).stopped s.stop.state with out := o } := by
  by_cases hr : (s.chan i).cfg.role.isStep = true
  · have unqueued (u : State) (hu : u.stop = s.stop) (c : Channel) : u.entryKept false c = none := by
      unfold State.entryKept Channel.wantsEntry
      simp [hu, hp]
    unfold Channel.stopped
    rw [if_pos hr, stopChannel_step hr]
    by_cases hg : 0 < (s.chan i).granted
    · obtain ⟨o, kept, -⟩ := keepEntry_chan_self false i
        (setGranted i 0 (s.putChan i { s.chan i with minOnT := none, minOffT := startTimer (s.chan i).cfg.minOff }))
      rw [unqueued _ (by rw [setGranted_stop]; rfl), setGranted_chan, chan_putChan_self, chan_putChan_self] at kept
      rw [if_pos hg, if_pos hg, if_pos hg]
      exact ⟨o, kept⟩
    · obtain ⟨o, kept, -⟩ := keepEntry_chan_self false i s
      rw [unqueued _ rfl] at kept
      rw [if_neg hg, if_neg hg, if_neg hg, ← Nat.eq_zero_of_not_pos hg]
      exact ⟨o, kept⟩
  · unfold Channel.stopped
    rw [if_neg hr]
    by_cases hl : (s.chan i).cfg.role = .light
    · rw [if_pos hl]
      unfold stopChannel
      dsimp only
      rw [hl]
      dsimp only
      rw [chan_putChan_self]
      exact ⟨_, rfl⟩
    · rw [if_neg hl]
      unfold stopChannel
      dsimp only
      cases h : (s.chan i).cfg.role with
      | unused => exact ⟨_, rfl⟩
      | light => exact absurd h hl
      | heater | fan | curtain | docklight =>
        rw [h] at hr
        exact absurd rfl hr

/-- Every channel with its part of a stop done. -/
def stopChannels (s : State) : State := forEach (indices 128) stopChannel s

theorem budgetStop_eq (s : State) : budgetStop s = reprotect (stopChannels s) := rfl

theorem stopChannel_stop (i : Fin 128) (s : State) : (stopChannel i s).stop = s.stop := stop_of_outside (stopChannel_outside s i)

theorem stopChannels_chan (hp : s.stop.state ≠ .running) (i : Fin 128) :
    ∃ o, (stopChannels s).chan i = { (s.chan i).stopped s.stop.state with out := o } := by
  refine forEach_settles (P := fun i u => ∃ o, u.chan i = { (s.chan i).stopped s.stop.state with out := o })
    (Q := fun i u => u.chan i = s.chan i ∧ u.stop = s.stop) ?_ ?_ ?_ _ (nodup_indices 128) s (fun _ _ => ⟨rfl, rfl⟩) i (.inl (mem_indices i))
  · rintro a u ⟨chan, stop⟩
    have settled := stopChannel_chan (s := u) (by rwa [stop]) a
    rwa [chan, stop] at settled
  · intro a b u hb hu
    rwa [stopChannel_chan_ne (Ne.symm hb)]
  · rintro a b u hb ⟨chan, stop⟩
    exact ⟨(stopChannel_chan_ne (Ne.symm hb) u).trans chan, (stopChannel_stop a u).trans stop⟩

theorem stopChannels_outside (s : State) : (stopChannels s).outsideBudget = s.outsideBudget :=
  forEach_same (P := State.outsideBudget) (fun i u => stopChannel_outside u i) _ s

theorem stopped_asked (p : PlantState) (c : Channel) : (c.stopped p).asked = c.asked := by
  unfold Channel.stopped
  split
  · rfl
  · split <;> rfl

theorem stopChannels_asked (hp : s.stop.state ≠ .running) (i : Fin 128) : ((stopChannels s).chan i).asked = (s.chan i).asked := by
  obtain ⟨o, e⟩ := stopChannels_chan hp i
  rw [e]
  exact stopped_asked _ _

/-- The channels stand stilled when each has done its part. -/
theorem stopChannels_stilled (hp : s.stop.state ≠ .running) : (stopChannels s).Stilled (stopChannels s) := by
  refine ⟨by rw [stop_of_outside (stopChannels_outside s)]; exact hp, fun i => ?_⟩
  obtain ⟨o, e⟩ := stopChannels_chan hp i
  rw [e]
  unfold Channel.stopped
  split
  · next hr => exact ⟨fun _ => ⟨rfl, rfl, rfl, rfl⟩, fun hl => absurd hl (isStep_ne_light hr)⟩
  · next hr =>
    split
    · next hl =>
      refine .light hl ?_
      rw [← protPart_stopped hp hl]
      exact Nat.le_max_right _ _
    · next hl => exact ⟨fun h => absurd h hr, fun h => absurd h hl⟩

theorem budgetStop_stilled (hp : s.stop.state ≠ .running) : (stopChannels s).Stilled (budgetStop s) := (stopChannels_stilled hp).reprotect

/-! ### Nothing is shed -/

theorem poolUse_of_nonProtected (h : ∀ i, (s.chan i).nonProtected s.stop.state = 0) : s.poolUse = 0 := by
  have none (k : LoadClass) : s.poolUsed k = 0 := by
    unfold State.poolUsed
    rw [classGrant_eq, sumTable_eq, Finset.sum_eq_zero fun i _ => ?_, Nat.zero_sub]
    unfold Channel.classShare
    split
    · exact h i
    · rfl
  unfold State.poolUse
  rw [none, none, none, none]

theorem poolSafe_of_nonProtected (h : ∀ i, (s.chan i).nonProtected s.stop.state = 0) : s.PoolSafe :=
  (poolUse_of_nonProtected h).trans_le (Nat.zero_le _)

theorem stopChannels_poolSafe (hp : s.stop.state ≠ .running)
    (h : ∀ i, (s.chan i).cfg.role = .light → (s.chan i).granted ≤ units (s.chan i).cfg.rating 1000)
    (hc : ∀ i, u.chan i = (stopChannels s).chan i) (hs : u.stop = s.stop) : u.PoolSafe := by
  refine poolSafe_of_nonProtected fun i => ?_
  obtain ⟨o, e⟩ := stopChannels_chan hp i
  rw [hc, e, hs]
  unfold Channel.nonProtected Channel.stopped
  by_cases hr : (s.chan i).cfg.role.isStep = true
  · rw [if_pos hr]
    dsimp only
    split
    · rfl
    · next hl => exact absurd hl (isStep_ne_light hr)
    · exact Nat.zero_mul _
  · rw [if_neg hr]
    by_cases hl : (s.chan i).cfg.role = .light
    · rw [if_pos hl]
      dsimp only
      rw [hl]
      dsimp only
      rw [protPart_stopped (c := s.chan i) hp hl, protPart_stopped (c := { s.chan i with granted := _, out := o }) hp hl]
      exact Nat.sub_eq_zero_of_le (max_le (h i hl) le_rfl)
    · rw [if_neg hl]
      cases hu : (s.chan i).cfg.role with
      | unused => rfl
      | light => exact absurd hu hl
      | heater | fan | curtain | docklight =>
        rw [hu] at hr
        exact absurd rfl hr

/-- No SHED was raised between s and t. -/
def State.Unshed (s t : State) : Prop := s.RaisesOnly (· ≠ .shed) t

namespace State.Unshed

theorem of_line (h : s.Unshed t) (hl : u.line = t.line) : s.Unshed u := State.RaisesOnly.of_line h hl

theorem raise (h : s.Unshed t) {k : NoticeKind} (hk : k ≠ .shed) (n : Nat) (b : Bytes) : s.Unshed (raise k n b t) := State.RaisesOnly.raise h hk n b

theorem setBudget (h : s.Unshed t) (b : LoadBudget) : s.Unshed (t.setBudget b) := h.of_line rfl
theorem setLighting (h : s.Unshed t) (l : Lighting) : s.Unshed (t.setLighting l) := h.of_line rfl
theorem putDoor (h : s.Unshed t) (d : Fin 32) (x : Door) : s.Unshed (t.putDoor d x) := h.of_line rfl
theorem putZone (h : s.Unshed t) (z : Fin 12) (x : Zone) : s.Unshed (t.putZone z x) := h.of_line rfl
theorem putLight (h : s.Unshed t) (z : Fin 24) (x : LightZone) : s.Unshed (t.putLight z x) := h.of_line rfl

theorem settleShed (h : s.Unshed t) : s.Unshed (settleShed t) := by
  unfold Machine.settleShed
  split
  · exact h.of_line rfl
  · exact h

theorem arbitrate (h : s.Unshed t) : s.Unshed (arbitrate t) := by
  have walked : s.Unshed (Machine.settleShed (walk t)) := (h.of_line (walk_line t)).settleShed
  change s.Unshed (Machine.settleTight (Machine.settleShed (walk t)))
  generalize Machine.settleShed (walk t) = v at walked
  unfold settleTight
  dsimp only
  split
  · exact walked
  · have kind : (if v.isTight = true then NoticeKind.budgetTight else .budgetEased) ≠ .shed := by split <;> decide
    exact (walked.setBudget _).raise kind _ _

theorem release (h : s.Unshed t) (i : Fin 128) : s.Unshed (release i t) := by
  unfold Machine.release
  dsimp only
  refine State.Unshed.arbitrate (h.of_line ?_)
  rw [keepEntry_line, setGranted_line]
  rfl

theorem targetChange (h : s.Unshed t) (i : Fin 128) (r : Role) (o v : Nat) (m : Bool) : s.Unshed (targetChange i r o v m t) := by
  have put (c : Channel) : s.Unshed (t.putChan i c) := h.of_line rfl
  have kept (b : Bool) (c : Channel) : s.Unshed (keepEntry b i (t.putChan i c)) := (put c).of_line (keepEntry_line _ _ _)
  unfold Machine.targetChange
  dsimp only
  split
  · exact h
  · split
    · exact h
    · split
      · exact h
      · unfold lightTargetChange
        dsimp only
        split
        · split
          · exact (put _).arbitrate
          · exact (put _).settleShed
        · split
          · exact State.Unshed.arbitrate ((put _).of_line (setGranted_line _ _ _))
          · split
            · exact (put _).arbitrate
            · exact (put _).settleShed
    · split
      · exact h
      · unfold stepTarget
        dsimp only
        split
        · split
          · exact (kept _ _).release i
          · exact (kept _ _).settleShed
        · split
          · exact (kept _ _).arbitrate
          · exact (kept _ _).settleShed

theorem sendDoorTargets (h : s.Unshed t) (d : Fin 32) : s.Unshed (sendDoorTargets d t) := by
  have lit : s.Unshed (sendLight d t) := by
    obtain ⟨-, e⟩ | ⟨i, -, -, e⟩ := sendLight_cases d t <;> rw [e]
    · exact h
    · exact (h.putDoor _ _).targetChange _ _ _ _ _
  unfold Machine.sendDoorTargets
  obtain ⟨-, e⟩ | ⟨i, -, -, e⟩ := sendCurtain_cases d (sendLight d t) <;> rw [e]
  · exact lit
  · exact (lit.putDoor _ _).targetChange _ _ _ _ _

theorem stopZone (h : s.Unshed t) (z : Fin 12) : s.Unshed (stopZone z t) := by
  have cooled : s.Unshed (coolZone z t) := by
    unfold coolZone
    obtain ⟨-, e⟩ | ⟨i, -, -, e⟩ := sendHeater_cases z 0 (t.putZone z { t.zone z with mode := .stopped, integral := 0, call := 0 }) <;> rw [e]
    · exact (h.putZone _ _).putZone _ _
    · exact ((h.putZone _ _).putZone _ _).targetChange _ _ _ _ _
  have vented : s.Unshed (setVent z .stopped (coolZone z t)) := by
    generalize coolZone z t = v at cooled
    unfold setVent
    dsimp only
    split
    · exact (cooled.putZone _ _).raise (by decide) _ _
    · split
      · exact (cooled.putZone _ _).raise (by decide) _ _
      · exact cooled.putZone _ _
  rw [stopZone_eq]
  generalize setVent z .stopped (coolZone z t) = v at vented
  obtain ⟨-, e⟩ | ⟨i, -, -, e⟩ := sendFan_cases z 0 (v.putZone z { v.zone z with lowerCandidate := none }) <;> rw [e]
  · exact (vented.putZone _ _).putZone _ _
  · exact ((vented.putZone _ _).putZone _ _).targetChange _ _ _ _ _

theorem deriveLight (h : s.Unshed t) (z : Fin 24) : s.Unshed (deriveLight z t) := by
  obtain ⟨-, e⟩ | ⟨i, -, -, -, e⟩ := deriveLight_cases z t <;> rw [e]
  · exact h.putLight _ _
  · exact (h.putLight _ _).targetChange _ _ _ _ _

theorem deriveLights (h : s.Unshed t) : s.Unshed (deriveLights t) :=
  forEach_keeps (I := s.Unshed) (fun z _ hu => hu.deriveLight z) _ t h

theorem lightingStop (h : s.Unshed t) : s.Unshed (lightingStop t) := by
  unfold Machine.lightingStop
  split
  · exact ((h.setLighting _).raise (by decide) _ _).deriveLights
  · exact h.deriveLights

end State.Unshed

theorem stopChannels_figures (s : State) : (stopChannels s).line = s.line ∧ s.budget.SameFigures (stopChannels s).budget :=
  forEach_keeps (I := fun u => u.line = s.line ∧ s.budget.SameFigures u.budget) (fun i _ hu => (grantClosed_figures s).stopChannel i hu) _ s
    ⟨Eq.refl _, .refl _⟩

/-- The Load Budget Unit sheds nothing at a stop where no LIGHT channel held more than units(1000). -/
theorem budgetStop_unshed (hp : s.stop.state ≠ .running)
    (h : ∀ i, (s.chan i).cfg.role = .light → (s.chan i).granted ≤ units (s.chan i).cfg.rating 1000) : s.Unshed (budgetStop s) := by
  have safe : (figure (protect (stopChannels s))).PoolSafe :=
    stopChannels_poolSafe hp h (fun i => (figure_chan _ i).trans (protect_chan _ i))
      (by rw [figure_stop, protect_stop]; exact stop_of_outside (stopChannels_outside s))
  rw [budgetStop_eq]
  unfold reprotect handOver
  rw [shedding_of_safe _ safe]
  have stands : s.Unshed (stopChannels s) := State.Unshed.of_line (State.RaisesOnly.refl s) (stopChannels_figures s).1
  generalize stopChannels s = v at stands
  exact State.Unshed.arbitrate (stands.of_line rfl)

end Sys2Proof.Machine
end

section
/-! SUPPORT. What every unit takes from a change of the plant-stop state, whichever it is (R49, R101, R132, R150). -/

namespace Sys2Proof.Machine

variable {s t u b c e : State} {d : Fin 32} {z : Fin 24} {y : Fin 12} {i j : Fin 128}

/-! ### What no unit's part writes -/

/-- Between s and t nothing was written of the plan but its totals, of the store, the stage and the running seconds, of the Dock Supervisor
but its doors and ΔT copies, and of the Climate Unit but its zones. -/
structure State.KeepsRest (s t : State) : Prop where
  plan : t.plan.forgetTotals = s.plan.forgetTotals
  store : t.store = s.store
  stage : t.stage = s.stage
  seconds : t.seconds = s.seconds
  dock : ∀ l n, ({ t.dock with doors := l, zoneDT := n } : Dock) = { s.dock with doors := l, zoneDT := n }
  climate : ∀ l, ({ t.climate with zones := l } : Climate) = { s.climate with zones := l }

namespace State.KeepsRest

theorem refl (s : State) : s.KeepsRest s := ⟨rfl, rfl, rfl, rfl, fun _ _ => rfl, fun _ => rfl⟩

theorem trans (h : s.KeepsRest t) (h' : t.KeepsRest u) : s.KeepsRest u :=
  ⟨h'.plan.trans h.plan, h'.store.trans h.store, h'.stage.trans h.stage, h'.seconds.trans h.seconds,
    fun l n => (h'.dock l n).trans (h.dock l n), fun l => (h'.climate l).trans (h.climate l)⟩

theorem of_outside (h : t.outsideBudget = s.outsideBudget) : s.KeepsRest t where
  plan := plan_of_outside h
  store := store_of_outside h
  stage := (congrArg State.stage h :)
  seconds := seconds_of_outside h
  dock l n := (congrArg (fun k : Dock => ({ k with doors := l, zoneDT := n } : Dock)) (forgetLoss_of_outside h) :)
  climate l := congrArg (fun k : Climate => ({ k with zones := l } : Climate)) (climate_of_outside h)

theorem of_outsideClimate (h : t.outsideClimate = s.outsideClimate)
    (hc : ∀ l, ({ t.climate with zones := l } : Climate) = { s.climate with zones := l }) : s.KeepsRest t where
  plan := plan_of_outsideClimate h
  store := store_of_outsideClimate h
  stage := (congrArg State.stage h :)
  seconds := seconds_of_outsideClimate h
  dock l n := (congrArg (fun v : State => ({ v.dock with doors := l, zoneDT := n } : Dock)) h :)
  climate := hc

theorem of_outsideDock (h : t.outsideDock = s.outsideDock) (hd : ∀ l, ({ t.dock with doors := l } : Dock) = { s.dock with doors := l }) :
    s.KeepsRest t where
  plan := plan_of_outsideDock h
  store := store_of_outsideDock h
  stage := (congrArg State.stage h :)
  seconds := (congrArg State.seconds h :)
  dock l n := (congrArg (fun k : Dock => ({ k with zoneDT := n } : Dock)) (hd l) :)
  climate l := congrArg (fun k : Climate => ({ k with zones := l } : Climate)) (climate_of_outsideDock h)

theorem of_outsideLighting (h : t.outsideLighting = s.outsideLighting) : s.KeepsRest t where
  plan := plan_of_outsideLighting h
  store := store_of_outsideLighting h
  stage := (congrArg State.stage h :)
  seconds := (congrArg State.seconds h :)
  dock l n := (congrArg (fun v : State => ({ v.dock with doors := l, zoneDT := n } : Dock)) h :)
  climate l := congrArg (fun k : Climate => ({ k with zones := l } : Climate)) (climate_of_outsideLighting h)

end State.KeepsRest

/-! ### Figures and trips, over whatever the role units ask for -/

/-- The figures of u are those that a change of the protected total in s leaves, and u works them out as s does. -/
def State.Reprotected (s u : State) : Prop := s.reprotects u ∧ u.basis = s.basis

theorem reprotected_reprotect (s : State) : s.Reprotected (reprotect s) := ⟨reprotect_reprotects s, reprotect_basis s⟩

theorem reprotected_property (s : State) : BudgetProperty s.Reprotected where
  target i r o v m u h := by
    obtain ⟨basis, figures⟩ := targetChange_figures i r o v m u
    exact ⟨h.1.after figures (State.Protects.total_congr basis fun j => targetChange_cfg u i j r o v m), basis.trans h.2⟩
  minimum i z v u _ h := by
    have protects := protectedMinimum_protects i z v u
    refine ⟨?_, protects.basis.trans h.2⟩
    obtain ⟨figures, cfg⟩ | ⟨afresh, -⟩ := protects.figures
    · exact h.1.after figures (State.Protects.total_congr protects.basis cfg)
    · exact afresh.before h.2
  other u v same h := by
    have basis : v.basis = u.basis := by
      unfold State.basis
      rw [same.budget, same.profile, same.stop]
    refine ⟨h.1.after ?_ (State.Protects.total_congr basis fun j => by rw [chan_of_budget same.budget]), basis.trans h.2⟩
    unfold State.figures
    rw [same.budget]

/-- The trip conditions and the trip inputs of u are those of s. -/
def State.TripsStand (s u : State) : Prop := ∀ j, (u.chan j).tripped = (s.chan j).tripped ∧ (u.chan j).tripIn = (s.chan j).tripIn

theorem trips_of_asked {x x' : Channel} (h : x.asked = x'.asked) : x.tripped = x'.tripped ∧ x.tripIn = x'.tripIn :=
  ⟨congrArg (fun a => a.2.2.2) h, congrArg (fun a => a.2.2.1) h⟩

theorem tripsStand_of_asked (h : ∀ j, (u.chan j).asked = (s.chan j).asked) : s.TripsStand u := fun j => trips_of_asked (h j)

theorem State.TripsStand.trans (h : s.TripsStand t) (h' : t.TripsStand u) : s.TripsStand u := fun j =>
  ⟨(h' j).1.trans (h j).1, (h' j).2.trans (h j).2⟩

theorem tripsStand_property (s : State) : BudgetProperty s.TripsStand where
  target i r o v m u h := h.trans fun j => by
    obtain e | ⟨-, -, e⟩ := targetChange_asked u i j r o v m
    · exact trips_of_asked e
    · exact ⟨congrArg (fun a => a.2.2.2) e, congrArg (fun a => a.2.2.1) e⟩
  minimum i z v u _ h := h.trans fun j => by
    by_cases hb : (u.chan i).boundTo .light z = true
    · have asked := protectedMinimum_asked hb v j
      split at asked
      · next hij =>
        subst hij
        exact ⟨congrArg (fun a => a.2.2.2) asked, congrArg (fun a => a.2.2.1) asked⟩
      · exact trips_of_asked asked
    · rw [protectedMinimum_of_not_bound (Bool.eq_false_of_not_eq_true hb)]
      exact ⟨rfl, rfl⟩
  other u v same h := h.trans fun j => by rw [chan_of_budget same.budget]; exact ⟨rfl, rfl⟩

/-! ### The zones' part -/

theorem shape_eq_look (s : State) (d : Fin 32) : s.shape d = look s.dock.forgetLoss.doors d := (look_map Door.forgetLoss s.dock.doors d).symm

theorem shape_of_outsideClimate (h : t.outsideClimate = s.outsideClimate) (d : Fin 32) : t.shape d = s.shape d := by
  rw [shape_eq_look, shape_eq_look]
  exact congrArg (fun v : State => look v.dock.doors d) h

theorem shape_of_outsideLighting (h : t.outsideLighting = s.outsideLighting) (d : Fin 32) : t.shape d = s.shape d :=
  shape_of_forgetLoss (congrArg State.dock h :) d

theorem served_climate {f : Fin 12 → State → State} {x : State → Fin 12 → Zone} (takes : ∀ z u, State.TakesZone u (f z u) z (x u z)) (s : State)
    (l : Table Zone 12) : ({ (forEach (indices 12) f s).climate with zones := l } : Climate) = { s.climate with zones := l } := by
  refine forEach_keeps (I := fun u => ({ u.climate with zones := l } : Climate) = { s.climate with zones := l }) (fun z u hu => ?_) _ s (Eq.refl _)
  dsimp only
  rw [(takes z u).climate]
  exact hu

/-- What c holds yet of s when the Load Budget Unit and the zones have taken the change of the plant-stop state. -/
structure State.PlantTold (s c : State) : Prop where
  rest : s.KeepsRest c
  lighting : c.lighting = s.lighting
  shape : ∀ d, c.shape d = s.shape d
  cfg : ∀ j, (c.chan j).cfg = (s.chan j).cfg
  asked : ∀ j, (∀ z, s.heaterOf z ≠ some j ∧ s.fanOf z ≠ some j) → (c.chan j).asked = (s.chan j).asked

/-- The Load Budget Unit's part leaves the rest of s, and each zone then takes its own. -/
theorem plantTold_of_served {f : Fin 12 → State → State} {x : State → Fin 12 → Zone} (takes : ∀ z u, State.TakesZone u (f z u) z (x u z))
    (hx : ∀ u z, (x u z).cfg = (u.zone z).cfg) (beside : (forEach (indices 12) f b).outsideClimate = b.outsideClimate) (rest : s.KeepsRest b)
    (lighting : b.lighting = s.lighting) (climate : b.climate = s.climate) (shape : ∀ d, b.shape d = s.shape d)
    (asked : ∀ j, (b.chan j).asked = (s.chan j).asked) : s.PlantTold (forEach (indices 12) f b) where
  rest := rest.trans (.of_outsideClimate beside (served_climate takes b))
  lighting := (lighting_of_outsideClimate beside).trans lighting
  shape d := (shape_of_outsideClimate beside d).trans (shape d)
  cfg j := (served_cfg takes b j).trans (cfg_of_asked (asked j))
  asked j hj := by
    refine (served_asked takes (s := b) hx fun z => ?_).trans (asked j)
    have zone : b.zone z = s.zone z := zone_of_climate climate z
    unfold State.heaterOf State.fanOf at *
    rw [zone, wired_congr fun i => cfg_of_asked (asked i), wired_congr fun i => cfg_of_asked (asked i)]
    exact hj z

/-! ### The doors' and the lights' part -/

/-- A channel that a zone, a door or a lighting zone has bound to it. -/
def State.reaches (s : State) (i : Fin 128) : Prop :=
  (∃ z, s.heaterOf z = some i ∨ s.fanOf z = some i)
    ∨ (∃ d, ((s.door d).cfg.light = some i ∧ (s.chan i).boundTo .docklight d = true) ∨ ((s.door d).cfg.curtain = some i ∧ (s.chan i).boundTo .curtain d = true))
    ∨ ∃ z, s.lightBinding z = some i

/-- Between s and t every lighting zone and every door derived its targets in the plant-stop state of t, and no other channel was asked for
anything than those that a unit has bound to it. -/
structure State.TakesPlant (s t : State) : Prop where
  rest : s.KeepsRest t
  lights : ∀ z, s.derives t z ∧ s.keepsZone t z
  shape : ∀ d, t.shape d = t.aimed (s.shape d)
  light : ∀ d i, (s.door d).cfg.light = some i → (s.chan i).boundTo .docklight d = true →
    (t.chan i).target = (s.chan i).takesSent (t.lightTarget (s.door d)) (s.door d).sentLight
  curtain : ∀ d i, (s.door d).cfg.curtain = some i → (s.chan i).boundTo .curtain d = true →
    (t.chan i).target = (s.chan i).takesSent (t.curtainTarget (s.door d)) (s.door d).sentCurtain
  cfg : ∀ i, (t.chan i).cfg = (s.chan i).cfg
  asked : ∀ i, ¬s.reaches i → (t.chan i).asked = (s.chan i).asked

/-- Between the doors' part and the lights' a walk may end. -/
structure State.Quiets (s t : State) : Prop where
  budget : t.budget = s.budget
  stop : t.stop = s.stop
  rest : s.KeepsRest t
  shape : ∀ d, t.shape d = s.shape d
  light : ∀ z, t.light z = s.light z

theorem State.Quiets.refl (s : State) : s.Quiets s := ⟨rfl, rfl, .refl s, fun _ => rfl, fun _ => rfl⟩

theorem markWalkEnded_quiets (a : WalkEnding) (s : State) : s.Quiets (markWalkEnded a s) where
  budget := raise_budget _ _ _ _
  stop := raise_stop _ _ _ _
  rest := .of_outsideLighting (markWalkEnded_outsideLighting s a)
  shape d := shape_of_outsideLighting (markWalkEnded_outsideLighting s a) d
  light z := light_of_lighting (raise_lighting _ _ _ _) z

theorem deriveLights_asked_of_step (hr : (s.chan i).cfg.role ≠ .light) : ((deriveLights s).chan i).asked = (s.chan i).asked :=
  deriveLights_asked fun ⟨_, hz, _⟩ => hr (Channel.boundTo_iff.mp (lightBinding_iff.mp hz).2).1

section
variable (told : s.PlantTold c) (quiet : (dockPlantChange c).Quiets e)
include told quiet

theorem quieted_cfg (j : Fin 128) : (e.chan j).cfg = (s.chan j).cfg := by
  rw [chan_of_budget quiet.budget, dockPlantChange_chan_cfg, told.cfg]

theorem quieted_light (z : Fin 24) : e.light z = s.light z :=
  (quiet.light z).trans (light_of_lighting ((lighting_of_outsideDock (dockPlantChange_outsideDock c)).trans told.lighting) z)

theorem takesPlant_of_told : s.TakesPlant (deriveLights e) := by
  have cfg (j : Fin 128) : ((deriveLights e).chan j).cfg = (s.chan j).cfg := (deriveLights_cfg e j).trans (quieted_cfg told quiet j)
  have lit (z : Fin 24) : s.keepsZone (deriveLights e) z := by
    have kept : e.keepsZone (deriveLights e) z := .of_derived (deriveLights_light e z)
    unfold State.keepsZone at *
    rwa [quieted_light told quiet] at kept
  have stop : (deriveLights e).stop = c.stop := by
    rw [deriveLights_stop, quiet.stop]
    exact stop_of_outsideDock (dockPlantChange_outsideDock c)
  have beside := deriveLights_outsideLighting e
  have derived (z : Fin 24) : s.derives (deriveLights e) z := by
    refine State.Sends.derives ⟨fun y => ?_, fun y i _ => .inl ?_, fun y _ => ?_⟩ z
    · exact lightBinding_congr (quieted_cfg told quiet) (by rw [quieted_light told quiet])
    · rw [quieted_light told quiet]
    · rw [quieted_light told quiet]
  have passed (j : Fin 128) (hr : (s.chan j).cfg.role ≠ .light) : ((deriveLights e).chan j).asked = ((dockPlantChange c).chan j).asked := by
    rw [deriveLights_asked_of_step (by rw [quieted_cfg told quiet]; exact hr), chan_of_budget quiet.budget]
  have unzoned (j : Fin 128) {r : Role} {n : Nat} (hb : (s.chan j).boundTo r n = true) (hh : r ≠ .heater) (hf : r ≠ .fan) :
      (c.chan j).asked = (s.chan j).asked := told.asked j fun z =>
    ⟨fun hw => absurd (roles_agree hb (wired_iff.mp hw).2) hh, fun hw => absurd (roles_agree hb (wired_iff.mp hw).2) hf⟩
  have fields (d : Fin 32) := fields_of_shape (t := c) (s := s) (told.shape d)
  refine ⟨told.rest.trans (.trans ?_ (quiet.rest.trans (.of_outsideLighting beside))), fun z => ⟨derived z, lit z⟩, fun d => ?_,
    fun d i hi hb => ?_, fun d i hi hb => ?_, cfg, fun i hi => ?_⟩
  · exact .of_outsideDock (dockPlantChange_outsideDock c) (dockPlantChange_dock c)
  · rw [shape_of_outsideLighting beside, quiet.shape, dockPlantChange_shape, told.shape]
    unfold State.aimed
    rw [lightTarget_congr stop rfl, curtainTarget_congr stop rfl]
  · obtain ⟨config, state, sent, -⟩ := fields d
    rw [target_of_asked (passed i (by rw [(Channel.boundTo_iff.mp hb).1]; decide)),
      dockPlantChange_light (config ▸ hi) ((boundTo_congr (told.cfg i) _ _).trans hb), sent, lightTarget_congr stop.symm state,
      takesSent_of_asked (unzoned i hb (by decide) (by decide))]
  · obtain ⟨config, state, -, sent⟩ := fields d
    rw [target_of_asked (passed i (by rw [(Channel.boundTo_iff.mp hb).1]; decide)),
      dockPlantChange_curtain (config ▸ hi) ((boundTo_congr (told.cfg i) _ _).trans hb), sent, curtainTarget_congr stop.symm state,
      takesSent_of_asked (unzoned i hb (by decide) (by decide))]
  · unfold State.reaches at hi
    simp only [not_or, not_exists] at hi
    obtain ⟨zones, doors, lights⟩ := hi
    have unlit : ¬e.lightAsks (deriveLights e) i := fun ⟨z, hz, _⟩ =>
      lights z ((lightBinding_congr (quieted_cfg told quiet) (by rw [quieted_light told quiet])).symm.trans hz)
    rw [deriveLights_asked unlit, chan_of_budget quiet.budget, dockPlantChange_asked fun d => ?_]
    · exact told.asked i zones
    · rw [(fields d).1, boundTo_congr (told.cfg i), boundTo_congr (told.cfg i)]
      exact doors d

/-- What the zones ask of their channels stands. -/
theorem told_zones (hr : (s.chan j).cfg.role = .heater ∨ (s.chan j).cfg.role = .fan) : ((deriveLights e).chan j).asked = (c.chan j).asked := by
  have other (r : Role) (h₁ : r ≠ .heater) (h₂ : r ≠ .fan) : (s.chan j).cfg.role ≠ r := fun h => hr.elim (fun h' => h₁ (h.symm.trans h')) fun h' => h₂ (h.symm.trans h')
  have unbound (r : Role) (h₁ : r ≠ .heater) (h₂ : r ≠ .fan) (n : Nat) : ¬(c.chan j).boundTo r n = true := fun hb =>
    other r h₁ h₂ (by rw [← told.cfg]; exact (Channel.boundTo_iff.mp hb).1)
  rw [deriveLights_asked_of_step (by rw [quieted_cfg told quiet]; exact other _ (by decide) (by decide)), chan_of_budget quiet.budget]
  exact dockPlantChange_asked fun d => ⟨fun h => unbound _ (by decide) (by decide) _ h.2, fun h => unbound _ (by decide) (by decide) _ h.2⟩

end

end Sys2Proof.Machine
end

section
/-! SUPPORT. A plant stop from RUNNING, unit by unit (R49, R101, R132, R143, R150, R156). -/

namespace Sys2Proof.Machine

variable {s t u : State} {d : Fin 32} {z : Fin 12} {i j : Fin 128}

/-! ### What the units find -/

/-- The state in which the units take the change to STOPPED. -/
def State.stopping (s : State) : State :=
  raise .plantStop 0 (le8 s.stop.state.code) (s.setStop { state := .stopped, fire := true, stopStamp := s.seconds })

theorem fireAsserted_running (h : s.stop.state = .running) : fireAsserted s = plantStopped s.stopping := by
  unfold fireAsserted State.stopping
  simp only [h, reduceCtorEq, if_false, if_true]

theorem exec_firePanelSample (h : s.stage = .running) (a : Bool) :
    exec (.firePanelSample a) s = .next (if a then fireAsserted s else fireCleared s) := if_pos h

theorem keepsRest_setStop (s : State) (c : StopControl) : s.KeepsRest (s.setStop c) := ⟨rfl, rfl, rfl, rfl, fun _ _ => rfl, fun _ => rfl⟩

theorem keepsRest_raise (k : NoticeKind) (n : Nat) (b : Bytes) (s : State) : s.KeepsRest (raise k n b s) := .of_outside (raise_outside s k n b)

section
variable (s)

theorem stopping_stop : s.stopping.stop = ⟨.stopped, true, s.seconds⟩ := raise_stop _ _ _ _
theorem stopping_off : s.stopping.stop.state ≠ .running := by
  rw [stopping_stop]
  exact fun h => by cases h
theorem stopping_budget : s.stopping.budget = s.budget := raise_budget _ _ _ _
theorem stopping_chan (i : Fin 128) : s.stopping.chan i = s.chan i := chan_of_budget (stopping_budget s) i
theorem stopping_rest : s.KeepsRest s.stopping := (keepsRest_setStop s _).trans (keepsRest_raise _ _ _ _)
theorem stopping_lighting : s.stopping.lighting = s.lighting := raise_lighting _ _ _ _
theorem stopping_climate : s.stopping.climate = s.climate := raise_climate _ _ _ _
theorem stopping_dock : s.stopping.dock = s.dock := raise_dock _ _ _ _
theorem stopping_follows : s.Follows s.stopping :=
  State.Follows.raise (t := s.setStop ⟨.stopped, true, s.seconds⟩) ((State.Follows.refl s).of_line rfl) _ _ _

theorem budgetStop_asked (hp : s.stop.state ≠ .running) (j : Fin 128) : ((budgetStop s).chan j).asked = (s.chan j).asked :=
  (reprotect_asked (stopChannels s) j).trans (stopChannels_asked hp j)

/-- The Load Budget Unit's part of the stop done. -/
def State.unpowered : State := budgetStop s.stopping

theorem unpowered_outside : s.unpowered.outsideBudget = s.stopping.outsideBudget := budgetStop_outside _

theorem unpowered_asked (j : Fin 128) : (s.unpowered.chan j).asked = (s.chan j).asked :=
  (budgetStop_asked _ (stopping_off s) j).trans (congrArg Channel.asked (stopping_chan s j))

theorem unpowered_climate : s.unpowered.climate = s.climate := (climate_of_outside (unpowered_outside s)).trans (stopping_climate s)

theorem unpowered_follows : s.Follows s.unpowered := (State.Follows.budget s).budgetStop (stopping_follows s)

theorem plantStopped_eq : plantStopped s.stopping = lightingStop (dockPlantChange (climateStop s.unpowered)) := rfl

theorem stop_told : s.PlantTold (climateStop s.unpowered) :=
  plantTold_of_served stopZone_takes (fun _ _ => rfl) (climateStop_outsideClimate _)
    ((stopping_rest s).trans (.of_outside (unpowered_outside s)))
    ((lighting_of_outside (unpowered_outside s)).trans (stopping_lighting s)) (unpowered_climate s)
    (fun d => (shape_of_outside (unpowered_outside s) d).trans (shape_of_dock (stopping_dock s) d)) (unpowered_asked s)

theorem lightingStop_quiets : ∃ e, s.Quiets e ∧ lightingStop s = deriveLights e := by
  unfold lightingStop
  cases s.lighting.walk with
  | none => exact ⟨s, .refl s, rfl⟩
  | some w => exact ⟨markWalkEnded .aborted s, markWalkEnded_quiets _ s, rfl⟩

theorem stop_takes : s.TakesPlant (plantStopped s.stopping) := by
  rw [plantStopped_eq]
  obtain ⟨e, quiet, he⟩ := lightingStop_quiets (dockPlantChange (climateStop s.unpowered))
  rw [he]
  exact takesPlant_of_told (stop_told s) quiet

theorem stop_asks_zones (hr : (s.chan j).cfg.role = .heater ∨ (s.chan j).cfg.role = .fan) :
    ((plantStopped s.stopping).chan j).asked = ((climateStop s.unpowered).chan j).asked := by
  rw [plantStopped_eq]
  obtain ⟨e, quiet, he⟩ := lightingStop_quiets (dockPlantChange (climateStop s.unpowered))
  rw [he]
  exact told_zones (stop_told s) quiet hr

theorem plantStopped_stop : (plantStopped s.stopping).stop = ⟨.stopped, true, s.seconds⟩ := by
  rw [plantStopped_eq, stop_of_outsideLighting (lightingStop_outsideLighting _), stop_of_outsideDock (dockPlantChange_outsideDock _),
    stop_of_outsideClimate (climateStop_outsideClimate _), stop_of_outside (unpowered_outside s), stopping_stop]

theorem plantStopped_climate : (plantStopped s.stopping).climate = (climateStop s.unpowered).climate := by
  rw [plantStopped_eq, climate_of_outsideLighting (lightingStop_outsideLighting _), climate_of_outsideDock (dockPlantChange_outsideDock _)]

theorem stop_stilled : (stopChannels s.stopping).Stilled (plantStopped s.stopping) :=
  (stilled_property _).rolesStop (budgetStop_stilled (stopping_off s))

theorem stop_trips : s.TripsStand (plantStopped s.stopping) :=
  (tripsStand_property s).rolesStop (tripsStand_of_asked (unpowered_asked s))

theorem stop_follows : s.Follows (plantStopped s.stopping) :=
  (State.Follows.units s).lightingStop ((State.Follows.units s).dockPlantChange ((State.Follows.units s).climateStop (unpowered_follows s)))

theorem stop_reprotects : s.reprotects (plantStopped s.stopping) := by
  have told : State.reprotects (stopChannels s.stopping) (plantStopped s.stopping) :=
    ((reprotected_property _).rolesStop (reprotected_reprotect (stopChannels s.stopping))).1
  have managed : (stopChannels s.stopping).budget.managed = s.budget.managed := by
    rw [(stopChannels_figures _).2.managed, stopping_budget]
  have plan : (stopChannels s.stopping).plan.forgetTotals = s.plan.forgetTotals :=
    (plan_of_outside (stopChannels_outside _)).trans (stopping_rest s).plan
  have profile : (stopChannels s.stopping).profile = s.profile := by
    unfold State.profile
    rw [plan_fields_of_forgetTotals plan]
  unfold State.reprotects at *
  rwa [managed, profile] at told

theorem stop_unshed (h : ∀ i, (s.chan i).cfg.role = .light → (s.chan i).granted ≤ units (s.chan i).cfg.rating 1000) :
    s.Unshed (plantStopped s.stopping) := by
  have off : s.Unshed s.stopping := 
    State.Unshed.raise (t := s.setStop ⟨.stopped, true, s.seconds⟩) (State.Unshed.of_line (State.RaisesOnly.refl s) rfl) (by decide) _ _
  have budget : s.Unshed s.unpowered := State.RaisesOnly.trans off (budgetStop_unshed (stopping_off s) fun i hl => by
    rw [stopping_chan] at hl ⊢
    exact h i hl)
  rw [plantStopped_eq]
  generalize s.unpowered = b at budget
  have zones : s.Unshed (climateStop b) := forEach_keeps (I := s.Unshed) (fun z _ hu => hu.stopZone z) _ b budget
  generalize climateStop b = c at zones
  exact State.Unshed.lightingStop (forEach_keeps (I := s.Unshed) (fun d _ hu => hu.sendDoorTargets d) _ c zones)

end

end Sys2Proof.Machine
end

section
/-! SUPPORT. Each zone's part of a plant stop and of RESUME, among those of the others (R132, R143). -/

namespace Sys2Proof.Machine

variable {s t u v w : State} {x : Zone} {z y : Fin 12} {i j : Fin 128}

/-- A zone's part of a change of s into t takes v to w: it finds the zone and its channels as in s, and what it leaves of them stands in t. -/
structure State.ServesZone (s v w t : State) (z : Fin 12) : Prop where
  rest : s.KeepsRest v
  zone : v.zone z = s.zone z
  cfg : ∀ j, (v.chan j).cfg = (s.chan j).cfg
  asked : ∀ j, (s.chan j).boundTo .heater z = true ∨ (s.chan j).boundTo .fan z = true → (v.chan j).asked = (s.chan j).asked
  follows : s.Follows v
  zoneAfter : t.zone z = w.zone z
  askedAfter : ∀ j, (s.chan j).boundTo .heater z = true ∨ (s.chan j).boundTo .fan z = true → (t.chan j).asked = (w.chan j).asked
  followed : w.Follows t

namespace State.ServesZone

theorem heaterOf (h : s.ServesZone v w t z) : v.heaterOf z = s.heaterOf z := by
  unfold State.heaterOf
  rw [h.zone, wired_congr h.cfg]

theorem fanOf (h : s.ServesZone v w t z) : v.fanOf z = s.fanOf z := by
  unfold State.fanOf
  rw [h.zone, wired_congr h.cfg]

theorem heater (h : s.ServesZone v w t z) (takes : v.TakesZone w z x) (hi : s.heaterOf z = some i) :
    (t.chan i).target = if x.heaterTarget = (s.zone z).heaterTarget then (s.chan i).target else min x.heaterTarget (s.chan i).cfg.steps := by
  have bound := (wired_iff.mp hi).2
  rw [target_of_asked (h.askedAfter i (.inl bound)), takes.heater i (h.heaterOf.trans hi), h.zone, target_of_asked (h.asked i (.inl bound)), h.cfg]

theorem fan (h : s.ServesZone v w t z) (takes : v.TakesZone w z x) (hi : s.fanOf z = some i) :
    (t.chan i).target = if x.fanTarget = (s.zone z).fanTarget then (s.chan i).target else min x.fanTarget (s.chan i).cfg.steps := by
  have bound := (wired_iff.mp hi).2
  rw [target_of_asked (h.askedAfter i (.inr bound)), takes.fan i (h.fanOf.trans hi), h.zone, target_of_asked (h.asked i (.inr bound)), h.cfg]

theorem exhaust (h : s.ServesZone v w t z) : v.exhaustReading z = s.exhaustReading z := by
  have exhausts : v.climate.exhausts = s.climate.exhausts := (congrArg Climate.exhausts (h.rest.climate s.climate.zones) :)
  unfold State.exhaustReading
  rw [h.zone, exhausts]

end State.ServesZone

theorem role_of_bound (h : (s.chan j).boundTo .heater z = true ∨ (s.chan j).boundTo .fan z = true) :
    (s.chan j).cfg.role = .heater ∨ (s.chan j).cfg.role = .fan := h.imp (fun hb => (Channel.boundTo_iff.mp hb).1) fun hb => (Channel.boundTo_iff.mp hb).1

/-- The parts that zones take one after another each serve their zone. -/
theorem servesZone_of_passes {b c : State} (rest : s.KeepsRest b) (climate : b.climate = s.climate) (asked : ∀ j, (b.chan j).asked = (s.chan j).asked)
    (pass : b.PassesZone v z) (beside : v.outsideClimate = b.outsideClimate) (follows : s.Follows v) (cfg : ∀ j, (w.chan j).cfg = (v.chan j).cfg)
    (after : w.PassesZone c z) (told : t.climate = c.climate) (roles : ∀ j, (s.chan j).cfg.role = .heater ∨ (s.chan j).cfg.role = .fan →
      (t.chan j).asked = (c.chan j).asked) (followed : w.Follows t) : s.ServesZone v w t z := by
  have found (j : Fin 128) : (v.chan j).cfg = (s.chan j).cfg := (pass.cfg j).trans (cfg_of_asked (asked j))
  have same (j : Fin 128) {n : Nat} {r : Role} : (b.chan j).boundTo r n = (s.chan j).boundTo r n := boundTo_congr (cfg_of_asked (asked j)) _ _
  have left (j : Fin 128) {n : Nat} {r : Role} : (w.chan j).boundTo r n = (s.chan j).boundTo r n := boundTo_congr ((cfg j).trans (found j)) _ _
  refine ⟨rest.trans (.of_outsideClimate beside fun l => ?_), pass.zone.trans (zone_of_climate climate z), found, fun j hj => ?_, follows,
    (zone_of_climate told z).trans after.zone, fun j hj => ?_, followed⟩
  · exact (congrArg (fun k : Climate => ({ k with zones := l } : Climate)) pass.climate :)
  · exact (pass.asked j (by rwa [same, same])).trans (asked j)
  · exact (roles j (role_of_bound hj)).trans (after.asked j (by rwa [left, left]))

/-! ### The zones at a stop -/

theorem stop_serves (s : State) (z : Fin 12) : ∃ v, s.ServesZone v (stopZone z v) (plantStopped s.stopping) z := by
  obtain ⟨before, after, -, -, e, pass, passed⟩ := served stopZone_takes s.unpowered z
  have closed := State.Follows.units s
  have beside : (forEach before stopZone s.unpowered).outsideClimate = s.unpowered.outsideClimate :=
    forEach_same (P := State.outsideClimate) (fun y u => stopZone_outsideClimate u y) _ _
  have follows : s.Follows (forEach before stopZone s.unpowered) :=
    forEach_keeps (I := s.Follows) (fun y _ hu => closed.stopZone y hu) _ _ (unpowered_follows s)
  have zones : (stopZone z (forEach before stopZone s.unpowered)).Follows (climateStop s.unpowered) := by
    unfold climateStop
    rw [e]
    exact forEach_keeps (I := State.Follows _) (fun y _ hu => (State.Follows.units _).stopZone y hu) _ _ (.refl _)
  have followed : (stopZone z (forEach before stopZone s.unpowered)).Follows (plantStopped s.stopping) :=
    (State.Follows.units _).lightingStop ((State.Follows.units _).dockPlantChange zones)
  exact ⟨_, servesZone_of_passes ((stopping_rest s).trans (.of_outside (unpowered_outside s))) (unpowered_climate s) (unpowered_asked s) pass beside
    follows (fun j => (stopZone_takes z _).cfg j) passed (plantStopped_climate s) (fun j hr => stop_asks_zones s hr) followed⟩

section
variable (s z)

theorem stop_zone : (plantStopped s.stopping).zone z = s.stoppedZone z := by
  obtain ⟨v, serves⟩ := stop_serves s z
  rw [serves.zoneAfter, zone_of_written (stopZone_climate z v)]
  unfold State.stoppedZone
  rw [serves.zone]

theorem stop_heater (hi : s.heaterOf z = some i) :
    ((plantStopped s.stopping).chan i).target = if (s.zone z).heaterTarget = 0 then (s.chan i).target else 0 := by
  obtain ⟨v, serves⟩ := stop_serves s z
  rw [serves.heater (stopZone_takes z v) hi]
  simp only [State.stoppedZone, eq_comm (a := 0), Nat.zero_min]

theorem stop_fan (hi : s.fanOf z = some i) :
    ((plantStopped s.stopping).chan i).target = if (s.zone z).fanTarget = 0 then (s.chan i).target else 0 := by
  obtain ⟨v, serves⟩ := stop_serves s z
  rw [serves.fan (stopZone_takes z v) hi]
  simp only [State.stoppedZone, eq_comm (a := 0), Nat.zero_min]

/-- A purge that the stop ends is reported (R143). -/
theorem stop_purgeEnd (hx : (s.zone z).vent = .purge) : s.reports (plantStopped s.stopping) ⟨.purgeEnd, s.plan.clock, z,
    [0x03] ++ leOpt16 ((s.exhaustReading z).map Int.toNat) ++ le16 (min 65535 (s.seconds - (s.zone z).purgeStart))⟩ := by
  obtain ⟨v, serves⟩ := stop_serves s z
  have cooled : v.BesideZone (coolZone z v) := sendHeater_beside z 0 ((State.BesideZone.refl v).putZone z _)
  have zone : (coolZone z v).zone z = { s.zone z with mode := .stopped, integral := 0, call := 0, heaterTarget := 0 } := by
    rw [zone_of_written (coolZone_climate z v), serves.zone]
  have reading : (coolZone z v).exhaustReading z = s.exhaustReading z := by
    rw [← serves.exhaust]
    unfold State.exhaustReading
    rw [zone, serves.zone, coolZone_climate]
    rfl
  have leaves : ((coolZone z v).zone z).vent = .purge ∧ VentState.stopped ≠ .purge := by
    rw [zone]
    exact ⟨hx, by decide⟩
  have followed : (setVent z .stopped (coolZone z v)).Follows (plantStopped s.stopping) :=
    .trans ((State.Follows.units _).sendFan z 0 ((State.Follows.units _).putZone z _ (.refl _))) serves.followed
  have follows : s.Follows (coolZone z v) := serves.follows.trans cooled.follows
  have clock : (coolZone z v).plan.clock = s.plan.clock := (clock_of_plan cooled.plan).trans (clock_of_plan serves.rest.plan)
  have seconds : (coolZone z v).seconds = s.seconds := cooled.seconds.trans serves.rest.seconds
  rw [setVent_leaves leaves, reading, seconds, zone] at followed
  generalize coolZone z v = m at *
  rw [← clock]
  exact reports_of_raise (t := m.putZone z (m.vented z .stopped)) follows followed

end

/-! ### The commissioning walk at a stop (R154) -/

theorem endWalk_walk (a : WalkEnding) (s : State) : (endWalk a s).lighting.walk = none := by
  unfold endWalk markWalkEnded
  rw [deriveLights_walk, raise_lighting]
  rfl

theorem lightingStop_walk (s : State) : (lightingStop s).lighting.walk = none := by
  unfold lightingStop
  cases h : s.lighting.walk with
  | none =>
    dsimp only
    rw [deriveLights_walk, h]
  | some w =>
    dsimp only
    rw [endWalk_walk]

theorem stop_walk (s : State) : (plantStopped s.stopping).lighting.walk = none := by
  rw [plantStopped_eq, lightingStop_walk]

theorem stop_walkDone (s : State) (hw : s.lighting.walk.isSome = true) : s.reports (plantStopped s.stopping) ⟨.walkDone, s.plan.clock, 0,
    [0x02] ++ le8 ((indices 24).filter fun z => (s.light z).walkResult.isSome).length
      ++ le8 ((indices 24).filter fun z => (s.light z).walkResult.any (· < 1000)).length⟩ := by
  obtain ⟨w, walking⟩ := Option.isSome_iff_exists.mp hw
  have told := stop_told s
  have follows : s.Follows (dockPlantChange (climateStop s.unpowered)) :=
    (State.Follows.units s).dockPlantChange ((State.Follows.units s).climateStop (unpowered_follows s))
  have lighting : (dockPlantChange (climateStop s.unpowered)).lighting = s.lighting :=
    (lighting_of_outsideDock (dockPlantChange_outsideDock _)).trans told.lighting
  have clock : (dockPlantChange (climateStop s.unpowered)).plan.clock = s.plan.clock :=
    clock_of_plan ((plan_of_outsideDock (dockPlantChange_outsideDock _)).trans told.rest.plan)
  rw [plantStopped_eq]
  generalize dockPlantChange (climateStop s.unpowered) = m at *
  have ends : lightingStop m = endWalk .aborted m := by
    unfold lightingStop
    rw [lighting, walking]
  have light (z : Fin 24) : m.light z = s.light z := light_of_lighting lighting z
  have results (p : Nat → Bool) : m.resultCount p = ((indices 24).filter fun z => (s.light z).walkResult.any p).length := by
    rw [resultCount_eq]
    simp only [light]
  have reported := reports_of_raise (k := .walkDone) (n := 0) (t := m.setLighting { m.lighting with walk := none })
    (b := le8 WalkEnding.aborted.code ++ le8 (m.resultCount fun _ => true) ++ le8 (m.resultCount fun r => r < 1000))
    (u := endWalk .aborted m) (follows.of_line rfl) ((State.Follows.units _).deriveLights (.refl _))
  rw [results, results, show le8 WalkEnding.aborted.code = [0x02] from rfl] at reported
  rw [ends, ← clock]
  simpa using reported

end Sys2Proof.Machine
end

section
/-! SUPPORT. RESUME, unit by unit (R49, R101, R132, R150, R157). -/

namespace Sys2Proof.Machine

variable {s t u v w : State} {c : Channel} {z y : Fin 12} {i j : Fin 128}

/-! ### What the units find -/

/-- The state in which the units take RESUME. -/
def State.resuming (s : State) : State := raise .plantResumed 0 [] (s.setStop { s.stop with state := .running })

theorem resumePlant_eq (s : State) : resumePlant s = plantResumed s.resuming := rfl

/-- Every channel's entry kept as RUNNING asks (R78). -/
def requeue (s : State) : State := forEach (indices 128) (keepEntry false) s

theorem budgetResume_eq (s : State) : budgetResume s = reprotect (requeue s) := rfl

theorem zoneDT_of_outsideLighting (h : t.outsideLighting = s.outsideLighting) : t.dock.zoneDT = s.dock.zoneDT :=
  (congrArg (fun v : State => v.dock.zoneDT) h :)

theorem zoneDT_of_doors {k n : Dock} {l : Table Door 32} (h : ({ k with doors := l } : Dock) = { n with doors := l }) : k.zoneDT = n.zoneDT :=
  (congrArg Dock.zoneDT h :)

theorem dockPlantChange_zoneDT (s : State) : (dockPlantChange s).dock.zoneDT = s.dock.zoneDT := zoneDT_of_doors (dockPlantChange_dock s s.dock.doors)

section
variable (s)

theorem resuming_stop : s.resuming.stop = { s.stop with state := .running } := raise_stop _ _ _ _
theorem resuming_budget : s.resuming.budget = s.budget := raise_budget _ _ _ _
theorem resuming_chan (i : Fin 128) : s.resuming.chan i = s.chan i := chan_of_budget (resuming_budget s) i
theorem resuming_rest : s.KeepsRest s.resuming := (keepsRest_setStop s _).trans (keepsRest_raise _ _ _ _)
theorem resuming_lighting : s.resuming.lighting = s.lighting := raise_lighting _ _ _ _
theorem resuming_climate : s.resuming.climate = s.climate := raise_climate _ _ _ _
theorem resuming_dock : s.resuming.dock = s.dock := raise_dock _ _ _ _
theorem resuming_follows : s.Follows s.resuming :=
  State.Follows.raise (t := s.setStop { s.stop with state := .running }) ((State.Follows.refl s).of_line rfl) _ _ _

theorem requeue_asked (j : Fin 128) : ((requeue s).chan j).asked = (s.chan j).asked :=
  forEach_same (P := fun u => (u.chan j).asked) (fun i u => keepEntry_field Channel.asked (fun _ _ _ => rfl) false i j u) _ s

theorem requeue_granted (j : Fin 128) : ((requeue s).chan j).granted = (s.chan j).granted :=
  forEach_same (P := fun u => (u.chan j).granted) (fun i u => keepEntry_field Channel.granted (fun _ _ _ => rfl) false i j u) _ s

theorem requeue_outside : (requeue s).outsideBudget = s.outsideBudget :=
  forEach_same (P := State.outsideBudget) (fun i u => keepEntry_outside u false i) _ s

theorem requeue_figures : (requeue s).line = s.line ∧ s.budget.SameFigures (requeue s).budget :=
  forEach_keeps (I := fun u => u.line = s.line ∧ s.budget.SameFigures u.budget) (fun i _ hu => (grantClosed_figures s).keepEntry false i hu) _ s
    ⟨Eq.refl _, .refl _⟩

/-- The Load Budget Unit's part of RESUME done. -/
def State.powered : State := budgetResume s.resuming

theorem powered_outside : s.powered.outsideBudget = s.resuming.outsideBudget := budgetResume_outside _

theorem powered_asked (j : Fin 128) : (s.powered.chan j).asked = (s.chan j).asked := by
  unfold State.powered
  rw [budgetResume_eq, reprotect_asked, requeue_asked, resuming_chan]

theorem powered_climate : s.powered.climate = s.climate := (climate_of_outside (powered_outside s)).trans (resuming_climate s)

theorem powered_lighting : s.powered.lighting = s.lighting := (lighting_of_outside (powered_outside s)).trans (resuming_lighting s)

theorem powered_stop : s.powered.stop = { s.stop with state := .running } := (stop_of_outside (powered_outside s)).trans (resuming_stop s)

theorem powered_rest : s.KeepsRest s.powered := (resuming_rest s).trans (.of_outside (powered_outside s))

theorem powered_follows : s.Follows s.powered := (State.Follows.budget s).budgetResume (resuming_follows s)

theorem plantResumed_eq : plantResumed s.resuming = deriveLights (dockPlantChange (climateResume s.powered)) := rfl

theorem resume_told : s.PlantTold (climateResume s.powered) :=
  plantTold_of_served evaluate_takes (fun _ _ => rfl) (climateResume_outsideClimate _) (powered_rest s) (powered_lighting s) (powered_climate s)
    (fun d => (shape_of_outside (powered_outside s) d).trans (shape_of_dock (resuming_dock s) d)) (powered_asked s)

theorem resume_takes : s.TakesPlant (plantResumed s.resuming) := by
  rw [plantResumed_eq]
  exact takesPlant_of_told (resume_told s) (.refl _)

theorem resume_asks_zones (hr : (s.chan j).cfg.role = .heater ∨ (s.chan j).cfg.role = .fan) :
    ((plantResumed s.resuming).chan j).asked = ((climateResume s.powered).chan j).asked := by
  rw [plantResumed_eq]
  exact told_zones (resume_told s) (.refl _) hr

theorem plantResumed_stop : (plantResumed s.resuming).stop = { s.stop with state := .running } := by
  rw [plantResumed_eq, deriveLights_stop, stop_of_outsideDock (dockPlantChange_outsideDock _),
    stop_of_outsideClimate (climateResume_outsideClimate _), powered_stop]

theorem plantResumed_climate : (plantResumed s.resuming).climate = (climateResume s.powered).climate := by
  rw [plantResumed_eq, climate_of_outsideLighting (deriveLights_outsideLighting _), climate_of_outsideDock (dockPlantChange_outsideDock _)]

theorem plantResumed_walk : (plantResumed s.resuming).lighting.walk = s.lighting.walk := by
  rw [plantResumed_eq, deriveLights_walk, lighting_of_outsideDock (dockPlantChange_outsideDock _), (resume_told s).lighting]

theorem resume_trips : s.TripsStand (plantResumed s.resuming) :=
  (tripsStand_property s).rolesResume (tripsStand_of_asked (powered_asked s))

theorem resume_reprotects : s.reprotects (plantResumed s.resuming) := by
  have told : State.reprotects (requeue s.resuming) (plantResumed s.resuming) :=
    ((reprotected_property _).rolesResume (reprotected_reprotect (requeue s.resuming))).1
  have managed : (requeue s.resuming).budget.managed = s.budget.managed := by
    rw [(requeue_figures _).2.managed, resuming_budget]
  have plan : (requeue s.resuming).plan.forgetTotals = s.plan.forgetTotals :=
    (plan_of_outside (requeue_outside _)).trans (resuming_rest s).plan
  have profile : (requeue s.resuming).profile = s.profile := by
    unfold State.profile
    rw [plan_fields_of_forgetTotals plan]
  unfold State.reprotects at *
  rwa [managed, profile] at told

/-- The ΔT copies over the evaluations of other zones. -/
theorem evaluations_zoneDT {l : List (Fin 12)} (hz : z ∉ l) : look (forEach l evaluate s).dock.zoneDT z = look s.dock.zoneDT z :=
  forEach_keeps_besides (I := fun u => look u.dock.zoneDT z = look s.dock.zoneDT z)
    (fun y u hy hu => by rw [evaluate_zoneDT, look_upd_ne _ _ hy]; exact hu) hz (Eq.refl _)

theorem plantResumed_zoneDT : (plantResumed s.resuming).dock.zoneDT = (climateResume s.powered).dock.zoneDT := by
  rw [plantResumed_eq, zoneDT_of_outsideLighting (deriveLights_outsideLighting _), dockPlantChange_zoneDT]

end

end Sys2Proof.Machine
end

section
/-! PROOFS. The fire-panel input and RESUME (R156, R157). -/

namespace Sys2Proof.Machine

variable {s t u v w : State} {c : Channel} {z y : Fin 12} {i j : Fin 128} {tag : Byte} {rest : List Frame}

/-! ### A channel that is asked for nothing -/

/-- A step channel that holds nothing and is asked for nothing has no entry when the queue is kept. -/
theorem requeue_entry (h : ¬(s.chan i).granted < (s.chan i).target) : ((requeue s).chan i).entry = none := by
  obtain ⟨before, after, hb, ha, e⟩ := forEach_split i
  have kept (f : Channel → Nat) (hf : ∀ c e o, f { c with entry := e, out := o } = f c) (l : List (Fin 128)) (u : State) :
      f ((forEach l (keepEntry false) u).chan i) = f (u.chan i) :=
    forEach_same (P := fun u => f (u.chan i)) (fun j u => keepEntry_field f hf false j i u) l u
  unfold requeue
  rw [e, forEach_keeps_besides (I := fun u => u.chan i = (keepEntry false i (forEach before (keepEntry false) s)).chan i)
    (fun j u hj hu => (keepEntry_chan_ne hj false u).trans hu) ha (Eq.refl _), keepEntry_entry]
  have granted := kept Channel.granted (fun _ _ _ => rfl) before s
  have target := kept Channel.target (fun _ _ _ => rfl) before s
  generalize forEach before (keepEntry false) s = u at *
  have unwanted : (u.chan i).wantsEntry u.stop.state = false := by
    unfold Channel.wantsEntry
    rw [granted, target]
    simp [h]
  unfold State.entryKept
  simp [unwanted]

theorem powered_idle (hr : (s.chan i).cfg.role.isStep = true) (ht : (s.chan i).target = 0) (hg : (s.chan i).granted = 0) :
    (s.powered.chan i).granted = 0 ∧ (s.powered.chan i).entry = none := by
  have asked : ((requeue s.resuming).chan i).asked = (s.chan i).asked := by rw [requeue_asked, resuming_chan]
  have granted : ((requeue s.resuming).chan i).granted = 0 := by rw [requeue_granted, resuming_chan, hg]
  have entry : ((requeue s.resuming).chan i).entry = none := requeue_entry (by rw [resuming_chan, ht]; exact Nat.not_lt_zero _)
  unfold State.powered
  rw [budgetResume_eq]
  generalize requeue s.resuming = m at *
  have stands : (reprotect m).chan i = (figure (protect m)).chan i :=
    handOver_chan_idle _ (by rw [figure_chan, protect_chan, cfg_of_asked asked]; exact hr) granted entry
  rw [stands]
  exact ⟨granted, entry⟩

/-- The evaluation of another zone leaves such a channel. -/
theorem idle_closed (hr : c.cfg.role.isStep = true) (he : c.entry = none) (hb : c.boundTo .heater z = true ∨ c.boundTo .fan z = true) (hy : y ≠ z) :
    ZoneClosed y fun u => u.chan i = c where
  target j r v m u _ h := by
    by_cases hij : j = i
    · subst hij
      have unbound : (u.chan j).boundTo r y = false := by
        rw [h, Bool.eq_false_iff]
        exact fun hn => hy (Fin.ext (hb.elim (boundTo_unique hn) (boundTo_unique hn)))
      rw [targetChange_of_not_bound unbound]
      exact h
    · have walked := targetChange_walked hij r y v m u
      rw [h] at walked
      exact walked.same (deficit_of_not_light (isStep_ne_light hr)) (.inl he)
  zone _ _ _ h := h
  deltaT v u h := (chan_of_budget (State.SameBudget.zoneDTEvent y v u).budget i).trans h
  draw _ h := h
  notice k n b u h := (chan_of_budget (raise_budget k n b u) i).trans h

/-! ### The evaluations of RESUME -/

theorem retime_retime (s : State) (z : Fin 12) (m n : Nat) : (s.retime z m).retime z n = s.retime z n := by
  unfold State.retime
  rw [zone_putZone_self, putZone_putZone]

theorem evaluationExpired_retime (z : Fin 12) (s : State) : evaluationExpired z (s.retime z 0) = (evaluate z s).retime z 60 := by
  have expired (u : State) : evaluationExpired z u = (evaluate z u).retime z 60 := rfl
  rw [expired, evaluate_retime, retime_retime]

/-- The evaluation that RESUME takes of a zone is the one its timer's expiry would take (R132). -/
theorem resume_serves (s : State) (z : Fin 12) : ∃ u, s.ServesZone u (evaluate z u) (plantResumed s.resuming) z
    ∧ u.stop = (plantResumed s.resuming).stop ∧ u.lighting = s.lighting
    ∧ look (plantResumed s.resuming).dock.zoneDT z = look (evaluate z u).dock.zoneDT z
    ∧ ∀ i, (s.chan i).boundTo .heater z = true ∨ (s.chan i).boundTo .fan z = true →
        (s.chan i).target = 0 → (s.chan i).granted = 0 → (u.chan i).granted = 0 := by
  obtain ⟨before, after, hb, ha, e, pass, passed⟩ := served evaluate_takes s.powered z
  have beside : (forEach before evaluate s.powered).outsideClimate = s.powered.outsideClimate :=
    forEach_same (P := State.outsideClimate) (fun y u => evaluate_outsideClimate u y) _ _
  have follows : s.Follows (forEach before evaluate s.powered) :=
    forEach_keeps (I := s.Follows) (fun y _ hu => (State.Follows.units s).evaluate y hu) _ _ (powered_follows s)
  have zones : (evaluate z (forEach before evaluate s.powered)).Follows (climateResume s.powered) := by
    unfold climateResume
    rw [e]
    exact forEach_keeps (I := State.Follows _) (fun y _ hu => (State.Follows.units _).evaluate y hu) _ _ (.refl _)
  have followed : (evaluate z (forEach before evaluate s.powered)).Follows (plantResumed s.resuming) := by
    rw [plantResumed_eq]
    exact (State.Follows.units _).deriveLights ((State.Follows.units _).dockPlantChange zones)
  have copies : look (plantResumed s.resuming).dock.zoneDT z = look (evaluate z (forEach before evaluate s.powered)).dock.zoneDT z := by
    rw [plantResumed_zoneDT]
    unfold climateResume
    rw [e]
    exact evaluations_zoneDT _ ha
  refine ⟨_, servesZone_of_passes (powered_rest s) (powered_climate s) (powered_asked s) pass beside follows (evaluate_cfg z _) passed
    (plantResumed_climate s) (fun j hr => resume_asks_zones s hr) followed, ?_, (lighting_of_outsideClimate beside).trans (powered_lighting s), copies,
    fun i hi ht hg => ?_⟩
  · rw [plantResumed_stop, stop_of_outsideClimate beside, powered_stop]
  · have step : (s.chan i).cfg.role.isStep = true := by
      obtain hr | hr := role_of_bound hi <;> rw [hr] <;> rfl
    have cfg := cfg_of_asked (powered_asked s i)
    obtain ⟨granted, entry⟩ := powered_idle step ht hg
    have stands := forEach_keeps_besides (I := fun u => u.chan i = s.powered.chan i) (fun y u hy hu =>
      (idle_closed (i := i) (by rw [cfg]; exact step) entry (by rwa [boundTo_congr cfg, boundTo_congr cfg]) hy).evaluate hu) hb (Eq.refl _)
    rw [stands]
    exact granted

/-! ### The words of the claim -/

theorem lightTarget_mem (s : State) (x : Door) :
    s.lightTarget x = if s.stop.state = .running ∧ x.state ∈ [.openDocked, .openBare, .held] then 1 else 0 := by
  rw [lightTarget_eq]
  simp only [List.mem_cons, List.not_mem_nil, or_false]

theorem curtainTarget_mem (s : State) (x : Door) : s.curtainTarget x = if s.stop.state = .running ∧ x.state ∈ [.openBare, .held] then 1 else 0 := by
  rw [curtainTarget_eq]
  simp only [List.mem_cons, List.not_mem_nil, or_false]

theorem aimed_eq (s : State) (x : Door) : s.aimed x.forgetLoss = ({ x with
    sentLight := if x.cfg.light.isSome then s.lightTarget x else x.sentLight
    sentCurtain := if x.cfg.curtain.isSome then s.curtainTarget x else x.sentCurtain } : Door).forgetLoss := by
  unfold State.aimed
  rw [lightTarget_forgetLoss, curtainTarget_forgetLoss]
  have choose (o : Option (Fin 128)) (a b : Nat) : (if o = none then b else a) = if o.isSome then a else b := by cases o <;> rfl
  rw [choose, choose]
  rfl

theorem reaches_iff : s.reaches i ↔ (∃ z : Fin 12, ((s.zone z).cfg.heater = some i ∧ (s.chan i).cfg.role = .heater ∧ (s.chan i).cfg.roleTarget = some z.val)
      ∨ ((s.zone z).cfg.fan = some i ∧ (s.chan i).cfg.role = .fan ∧ (s.chan i).cfg.roleTarget = some z.val))
    ∨ (∃ d : Fin 32, ((s.door d).cfg.light = some i ∧ (s.chan i).cfg.role = .docklight ∧ (s.chan i).cfg.roleTarget = some d.val)
      ∨ ((s.door d).cfg.curtain = some i ∧ (s.chan i).cfg.role = .curtain ∧ (s.chan i).cfg.roleTarget = some d.val))
    ∨ ∃ z, s.lightBinding z = some i := by
  simp only [State.reaches, State.heaterOf, State.fanOf, wired_iff, Channel.boundTo_iff]

/-- What every unit takes from the change, with the figures and the trips that stand over it. -/
structure State.ChangesPlant (s t : State) : Prop extends s.TakesPlant t where
  figures : s.reprotects t
  trips : s.TripsStand t

theorem stop_changes (s : State) : s.ChangesPlant (plantStopped s.stopping) := ⟨stop_takes s, stop_reprotects s, stop_trips s⟩

theorem resume_changes (s : State) : s.ChangesPlant (plantResumed s.resuming) := ⟨resume_takes s, resume_reprotects s, resume_trips s⟩

/-- The request that brings the change is taken before it, and answered behind it. -/
theorem State.ChangesPlant.replied (h : (s.taken rest).ChangesPlant t) (tag kind : Byte) (b : Bytes) : s.ChangesPlant (sendReply tag kind b t) where
  rest := ⟨h.rest.plan, h.rest.store, h.rest.stage, h.rest.seconds, h.rest.dock, h.rest.climate⟩
  lights := h.lights
  shape := h.shape
  light := h.light
  curtain := h.curtain
  cfg := h.cfg
  asked := h.asked
  figures := h.figures
  trips := h.trips

theorem State.TakesPlant.door (h : s.TakesPlant t) (d : Fin 32) : (t.door d).forgetLoss = ({ s.door d with
    sentLight := if (s.door d).cfg.light.isSome then t.lightTarget (s.door d) else (s.door d).sentLight
    sentCurtain := if (s.door d).cfg.curtain.isSome then t.curtainTarget (s.door d) else (s.door d).sentCurtain } : Door).forgetLoss :=
  (h.shape d).trans (aimed_eq t (s.door d))

/-! ### The fire-panel input (R156) -/

theorem exec_firePanel_again (hs : s.stage = .running) (hr : s.stop.state = .released) :
    exec (.firePanelSample true) s = .next (raise .plantStop 0 [0x02] (s.setStop ⟨.stopped, true, s.seconds⟩)) := by
  rw [exec_firePanelSample hs]
  unfold fireAsserted
  simp only [hr, reduceCtorEq, if_false, if_true]
  rfl

theorem exec_firePanel_clears (hs : s.stage = .running) (hr : s.stop.state = .stopped) :
    exec (.firePanelSample false) s = .next (raise .plantReleased 0 (le16 (min 65535 (s.seconds - s.stop.stopStamp)))
      (s.setStop ⟨.released, false, s.stop.stopStamp⟩)) := by
  rw [exec_firePanelSample hs]
  unfold fireCleared
  rw [if_neg Bool.false_ne_true, if_pos hr]

theorem exec_firePanel_records (level : Bool) (h : s.stage ≠ .running ∨ (level = true ∧ s.stop.state = .stopped)
    ∨ (level = false ∧ s.stop.state ≠ .stopped)) : exec (.firePanelSample level) s = .next (s.setStop { s.stop with fire := level }) := by
  by_cases hs : s.stage = .running
  · rw [exec_firePanelSample hs]
    obtain ⟨rfl, hp⟩ | ⟨rfl, hp⟩ := h.resolve_left (not_not.mpr hs)
    · rw [if_pos rfl]
      unfold fireAsserted
      exact congrArg Host.Outcome.next (if_pos hp)
    · rw [if_neg Bool.false_ne_true]
      unfold fireCleared
      rw [if_neg hp]
  · exact if_neg hs

/-- A notice raised over a change of Stop Control alone. -/
theorem raised_beside (s : State) (c : StopControl) (k : NoticeKind) (n : Nat) (b : Bytes) :
    let t := raise k n b (s.setStop c)
    t.stop = c ∧ ({ t with stop := s.stop, line := s.line } : State) = s ∧ t.line.forgetNotices = s.line.forgetNotices
      ∧ (s.admits k → s.raised t ⟨k, s.plan.clock, n, b⟩) := by
  have follows : (s.setStop c).Follows (raise k n b (s.setStop c)) := (State.Follows.refl _).raise k n b
  refine ⟨raise_stop _ _ _ _, ?_, follows.2, fun ha => raise_raised (t := s.setStop c) rfl rfl n b ha⟩
  unfold raise
  split <;> rfl

end Sys2Proof.Machine
end

section
/-! PROOFS. The settlement of O57: plant stop and RESUME (R49, R101, R132, R143, R150, R156, R157). -/

namespace Sys2Proof.Machine

variable {s t : State} {z : Fin 12} {i : Fin 128} {tag : Byte} {rest : List Frame}

theorem zoneDT_of_outside (h : t.outsideBudget = s.outsideBudget) : t.dock.zoneDT = s.dock.zoneDT := (congrArg (fun v : State => v.dock.zoneDT) h :)

theorem stopZone_zoneDT (z : Fin 12) (s : State) : (stopZone z s).dock.zoneDT = s.dock.zoneDT := by
  have cooled := (sendHeater_beside z 0 ((State.BesideZone.refl s).putZone z { s.zone z with mode := .stopped, integral := 0, call := 0 }))
  have vented := (setVent_beside z .stopped cooled).putZone z
    { (setVent z .stopped (coolZone z s)).zone z with lowerCandidate := none }
  exact (sendFan_beside z 0 vented).zoneDT

/-- What a stop leaves a step channel (R49). -/
theorem stop_step (s : State) (hr : ((plantStopped s.stopping).chan i).cfg.role.isStep = true) :
    ((plantStopped s.stopping).chan i).granted = 0 ∧ ((plantStopped s.stopping).chan i).entry = none
      ∧ (0 < (s.chan i).granted → ((plantStopped s.stopping).chan i).minOnT = none
          ∧ ((plantStopped s.stopping).chan i).minOffT = if (s.chan i).cfg.minOff = 0 then none else some (s.chan i).cfg.minOff)
      ∧ ((s.chan i).granted = 0 → ((plantStopped s.stopping).chan i).minOnT = (s.chan i).minOnT
          ∧ ((plantStopped s.stopping).chan i).minOffT = (s.chan i).minOffT) := by
  obtain ⟨granted, entry, minOn, minOff⟩ := ((stop_stilled s).2 i).1 hr
  rw [(stop_takes s).cfg] at hr
  obtain ⟨o, e⟩ := stopChannels_chan (stopping_off s) i
  rw [stopping_chan] at e
  unfold Channel.stopped at e
  rw [if_pos hr] at e
  rw [e] at minOn minOff
  generalize plantStopped s.stopping = t at *
  refine ⟨granted, entry, fun hg => ⟨minOn.trans (if_pos hg), minOff.trans ((if_pos hg).trans (startTimer_eq _))⟩, fun hg => ?_⟩
  have none : ¬0 < (s.chan i).granted := by omega
  exact ⟨minOn.trans (if_neg none), minOff.trans (if_neg none)⟩

theorem climateStop_zoneDT (s : State) : (climateStop s).dock.zoneDT = s.dock.zoneDT := by
  unfold climateStop
  exact forEach_keeps (I := fun u => u.dock.zoneDT = s.dock.zoneDT) (fun z u hu => (stopZone_zoneDT z u).trans hu) _ s (Eq.refl _)

theorem stop_zoneDT (s : State) : (plantStopped s.stopping).dock.zoneDT = s.dock.zoneDT := by
  have budget : s.unpowered.dock.zoneDT = s.stopping.dock.zoneDT := zoneDT_of_outside (unpowered_outside s)
  rw [plantStopped_eq, zoneDT_of_outsideLighting (lightingStop_outsideLighting _), dockPlantChange_zoneDT, climateStop_zoneDT, budget, stopping_dock]

theorem exhaustReading_bind (s : State) (z : Fin 12) : s.exhaustReading z = (s.zone z).cfg.exhaustPoint.bind fun p =>
    if (look s.climate.exhausts p).state = .good then (look s.climate.exhausts p).value else none := by
  unfold State.exhaustReading
  cases (s.zone z).cfg.exhaustPoint <;> rfl

theorem resume_follows (s : State) : s.Follows (plantResumed s.resuming) :=
  (State.Follows.units s).deriveLights ((State.Follows.units s).dockPlantChange ((State.Follows.units s).climateResume (powered_follows s)))

theorem stop_raised (hr : s.stop.state = .running) (ha : s.admits .plantStop) :
    s.raised (plantStopped s.stopping) ⟨.plantStop, s.plan.clock, 0, [0x00]⟩ := by
  have first : s.raised s.stopping ⟨.plantStop, s.plan.clock, 0, le8 s.stop.state.code⟩ :=
    raise_raised (t := s.setStop ⟨.stopped, true, s.seconds⟩) rfl rfl 0 _ ha
  rw [hr] at first
  have closed := State.Follows.units s.stopping
  exact first.follows (closed.lightingStop (closed.dockPlantChange (closed.climateStop ((State.Follows.budget _).budgetStop (.refl _)))))

theorem resume_raised (ha : s.admits .plantResumed) : s.raised (plantResumed s.resuming) ⟨.plantResumed, s.plan.clock, 0, []⟩ := by
  have first : s.raised s.resuming ⟨.plantResumed, s.plan.clock, 0, []⟩ :=
    raise_raised (t := s.setStop { s.stop with state := .running }) rfl rfl 0 _ ha
  have closed := State.Follows.units s.resuming
  exact first.follows (closed.deriveLights (closed.dockPlantChange (closed.climateResume ((State.Follows.budget _).budgetResume (.refl _)))))

/-- The evaluation of a zone that RESUME takes, as its timer's expiry would take it in a state that RESUME passes (R132). -/
theorem resume_zone (s : State) (hs : s.stage = .running) (z : Fin 12) : ∃ v w, exec (.zoneEvaluation z) v = .next w
    ∧ v.stage = .running ∧ v.stop = (plantResumed s.resuming).stop ∧ v.seconds = s.seconds ∧ v.lighting = s.lighting
    ∧ v.plan.forgetTotals = s.plan.forgetTotals ∧ ({ v.climate with zones := s.climate.zones } : Climate) = s.climate
    ∧ v.zone z = { s.zone z with evalT := 0 } ∧ s.line.notices <+: v.line.notices ∧ w.line.notices <+: (plantResumed s.resuming).line.notices
    ∧ (plantResumed s.resuming).zone z = { w.zone z with evalT := (s.zone z).evalT }
    ∧ ((plantResumed s.resuming).zone z).figures.evaluated = true
    ∧ look (plantResumed s.resuming).dock.zoneDT z = look w.dock.zoneDT z
    ∧ ∀ i, (s.chan i).boundTo .heater z = true ∨ (s.chan i).boundTo .fan z = true →
        (v.chan i).asked = (s.chan i).asked ∧ ((plantResumed s.resuming).chan i).target = (w.chan i).target
          ∧ ((s.chan i).target = 0 → (s.chan i).granted = 0 → (v.chan i).granted = 0) := by
  obtain ⟨u, serves, stop, lighting, copies, idle⟩ := resume_serves s z
  generalize plantResumed s.resuming = t at *
  have stage : u.stage = .running := serves.rest.stage.trans hs
  have run := exec_evaluation_due (s := u.retime z 0) (z := z) stage (congrArg Zone.evalT (retime_zone 0 u z))
  rw [evaluationExpired_retime] at run
  have zone : (evaluate z u).zone z = u.evaluated z := evaluate_zone u z
  have left := serves.zoneAfter
  have timed : ((evaluate z u).zone z).evalT = (s.zone z).evalT := by rw [zone, ← serves.zone]; rfl
  have evaluated : ((evaluate z u).zone z).figures.evaluated = true := by rw [zone]; rfl
  have asked (i : Fin 128) := serves.asked i
  have after (i : Fin 128) := serves.askedAfter i
  have followed := serves.followed
  generalize evaluate z u = w at *
  refine ⟨u.retime z 0, w.retime z 60, run, stage, stop, serves.rest.seconds, lighting, serves.rest.plan, serves.rest.climate _, ?_, serves.follows.1,
    followed.1, ?_, by rw [left, evaluated], copies, fun i hi => ⟨asked i hi, target_of_asked (after i hi), idle i hi⟩⟩
  · rw [retime_zone, serves.zone]
  · rw [left, retime_zone, ← timed]

theorem resume_refused (h : s.takes ⟨tag, 0x50, []⟩ rest) :
    (s.stop.state = .stopped → exec (.resume tag []) s = .next (s.answered rest tag 0x50 [0x1C, 0x01]))
      ∧ (s.stop.state = .running → exec (.resume tag []) s = .next (s.answered rest tag 0x50 [0x17, 0x00])) := by
  have found : (s.taken rest).stop.state = s.stop.state := rfl
  refine ⟨fun hr => ?_, fun hr => ?_⟩
  all_goals
    change request 0x50 tag [] _ s = _
    refine request_answers (n := 0) (by decide) rfl h ?_
    rw [found, hr]
    rfl

theorem resume_runs (hp : s.stop.state = .released) (h : s.takes ⟨tag, 0x50, []⟩ rest) :
    exec (.resume tag []) s = .next (sendReply tag 0x50 [0x00, 0x00] (plantResumed (s.taken rest).resuming)) := by
  change request 0x50 tag [] _ s = _
  refine request_runs (n := 0) (by decide) rfl h ?_
  have found : (s.taken rest).stop.state = .released := hp
  dsimp only
  rw [found]
  dsimp only
  rw [resumePlant_eq, plantResumed_stop]
  rfl

/-- Settles O57: each unit's part of the change writes its own records and asks its own channels, one zone, door or light after the other; what
the Load Budget Unit leaves of the channels stands over what the others then ask for. -/
theorem plantStopsAndResumes : Obligations.PlantStopsAndResumes := by
  unfold Obligations.PlantStopsAndResumes
  intro bound reached doors common
  have commons (s t : State) (h : s.ChangesPlant t) : common s t := by
    refine ⟨h.lights, fun d => ?_, h.figures, fun i => ⟨h.cfg i, h.trips i⟩, fun i hi => h.asked i fun hr => hi (reaches_iff.mp hr), h.rest.plan,
      h.rest.store, h.rest.stage, h.rest.seconds, h.rest.dock _ _, h.rest.climate _⟩
    have light := lightTarget_mem t (s.door d)
    have curtain := curtainTarget_mem t (s.door d)
    refine ⟨?_, fun i hi hb => ?_, fun i hi hb => ?_⟩
    · rw [h.door, light, curtain]
    · rw [h.light d i hi (Channel.boundTo_iff.mpr hb), light]
      rfl
    · rw [h.curtain d i hi (Channel.boundTo_iff.mpr hb), curtain]
      rfl
  refine ⟨⟨fun s hs hr => ?_, fun s hs hr => ?_, fun s hs hr => ?_, fun s level h => exec_firePanel_records level h⟩,
    fun s tag rest h => resume_refused h, fun s tag rest h hp => ?_⟩
  · have run : exec (.firePanelSample true) s = .next (plantStopped s.stopping) := by
      rw [exec_firePanelSample hs, if_pos rfl, fireAsserted_running hr]
    have copies : (plantStopped s.stopping).dock.zoneDT = s.dock.zoneDT := stop_zoneDT s
    have stop := plantStopped_stop s
    have changes := commons _ _ (stop_changes s)
    have steps (i : Fin 128) := stop_step (i := i) s
    have lights (i : Fin 128) := ((stop_stilled s).2 i).2
    have unshed := stop_unshed s
    have walk := stop_walk s
    have walkDone := stop_walkDone s
    have zone (z : Fin 12) := stop_zone s z
    have heater (z : Fin 12) (i : Fin 128) := stop_heater (i := i) s z
    have fan (z : Fin 12) (i : Fin 128) := stop_fan (i := i) s z
    have purge (z : Fin 12) := stop_purgeEnd s z
    have raised := stop_raised hr
    generalize plantStopped s.stopping = t at *
    refine ⟨t, run, stop, changes, steps, lights, fun hl n hn => (unshed hl).joined hn, walk, walkDone,
      fun z => ⟨zone z, fun i hi hb => heater z i (wired_iff.mpr ⟨hi, Channel.boundTo_iff.mpr hb⟩),
        fun i hi hb => fan z i (wired_iff.mpr ⟨hi, Channel.boundTo_iff.mpr hb⟩), fun hx => ?_⟩, copies, raised⟩
    have reported := purge z hx
    rw [exhaustReading_bind, leOpt16_map_toNat] at reported
    exact reported
  · obtain ⟨stop, beside, line, raised⟩ := raised_beside s ⟨.stopped, true, s.seconds⟩ .plantStop 0 [0x02]
    exact ⟨_, exec_firePanel_again hs hr, stop, beside, line, raised⟩
  · obtain ⟨stop, beside, line, raised⟩ := raised_beside s ⟨.released, false, s.stop.stopStamp⟩ .plantReleased 0
      (le16 (min 65535 (s.seconds - s.stop.stopStamp)))
    exact ⟨_, exec_firePanel_clears hs hr, stop, beside, line, raised⟩
  · have run := resume_runs hp h
    have sent : (plantResumed (s.taken rest).resuming).line.sent = s.line.sent := (resume_follows (s.taken rest)).sent
    have stop := plantResumed_stop (s.taken rest)
    have changes := commons _ _ ((resume_changes (s.taken rest)).replied tag 0x50 [0x00, 0x00])
    have walk := plantResumed_walk (s.taken rest)
    have zones := resume_zone (s.taken rest) h.1
    have raised := resume_raised (s := s.taken rest)
    generalize plantResumed (s.taken rest).resuming = t at *
    refine ⟨_, run, replied_of_sent sent, stop, changes, walk, fun z => ?_, raised⟩
    obtain ⟨v, w, evaluation, stage, stop', seconds, lighting, plan, climate, zone, before, after, left, evaluated, copies, asked⟩ := zones z
    exact ⟨v, w, evaluation, stage, stop', seconds, lighting, plan, climate, zone, before, after, left, evaluated, copies, fun i hi =>
      asked i (hi.imp (fun hb => Channel.boundTo_iff.mpr hb.2) fun hb => Channel.boundTo_iff.mpr hb.2)⟩

end Sys2Proof.Machine
end

section
/-! SUPPORT. The Load Budget Unit's part of a PLANT restart (R43, R72, R85). -/

namespace Sys2Proof.Machine

variable {I : State → Prop} {s t u : State} {c : Channel} {i j : Fin 128} {p : PlantState}

/-! ### Each channel's part (R43) -/

/-- A channel as its part of a PLANT restart leaves it, but for its output. -/
def Channel.restarted (p : PlantState) (c : Channel) : Channel := { c with target := 0, minOnT := none, entry := none, granted := c.protPart p }

theorem restartChannel_chan (i : Fin 128) (s : State) : ∃ o, (restartChannel i s).chan i = { (s.chan i).restarted s.stop.state with out := o } := by
  unfold restartChannel
  dsimp only
  rw [setGranted_chan, chan_putChan_self, chan_putChan_self]
  exact ⟨_, rfl⟩

/-- Every channel with its part of a PLANT restart done. -/
def restartChannels (s : State) : State := forEach (indices 128) restartChannel s

theorem budgetRestart_eq (s : State) : budgetRestart s = endEvent (restartChannels s) := rfl

theorem restartChannel_stop (i : Fin 128) (s : State) : (restartChannel i s).stop = s.stop := stop_of_outside (restartChannel_outside s i)

theorem restartChannels_outside (s : State) : (restartChannels s).outsideBudget = s.outsideBudget :=
  forEach_same (P := State.outsideBudget) (fun i u => restartChannel_outside u i) _ s

theorem restartChannels_chan (s : State) (i : Fin 128) : ∃ o, (restartChannels s).chan i = { (s.chan i).restarted s.stop.state with out := o } := by
  refine forEach_settles (P := fun i u => ∃ o, u.chan i = { (s.chan i).restarted s.stop.state with out := o })
    (Q := fun i u => u.chan i = s.chan i ∧ u.stop = s.stop) ?_ ?_ ?_ _ (nodup_indices 128) s (fun _ _ => ⟨rfl, rfl⟩) i (.inl (mem_indices i))
  · rintro a u ⟨chan, stop⟩
    have settled := restartChannel_chan a u
    rwa [chan, stop] at settled
  · intro a b u hb hu
    rwa [restartChannel_chan_ne (Ne.symm hb)]
  · rintro a b u hb ⟨chan, stop⟩
    exact ⟨(restartChannel_chan_ne (Ne.symm hb) u).trans chan, (restartChannel_stop a u).trans stop⟩

theorem restartChannel_serial (i : Fin 128) (s : State) : (restartChannel i s).budget.lastSerial = s.budget.lastSerial := by
  unfold restartChannel
  dsimp only
  rw [setGranted_budget]
  rfl

theorem restartChannels_serial (s : State) : (restartChannels s).budget.lastSerial = s.budget.lastSerial := by
  unfold restartChannels
  exact forEach_keeps (I := fun u => u.budget.lastSerial = s.budget.lastSerial) (fun i u hu => (restartChannel_serial i u).trans hu) _ s (Eq.refl _)

theorem restartChannels_figures (s : State) : (restartChannels s).line = s.line ∧ s.budget.SameFigures (restartChannels s).budget :=
  forEach_keeps (I := fun u => u.line = s.line ∧ s.budget.SameFigures u.budget) (fun i _ hu => (grantClosed_figures s).restartChannel i hu) _ s
    ⟨Eq.refl _, .refl _⟩

/-- A property of the arbiter's events survives a restart of the channels as well. -/
theorem ArbiterClosed.budgetRestart (c : ArbiterClosed I) (put : ∀ i x s, x.cfg = (s.chan i).cfg → x.granted = (s.chan i).granted → I s → I (s.putChan i x))
    (h : I s) : I (budgetRestart s) := by
  have restarted : I (restartChannels s) := forEach_keeps (I := I) (fun i u hu => by
    unfold restartChannel
    dsimp only
    refine c.grant i _ _ (fun _ => ?_) (put i _ u rfl rfl hu)
    rw [chan_putChan_self]
    exact Nat.min_le_right _ _) _ s h
  rw [budgetRestart_eq]
  exact c.endEvent restarted

/-! ### The end of its event -/

/-- Nothing waits after the restart of the channels. -/
theorem restarted_idle (p : PlantState) (c : Channel) : (c.restarted p).entry = none ∧ (c.restarted p).deficit = 0 := by
  refine ⟨rfl, ?_⟩
  unfold Channel.deficit Channel.restarted
  cases c.cfg.role <;> simp [units, ceilDiv]

theorem restarted_nonProtected (p : PlantState) (c : Channel) : (c.restarted p).nonProtected p = 0 := by
  unfold Channel.nonProtected Channel.restarted
  cases h : c.cfg.role with
  | unused => rfl
  | light => exact Nat.sub_self _
  | heater | fan | curtain | docklight =>
    dsimp only
    rw [protPart_of_not_light (by rw [h]; decide), Nat.zero_mul]

theorem restartChannels_poolUse (s : State) : (restartChannels s).poolUse = 0 := by
  refine poolUse_of_nonProtected fun i => ?_
  obtain ⟨o, e⟩ := restartChannels_chan s i
  rw [e, stop_of_outside (restartChannels_outside s)]
  exact restarted_nonProtected _ _

/-- The state before the tight flag is compared, with nothing shed. -/
theorem budgetRestart_settles (s : State) :
    budgetRestart s = settleTight ((restartChannels s).setBudget { (restartChannels s).budget with shed := false }) := by
  rw [budgetRestart_eq]
  unfold endEvent
  rw [settleShed_of_idle fun i => ?_]
  obtain ⟨o, e⟩ := restartChannels_chan s i
  rw [e]
  exact restarted_idle _ _

theorem budgetRestart_chan (s : State) (i : Fin 128) : ∃ o, (budgetRestart s).chan i = { (s.chan i).restarted s.stop.state with out := o } := by
  rw [budgetRestart_eq, endEvent_chan]
  exact restartChannels_chan s i

theorem restarted_budget {b : LoadBudget} (h : s.budget.SameFigures b) (hs : b.lastSerial = s.budget.lastSerial) (f : Bool) :
    ({ b with shed := false, tight := f } : LoadBudget) = { s.budget with channels := b.channels, tight := f, shed := false } := by
  rw [h, hs]

theorem budgetRestart_budget (s : State) : (budgetRestart s).budget
    = { s.budget with channels := (budgetRestart s).budget.channels, tight := (budgetRestart s).budget.tight, shed := false } := by
  have figures := (restartChannels_figures s).2
  have serial := restartChannels_serial s
  rw [budgetRestart_settles, settleTight_budget]
  generalize restartChannels s = u at *
  exact restarted_budget figures serial _

theorem le32_mod (n : Nat) : le32 (n % 2 ^ 32) = le32 n := by
  have byte {a b : Nat} (h : a % 256 = b % 256) : BitVec.ofNat 8 a = BitVec.ofNat 8 b := BitVec.eq_of_toNat_eq (by simpa using h)
  unfold le32 le16
  rw [byte (a := n % 2 ^ 32) (b := n) (by omega), byte (a := n % 2 ^ 32 / 256) (b := n / 256) (by omega),
    byte (a := n % 2 ^ 32 / 65536) (b := n / 65536) (by omega), byte (a := n % 2 ^ 32 / 65536 / 256) (b := n / 65536 / 256) (by omega)]

theorem leInt32_natCast (n : Nat) : leInt32 n = le32 n := by
  unfold leInt32
  rw [BitVec.ofInt_natCast, BitVec.toNat_ofNat, le32_mod]

/-- Nothing is drawn from the pool of v, so the tight condition does not hold there. -/
theorem not_isTight_of_unused {v : State} (use : v.poolUse = 0) (hp : v.profile.tight ≤ 1000) : v.isTight = false ∧ v.free = (v.budget.pool : Int) := by
  have free : v.free = (v.budget.pool : Int) := by
    unfold State.free
    rw [use]
    simp
  refine ⟨?_, free⟩
  unfold State.isTight
  rw [free, decide_eq_false_iff_not, not_lt]
  exact_mod_cast Nat.mul_le_mul_left _ hp

theorem poolUse_unshed (v : State) : (v.setBudget { v.budget with shed := false }).poolUse = v.poolUse := poolUse_of_holdings rfl

/-- A tight flag that was set is cleared with BUDGET_EASED (R72). -/
theorem budgetRestart_eases (ht : s.budget.tight = true) (hp : s.profile.tight ≤ 1000) (hu : (budgetRestart s).Follows u) :
    s.reports u ⟨.budgetEased, s.plan.clock, 0, le32 s.budget.pool ++ le32 s.budget.pool ++ le8 s.plan.current.fields.profile⟩ := by
  have plan : (restartChannels s).plan.forgetTotals = s.plan.forgetTotals := plan_of_outside (restartChannels_outside s)
  obtain ⟨line, figures⟩ := restartChannels_figures s
  have use : ((restartChannels s).setBudget { (restartChannels s).budget with shed := false }).poolUse = 0 :=
    (poolUse_unshed _).trans (restartChannels_poolUse s)
  rw [budgetRestart_settles] at hu
  generalize restartChannels s = v at *
  have pool : (v.setBudget { v.budget with shed := false }).budget.pool = s.budget.pool := figures.pool
  have flag : (v.setBudget { v.budget with shed := false }).budget.tight = true := figures.tight.trans ht
  have plan' : (v.setBudget { v.budget with shed := false }).plan.forgetTotals = s.plan.forgetTotals := plan
  have line' : (v.setBudget { v.budget with shed := false }).line = s.line := line
  generalize v.setBudget { v.budget with shed := false } = w at *
  have profile : w.profile = s.profile := by
    unfold State.profile
    rw [plan_fields_of_forgetTotals plan']
  have current : w.plan.current = s.plan.current := by rw [plan_fields_of_forgetTotals plan']
  obtain ⟨eased, free⟩ := not_isTight_of_unused use (profile ▸ hp)
  have data : w.tightData = le32 s.budget.pool ++ le32 s.budget.pool ++ le8 s.plan.current.fields.profile := by
    unfold State.tightData
    rw [free, pool, leInt32_natCast, current]
  rw [settleTight_of_changed (by rw [eased, flag]; decide), eased, if_neg Bool.false_ne_true, data] at hu
  rw [← clock_of_plan plan']
  exact reports_of_raise (t := w.setBudget { w.budget with tight := false }) ((State.Follows.refl s).of_line line') hu

end Sys2Proof.Machine
end

section
/-! SUPPORT. The lighting targets that end a PLANT restart: no channel waits, so what they ask of LIGHT channels reaches no door, no total and no
other channel (R47, R74, R145, R147). -/

namespace Sys2Proof.Machine

variable {s t u v : State} {c : Channel} {p : Fin 128 → Prop} {i j : Fin 128} {z : Fin 24}

theorem visitQueue_of_unqueued (h : ∀ j, (u.chan j).entry = none) (l : List (Fin 128)) : visitQueue l u = u := by
  induction l with
  | nil => rfl
  | cons i l ih =>
    unfold visitQueue
    dsimp only
    rw [h i]
    exact ih

/-- A grant of a LIGHT channel tells no door. -/
theorem setGranted_of_light (h : (s.chan i).cfg.role = .light) (g : Nat) : setGranted i g s = s.putChan i { s.chan i with granted := g } := by
  have deaf : (s.putChan i { s.chan i with granted := g }).hears i = none := by
    unfold State.hears
    rw [chan_putChan_self, if_neg (by rw [h]; decide)]
    rfl
  unfold setGranted
  dsimp only
  split
  · rfl
  · rw [curtainGrant_eq, deaf]
    rfl

/-- Between s and u, where nothing waits in the queue, channels of p alone were written, and of the Load Budget Unit beside its channels the
step-up serial and the flags, of which the shed condition can only have been cleared. -/
structure State.WritesLights (p : Fin 128 → Prop) (s u : State) : Prop where
  dock : u.dock = s.dock
  plan : u.plan = s.plan
  entry : ∀ j, (u.chan j).entry = none
  timers : ∀ j, (u.chan j).minOnT = (s.chan j).minOnT ∧ (u.chan j).minOffT = (s.chan j).minOffT
  unlit : ∀ j, ¬p j → u.chan j = s.chan j
  budget : u.budget = { s.budget with
    channels := u.budget.channels, lastSerial := u.budget.lastSerial, tight := u.budget.tight, shed := u.budget.shed }
  shed : s.budget.shed = false → u.budget.shed = false

namespace State.WritesLights

theorem of_eq (h : s.WritesLights p u) (hd : v.dock = u.dock) (hp : v.plan = u.plan) (hb : v.budget = u.budget) : s.WritesLights p v where
  dock := hd.trans h.dock
  plan := hp.trans h.plan
  entry j := by rw [chan_of_budget hb, h.entry]
  timers j := by rw [chan_of_budget hb]; exact h.timers j
  unlit j hj := by rw [chan_of_budget hb, h.unlit j hj]
  budget := by rw [hb]; exact h.budget
  shed hs := by rw [hb]; exact h.shed hs

theorem ceiling (h : s.WritesLights p u) : u.budget.ct = s.budget.ct ∧ u.budget.managed = s.budget.managed :=
  ⟨(congrArg LoadBudget.ct h.budget :), (congrArg LoadBudget.managed h.budget :)⟩

theorem putChan (h : s.WritesLights p u) (hi : p i)
    (hc : c.entry = (u.chan i).entry ∧ c.minOnT = (u.chan i).minOnT ∧ c.minOffT = (u.chan i).minOffT) : s.WritesLights p (u.putChan i c) where
  dock := h.dock
  plan := h.plan
  entry j := by
    rw [chan_putChan]
    split
    · exact hc.1.trans (h.entry i)
    · exact h.entry j
  timers j := by
    rw [chan_putChan]
    split
    · next e =>
      subst e
      exact ⟨hc.2.1.trans (h.timers i).1, hc.2.2.trans (h.timers i).2⟩
    · exact h.timers j
  unlit j hj := by rw [chan_putChan_ne _ _ (by rintro rfl; exact hj hi), h.unlit j hj]
  budget := (congrArg (fun b : LoadBudget => ({ b with channels := (u.putChan i c).budget.channels } : LoadBudget)) h.budget :)
  shed := h.shed

theorem grant (h : s.WritesLights p u) (hi : p i) (g : Nat) : s.WritesLights p (u.putChan i { u.chan i with granted := g }) :=
  h.putChan hi ⟨rfl, rfl, rfl⟩

theorem flags (h : s.WritesLights p u) (n : Nat) (b : Bool) (d : Bool) (hd : u.budget.shed = false → d = false) :
    s.WritesLights p (u.setBudget { u.budget with lastSerial := n, tight := b, shed := d }) where
  dock := h.dock
  plan := h.plan
  entry := h.entry
  timers := h.timers
  unlit := h.unlit
  budget := (congrArg (fun b' : LoadBudget => ({ b' with lastSerial := n, tight := b, shed := d } : LoadBudget)) h.budget :)
  shed hs := hd (h.shed hs)

theorem raise (h : s.WritesLights p u) (k : NoticeKind) (n : Nat) (b : Bytes) : s.WritesLights p (raise k n b u) :=
  h.of_eq (raise_dock _ _ _ _) (raise_plan _ _ _ _) (raise_budget _ _ _ _)

theorem takeSerial (h : s.WritesLights p u) (hi : p i) : s.WritesLights p (takeSerial i u) := by
  unfold Machine.takeSerial
  exact (h.flags _ u.budget.tight u.budget.shed id).putChan hi ⟨rfl, rfl, rfl⟩

theorem lightVisit (h : s.WritesLights p u) (hi : 0 < (u.chan i).deficit → p i) : s.WritesLights p (lightVisit i u) := by
  unfold Machine.lightVisit
  dsimp only
  split
  · exact h
  · next hg =>
    exact (h.grant (hi (by omega)) _).takeSerial (hi (by omega))

theorem settleShed (h : s.WritesLights p u) : s.WritesLights p (settleShed u) := by
  unfold Machine.settleShed
  split
  · exact h.flags u.budget.lastSerial u.budget.tight false fun _ => rfl
  · exact h

theorem settleTight (h : s.WritesLights p u) : s.WritesLights p (settleTight u) := by
  unfold Machine.settleTight
  dsimp only
  split
  · exact h
  · exact (h.flags u.budget.lastSerial u.isTight u.budget.shed id).raise _ _ _

/-- The walk finds no queue entry, and among the channels that it writes none beside p where only those fall short. -/
theorem arbitrate (h : s.WritesLights p u) (short : ∀ j, ¬p j → (s.chan j).deficit = 0) : s.WritesLights p (arbitrate u) := by
  have visited : s.WritesLights p (forEach u.deficitOrder Machine.lightVisit u) := by
    refine forEach_keeps (I := s.WritesLights p) (fun i w hw => hw.lightVisit fun hd => ?_) _ u h
    by_contra hi
    rw [hw.unlit i hi, short i hi] at hd
    exact absurd hd (lt_irrefl 0)
  unfold Machine.arbitrate Machine.endEvent Machine.walk
  dsimp only
  rw [visitQueue_of_unqueued visited.entry]
  exact visited.settleShed.settleTight

theorem lightTargetChange (h : s.WritesLights p u) (short : ∀ j, ¬p j → (s.chan j).deficit = 0) (hi : p i) (hl : (u.chan i).cfg.role = .light)
    (v : Nat) : s.WritesLights p (lightTargetChange i v u) := by
  have asked := h.putChan (c := { u.chan i with target := v }) hi ⟨rfl, rfl, rfl⟩
  have role : ((u.putChan i { u.chan i with target := v }).chan i).cfg.role = .light := by rwa [chan_putChan_self]
  unfold Machine.lightTargetChange
  dsimp only
  split
  · split
    · exact asked.arbitrate short
    · exact asked.settleShed
  · split
    · rw [setGranted_of_light role]
      exact (asked.grant hi _).arbitrate short
    · split
      · exact asked.arbitrate short
      · exact asked.settleShed

theorem targetChange (h : s.WritesLights p u) (short : ∀ j, ¬p j → (s.chan j).deficit = 0) (o v : Nat)
    (hi : (u.chan i).boundTo .light o = true → p i) : s.WritesLights p (targetChange i .light o v false u) := by
  cases bound : (u.chan i).boundTo .light o with
  | false => rwa [targetChange_of_not_bound bound]
  | true =>
    unfold Machine.targetChange
    dsimp only
    rw [bound, if_neg (by decide)]
    split
    · exact h
    · exact h.lightTargetChange short (hi bound) (Channel.boundTo_iff.mp bound).1 v

theorem deriveLight (h : s.WritesLights p u) (short : ∀ j, ¬p j → (s.chan j).deficit = 0) (z : Fin 24) (hi : ∀ i, u.lightBinding z = some i → p i) :
    s.WritesLights p (deriveLight z u) := by
  have written : s.WritesLights p (u.putLight z (u.derivedZone z)) := h.of_eq rfl rfl rfl
  obtain ⟨-, e⟩ | ⟨i, hc, -, -, e⟩ := deriveLight_cases z u
  · rwa [e]
  · rw [e]
    exact written.targetChange short _ _ fun hb => hi i (lightBinding_iff.mpr ⟨hc, hb⟩)

end State.WritesLights

/-- A channel that a lighting zone has bound to it. -/
def State.bindsLight (s : State) (j : Fin 128) : Prop := ∃ z, s.lightBinding z = some j

/-- Where nothing waits in the queue, and no channel falls short but those that lighting zones have bound, the derivation of the targets writes
those channels alone. -/
theorem deriveLights_writesLights (he : ∀ j, (s.chan j).entry = none) (hd : ∀ j, (∀ z, s.lightBinding z ≠ some j) → (s.chan j).deficit = 0) :
    s.WritesLights s.bindsLight (deriveLights s) := by
  refine (forEach_keeps
    (I := fun u => s.WritesLights s.bindsLight u ∧ ∀ z, u.lightBinding z = s.lightBinding z)
    (fun z u hu => ⟨hu.1.deriveLight (fun j hj => hd j (not_exists.mp hj)) z fun i hi => ⟨z, (hu.2 z).symm.trans hi⟩, fun y => ?_⟩) _ s
    ⟨⟨rfl, rfl, he, fun _ => ⟨rfl, rfl⟩, fun _ _ => rfl, rfl, id⟩, fun _ => rfl⟩).1
  rw [deriveLight_binding, hu.2 y]

/-- A channel bound to a zone that has been sent nothing and asked for nothing is asked for the zone's target. -/
theorem deriveLights_bound (hi : s.lightBinding z = some i) (sent : ∀ y, (s.light y).lastSent = 0) (asked : (s.chan i).target = 0) :
    ((deriveLights s).chan i).target = ((deriveLights s).light z).target := by
  obtain ⟨-, -, sends⟩ := derives_deriveLights s z
  have quiet := deriveLights_asked (s := s) (j := i)
  rw [hi] at sends
  generalize deriveLights s = t at *
  by_cases h0 : (t.light z).target = 0
  · have unasked : ¬s.lightAsks t i := fun ⟨y, hy, hn⟩ => by
      rw [lightBinding_inj hy hi, sent] at hn
      exact hn h0
    rw [target_of_asked (quiet unasked), asked, h0]
  · exact sends.2 (by rwa [sent])

/-- Where no zone has a channel bound the derivation asks no channel for anything. -/
theorem deriveLights_budget_of_unbound (h : ∀ z, s.lightBinding z = none) : (deriveLights s).budget = s.budget := by
  refine (forEach_keeps (I := fun u => u.budget = s.budget ∧ ∀ z, u.lightBinding z = none) (fun z u hu => ⟨?_, fun y => ?_⟩) _ s ⟨rfl, h⟩).1
  · obtain ⟨-, e⟩ | ⟨i, -, hp, -⟩ := deriveLight_cases z u
    · rw [e]
      exact hu.1
    · rw [lightPresent_eq, hu.2 z] at hp
      cases hp
  · rw [deriveLight_binding, hu.2 y]

end Sys2Proof.Machine
end

section
/-! SUPPORT. The doors at a PLANT restart: what each open session is due, its close into the log, and the door's record afresh (R89, R109, R114,
R115). -/

namespace Sys2Proof.Machine

variable {s t u v : State} {d e : Fin 32} {l : List (Fin 32)} {rs : List SessionRecord}

/-! ### What a session is due -/

/-- The session of a door counted up to the present second. -/
def State.dueSession (s : State) (d : Fin 32) : Option Session := (s.accruedDoor d).session

theorem dueSession_congr (hs : t.seconds = s.seconds) (hd : t.door d = s.door d) : t.dueSession d = s.dueSession d := by
  unfold State.dueSession State.accruedDoor State.accruedEnergy
  rw [hs, hd]

/-- A session counted up to the present second is due nothing more, whatever the rate. -/
theorem dueSession_of_stamped {y : Option Session} {e n : Nat} {st : DoorState} (hs : (t.door d).stamp = t.seconds) (hst : (t.door d).state = st)
    (hy : (t.door d).session = y.map fun x => x.accrued e n st) : t.dueSession d = y.map fun x => x.accrued e n st := by
  unfold State.dueSession State.accruedDoor State.accruedEnergy
  rw [hs, hy, hst, Nat.sub_self, Nat.mul_zero]
  cases y with
  | none => rfl
  | some x =>
    unfold Session.accrued satAdd
    simp only [Option.map_some, Nat.add_zero]
    split <;> simp

/-- Every session is due in u what it is due in s. -/
def State.OwesSame (s u : State) : Prop := u.seconds = s.seconds ∧ ∀ d, u.dueSession d = s.dueSession d

namespace State.OwesSame

theorem of_dock (h : s.OwesSame t) (hs : u.seconds = t.seconds) (hd : u.dock = t.dock) : s.OwesSame u :=
  ⟨hs.trans h.1, fun d => (dueSession_congr hs (door_of_dock hd d)).trans (h.2 d)⟩

/-- A write of one door, counted up to the present second, that keeps its state. -/
theorem counted (h : s.OwesSame t) (e : Fin 32) (hs : u.seconds = t.seconds) (hne : ∀ d, e ≠ d → u.door d = t.door d)
    (stamp : (u.door e).stamp = t.seconds) (state : (u.door e).state = (t.door e).state) (session : (u.door e).session = t.dueSession e) :
    s.OwesSame u := by
  refine ⟨hs.trans h.1, fun d => ?_⟩
  by_cases hd : e = d
  · subst hd
    exact (dueSession_of_stamped (stamp.trans hs.symm) state session).trans (h.2 e)
  · exact (dueSession_congr hs (hne d hd)).trans (h.2 d)

theorem setCurtainRunning (h : s.OwesSame t) (e : Fin 32) (b : Bool) : s.OwesSame (setCurtainRunning e b t) := by
  unfold Machine.setCurtainRunning
  split
  · exact h
  · have door (d : Fin 32) := accrue_door e d t
    have seconds := accrue_seconds e t
    dsimp only
    generalize accrue e t = u at *
    have own := door e
    rw [if_pos rfl] at own
    refine h.counted e seconds (fun d hd => ?_) ?_ ?_ ?_ <;> unfold refreshRate <;> dsimp only
    · rw [door_putDoor, if_neg hd, door_putDoor, if_neg hd, door, if_neg hd]
    all_goals
      rw [door_putDoor_self, door_putDoor_self, own]
      rfl

theorem arbiter (s : State) : ArbiterClosed s.OwesSame where
  put _ _ _ _ _ h := h.of_dock rfl rfl
  light _ _ _ _ _ h := h.of_dock rfl rfl
  grant i g _ _ h := GrantClosed.setGranted (I := s.OwesSame)
    ⟨fun _ _ _ h => h.of_dock rfl rfl, fun _ _ h => h.of_dock rfl rfl, fun e b _ _ h => h.setCurtainRunning e b⟩ i g h
  figures _ _ _ h := h.of_dock rfl rfl
  notice k n b _ _ h := h.of_dock (raise_seconds _ _ _ _) (raise_dock k n b _)

end State.OwesSame

/-! ### One door -/

/-- A door's record as a PLANT restart leaves it at this second, but for its rate. -/
def Door.restarted (x : Door) (now : Nat) : Door :=
  { x with
    debOpen := x.rawOpen, debPresent := x.rawPresent
    contactT := if x.cfg.enabled then some x.cfg.debounce else none
    presenceT := if x.cfg.enabled then some x.cfg.debounce else none
    state := if x.cfg.enabled then .unknown else .unused
    heldT := none, curtainRunning := false, session := none, sentLight := 0, sentCurtain := 0, stamp := now }

theorem restartDoor_door (d : Fin 32) (s : State) : ∃ r, (restartDoor d s).door d = { (s.door d).restarted s.seconds with rate := r } := by
  have own : (closeSession d .restart (accrue d s)).door d = { s.accruedDoor d with session := none } := by
    rw [closeSession_door, if_pos rfl, accrue_door, if_pos rfl]
  unfold restartDoor
  dsimp only
  rw [refreshRate_door, door_putDoor_self, own]
  exact ⟨_, rfl⟩

theorem restartDoor_door_ne (h : d ≠ e) (s : State) : (restartDoor d s).door e = s.door e := by
  have other : (closeSession d .restart (accrue d s)).door e = s.door e := by rw [closeSession_door, if_neg h, accrue_door, if_neg h]
  unfold restartDoor refreshRate
  dsimp only
  rw [door_putDoor, if_neg h, door_putDoor, if_neg h, other]

theorem restartDoor_seconds (d : Fin 32) (s : State) : (restartDoor d s).seconds = s.seconds :=
  (closeSession_seconds d .restart (accrue d s)).trans (accrue_seconds d s)

theorem restartDoor_follows (d : Fin 32) (s : State) : s.Follows (restartDoor d s) := (State.Follows.units s).restartDoor d (.refl s)

theorem restartDoor_plan (d : Fin 32) (s : State) : (restartDoor d s).plan = (accrue d s).plan := closeSession_plan d .restart (accrue d s)

theorem restartDoor_clock (d : Fin 32) (s : State) : (restartDoor d s).plan.clock = s.plan.clock := by
  rw [restartDoor_plan, accrue_plan_clock]

theorem restartDoor_budget (d : Fin 32) (s : State) : (restartDoor d s).budget = s.budget :=
  (closeSession_budget d .restart (accrue d s)).trans (accrue_budget s d)

/-- What a door's write leaves of the log is what the close of its session leaves. -/
theorem restartDoor_log (d : Fin 32) (s : State) : (restartDoor d s).dock.log = (closeSession d .restart (accrue d s)).dock.log
    ∧ (restartDoor d s).dock.lost = (closeSession d .restart (accrue d s)).dock.lost
    ∧ (restartDoor d s).dock.lossReported = (closeSession d .restart (accrue d s)).dock.lossReported
    ∧ (restartDoor d s).line = (closeSession d .restart (accrue d s)).line := ⟨rfl, rfl, rfl, rfl⟩

theorem restartDoor_logs {y : Session} (hy : s.dueSession d = some y) : s.Logs (restartDoor d s) d .restart y := by
  have accrued : ((accrue d s).door d).session = some y := by
    rw [accrue_door, if_pos rfl]
    exact hy
  have dock := accrue_dock d s
  have closed := (closeSession_logs accrued .restart).of_view (s := s) (by rw [dock]; rfl) (by rw [dock]; rfl) (by rw [dock]; rfl)
    (accrue_plan_clock d s) (accrue_line d s)
  obtain ⟨log, lost, reported, line⟩ := restartDoor_log d s
  exact closed.after log lost reported (.of_line (.refl _) line)

theorem restartDoor_logs_nothing (hy : s.dueSession d = none) : (restartDoor d s).dock.log = s.dock.log
    ∧ (restartDoor d s).dock.lost = s.dock.lost ∧ (restartDoor d s).dock.lossReported = s.dock.lossReported ∧ (restartDoor d s).line = s.line := by
  have accrued : ((accrue d s).door d).session = none := by
    rw [accrue_door, if_pos rfl]
    exact hy
  have dock := accrue_dock d s
  obtain ⟨log, lost, reported, line⟩ := restartDoor_log d s
  rw [closeSession_of_none accrued] at log lost reported line
  rw [log, lost, reported, line, dock]
  exact ⟨rfl, rfl, rfl, accrue_line d s⟩

/-! ### The sessions of all doors -/

theorem State.reports.of_length {n : Notice} (h : t.reports u n) (hl : s.line.notices.length ≤ t.line.notices.length) : s.reports u n :=
  fun passes room => (List.drop_sublist_drop_left _ hl).subset (h passes room)

theorem State.reports.before {n : Notice} (h : t.reports u n) (hf : s.Follows t) : s.reports u n := h.of_length hf.1.length_le

/-- Between s and t these records were offered to the session log, in this order: the first go into it, and the others, for which it has no
room, into the lost count, with LOG_FULL for the first loss (R115). -/
structure State.LogsAll (s t : State) (rs : List SessionRecord) : Prop where
  log : t.dock.log = s.dock.log ++ rs.take (128 - s.dock.log.length)
  lost : t.dock.lost = if rs.length ≤ 128 - s.dock.log.length then s.dock.lost
    else min 65535 (s.dock.lost + (rs.length - (128 - s.dock.log.length)))
  notice : ∀ r, rs[128 - s.dock.log.length]? = some r → s.dock.lossReported = false → ∀ u, t.Follows u →
    s.reports u ⟨.logFull, s.plan.clock, r.door, le16 r.session.number ++ le16 (min 65535 (s.dock.lost + 1))⟩
  follows : s.Follows t

namespace State.LogsAll

theorem none (hl : t.dock.log = s.dock.log) (hn : t.dock.lost = s.dock.lost) (follows : s.Follows t) : s.LogsAll t [] where
  log := by rw [hl]; simp
  lost := by rw [hn]; simp
  notice _ h := by simp at h
  follows := follows

theorem of_view (h : t.LogsAll u rs) (hl : t.dock.log = s.dock.log) (hn : t.dock.lost = s.dock.lost)
    (hr : t.dock.lossReported = s.dock.lossReported) (hc : t.plan.clock = s.plan.clock) (hf : s.Follows t) : s.LogsAll u rs where
  log := by rw [h.log, hl]
  lost := by rw [h.lost, hl, hn]
  notice r hi hs v hv := by
    rw [← hl] at hi
    have reported := (h.notice r hi (hr.trans hs) v hv).before hf
    rwa [hc, hn] at reported
  follows := hf.trans h.follows

theorem cons {y : Session} {r : EndReason} (h : s.Logs t d r y) (h' : t.LogsAll u rs) (clock : t.plan.clock = s.plan.clock) (hf : s.Follows t) :
    s.LogsAll u (⟨d, r, s.plan.clock, y⟩ :: rs) := by
  obtain room | full := Nat.lt_or_ge s.dock.log.length 128
  · obtain ⟨log, lost, reported⟩ := h.1 room
    have left : 128 - s.dock.log.length = 128 - t.dock.log.length + 1 := by
      rw [log, List.length_append]
      simp only [List.length_cons, List.length_nil]
      omega
    refine ⟨?_, ?_, fun x hx hs v hv => ?_, hf.trans h'.follows⟩
    · rw [h'.log, log, left, List.take_succ_cons, List.append_assoc, ← log]
      rfl
    · rw [h'.lost, lost, left, List.length_cons]
      simp only [Nat.add_le_add_iff_right, Nat.add_sub_add_right]
    · rw [left, List.getElem?_cons_succ] at hx
      have notice := (h'.notice x hx (reported.trans hs) v hv).before hf
      rwa [clock, lost] at notice
  · obtain ⟨log, lost, reported, notice⟩ := h.2 full
    have left : 128 - s.dock.log.length = 0 := by omega
    have left' : 128 - t.dock.log.length = 0 := by rw [log]; exact left
    refine ⟨?_, ?_, fun x hx hs v hv => ?_, hf.trans h'.follows⟩
    · rw [h'.log, left', left, log]
      rfl
    · rw [h'.lost, left', left, lost, List.length_cons]
      split <;> split <;> omega
    · rw [left, List.getElem?_cons_zero] at hx
      obtain rfl := Option.some.inj hx
      have reports := notice hs v (h'.follows.trans hv)
      rwa [lost] at reports

end State.LogsAll

/-- The records that a PLANT restart offers to the session log, lowest door first. -/
def State.dueRecords (s : State) (l : List (Fin 32)) : List SessionRecord :=
  l.filterMap fun d => (s.dueSession d).map fun y => ⟨d, .restart, s.plan.clock, y⟩

theorem dueRecords_congr (hd : ∀ d ∈ l, t.dueSession d = s.dueSession d) (hc : t.plan.clock = s.plan.clock) :
    t.dueRecords l = s.dueRecords l := by
  unfold State.dueRecords
  rw [hc]
  exact List.filterMap_congr fun d h => by rw [hd d h]

theorem restartDoors_logAll (l : List (Fin 32)) (hl : l.Nodup) (s : State) : s.LogsAll (forEach l restartDoor s) (s.dueRecords l) := by
  induction l generalizing s with
  | nil => exact .none rfl rfl (.refl s)
  | cons d l ih =>
    obtain ⟨hd, hl⟩ := List.nodup_cons.mp hl
    have rest := ih hl (restartDoor d s)
    have clock := restartDoor_clock d s
    rw [dueRecords_congr (s := s) (fun e he => dueSession_congr (restartDoor_seconds d s)
      (restartDoor_door_ne (by rintro rfl; exact hd he) s)) clock] at rest
    change s.LogsAll (forEach l restartDoor (restartDoor d s)) _
    unfold State.dueRecords at rest ⊢
    cases hy : s.dueSession d with
    | none =>
      obtain ⟨log, lost, reported, line⟩ := restartDoor_logs_nothing hy
      rw [List.filterMap_cons_none (by rw [hy]; rfl)]
      exact rest.of_view log lost reported clock (restartDoor_follows d s)
    | some y =>
      rw [List.filterMap_cons_some (by rw [hy]; rfl)]
      exact .cons (restartDoor_logs hy) rest clock (restartDoor_follows d s)

end Sys2Proof.Machine
end

section
/-! SUPPORT. The Dock Supervisor's part of a PLANT restart, and what a restart keeps of the totals and of the lost notices (R89, R107, R109,
R168). -/

namespace Sys2Proof.Machine

variable {s t u v : State} {d e : Fin 32}

/-! ### The totals but the loss -/

/-- The totals but for what accruals report. -/
def PhaseTotals.forgetLoss (t : PhaseTotals) : PhaseTotals := { t with docked := 0, bare := 0 }

theorem accrue_keepsCounts (d : Fin 32) (s : State) : (accrue d s).plan.totals.forgetLoss = s.plan.totals.forgetLoss := by
  rw [accrue_totals]
  split
  · rfl
  · split <;> rfl

theorem forgetLoss_of_counts (h : s.SameCounts t) : t.plan.totals.forgetLoss = s.plan.totals.forgetLoss := by
  unfold PhaseTotals.forgetLoss
  rw [h.cycles, h.held, h.shed]

/-! ### The lost count of the notice queue -/

/-- Between s and t a notice was lost only where the queue is full in t. -/
def State.LosesWhenFull (s t : State) : Prop :=
  (s.line.lost ≤ 65535 → s.line.lost ≤ t.line.lost) ∧ (t.line.notices.length < Config.maxNotices → t.line.lost = s.line.lost)

namespace State.LosesWhenFull

theorem refl (s : State) : s.LosesWhenFull s := ⟨fun _ => le_rfl, fun _ => rfl⟩

theorem of_line (h : s.LosesWhenFull t) (hl : u.line = t.line) : s.LosesWhenFull u := by
  unfold State.LosesWhenFull at *
  rwa [hl]

theorem raise (h : s.LosesWhenFull t) (k : NoticeKind) (n : Nat) (b : Bytes) : s.LosesWhenFull (raise k n b t) := by
  unfold Machine.raise
  split
  · obtain ⟨rises, stands⟩ := h
    unfold State.LosesWhenFull
    rw [State.setLine_line]
    unfold Line.join
    split
    · next room => exact ⟨rises, fun _ => stands room⟩
    · next full =>
      refine ⟨fun hs => ?_, fun room => absurd room full⟩
      have more := rises hs
      exact le_min hs (Nat.le_succ_of_le more)
  · exact h

theorem budget (s : State) : BudgetClosed s.LosesWhenFull where
  budget _ _ h := h
  notice k n b _ h := h.raise k n b
  shed _ h := h
  curtain d v u h := h.of_line (setCurtainRunning_line d v u)

theorem units (s : State) : UnitClosed s.LosesWhenFull where
  target i r o v m _ h := (budget s).targetChange i r o v m h
  minimum i z v _ h := (budget s).protectedMinimum i z v h
  profile _ h := (budget s).profileChanged h
  notice k n b _ h := h.raise k n b
  dock _ _ h := h
  climate _ _ h := h
  lighting _ _ h := h
  plan _ _ h := h
  draw _ h := h

end State.LosesWhenFull

/-! ### The check and the doors -/

/-- A check in progress is abandoned (R107). -/
def abandonCheck (s : State) : State :=
  match s.dock.check with
  | none => s
  | some k => raise .checkDone 0 (le32 0 ++ le8 k.doors.length ++ le8 CheckEnding.abandoned.code) (s.setDock { s.dock with check := none })

theorem dockRestart_eq (s : State) : dockRestart s = forEach (indices 32) restartDoor (abandonCheck s) := rfl

/-- A check that is abandoned leaves all as it stands but itself and its notice. -/
theorem abandonCheck_leaves (s : State) : (abandonCheck s).dock = { s.dock with check := none } ∧ (abandonCheck s).plan = s.plan
    ∧ (abandonCheck s).budget = s.budget ∧ (abandonCheck s).seconds = s.seconds := by
  unfold abandonCheck
  cases h : s.dock.check with
  | none =>
    have kept : ({ s.dock with check := none } : Dock) = s.dock := by rw [← h]
    exact ⟨kept.symm, rfl, rfl, rfl⟩
  | some k => exact ⟨raise_dock _ _ _ _, raise_plan _ _ _ _, raise_budget _ _ _ _, raise_seconds _ _ _ _⟩

theorem abandonCheck_follows (s : State) : s.Follows (abandonCheck s) := by
  unfold abandonCheck
  cases h : s.dock.check with
  | none => exact .refl s
  | some k => exact .raise (t := s.setDock { s.dock with check := none }) (.of_line (.refl s) rfl) _ _ _

theorem abandonCheck_reports {k : ContactCheck} (hk : s.dock.check = some k) (hu : (abandonCheck s).Follows u) :
    s.reports u ⟨.checkDone, s.plan.clock, 0,
      [0x00, 0x00, 0x00, 0x00] ++ le8 ((indices 32).filter fun d => look k.underTest d).length ++ [0x02]⟩ := by
  unfold abandonCheck at hu
  rw [hk] at hu
  exact reports_of_raise (t := s.setDock { s.dock with check := none }) (.of_line (.refl s) rfl) hu

theorem closeSession_check (d : Fin 32) (r : EndReason) (s : State) : (closeSession d r s).dock.check = s.dock.check :=
  (doorClosed_check d s).closeSession r rfl

/-- The records of all doors, restarted at this second, with what a restart leaves of the Dock Supervisor beside its log. -/
structure State.DoorsRestart (s t : State) : Prop where
  door : ∀ d, ∃ r, t.door d = { (s.door d).restarted s.seconds with rate := r }
  check : t.dock.check = none
  zoneDT : t.dock.zoneDT = s.dock.zoneDT
  next : t.dock.nextSession = s.dock.nextSession
  budget : t.budget = s.budget
  totals : t.plan.totals.forgetLoss = s.plan.totals.forgetLoss
  logs : s.LogsAll t (s.dueRecords (indices 32))

theorem restartDoor_rest (d : Fin 32) (s : State) : (restartDoor d s).dock.check = s.dock.check
    ∧ (restartDoor d s).dock.zoneDT = s.dock.zoneDT ∧ (restartDoor d s).dock.nextSession = s.dock.nextSession
    ∧ (restartDoor d s).budget = s.budget ∧ (restartDoor d s).plan.totals.forgetLoss = s.plan.totals.forgetLoss := by
  refine ⟨(doorClosed_check d s).restartDoor rfl, (doorClosed_zoneDT d s).restartDoor rfl, ?_, restartDoor_budget d s, ?_⟩
  · have next := closeSession_nextSession d .restart (accrue d s)
    rw [accrue_dock] at next
    exact next
  · rw [restartDoor_plan, accrue_keepsCounts]

theorem restartDoors_door (s : State) (d : Fin 32) : ∃ r, (forEach (indices 32) restartDoor s).door d = { (s.door d).restarted s.seconds with rate := r } := by
  refine forEach_settles (P := fun d u => ∃ r, u.door d = { (s.door d).restarted s.seconds with rate := r })
    (Q := fun d u => u.door d = s.door d ∧ u.seconds = s.seconds) ?_ ?_ ?_ _ (nodup_indices 32) s (fun _ _ => ⟨rfl, rfl⟩) d (.inl (mem_indices d))
  · rintro a u ⟨door, seconds⟩
    have settled := restartDoor_door a u
    rwa [door, seconds] at settled
  · intro a b u hb hu
    rwa [restartDoor_door_ne (Ne.symm hb)]
  · rintro a b u hb ⟨door, seconds⟩
    exact ⟨(restartDoor_door_ne (Ne.symm hb) u).trans door, (restartDoor_seconds a u).trans seconds⟩

theorem dockRestart_restarts (s : State) : s.DoorsRestart (dockRestart s) := by
  obtain ⟨dock, plan, budget, seconds⟩ := abandonCheck_leaves s
  have follows := abandonCheck_follows s
  have door (d : Fin 32) : (abandonCheck s).door d = s.door d := by
    unfold State.door
    rw [dock]
  rw [dockRestart_eq]
  generalize abandonCheck s = m at *
  have rest := forEach_keeps (I := fun u => u.dock.check = m.dock.check ∧ u.dock.zoneDT = m.dock.zoneDT ∧ u.dock.nextSession = m.dock.nextSession
    ∧ u.budget = m.budget ∧ u.plan.totals.forgetLoss = m.plan.totals.forgetLoss) (fun d u hu => by
      obtain ⟨check, zoneDT, next, budget, totals⟩ := restartDoor_rest d u
      obtain ⟨check', zoneDT', next', budget', totals'⟩ := hu
      exact ⟨check.trans check', zoneDT.trans zoneDT', next.trans next', budget.trans budget', totals.trans totals'⟩)
    (indices 32) m ⟨rfl, rfl, rfl, rfl, rfl⟩
  have doors := restartDoors_door m
  have logs := restartDoors_logAll (indices 32) (nodup_indices 32) m
  have clock : m.plan.clock = s.plan.clock := by rw [plan]
  rw [dueRecords_congr (s := s) (fun d _ => dueSession_congr seconds (door d)) clock] at logs
  generalize forEach (indices 32) restartDoor m = t at *
  obtain ⟨check, zoneDT, next, budget', totals⟩ := rest
  refine ⟨fun d => ?_, check.trans (by rw [dock]), zoneDT.trans (by rw [dock]), next.trans (by rw [dock]), budget'.trans budget,
    totals.trans (by rw [plan]), logs.of_view (by rw [dock]) (by rw [dock]) (by rw [dock]) clock follows⟩
  obtain ⟨r, e⟩ := doors d
  rw [door, seconds] at e
  exact ⟨r, e⟩

end Sys2Proof.Machine
end

section
/-! SUPPORT. A PLANT restart up to the derivation of the lighting targets that ends it (R43, R89, R124, R145, R154, R159). -/

namespace Sys2Proof.Machine

variable {s t u : State} {i j : Fin 128} {z : Fin 24} {y : Fin 12} {d : Fin 32}

/-! ### What no unit's part writes -/

/-- The plan but its totals, the store, the stage, the running seconds and Stop Control. -/
def State.centre (s : State) : PlanUnit × SettingStore × Stage × Nat × StopControl := (s.plan.forgetTotals, s.store, s.stage, s.seconds, s.stop)

theorem centre_of_outside (h : t.outsideBudget = s.outsideBudget) : t.centre = s.centre := (congrArg State.centre h :)
theorem centre_of_outsideDock (h : t.outsideDock = s.outsideDock) : t.centre = s.centre := (congrArg State.centre h :)
theorem centre_of_outsideLighting (h : t.outsideLighting = s.outsideLighting) : t.centre = s.centre := (congrArg State.centre h :)

theorem fields_of_centre (h : t.centre = s.centre) : t.plan.forgetTotals = s.plan.forgetTotals ∧ t.store = s.store ∧ t.stage = s.stage
    ∧ t.seconds = s.seconds ∧ t.stop = s.stop := by
  obtain ⟨plan, rest⟩ := Prod.mk.inj h
  obtain ⟨store, rest⟩ := Prod.mk.inj rest
  obtain ⟨stage, rest⟩ := Prod.mk.inj rest
  exact ⟨plan, store, stage, Prod.mk.inj rest⟩

/-! ### The walk and the last sent targets -/

/-- A walk in progress is abandoned (R154). -/
def abandonWalk (s : State) : State :=
  match s.lighting.walk with
  | some _ => markWalkEnded .aborted s
  | none => s

/-- Every zone's last sent target is 0 (R145). -/
def unsendLights (s : State) : State := s.setLighting { s.lighting with zones := s.lighting.zones.map fun x => { x with lastSent := 0 } }

theorem lightingRestart_eq (s : State) : lightingRestart s = deriveLights (unsendLights (abandonWalk s)) := rfl

theorem abandonWalk_leaves (s : State) : (abandonWalk s).lighting = { s.lighting with walk := none } ∧ (abandonWalk s).budget = s.budget
    ∧ (abandonWalk s).dock = s.dock ∧ (abandonWalk s).plan = s.plan ∧ (abandonWalk s).climate = s.climate := by
  unfold abandonWalk
  cases h : s.lighting.walk with
  | none =>
    have kept : ({ s.lighting with walk := none } : Lighting) = s.lighting := by rw [← h]
    exact ⟨kept.symm, rfl, rfl, rfl, rfl⟩
  | some w =>
    exact ⟨raise_lighting _ _ _ _, raise_budget _ _ _ _, raise_dock _ _ _ _, raise_plan _ _ _ _, climate_of_outsideLighting (markWalkEnded_outsideLighting s _)⟩

theorem abandonWalk_outsideLighting (s : State) : (abandonWalk s).outsideLighting = s.outsideLighting := by
  unfold abandonWalk
  cases s.lighting.walk with
  | none => rfl
  | some w => exact markWalkEnded_outsideLighting s _

theorem abandonWalk_follows (s : State) : s.Follows (abandonWalk s) := by
  unfold abandonWalk
  cases s.lighting.walk with
  | none => exact .refl s
  | some w => exact (State.Follows.units s).markWalkEnded _ (.refl s)

theorem abandonWalk_losesWhenFull (h : s.LosesWhenFull t) : s.LosesWhenFull (abandonWalk t) := by
  unfold abandonWalk
  cases t.lighting.walk with
  | none => exact h
  | some w => exact (State.LosesWhenFull.units s).markWalkEnded _ h

theorem abandonWalk_reports (hw : s.lighting.walk.isSome = true) (hu : (abandonWalk s).Follows u) : s.reports u ⟨.walkDone, s.plan.clock, 0,
    [0x02] ++ le8 ((indices 24).filter fun z => (s.light z).walkResult.isSome).length
      ++ le8 ((indices 24).filter fun z => (s.light z).walkResult.any (· < 1000)).length⟩ := by
  obtain ⟨w, walking⟩ := Option.isSome_iff_exists.mp hw
  unfold abandonWalk at hu
  rw [walking] at hu
  have reported := reports_of_raise (k := .walkDone) (n := 0) (t := s.setLighting { s.lighting with walk := none })
    (b := le8 WalkEnding.aborted.code ++ le8 (s.resultCount fun _ => true) ++ le8 (s.resultCount fun r => r < 1000)) (.of_line (.refl s) rfl) hu
  rw [resultCount_eq, resultCount_eq, show le8 WalkEnding.aborted.code = [0x02] from rfl] at reported
  simpa using reported

theorem unsendLights_light (z : Fin 24) (s : State) : (unsendLights s).light z = { s.light z with lastSent := 0 } := look_map _ _ _

/-! ### The state before the last derivation -/

/-- The override table is emptied (R32). -/
def State.dropOverrides (s : State) : State := s.setPlan { s.plan with overrides := [] }

theorem dropOverrides_follows (s : State) : s.Follows s.dropOverrides := .of_line (.refl s) rfl

/-- The Load Budget Unit's part of a PLANT restart is taken. -/
def State.rebudgeted (s : State) : State := budgetRestart s.dropOverrides

/-- The Dock Supervisor's part is taken as well. -/
def State.redocked (s : State) : State := dockRestart s.rebudgeted

/-- A PLANT restart before the lighting targets are derived afresh. -/
def State.restarting (s : State) : State := unsendLights (abandonWalk (climateRestart s.redocked))

theorem plantRestart_eq (s : State) : plantRestart s = deriveLights s.restarting := by
  unfold plantRestart State.restarting State.redocked State.rebudgeted State.dropOverrides
  rw [lightingRestart_eq]

theorem rebudgeted_outside (s : State) : s.rebudgeted.outsideBudget = s.dropOverrides.outsideBudget := budgetRestart_outside _
theorem redocked_outsideDock (s : State) : s.redocked.outsideDock = s.rebudgeted.outsideDock := dockRestart_outsideDock _
theorem redocked_restarts (s : State) : s.rebudgeted.DoorsRestart s.redocked := dockRestart_restarts _

theorem rebudgeted_dock (s : State) : s.rebudgeted.dock.forgetLoss = s.dock.forgetLoss := forgetLoss_of_outside (s := s.dropOverrides) (rebudgeted_outside s)

theorem rebudgeted_clock (s : State) : s.rebudgeted.plan.clock = s.plan.clock := clock_of_plan (s := s.dropOverrides) (plan_of_outside (rebudgeted_outside s))

theorem redocked_clock (s : State) : s.redocked.plan.clock = s.plan.clock :=
  (clock_of_plan (plan_of_outsideDock (redocked_outsideDock s))).trans (rebudgeted_clock s)

theorem redocked_lighting (s : State) : s.redocked.lighting = s.lighting :=
  (lighting_of_outsideDock (redocked_outsideDock s)).trans (lighting_of_outside (s := s.dropOverrides) (rebudgeted_outside s))

/-- The Climate Unit's part writes its zones (R124, R138). -/
theorem climateRestart_leaves (s : State) : (climateRestart s).climate = { s.climate with zones := s.climate.zones.map restartZone }
    ∧ (climateRestart s).centre = s.centre ∧ (climateRestart s).budget = s.budget ∧ (climateRestart s).dock = s.dock
    ∧ (climateRestart s).plan = s.plan ∧ (climateRestart s).lighting = s.lighting ∧ (climateRestart s).line = s.line :=
  ⟨rfl, rfl, rfl, rfl, rfl, rfl, rfl⟩

/-- The state before the last derivation, beside the Lighting Unit. -/
theorem restarting_leaves (s : State) : s.restarting.budget = s.redocked.budget ∧ s.restarting.dock = s.redocked.dock
    ∧ s.restarting.plan = s.redocked.plan ∧ s.restarting.centre = s.redocked.centre
    ∧ s.restarting.climate = { s.redocked.climate with zones := s.redocked.climate.zones.map restartZone } := by
  obtain ⟨climate, centre, budget, dock, plan, -, -⟩ := climateRestart_leaves s.redocked
  unfold State.restarting
  generalize climateRestart s.redocked = m at *
  obtain ⟨-, budget', dock', plan', climate'⟩ := abandonWalk_leaves m
  have centre' := centre_of_outsideLighting (abandonWalk_outsideLighting m)
  generalize abandonWalk m = n at *
  exact ⟨budget'.trans budget, dock'.trans dock, plan'.trans plan, centre'.trans centre, climate'.trans climate⟩

theorem restarting_centre (s : State) : s.restarting.centre = s.dropOverrides.centre := by
  obtain ⟨-, -, -, centre, -⟩ := restarting_leaves s
  exact centre.trans ((centre_of_outsideDock (redocked_outsideDock s)).trans (centre_of_outside (rebudgeted_outside s)))

theorem restarting_budget (s : State) : s.restarting.budget = s.rebudgeted.budget := (restarting_leaves s).1.trans (redocked_restarts s).budget

theorem restarting_climate (s : State) : s.restarting.climate = { s.climate with zones := s.climate.zones.map restartZone } := by
  have dock := climate_of_outsideDock (redocked_outsideDock s)
  have budget := climate_of_outside (rebudgeted_outside s)
  obtain ⟨-, -, -, -, climate⟩ := restarting_leaves s
  rw [climate, dock, budget]
  rfl

theorem restarting_lighting (s : State) : s.restarting.lighting.walk = none ∧ s.restarting.lighting.lastKind = s.lighting.lastKind
    ∧ ∀ z, s.restarting.light z = { s.light z with lastSent := 0 } := by
  obtain ⟨-, -, -, -, -, kept, -⟩ := climateRestart_leaves s.redocked
  have lighting : (climateRestart s.redocked).lighting = s.lighting := kept.trans (redocked_lighting s)
  unfold State.restarting
  generalize climateRestart s.redocked = m at *
  have unwalked := (abandonWalk_leaves m).1
  rw [lighting] at unwalked
  generalize abandonWalk m = n at *
  refine ⟨(congrArg Lighting.walk unwalked :), (congrArg Lighting.lastKind unwalked :), fun z => ?_⟩
  have same : n.light z = s.light z := by
    unfold State.light
    rw [unwalked]
  rw [unsendLights_light, same]

theorem restarting_light (s : State) (z : Fin 24) : s.restarting.light z = { s.light z with lastSent := 0 } := (restarting_lighting s).2.2 z

theorem restarting_chan (s : State) (i : Fin 128) : ∃ o, s.restarting.chan i = { (s.chan i).restarted s.stop.state with out := o } := by
  rw [chan_of_budget (restarting_budget s)]
  exact budgetRestart_chan s.dropOverrides i

theorem restarting_cfg (s : State) (i : Fin 128) : (s.restarting.chan i).cfg = (s.chan i).cfg := by
  obtain ⟨o, e⟩ := restarting_chan s i
  rw [e]
  rfl

theorem restarting_binding (s : State) (z : Fin 24) : s.restarting.lightBinding z = s.lightBinding z :=
  lightBinding_congr (restarting_cfg s) (by rw [restarting_light])

theorem restarting_idle (s : State) (i : Fin 128) : (s.restarting.chan i).entry = none ∧ (s.restarting.chan i).deficit = 0 := by
  obtain ⟨o, e⟩ := restarting_chan s i
  rw [e]
  exact restarted_idle _ _

/-- The derivation that ends a restart writes bound LIGHT channels alone. -/
theorem restarted_writesLights (s : State) : s.restarting.WritesLights s.restarting.bindsLight (plantRestart s) := by
  rw [plantRestart_eq]
  exact deriveLights_writesLights (fun j => (restarting_idle s j).1) fun j _ => (restarting_idle s j).2

/-! ### The line -/

theorem rebudgeted_follows (s : State) : s.Follows s.rebudgeted := (State.Follows.budget s).budgetRestart (s := s.dropOverrides) (dropOverrides_follows s)
theorem redocked_follows (s : State) : s.rebudgeted.Follows s.redocked := (State.Follows.units _).dockRestart (.refl _)

theorem redocked_followed (s : State) : s.redocked.Follows (plantRestart s) := by
  obtain ⟨-, -, -, -, -, -, line⟩ := climateRestart_leaves s.redocked
  rw [plantRestart_eq]
  unfold State.restarting
  generalize climateRestart s.redocked = m at *
  have abandoned := (State.Follows.of_line (.refl s.redocked) line).trans (abandonWalk_follows m)
  exact (State.Follows.units _).deriveLights (s := unsendLights (abandonWalk m)) (.of_line abandoned rfl)

theorem plantRestart_follows (s : State) : s.Follows (plantRestart s) :=
  (rebudgeted_follows s).trans ((redocked_follows s).trans (redocked_followed s))

theorem plantRestart_losesWhenFull (s : State) : s.LosesWhenFull (plantRestart s) := by
  have c := State.LosesWhenFull.units s
  have budget : s.LosesWhenFull s.rebudgeted :=
    (State.LosesWhenFull.budget s).budgetRestart (s := s.dropOverrides) (.of_line (.refl s) rfl)
  have dock : s.LosesWhenFull s.redocked := c.dockRestart budget
  obtain ⟨-, -, -, -, -, -, line⟩ := climateRestart_leaves s.redocked
  rw [plantRestart_eq]
  unfold State.restarting
  generalize climateRestart s.redocked = m at *
  exact c.deriveLights (s := unsendLights (abandonWalk m)) (.of_line (abandonWalk_losesWhenFull (dock.of_line line)) rfl)

theorem plantRestart_eases (ht : s.budget.tight = true) (hp : s.profile.tight ≤ 1000) :
    s.reports (plantRestart s) ⟨.budgetEased, s.plan.clock, 0,
      le32 s.budget.pool ++ le32 s.budget.pool ++ le8 s.plan.current.fields.profile⟩ :=
  budgetRestart_eases (s := s.dropOverrides) ht hp ((redocked_follows s).trans (redocked_followed s))

theorem plantRestart_walkDone (hw : s.lighting.walk.isSome = true) : s.reports (plantRestart s) ⟨.walkDone, s.plan.clock, 0,
    [0x02] ++ le8 ((indices 24).filter fun z => (s.light z).walkResult.isSome).length
      ++ le8 ((indices 24).filter fun z => (s.light z).walkResult.any (· < 1000)).length⟩ := by
  obtain ⟨-, -, -, -, plan, lighting, line⟩ := climateRestart_leaves s.redocked
  have follows : s.Follows (climateRestart s.redocked) := ((rebudgeted_follows s).trans (redocked_follows s)).of_line line
  have clock : (climateRestart s.redocked).plan.clock = s.plan.clock := (congrArg PlanUnit.clock plan).trans (redocked_clock s)
  rw [redocked_lighting] at lighting
  rw [plantRestart_eq]
  unfold State.restarting
  generalize climateRestart s.redocked = m at *
  have light (z : Fin 24) : m.light z = s.light z := light_of_lighting lighting z
  have followed : (abandonWalk m).Follows (deriveLights (unsendLights (abandonWalk m))) :=
    (State.Follows.units _).deriveLights (s := unsendLights _) (.of_line (.refl _) rfl)
  have reported := (abandonWalk_reports (by rw [lighting]; exact hw) followed).before follows
  simp only [light, clock] at reported
  exact reported

theorem plantRestart_checkDone {k : ContactCheck} (hk : s.dock.check = some k) : s.reports (plantRestart s) ⟨.checkDone, s.plan.clock, 0,
    [0x00, 0x00, 0x00, 0x00] ++ le8 ((indices 32).filter fun d => look k.underTest d).length ++ [0x02]⟩ := by
  have follows := rebudgeted_follows s
  have followed := redocked_followed s
  have check : s.rebudgeted.dock.check = some k := (check_of_outside (s := s.dropOverrides) (rebudgeted_outside s)).trans hk
  have clock := rebudgeted_clock s
  generalize plantRestart s = t at *
  unfold State.redocked at followed
  rw [dockRestart_eq] at followed
  generalize s.rebudgeted = b at *
  have abandoned : (abandonCheck b).Follows t := .trans
    (forEach_keeps (I := (abandonCheck b).Follows) (fun d u hu => hu.trans (restartDoor_follows d u)) _ _ (.refl _)) followed
  have reported := (abandonCheck_reports check abandoned).before follows
  rwa [clock] at reported

end Sys2Proof.Machine
end

section
/-! SUPPORT. What a PLANT restart leaves of each unit (R32, R43, R72, R85, R89, R107, R114, R115, R124, R138, R145, R159). -/

namespace Sys2Proof.Machine

variable {s t u : State} {i j : Fin 128} {z : Fin 24} {y : Fin 12} {d : Fin 32}

/-! ### The plan, Stop Control and the store -/

theorem plantRestart_centre (s : State) : (plantRestart s).centre = s.dropOverrides.centre := by
  rw [plantRestart_eq]
  exact (centre_of_outsideLighting (deriveLights_outsideLighting _)).trans (restarting_centre s)

theorem rebudgeted_counts (s : State) : s.SameCounts s.rebudgeted :=
  (State.SameCounts.arbiter s).budgetRestart (State.SameCounts.arbiter s).put (s := s.dropOverrides) ((State.SameCounts.refl s).of_eq rfl rfl)

theorem plantRestart_totals (s : State) : (plantRestart s).plan.totals.forgetLoss = s.plan.totals.forgetLoss := by
  obtain ⟨-, -, plan, -, -⟩ := restarting_leaves s
  rw [(restarted_writesLights s).plan, plan, (redocked_restarts s).totals]
  exact forgetLoss_of_counts (rebudgeted_counts s)

/-! ### The Load Budget Unit -/

theorem rebudgeted_budget (s : State) : s.rebudgeted.budget
    = { s.budget with channels := s.rebudgeted.budget.channels, tight := s.rebudgeted.budget.tight, shed := false } := by
  have restarted := budgetRestart_budget s.dropOverrides
  rw [show s.dropOverrides.budget = s.budget from rfl] at restarted
  unfold State.rebudgeted
  exact restarted

theorem restarted_fields {a b c : LoadBudget} (hb : b = { a with channels := b.channels, tight := b.tight, shed := false })
    (hc : c = { b with channels := c.channels, lastSerial := c.lastSerial, tight := c.tight, shed := c.shed }) (hs : b.shed = false → c.shed = false) :
    c = { a with channels := c.channels, lastSerial := c.lastSerial, tight := c.tight, shed := false } := by
  have shed : b.shed = false := by rw [hb]
  rw [hs shed] at hc
  rw [hb] at hc
  exact hc

theorem plantRestart_budget (s : State) : (plantRestart s).budget = { s.budget with
    channels := (plantRestart s).budget.channels, lastSerial := (plantRestart s).budget.lastSerial, tight := (plantRestart s).budget.tight,
    shed := false } := by
  have lights := restarted_writesLights s
  have budget := lights.budget
  have shed := lights.shed
  rw [restarting_budget] at budget shed
  exact restarted_fields (rebudgeted_budget s) budget shed

theorem plantRestart_serial (h : ∀ z, s.lightBinding z = none) : (plantRestart s).budget.lastSerial = s.budget.lastSerial := by
  rw [plantRestart_eq, deriveLights_budget_of_unbound fun z => (restarting_binding s z).trans (h z), restarting_budget, rebudgeted_budget]

/-- A channel that no lighting zone has bound stands as its own part of the restart left it. -/
theorem plantRestart_chan_unlit (h : ∀ z, s.lightBinding z ≠ some i) :
    ∃ o, (plantRestart s).chan i = { (s.chan i).restarted s.stop.state with out := o } := by
  rw [(restarted_writesLights s).unlit i fun ⟨z, hz⟩ => h z ((restarting_binding s z).symm.trans hz)]
  exact restarting_chan s i

theorem restarting_trips (s : State) : s.TripsStand s.restarting := fun j => by
  obtain ⟨o, e⟩ := restarting_chan s j
  rw [e]
  exact ⟨rfl, rfl⟩

theorem plantRestart_kept (s : State) (i : Fin 128) : ((plantRestart s).chan i).cfg = (s.chan i).cfg
    ∧ ((plantRestart s).chan i).tripped = (s.chan i).tripped ∧ ((plantRestart s).chan i).tripIn = (s.chan i).tripIn := by
  rw [plantRestart_eq]
  exact ⟨(deriveLights_cfg _ i).trans (restarting_cfg s i), (tripsStand_property s).lighting.deriveLights (restarting_trips s) i⟩

theorem plantRestart_step (hr : (s.chan i).cfg.role.isStep = true) : ((plantRestart s).chan i).target = 0 ∧ ((plantRestart s).chan i).granted = 0
    ∧ ((plantRestart s).chan i).entry = none ∧ ((plantRestart s).chan i).minOnT = none
    ∧ ((plantRestart s).chan i).minOffT = (s.chan i).minOffT ∧ ((plantRestart s).chan i).serial = (s.chan i).serial := by
  have unlit (z : Fin 24) : s.lightBinding z ≠ some i := fun hz =>
    isStep_ne_light hr (Channel.boundTo_iff.mp (lightBinding_iff.mp hz).2).1
  obtain ⟨o, e⟩ := plantRestart_chan_unlit unlit
  rw [e]
  exact ⟨rfl, protPart_of_not_light (isStep_ne_light hr), rfl, rfl, rfl, rfl⟩

theorem plantRestart_light (h : ∀ z, s.lightBinding z ≠ some i) : ((plantRestart s).chan i).target = 0
    ∧ ((plantRestart s).chan i).granted = (s.chan i).protPart s.stop.state ∧ ((plantRestart s).chan i).serial = (s.chan i).serial := by
  obtain ⟨o, e⟩ := plantRestart_chan_unlit h
  rw [e]
  exact ⟨rfl, rfl, rfl⟩

/-! ### The lighting zones -/

theorem plantRestart_walk (s : State) :
    (plantRestart s).lighting.walk = none ∧ (plantRestart s).lighting.lastKind = s.lighting.lastKind := by
  obtain ⟨walk, kind, -⟩ := restarting_lighting s
  rw [plantRestart_eq]
  exact ⟨(deriveLights_walk _).trans walk, (deriveLights_lastKind _).trans kind⟩

theorem plantRestart_zone (s : State) (z : Fin 24) : s.keepsZone (plantRestart s) z
    ∧ ((plantRestart s).light z).target = max ((plantRestart s).tableLine z).1 ((plantRestart s).light z).cfg.protMin
    ∧ ((plantRestart s).light z).source = ((plantRestart s).tableLine z).2
    ∧ ((plantRestart s).light z).lastSent = (if (s.lightBinding z).isSome then ((plantRestart s).light z).target else 0) := by
  have kept : s.restarting.keepsZone (deriveLights s.restarting) z := .of_derived (deriveLights_light _ z)
  obtain ⟨target, source, sent⟩ := derives_deriveLights s.restarting z
  rw [← plantRestart_eq] at *
  refine ⟨?_, target, source, ?_⟩
  · unfold State.keepsZone at *
    rwa [restarting_light] at kept
  · rw [restarting_binding, restarting_light] at sent
    cases hb : s.lightBinding z with
    | none =>
      rw [hb] at sent
      exact sent
    | some i =>
      rw [hb] at sent
      exact sent.1

/-- The channel bound to a zone is asked for the zone's target. -/
theorem plantRestart_bound (hi : s.lightBinding z = some i) : ((plantRestart s).chan i).target = ((plantRestart s).light z).target := by
  rw [plantRestart_eq]
  refine deriveLights_bound ((restarting_binding s z).trans hi) (fun y => by rw [restarting_light]) ?_
  obtain ⟨o, e⟩ := restarting_chan s i
  rw [e]
  rfl

/-! ### The climate zones -/

theorem plantRestart_climate (s : State) : (plantRestart s).climate = { s.climate with zones := s.climate.zones.map restartZone } := by
  rw [plantRestart_eq]
  exact (climate_of_outsideLighting (deriveLights_outsideLighting _)).trans (restarting_climate s)

theorem plantRestart_climateZone (s : State) (y : Fin 12) : (plantRestart s).zone y = restartZone (s.zone y) := by
  unfold State.zone
  rw [plantRestart_climate]
  exact look_map _ _ _

/-! ### The doors -/

theorem plantRestart_dock (s : State) : (plantRestart s).dock = s.redocked.dock := (restarted_writesLights s).dock.trans (restarting_leaves s).2.1

theorem fields_of_dock_forgetLoss {k k' : Dock} (h : k'.forgetLoss = k.forgetLoss) : k'.log = k.log ∧ k'.lost = k.lost
    ∧ k'.lossReported = k.lossReported ∧ k'.zoneDT = k.zoneDT ∧ k'.nextSession = k.nextSession :=
  ⟨(congrArg Dock.log h :), (congrArg Dock.lost h :), (congrArg Dock.lossReported h :), (congrArg Dock.zoneDT h :), (congrArg Dock.nextSession h :)⟩

theorem rebudgeted_owesSame (s : State) : s.OwesSame s.rebudgeted :=
  (State.OwesSame.arbiter s).budgetRestart (State.OwesSame.arbiter s).put (s := s.dropOverrides) ⟨rfl, fun _ => rfl⟩

theorem plantRestart_logs (s : State) : s.LogsAll (plantRestart s) (s.dueRecords (indices 32)) := by
  have logs := (redocked_restarts s).logs
  have clock := rebudgeted_clock s
  have owes := rebudgeted_owesSame s
  obtain ⟨log, lost, reported, -, -⟩ := fields_of_dock_forgetLoss (rebudgeted_dock s)
  have dock' := plantRestart_dock s
  rw [dueRecords_congr (fun d _ => owes.2 d) clock] at logs
  have logs' := logs.of_view (s := s) log lost reported clock
    (rebudgeted_follows s)
  refine ⟨by rw [dock']; exact logs'.log, by rw [dock']; exact logs'.lost, fun r hr hs u hu => ?_, plantRestart_follows s⟩
  exact logs'.notice r hr hs u ((redocked_followed s).trans hu)

theorem restarted_forgetLoss {x x' : Door} (h : x'.forgetLoss = x.forgetLoss) (now n : Nat) :
    ({ x'.restarted now with rate := n } : Door).forgetLoss = (x.restarted now).forgetLoss := by
  have through (x : Door) (now n : Nat) : ({ x.restarted now with rate := n } : Door).forgetLoss = (x.forgetLoss.restarted 0).forgetLoss := rfl
  exact (through x' now n).trans ((congrArg (fun w : Door => (w.restarted 0).forgetLoss) h).trans (through x now x.rate).symm)

theorem plantRestart_door (s : State) (d : Fin 32) : ((plantRestart s).door d).forgetLoss = ((s.door d).restarted s.seconds).forgetLoss
    ∧ ((plantRestart s).door d).curtainRunning = false ∧ ((plantRestart s).door d).stamp = s.seconds := by
  obtain ⟨r, e⟩ := (redocked_restarts s).door d
  have shape : (s.rebudgeted.door d).forgetLoss = (s.door d).forgetLoss := shape_of_forgetLoss (rebudgeted_dock s) d
  rw [door_of_dock (plantRestart_dock s) d, e, (rebudgeted_owesSame s).1]
  exact ⟨restarted_forgetLoss shape _ _, rfl, rfl⟩

theorem plantRestart_copies (s : State) : (plantRestart s).dock.check = none ∧ (plantRestart s).dock.zoneDT = s.dock.zoneDT
    ∧ (plantRestart s).dock.nextSession = s.dock.nextSession := by
  have doors := redocked_restarts s
  obtain ⟨-, -, -, zoneDT, next⟩ := fields_of_dock_forgetLoss (rebudgeted_dock s)
  rw [plantRestart_dock]
  exact ⟨doors.check, doors.zoneDT.trans zoneDT, doors.next.trans next⟩

end Sys2Proof.Machine
end

section
/-! PROOFS. The settlement of O56: RESTART (R159). -/

namespace Sys2Proof.Machine

variable {s t u : State} {tag mode : Byte} {rest : List Frame}

/-! ### The sessions that a restart closes, in the words of the rules -/

/-- What an open session is due, spelled out. -/
theorem dueSession_eq (s : State) (d : Fin 32) : s.dueSession d = (s.door d).session.map fun y =>
    { y with
      loss := min 4294967295 (y.loss + (s.door d).rate * (s.seconds - (s.door d).stamp))
      openSeconds := if (s.door d).state = .openDocked then min 4294967295 (y.openSeconds + (s.seconds - (s.door d).stamp)) else y.openSeconds } := rfl

theorem dueRecords_eq (s : State) (l : List (Fin 32)) : s.dueRecords l = l.filterMap fun d =>
    (s.door d).session.map fun y => ⟨d, .restart, s.plan.clock,
      { y with
        loss := min 4294967295 (y.loss + (s.door d).rate * (s.seconds - (s.door d).stamp))
        openSeconds := if (s.door d).state = .openDocked then min 4294967295 (y.openSeconds + (s.seconds - (s.door d).stamp)) else y.openSeconds }⟩ := by
  unfold State.dueRecords
  simp only [dueSession_eq, Option.map_map]
  rfl

/-! ### The two modes -/

theorem restart_refused (h : s.takes ⟨tag, 0x51, [mode]⟩ rest) (hm : 1 < mode.toNat) :
    exec (.restartPlant tag [mode]) s = .next (s.answered rest tag 0x51 [0x12]) := by
  change request 0x51 tag [mode] _ s = _
  refine request_answers (n := 1) (by decide) rfl h ?_
  unfold restart
  have read : u8 [mode] 0 = mode.toNat := rfl
  rw [read]
  generalize mode.toNat = n at hm
  match n, hm with
  | n + 2, _ => rfl

theorem restart_plant (h : s.takes ⟨tag, 0x51, [0x00]⟩ rest) :
    exec (.restartPlant tag [0x00]) s = .next (sendReply tag 0x51 [0x00] (plantRestart (s.taken rest))) := by
  change request 0x51 tag [0x00] _ s = _
  exact request_runs (n := 1) (by decide) rfl h rfl

theorem restart_busy (h : s.takes ⟨tag, 0x51, [0x01]⟩ rest) (hb : s.store.saving.isSome = true) :
    exec (.restartFull tag [0x01]) s = .next (s.answered rest tag 0x51 [0x16]) := by
  change request 0x51 tag [0x01] _ s = _
  exact request_answers (n := 1) (by decide) rfl h (if_pos hb)

theorem restart_full (h : s.takes ⟨tag, 0x51, [0x01]⟩ rest) (hb : s.store.saving = none) :
    exec (.restartFull tag [0x01]) s = .next (sendReply tag 0x51 [0x00] (powerUp s)) := by
  have power : powerUp s = startLoading (s.taken rest) (s.taken rest).store.image := by
    unfold powerUp SettingStore.imageAtPowerOn
    rw [hb]
    rfl
  have idle : (s.taken rest).store.saving = none := hb
  change request 0x51 tag [0x01] _ s = _
  refine request_runs (n := 1) (by decide) rfl h ?_
  rw [power]
  unfold restart
  exact if_neg (by rw [idle]; exact Bool.false_ne_true)

theorem full_of_power (u : State) (tag : Byte) (reply : Bytes) :
    sendReply tag 0x51 reply u = { u with line := { u.line with sent := (sendReply tag 0x51 reply u).line.sent } } := rfl

/-- Settles O56: each unit's part of the restart writes its own records, the derivation of the lights, over channels that nothing waits for,
those of the lighting zones alone. -/
theorem restartStartsAgain : Obligations.RestartStartsAgain := by
  unfold Obligations.RestartStartsAgain
  refine ⟨fun s tag mode rest h hm => restart_refused h hm, fun s tag rest h => ?_, fun s tag rest h hb => restart_busy h hb,
    fun s tag rest h hb => ?_⟩
  · intro closed records room
    have run := restart_plant h
    have follows := plantRestart_follows (s.taken rest)
    have sent : (plantRestart (s.taken rest)).line.sent = s.line.sent := follows.sent
    have notices : s.line.notices <+: (plantRestart (s.taken rest)).line.notices := follows.1
    have line := follows.2
    obtain ⟨plan, store, stage, seconds, stop⟩ := fields_of_centre (plantRestart_centre (s.taken rest))
    have totals := plantRestart_totals (s.taken rest)
    obtain ⟨rises, stands⟩ := plantRestart_losesWhenFull (s.taken rest)
    have budget := plantRestart_budget (s.taken rest)
    have serial := plantRestart_serial (s := s.taken rest)
    have kept := plantRestart_kept (s.taken rest)
    have step (i : Fin 128) := plantRestart_step (s := s.taken rest) (i := i)
    have light (i : Fin 128) := plantRestart_light (s := s.taken rest) (i := i)
    have bound (i : Fin 128) (z : Fin 24) := plantRestart_bound (s := s.taken rest) (i := i) (z := z)
    have eased := plantRestart_eases (s := s.taken rest)
    obtain ⟨check, zoneDT, next⟩ := plantRestart_copies (s.taken rest)
    obtain ⟨log, lost, notice, -⟩ := plantRestart_logs (s.taken rest)
    have offered : (s.taken rest).dueRecords (indices 32) = records := dueRecords_eq (s.taken rest) _
    rw [offered] at log lost notice
    have door := plantRestart_door (s.taken rest)
    have checkDone (k : ContactCheck) := plantRestart_checkDone (s := s.taken rest) (k := k)
    have climate : { (plantRestart (s.taken rest)).climate with zones := s.climate.zones } = s.climate := by
      rw [plantRestart_climate]
      rfl
    have zone := plantRestart_climateZone (s.taken rest)
    obtain ⟨walk, kind⟩ := plantRestart_walk (s.taken rest)
    have walkDone := plantRestart_walkDone (s := s.taken rest)
    have lights := plantRestart_zone (s.taken rest)
    generalize plantRestart (s.taken rest) = t at *
    refine ⟨_, run, replied_of_sent sent, plan, totals, store, stop, stage, seconds, ?_, notices, rises, stands, budget, serial, kept, step,
      fun i _ hi => light i hi, bound, eased, check, zoneDT, next, log, lost, fun r hr hs => notice r hr hs t (.refl t), door, checkDone,
      climate, zone, walk, kind, walkDone, lights⟩
    exact congrArg (fun l : Line => ({ l with sent := t.line.sent ++ [frameBytes tag (0x51 + 0x80) [0x00]] } : Line)) line
  · exact ⟨_, _, rfl, restart_full h hb, rfl, full_of_power _ _ _⟩

end Sys2Proof.Machine
end

section
/-! SUPPORT. The state discarded at power-on, and what the load depends on (R158, R162, R163). -/

namespace Sys2Proof.Machine

variable {s t u : State} {c : Snapshot} {stage : Stage} {store : SettingStore} {i : Fin 128} {d : Fin 32} {z : Fin 12} {y : Fin 24}

/-! ### A state afresh -/

section
variable (s c stage store)

theorem afresh_chan (i : Fin 128) : (s.afresh stage c store).chan i = startChannel (look c.channels i) (s.chan i).tripIn := look_ofFn _ _

theorem afresh_door (d : Fin 32) : (s.afresh stage c store).door d = startDoor (look c.doors d) (s.door d).rawOpen (s.door d).rawPresent := look_ofFn _ _

theorem afresh_zone (z : Fin 12) : (s.afresh stage c store).zone z = startZone z (look c.zones z) := look_ofFn _ _

theorem afresh_light (z : Fin 24) : (s.afresh stage c store).light z = startLight (look c.lights z) := look_map _ _ _

theorem afresh_temp (p : Fin 32) : look (s.afresh stage c store).climate.temps p = startPoint (look c.points.tempUsed p) 300 := look_ofFn _ _

theorem afresh_exhaust (p : Fin 12) : look (s.afresh stage c store).climate.exhausts p = startPoint (look c.points.exhaustUsed p) 120 := look_ofFn _ _

end

/-- What is kept of a state that is discarded depends on nothing but the inputs, the frames sent, the waiting commands and the counter. -/
theorem afresh_congr (h : s.sameOutside u) (stage : Stage) (c : Snapshot) (store : SettingStore) : s.afresh stage c store = u.afresh stage c store := by
  obtain ⟨fire, trips, raw, sent, pending, drawn⟩ := h
  unfold State.afresh
  rw [fire, sent, pending, drawn, funext trips, funext fun d => (raw d).1, funext fun d => (raw d).2]

theorem point_startsFrom (used : Bool) (stale : Nat) : (startPoint used stale).startsFrom used stale := by
  cases used <;> rfl

/-- The digest is taken of the tables, the phase list and the fallback phase, not of itself (R20). -/
theorem startPlan_startsFrom (c : Snapshot) : (startPlan c).startsFrom c := rfl

theorem startBudget_startsFrom (c : Snapshot) (trips : Fin 128 → Bool) : (startBudget c trips).startsFrom c := rfl

/-! ### Power-on -/

theorem powerOn_congr (h : s.sameOutside u) (image : s.store.image = u.store.image) (saving : s.store.saving = u.store.saving) :
    exec .powerOn s = exec .powerOn u := by
  have kept : s.store.imageAtPowerOn = u.store.imageAtPowerOn := by
    unfold SettingStore.imageAtPowerOn
    rw [image, saving]
  have power : powerUp s = powerUp u := by
    unfold powerUp startLoading
    rw [kept, afresh_congr h]
  have run (v : State) : exec .powerOn v = .next (powerUp v) := rfl
  rw [run, run, power]

theorem factory_channel (i : Fin 128) : look factorySnapshot.channels i = defaultChannel := look_replicate _ _
theorem factory_light (z : Fin 24) : look factorySnapshot.lights z = defaultLight := look_replicate _ _

/-- The state that waits for the load starts with the factory configuration. -/
theorem startLoading_startsFrom (s : State) (image : StoreImage) : s.startsFrom (startLoading s image) factorySnapshot := by
  unfold startLoading
  refine ⟨rfl, startPlan_startsFrom _, startBudget_startsFrom _ _, fun i => ?_, rfl, fun d => ?_, fun z => ?_, fun p => ?_, fun p => ?_, rfl, rfl, rfl, rfl, fun z => ?_, rfl, rfl, rfl, rfl, rfl⟩
  · rw [afresh_chan, factory_channel]
    exact ⟨rfl, rfl, rfl, rfl, rfl, rfl, fun _ => ⟨rfl, rfl, rfl, rfl⟩⟩
  · rw [afresh_door]
    rfl
  · rw [afresh_zone]
    exact ⟨rfl, rfl⟩
  · rw [afresh_temp]
    exact point_startsFrom _ _
  · rw [afresh_exhaust]
    exact point_startsFrom _ _
  · rw [afresh_light, factory_light]
    exact ⟨rfl, rfl, rfl, rfl⟩

/-- A whole image stands at power-on, and one cut short fails its check. -/
theorem imageAtPowerOn_spec (x : SettingStore) : (x.saving = none → x.imageAtPowerOn = x.image)
    ∧ ∀ p, x.saving = some p → ∃ crc, x.imageAtPowerOn = .written p.1 crc ∧ crc ≠ crc16 p.1.image := by
  unfold SettingStore.imageAtPowerOn
  refine ⟨fun h => by rw [h], fun p h => ⟨~~~p.1.crc, by rw [h]; rfl, fun e => ?_⟩⟩
  have bit := congrArg (fun v : Crc16 => v.getLsbD 0) e
  simp [Snapshot.crc] at bit

theorem powerOn_starts (s : State) : ∃ t, exec .powerOn s = .next t ∧ t.stage = .loading ∧ s.startsFrom t factorySnapshot
    ∧ t.plan.totals.shed = 0 ∧ t.budget.lastSerial = 0 ∧ t.budget.tight = false ∧ t.budget.shed = false
    ∧ t.line
      = { rx := [], buffer := [], notices := [], level := t.line.level, lost := 0, badFrames := 0, overruns := 0
          attention := false, sent := s.line.sent }
    ∧ t.store.saving = none ∧ t.store.lastSave = .none
    ∧ (s.store.saving = none → t.store.image = s.store.image)
    ∧ ∀ x, s.store.saving = some x → ∃ crc, t.store.image = .written x.1 crc ∧ crc ≠ crc16 x.1.image :=
  ⟨powerUp s, rfl, rfl, startLoading_startsFrom s _, rfl, rfl, rfl, rfl, rfl, rfl, rfl, imageAtPowerOn_spec s.store⟩

/-! ### The end of the load -/

theorem exec_storeLoadComplete_idle (hs : s.stage ≠ .loading) (answers : Bool) : exec (.storeLoadComplete answers) s = .next s := if_neg hs

/-- The state that the load installs, before the start-up notices. -/
def State.installed (s : State) (c : Snapshot) (source : StoreSource) : State :=
  ((s.afresh .running c { s.store with source := source }).setLine { s.line with level := c.level }).setStop
    { state := if s.stop.fire then .stopped else .running, fire := s.stop.fire, stopStamp := 0 }

theorem installed_congr (h : s.sameOutside u) (store : s.store = u.store) (line : s.line = u.line) (c : Snapshot) (source : StoreSource) :
    s.installed c source = u.installed c source := by
  unfold State.installed
  rw [afresh_congr h, store, line, h.1]

/-- Where the configuration of a load comes from. -/
def sourceOf : Except StoreReason Snapshot → StoreSource
  | .ok _ => .store
  | .error _ => .defaults

theorem finishLoading_eq (answers : Bool) (s : State) : finishLoading answers s
    = lightingStart (budgetStart (startUpNotices (loadImage answers s.store.image)
        (s.installed (loadedSnapshot (loadImage answers s.store.image)) (sourceOf (loadImage answers s.store.image))))) := by
  unfold finishLoading
  cases loadImage answers s.store.image <;> rfl

theorem storeLoadComplete_congr (hs : s.stage = .loading) (hu : u.stage = .loading) (h : s.sameOutside u) (store : s.store = u.store)
    (line : s.line = u.line) (answers : Bool) : exec (.storeLoadComplete answers) s = exec (.storeLoadComplete answers) u := by
  rw [exec_storeLoadComplete_of_loading hs, exec_storeLoadComplete_of_loading hu, finishLoading_eq, finishLoading_eq, store, installed_congr h store line]

end Sys2Proof.Machine
end

section
/-! SUPPORT. The start of the Load Budget Unit: no channel waits and none holds more than its protected part, so its first hand-over sheds and
grants nothing (R43, R59 to R63, R65). -/

namespace Sys2Proof.Machine

variable {s t u v : State} {i j : Fin 128} {p : PlantState} {c : Snapshot}

/-! ### Events over channels that nothing waits for -/

theorem deficit_of_untargeted {x : Channel} (h : x.target = 0) : x.deficit = 0 := by
  unfold Channel.deficit
  rw [h]
  cases x.cfg.role <;> simp [units, ceilDiv]

theorem walk_of_idle (h : ∀ i, (s.chan i).entry = none ∧ (s.chan i).deficit = 0) : walk s = s := by
  have order : s.deficitOrder = [] := by
    unfold State.deficitOrder
    rw [show s.deficitMembers = [] from List.filter_eq_nil_iff.mpr fun i _ => by simp [(h i).2]]
    rfl
  unfold walk
  dsimp only
  rw [order]
  exact visitQueue_of_unqueued (fun j => (h j).1) _

/-- An event of the arbiter over channels that nothing waits for clears the shed condition and compares the tight flag. -/
theorem arbitrate_of_idle (h : ∀ i, (s.chan i).entry = none ∧ (s.chan i).deficit = 0) :
    arbitrate s = settleTight (s.setBudget { s.budget with shed := false }) := by
  unfold arbitrate endEvent
  rw [walk_of_idle h, settleShed_of_idle h]

theorem handOver_of_idle (cause : ShedCause) (h : ∀ i, (s.chan i).entry = none ∧ (s.chan i).deficit = 0)
    (hp : ∀ i, (s.chan i).nonProtected s.stop.state = 0) : handOver cause s = settleTight (s.setBudget { s.budget with shed := false }) := by
  unfold handOver
  rw [shedding_of_safe cause (poolSafe_of_nonProtected hp), arbitrate_of_idle h]

theorem settleTight_dock (s : State) : (settleTight s).dock = s.dock := by
  unfold settleTight
  dsimp only
  split
  · rfl
  · exact raise_dock _ _ _ _

/-! ### The channels at the start -/

/-- A channel that starts, but for its output (R43). -/
def Channel.started (p : PlantState) (x : Channel) : Channel := if x.tripsNow then { x with tripped := true } else { x with granted := x.protPart p }

theorem startUpChannel_chan (i : Fin 128) (s : State) : ∃ o, (startUpChannel i s).chan i = { (s.chan i).started s.stop.state with out := o } := by
  unfold startUpChannel Channel.started
  dsimp only
  split
  · rw [raise_chan, chan_putChan_self]
    exact ⟨_, rfl⟩
  · rw [chan_putChan_self]
    exact ⟨_, rfl⟩

/-- Every channel as it starts. -/
def startUpChannels (s : State) : State := forEach (indices 128) startUpChannel s

theorem budgetStart_eq (s : State) : budgetStart s = handOver .ceiling (figure (ceil (protect (startUpChannels s)))) := rfl

theorem startUpChannels_outside (s : State) : (startUpChannels s).outsideBudget = s.outsideBudget :=
  forEach_same (P := State.outsideBudget) (fun i u => startUpChannel_outside u i) _ s

theorem startUpChannels_chan (s : State) (i : Fin 128) : ∃ o, (startUpChannels s).chan i = { (s.chan i).started s.stop.state with out := o } := by
  refine forEach_settles (P := fun i u => ∃ o, u.chan i = { (s.chan i).started s.stop.state with out := o })
    (Q := fun i u => u.chan i = s.chan i ∧ u.stop = s.stop) ?_ ?_ ?_ _ (nodup_indices 128) s (fun _ _ => ⟨rfl, rfl⟩) i (.inl (mem_indices i))
  · rintro a u ⟨chan, stop⟩
    have settled := startUpChannel_chan a u
    rwa [chan, stop] at settled
  · intro a b u hb hu
    rwa [startUpChannel_chan_ne (Ne.symm hb)]
  · rintro a b u hb ⟨chan, stop⟩
    exact ⟨(startUpChannel_chan_ne (Ne.symm hb) u).trans chan, (stop_of_outside (startUpChannel_outside u a)).trans stop⟩

/-- The start of the channels leaves the doors and the plan as they stand, and of its own unit all but the channels. -/
theorem startUpChannel_leaves (i : Fin 128) (s : State) : (startUpChannel i s).dock = s.dock ∧ (startUpChannel i s).plan = s.plan
    ∧ ∃ l, (startUpChannel i s).budget = { s.budget with channels := l } := by
  unfold startUpChannel
  dsimp only
  split
  · rw [raise_dock, raise_plan, raise_budget]
    exact ⟨rfl, rfl, _, rfl⟩
  · exact ⟨rfl, rfl, _, rfl⟩

theorem startUpChannels_leaves (s : State) : (startUpChannels s).dock = s.dock ∧ (startUpChannels s).plan = s.plan
    ∧ ∃ l, (startUpChannels s).budget = { s.budget with channels := l } := by
  unfold startUpChannels
  refine forEach_keeps (I := fun u => u.dock = s.dock ∧ u.plan = s.plan ∧ ∃ l, u.budget = { s.budget with channels := l }) (fun i u hu => ?_) _ s
    ⟨rfl, rfl, _, rfl⟩
  obtain ⟨dock, plan, l, budget⟩ := startUpChannel_leaves i u
  obtain ⟨dock', plan', l', budget'⟩ := hu
  exact ⟨dock.trans dock', plan.trans plan', l, by rw [budget, budget']⟩

theorem startUpChannel_follows (i : Fin 128) (s : State) : s.Follows (startUpChannel i s) := (State.Follows.budget s).startUpChannel i (.refl s)

theorem startUpChannels_follows (s : State) : s.Follows (startUpChannels s) := by
  unfold startUpChannels
  exact forEach_keeps (I := s.Follows) (fun i u hu => hu.trans (startUpChannel_follows i u)) _ s (.refl s)

/-- A channel that starts TRIPPED raises its notice (R43). -/
theorem startUpChannels_reports (ht : (s.chan i).tripsNow = true) (hu : (startUpChannels s).Follows u) : s.reports u ⟨.channelTripped, s.plan.clock, i,
    le8 (s.chan i).cfg.role.code ++ leOpt8 (s.chan i).cfg.roleTarget ++ [0x00]⟩ := by
  obtain ⟨before, after, hb, -, e⟩ := forEach_split i
  unfold startUpChannels at hu
  rw [e] at hu
  have found : (forEach before startUpChannel s).chan i = s.chan i :=
    forEach_keeps_besides (I := fun u => u.chan i = s.chan i) (fun b u hb hu => (startUpChannel_chan_ne hb u).trans hu) hb rfl
  have clock : (forEach before startUpChannel s).plan.clock = s.plan.clock :=
    forEach_keeps (I := fun u => u.plan.clock = s.plan.clock) (fun b u hu => by rw [(startUpChannel_leaves b u).2.1, hu]) _ s rfl
  have follows : s.Follows (forEach before startUpChannel s) :=
    forEach_keeps (I := s.Follows) (fun b u hu => hu.trans (startUpChannel_follows b u)) _ s (.refl s)
  generalize forEach before startUpChannel s = m at *
  have later : (startUpChannel i m).Follows u := .trans
    (forEach_keeps (I := State.Follows _) (fun b u hu => hu.trans (startUpChannel_follows b u)) after _ (.refl _)) hu
  unfold startUpChannel at later
  dsimp only at later
  rw [found, if_pos ht] at later
  have reported := reports_of_raise (t := m.putChan i { s.chan i with tripped := true }) (follows.of_line rfl) later
  rw [show (m.putChan i { s.chan i with tripped := true }).plan.clock = m.plan.clock from rfl, clock] at reported
  exact reported

/-! ### The first figures and the first hand-over -/

/-- The first figures of the allowance. -/
def State.figured (s : State) : State := figure (ceil (protect s))

theorem figured_leaves (s : State) : s.figured.dock = s.dock ∧ s.figured.plan = s.plan ∧ s.figured.stop = s.stop ∧ s.figured.line = s.line
    ∧ (∀ i, s.figured.chan i = s.chan i) ∧ s.figured.budget.lastSerial = s.budget.lastSerial
    ∧ s.figured.budget.ct = s.budget.ceiling ∧ s.figured.budget.managed = s.budget.ceiling - s.budget.pu - s.budget.active.margin :=
  ⟨rfl, rfl, rfl, rfl, fun _ => rfl, rfl, rfl, rfl⟩

theorem figured_meters (s : State) : s.SameMeters s.figured := ⟨_, _, _, _, _, _, _, _, _, _, rfl⟩

theorem figured_reprotects (s : State) : s.figured.reprotects s.figured := ⟨rfl, rfl, fun k => by cases k <;> rfl, rfl⟩

/-- Every channel as it stands before it starts (R43). -/
def State.Unstarted (s : State) : Prop := ∀ i, (s.chan i).entry = none ∧ (s.chan i).target = 0 ∧ (s.chan i).granted = 0

theorem started_idle {x : Channel} (he : x.entry = none) (ht : x.target = 0) (p : PlantState) :
    (x.started p).entry = none ∧ (x.started p).target = 0 := by
  unfold Channel.started
  split <;> exact ⟨he, ht⟩

theorem started_nonProtected {x : Channel} (hg : x.granted = 0) (p : PlantState) : (x.started p).nonProtected p = 0 := by
  unfold Channel.started
  split
  · unfold Channel.nonProtected
    rw [hg]
    cases x.cfg.role <;> simp
  · unfold Channel.nonProtected
    cases h : x.cfg.role with
    | unused => rfl
    | light => exact Nat.sub_self _
    | heater | fan | curtain | docklight =>
      dsimp only
      rw [protPart_of_not_light (by rw [h]; decide), Nat.zero_mul]

theorem startUpChannels_idle (h : s.Unstarted) (i : Fin 128) : ((startUpChannels s).chan i).entry = none
    ∧ ((startUpChannels s).chan i).target = 0 ∧ ((startUpChannels s).chan i).nonProtected s.stop.state = 0 := by
  obtain ⟨o, e⟩ := startUpChannels_chan s i
  obtain ⟨entry, target, granted⟩ := h i
  obtain ⟨entry', target'⟩ := started_idle entry target s.stop.state
  rw [e]
  exact ⟨entry', target', started_nonProtected granted _⟩

theorem budgetStart_settles (h : s.Unstarted) :
    budgetStart s = settleTight ((startUpChannels s).figured.setBudget { (startUpChannels s).figured.budget with shed := false }) := by
  have idle := startUpChannels_idle h
  obtain ⟨-, -, stop, -, chan, -⟩ := figured_leaves (startUpChannels s)
  rw [stop_of_outside (startUpChannels_outside s)] at stop
  rw [budgetStart_eq]
  change handOver .ceiling (startUpChannels s).figured = _
  generalize (startUpChannels s).figured = m at *
  refine handOver_of_idle .ceiling (fun i => ?_) fun i => ?_
  · rw [chan]
    exact ⟨(idle i).1, deficit_of_untargeted (idle i).2.1⟩
  · rw [chan, stop]
    exact (idle i).2.2

/-- What the start of the Load Budget Unit leaves (R43, R59 to R62, R65). -/
structure State.BudgetStarts (s t : State) : Prop where
  dock : t.dock = s.dock
  plan : t.plan = s.plan
  stop : t.stop = s.stop
  chan : ∀ i, ∃ o, t.chan i = { (s.chan i).started s.stop.state with out := o }
  meters : s.SameMeters t
  serial : t.budget.lastSerial = s.budget.lastSerial
  shed : t.budget.shed = false
  ct : t.budget.ct = s.budget.ceiling
  managed : t.budget.managed = s.budget.ceiling - s.budget.pu - s.budget.active.margin
  reprotects : t.reprotects t
  follows : (startUpChannels s).Follows t

theorem reprotects_of_figures (h : s.reprotects s) (hf : t.figures = s.figures) (hb : t.basis = s.basis) (hc : ∀ i, (t.chan i).cfg = (s.chan i).cfg) :
    t.reprotects t :=
  (h.after hf (State.Protects.total_congr hb hc)).before hb.symm

theorem budgetStart_starts (h : s.Unstarted) : s.BudgetStarts (budgetStart s) := by
  obtain ⟨dock, plan, l, budget⟩ := startUpChannels_leaves s
  have stop := stop_of_outside (startUpChannels_outside s)
  have chan := startUpChannels_chan s
  have meters : s.SameMeters (startUpChannels s) := ⟨_, _, _, _, _, _, _, _, _, _, budget⟩
  rw [budgetStart_settles h]
  generalize started : startUpChannels s = m at *
  obtain ⟨dock', plan', stop', line', chan', serial, ct, managed⟩ := figured_leaves m
  have meters' := figured_meters m
  have figures := figured_reprotects m
  generalize m.figured = n at *
  have cleared : n.SameMeters (n.setBudget { n.budget with shed := false }) := ⟨_, _, _, _, _, _, _, _, _, _, rfl⟩
  have shed : (n.setBudget { n.budget with shed := false }).budget.shed = false := rfl
  have same : (n.setBudget { n.budget with shed := false }).dock = n.dock ∧ (n.setBudget { n.budget with shed := false }).plan = n.plan
    ∧ (n.setBudget { n.budget with shed := false }).stop = n.stop ∧ (n.setBudget { n.budget with shed := false }).line = n.line
    ∧ (∀ i, (n.setBudget { n.budget with shed := false }).chan i = n.chan i)
    ∧ (n.setBudget { n.budget with shed := false }).budget.lastSerial = n.budget.lastSerial
    ∧ (n.setBudget { n.budget with shed := false }).budget.ct = n.budget.ct
    ∧ (n.setBudget { n.budget with shed := false }).budget.managed = n.budget.managed := ⟨rfl, rfl, rfl, rfl, fun _ => rfl, rfl, rfl, rfl⟩
  have current : (n.setBudget { n.budget with shed := false }).reprotects (n.setBudget { n.budget with shed := false }) := figures
  generalize n.setBudget { n.budget with shed := false } = w at *
  obtain ⟨sameDock, samePlan, sameStop, sameLine, sameChan, sameSerial, sameCt, sameManaged⟩ := same
  have ended := settleTight_budget w
  refine ⟨?_, ?_, ?_, fun i => ?_, ?_, ?_, ?_, ?_, ?_, ?_, ?_⟩
  · rw [settleTight_dock, sameDock, dock', dock]
  · rw [settleTight_plan, samePlan, plan', plan]
  · rw [stop_of_outside (settleTight_outside w), sameStop, stop', stop]
  · rw [settleTight_chan, sameChan, chan']
    exact chan i
  · exact ((meters.trans meters').trans cleared).trans ⟨_, _, _, _, _, _, _, _, _, _, ended⟩
  · rw [ended]
    dsimp only
    rw [sameSerial, serial, budget]
  · rw [ended]
    exact shed
  · rw [ended]
    dsimp only
    rw [sameCt, ct, budget]
    rfl
  · rw [ended]
    dsimp only
    rw [sameManaged, managed, budget]
    rfl
  · refine reprotects_of_figures current ?_ ?_ fun i => by rw [settleTight_chan]
    · unfold State.figures
      rw [ended]
    · exact basis_eq (settleTight_unshared w) (by rw [settleTight_plan]) (stop_of_outside (settleTight_outside w))
  · have first : m.Follows w := State.Follows.of_line (.refl m) (sameLine.trans line')
    rw [started]
    exact first.trans ((State.Follows.budget w).settleTight (s := w) (.refl w))

end Sys2Proof.Machine
end

section
/-! SUPPORT. The protected minimums that the lighting zones send at the start, over channels that are asked for nothing (R40, R61 to R63, R82 to
R84, R145). -/

namespace Sys2Proof.Machine

variable {s t u v : State} {i j : Fin 128} {z y : Fin 24} {p : Fin 128 → Prop} {c : Channel}

/-- A protected minimum is no part of a channel's binding. -/
theorem lightBinding_of_wiring (hc : ∀ i, ∃ m, (t.chan i).cfg = { (s.chan i).cfg with protMin := m }) (hz : (t.light z).cfg = (s.light z).cfg) :
    t.lightBinding z = s.lightBinding z := by
  have same : (fun i => (t.chan i).boundTo .light z) = fun i => (s.chan i).boundTo .light z := by
    funext i
    obtain ⟨m, e⟩ := hc i
    unfold Channel.boundTo
    rw [e]
  unfold State.lightBinding Channel.boundTo at *
  rw [hz, same]

/-- Nothing waits and nothing is asked for, and only LIGHT channels of p hold more than their protected part. -/
structure State.AsksNothing (p : Fin 128 → Prop) (s : State) : Prop where
  entry : ∀ j, (s.chan j).entry = none
  target : ∀ j, (s.chan j).target = 0
  held : ∀ j, ¬p j → (s.chan j).nonProtected s.stop.state = 0
  role : ∀ j, p j → (s.chan j).cfg.role = .light

/-- Between s and u, where nothing is asked for, channels of p alone were written, in their protected minimum and their grant; of the plan the
shed episodes alone, and no step-up serial was taken; CT and C stand. -/
structure State.TakesMinimums (p : Fin 128 → Prop) (s u : State) : Prop where
  dock : u.dock = s.dock
  plan : u.plan = { s.plan with totals := { s.plan.totals with shed := u.plan.totals.shed } }
  stop : u.stop = s.stop
  ceiling : u.budget.lastSerial = s.budget.lastSerial ∧ u.budget.ct = s.budget.ct ∧ u.budget.managed = s.budget.managed
  chan : ∀ j, ∃ m g o, u.chan j = { s.chan j with cfg := { (s.chan j).cfg with protMin := m }, granted := g, out := o }
  unlit : ∀ j, ¬p j → u.chan j = s.chan j

namespace State.TakesMinimums

theorem refl (p : Fin 128 → Prop) (s : State) : s.TakesMinimums p s := ⟨rfl, rfl, rfl, ⟨rfl, rfl, rfl⟩, fun _ => ⟨_, _, _, rfl⟩, fun _ _ => rfl⟩

theorem of_eq (h : s.TakesMinimums p u) (hd : v.dock = u.dock) (hp : v.plan = u.plan) (hs : v.stop = u.stop)
    (hb : v.budget.lastSerial = u.budget.lastSerial ∧ v.budget.ct = u.budget.ct ∧ v.budget.managed = u.budget.managed) (hc : ∀ j, v.chan j = u.chan j) : s.TakesMinimums p v where
  dock := hd.trans h.dock
  plan := by rw [hp]; exact h.plan
  stop := hs.trans h.stop
  ceiling := by
    obtain ⟨serial, ct, managed⟩ := hb
    obtain ⟨serial', ct', managed'⟩ := h.ceiling
    exact ⟨serial.trans serial', ct.trans ct', managed.trans managed'⟩
  chan j := by rw [hc]; exact h.chan j
  unlit j hj := (hc j).trans (h.unlit j hj)

theorem raise (h : s.TakesMinimums p u) (k : NoticeKind) (n : Nat) (b : Bytes) : s.TakesMinimums p (raise k n b u) :=
  h.of_eq (raise_dock _ _ _ _) (raise_plan _ _ _ _) (stop_of_outside (raise_outside _ _ _ _))
    (by rw [raise_budget]; exact ⟨rfl, rfl, rfl⟩) (raise_chan u k n b)

theorem setBudget (h : s.TakesMinimums p u) (b : LoadBudget) (hb : b.channels = u.budget.channels)
    (hn : b.lastSerial = u.budget.lastSerial ∧ b.ct = u.budget.ct ∧ b.managed = u.budget.managed) : s.TakesMinimums p (u.setBudget b) :=
  h.of_eq rfl rfl rfl hn fun j => congrArg (fun l => look l j) hb

theorem flag (h : s.TakesMinimums p u) (b : Bool) : s.TakesMinimums p (u.setBudget { u.budget with shed := b }) := h.setBudget _ rfl ⟨rfl, rfl, rfl⟩

theorem settleTight (h : s.TakesMinimums p u) : s.TakesMinimums p (settleTight u) := by
  have told := h.setBudget { u.budget with tight := u.isTight } rfl ⟨rfl, rfl, rfl⟩
  unfold Machine.settleTight
  dsimp only
  split
  · exact h
  · exact told.raise _ _ _

theorem reportShed (h : s.TakesMinimums p u) : s.TakesMinimums p (reportShed u) where
  dock := h.dock
  plan := (congrArg (fun q : PlanUnit => { q with totals := { q.totals with shed := (Machine.reportShed u).plan.totals.shed } }) h.plan :)
  stop := h.stop
  ceiling := h.ceiling
  chan := h.chan
  unlit := h.unlit

/-- A write of a channel of p, in its protected minimum and its grant. -/
theorem putChan (h : s.TakesMinimums p u) (hi : p i) (m g : Nat) :
    s.TakesMinimums p (u.putChan i { u.chan i with cfg := { (u.chan i).cfg with protMin := m }, granted := g }) where
  dock := h.dock
  plan := h.plan
  stop := h.stop
  ceiling := h.ceiling
  chan j := by
    rw [chan_putChan]
    split
    · next e =>
      subst e
      obtain ⟨m', g', o, e⟩ := h.chan i
      rw [e]
      exact ⟨m, g, _, rfl⟩
    · exact h.chan j
  unlit j hj := by rw [chan_putChan_ne _ _ (by rintro rfl; exact hj hi), h.unlit j hj]

theorem grant (h : s.TakesMinimums p u) (hi : p i) (g : Nat) : s.TakesMinimums p (u.putChan i { u.chan i with granted := g }) :=
  h.putChan hi (u.chan i).cfg.protMin g

section
variable (start : s.AsksNothing p)
include start

theorem idle (h : s.TakesMinimums p u) (j : Fin 128) : (u.chan j).entry = none ∧ (u.chan j).deficit = 0 := by
  obtain ⟨m, g, o, e⟩ := h.chan j
  rw [e]
  exact ⟨start.entry j, deficit_of_untargeted (start.target j)⟩

theorem role (h : s.TakesMinimums p u) (hi : p i) : (u.chan i).cfg.role = .light := by
  obtain ⟨m, g, o, e⟩ := h.chan i
  rw [e]
  exact start.role i hi

theorem shedLoop (n : Nat) (h : s.TakesMinimums p u) : s.TakesMinimums p (shedLoop n u) := by
  induction n generalizing u with
  | zero => exact h
  | succ n ih =>
    unfold Machine.shedLoop
    split
    · exact h
    · cases e : firstBy (shedPrecedes u) u.shedCandidates with
      | none => exact h
      | some i =>
        have candidate := (mem_shedCandidates.mp (firstBy_mem e)).1
        have hi : p i := by
          by_contra hi
          rw [h.unlit i hi, h.stop, start.held i hi] at candidate
          exact absurd candidate (lt_irrefl 0)
        have light := h.role start hi
        have shed : s.TakesMinimums p (shedOne i u) := by
          unfold shedOne
          dsimp only
          rw [light]
          dsimp only
          rw [setGranted_of_light light]
          exact h.grant hi _
        exact ih shed

theorem shedding (cause : ShedCause) (h : s.TakesMinimums p u) : s.TakesMinimums p (shedding cause u) := by
  unfold Machine.shedding
  dsimp only
  split
  · exact h
  · have looped := h.shedLoop start (u.poolUse - u.budget.pool)
    exact (looped.raise _ _ _).reportShed.flag true

theorem handOver (cause : ShedCause) (h : s.TakesMinimums p u) : s.TakesMinimums p (handOver cause u) := by
  have shed := h.shedding start cause
  unfold Machine.handOver
  rw [arbitrate_of_idle (shed.idle start)]
  exact (shed.flag false).settleTight

theorem sendProtected (h : s.TakesMinimums p u) (z : Fin 24) (hi : ∀ i, u.lightBinding z = some i → p i) : s.TakesMinimums p (sendProtected z u) := by
  cases hz : u.lightBinding z with
  | none => rwa [sendProtected_of_none hz]
  | some i =>
    rw [sendProtected_of_bound hz]
    unfold protectedMinimum
    dsimp only
    split
    · exact h
    · split
      · exact h
      · refine handOver start .protected_ ?_
        exact (h.putChan (hi i hz) _ _).of_eq rfl rfl rfl ⟨rfl, rfl, rfl⟩ fun _ => rfl

end

theorem binding (h : s.TakesMinimums p u) (hl : u.lighting = s.lighting) (z : Fin 24) : u.lightBinding z = s.lightBinding z :=
  lightBinding_of_wiring (fun i => by
    obtain ⟨m, g, o, e⟩ := h.chan i
    rw [e]
    exact ⟨m, rfl⟩) (by rw [light_of_lighting hl])

end State.TakesMinimums

/-- The protected minimum of every zone is sent, in zone order (R145). -/
def sendAllProtected (s : State) : State := forEach (indices 24) sendProtected s

theorem sendAllProtected_takes (start : s.AsksNothing p) (hp : ∀ z i, s.lightBinding z = some i → p i) : s.TakesMinimums p (sendAllProtected s) := by
  unfold sendAllProtected
  refine (forEach_keeps (I := fun u => s.TakesMinimums p u ∧ u.lighting = s.lighting)
    (fun z u hu => ⟨hu.1.sendProtected start z fun i hi => hp z i ?_, (sendProtected_lighting z u).trans hu.2⟩) _ s ⟨.refl p s, rfl⟩).1
  rwa [hu.1.binding hu.2] at hi

/-- The channel bound to a zone holds the zone's protected minimum. -/
theorem sendAllProtected_protMin (hz : s.lightBinding z = some i) : ((sendAllProtected s).chan i).cfg.protMin = (s.light z).cfg.protMin := by
  unfold sendAllProtected
  refine (forEach_settles
    (P := fun z u => (∀ k, u.lightBinding k = s.lightBinding k) ∧ ∀ i, s.lightBinding z = some i → (u.chan i).cfg.protMin = (s.light z).cfg.protMin)
    (Q := fun _ u => (∀ k, u.lightBinding k = s.lightBinding k) ∧ u.lighting = s.lighting) ?_ ?_ ?_ _ (nodup_indices 24) s
    (fun _ _ => ⟨fun _ => rfl, rfl⟩) z (.inl (mem_indices z))).2 i hz
  · rintro y u ⟨bound, lighting⟩
    refine ⟨fun k => (sendProtected_binding y u k).trans (bound k), fun j hj => ?_⟩
    have asked := sendProtected_asked_self ((bound y).trans hj)
    rw [show ((sendProtected y u).chan j).cfg = _ from congrArg Prod.fst asked, light_of_lighting lighting]
  · rintro y k u hk ⟨bound, sent⟩
    refine ⟨fun k => (sendProtected_binding y u k).trans (bound k), fun j hj => ?_⟩
    have other : u.lightBinding y ≠ some j := fun hy => hk (lightBinding_inj hj ((bound y).symm.trans hy))
    rw [cfg_of_asked (sendProtected_asked other), sent j hj]
  · rintro y k u hk ⟨bound, lighting⟩
    exact ⟨fun k => (sendProtected_binding y u k).trans (bound k), (sendProtected_lighting y u).trans lighting⟩

/-- The figures stay worked out of the protected minimums as they stand. -/
theorem State.Protects.current (h : s.Protects u) (hs : s.reprotects s) : u.reprotects u := by
  obtain ⟨same, cfg⟩ | ⟨afresh, -⟩ := h.figures
  · exact reprotects_of_figures hs same h.basis cfg
  · exact afresh.before h.basis.symm

theorem sendAllProtected_reprotects (h : s.reprotects s) : (sendAllProtected s).reprotects (sendAllProtected s) := by
  unfold sendAllProtected
  exact forEach_keeps (I := fun u => u.reprotects u) (fun z u hu => (sendProtected_protects z u).current hu) _ s h

/-- Where every channel holds its zone's protected minimum already, and the figures stand worked out of them, nothing changes. -/
theorem sendAllProtected_stands (current : s.reprotects s)
    (h : ∀ z i, s.lightBinding z = some i → (s.chan i).cfg.protMin = (s.light z).cfg.protMin) : sendAllProtected s = s := by
  unfold sendAllProtected
  refine forEach_keeps (I := fun u => u = s) (fun z u hu => ?_) _ s rfl
  subst hu
  cases hz : u.lightBinding z with
  | none => exact sendProtected_of_none hz
  | some i =>
    rw [sendProtected_of_bound hz, ← h z i hz]
    unfold protectedMinimum
    dsimp only
    split
    · rfl
    · refine if_pos ⟨rfl, ?_⟩
      rw [current.1]
      refine protectedTotal_congr (fun j => ?_) rfl
      rw [chan_putChan]
      split
      · next e => subst e; rfl
      · rfl

end Sys2Proof.Machine
end

section
/-! SUPPORT. The start of the Lighting Unit, and the units' start as a whole (R43, R145, R149). -/

namespace Sys2Proof.Machine

variable {s t u v : State} {i j : Fin 128} {z y : Fin 24} {c : Snapshot}

/-! ### Presence timers and the kind noted -/

/-- A zone's presence timer starts (R145). -/
def startPresenceAt (z : Fin 24) (s : State) : State := s.putLight z { s.light z with presenceT := s.startPresence z }

/-- The lighting zones with their presence timers started, and the kind noted. -/
def State.lightsNoted (s : State) : State :=
  let t := forEach (indices 24) startPresenceAt s
  t.setLighting { t.lighting with lastKind := t.kind }

theorem lightingStart_eq (s : State) : lightingStart s = deriveLights (sendAllProtected s.lightsNoted) := rfl

theorem startPresence_congr (hp : t.plan = s.plan) (hl : t.light z = s.light z) : t.startPresence z = s.startPresence z := by
  unfold State.startPresence State.holdTime State.kind
  rw [hp, hl]

theorem startPresenceAt_light (z y : Fin 24) (s : State) :
    (startPresenceAt z s).light y = if z = y then { s.light z with presenceT := s.startPresence z } else s.light y := light_putLight _ _ _ _

theorem startPresenceAt_leaves (z : Fin 24) (s : State) : (startPresenceAt z s).budget = s.budget ∧ (startPresenceAt z s).dock = s.dock
    ∧ (startPresenceAt z s).plan = s.plan ∧ (startPresenceAt z s).stop = s.stop ∧ (startPresenceAt z s).lighting.walk = s.lighting.walk :=
  ⟨rfl, rfl, rfl, rfl, rfl⟩

theorem startPresences_light (s : State) (z : Fin 24) :
    (forEach (indices 24) startPresenceAt s).light z = { s.light z with presenceT := s.startPresence z } := by
  refine forEach_indices (f := startPresenceAt) (P := fun z u => u.light z) (g := fun u z => { u.light z with presenceT := u.startPresence z })
    (fun a u => ?_) (fun a b u h => ?_) (fun a b u h => ?_) s z
  · rw [startPresenceAt_light, if_pos rfl]
  · rw [startPresenceAt_light, if_neg (Ne.symm h)]
  · have same : (startPresenceAt a u).light b = u.light b := by rw [startPresenceAt_light, if_neg (Ne.symm h)]
    dsimp only
    obtain ⟨-, -, plan, -, -⟩ := startPresenceAt_leaves a u
    rw [startPresence_congr plan same, same]

theorem startPresences_leaves (s : State) : (forEach (indices 24) startPresenceAt s).budget = s.budget
    ∧ (forEach (indices 24) startPresenceAt s).dock = s.dock ∧ (forEach (indices 24) startPresenceAt s).plan = s.plan
    ∧ (forEach (indices 24) startPresenceAt s).stop = s.stop ∧ (forEach (indices 24) startPresenceAt s).lighting.walk = s.lighting.walk := by
  refine forEach_keeps (I := fun u => u.budget = s.budget ∧ u.dock = s.dock ∧ u.plan = s.plan ∧ u.stop = s.stop ∧ u.lighting.walk = s.lighting.walk)
    (f := startPresenceAt) (fun z u hu => ?_) _ s ⟨rfl, rfl, rfl, rfl, rfl⟩
  obtain ⟨budget, dock, plan, stop, walk⟩ := startPresenceAt_leaves z u
  obtain ⟨budget', dock', plan', stop', walk'⟩ := hu
  exact ⟨budget.trans budget', dock.trans dock', plan.trans plan', stop.trans stop', walk.trans walk'⟩

/-- What the notes leave beside the Lighting Unit, and of it. -/
theorem lightsNoted_leaves (s : State) : s.lightsNoted.budget = s.budget ∧ s.lightsNoted.dock = s.dock ∧ s.lightsNoted.plan = s.plan
    ∧ s.lightsNoted.stop = s.stop ∧ s.lightsNoted.lighting.walk = s.lighting.walk
    ∧ s.lightsNoted.lighting.lastKind = s.plan.current.fields.kind ∧ ∀ z, s.lightsNoted.light z = { s.light z with presenceT := s.startPresence z } := by
  have zones := startPresences_light s
  have kept := startPresences_leaves s
  unfold State.lightsNoted
  generalize forEach (indices 24) startPresenceAt s = t at *
  obtain ⟨budget, dock, plan, stop, walk⟩ := kept
  refine ⟨budget, dock, plan, stop, walk, ?_, zones⟩
  rw [← plan]
  rfl

theorem lightsNoted_budget (s : State) : s.lightsNoted.budget = s.budget := (lightsNoted_leaves s).1
theorem lightsNoted_dock (s : State) : s.lightsNoted.dock = s.dock := (lightsNoted_leaves s).2.1
theorem lightsNoted_plan (s : State) : s.lightsNoted.plan = s.plan := by
  obtain ⟨-, -, plan, -⟩ := lightsNoted_leaves s
  exact plan
theorem lightsNoted_stop (s : State) : s.lightsNoted.stop = s.stop := by
  obtain ⟨-, -, -, stop, -⟩ := lightsNoted_leaves s
  exact stop
theorem lightsNoted_light (s : State) (z : Fin 24) : s.lightsNoted.light z = { s.light z with presenceT := s.startPresence z } := by
  obtain ⟨-, -, -, -, -, -, light⟩ := lightsNoted_leaves s
  exact light z

/-! ### The units' start -/

/-- The units start. -/
def startUnits (s : State) : State := lightingStart (budgetStart s)

/-- The state in which the start's lighting targets are derived. -/
def State.primed (s : State) : State := sendAllProtected (budgetStart s).lightsNoted

theorem startUnits_eq (s : State) : startUnits s = deriveLights s.primed := lightingStart_eq _

theorem primed_lighting (s : State) : s.primed.lighting = (budgetStart s).lightsNoted.lighting := by
  unfold State.primed sendAllProtected
  exact forEach_keeps (I := fun u => u.lighting = (budgetStart s).lightsNoted.lighting) (fun z u hu => (sendProtected_lighting z u).trans hu) _ _ rfl

section
variable (h : s.Unstarted)
include h

theorem noted_chan (i : Fin 128) : ∃ o, (budgetStart s).lightsNoted.chan i = { (s.chan i).started s.stop.state with out := o } := by
  rw [chan_of_budget (lightsNoted_budget _)]
  exact (budgetStart_starts h).chan i

theorem noted_asksNothing : (budgetStart s).lightsNoted.AsksNothing (budgetStart s).lightsNoted.bindsLight := by
  have chan := noted_chan h
  have stop : (budgetStart s).lightsNoted.stop = s.stop := (lightsNoted_stop _).trans (budgetStart_starts h).stop
  refine ⟨fun j => ?_, fun j => ?_, fun j _ => ?_, fun j ⟨z, hz⟩ => (Channel.boundTo_iff.mp (lightBinding_iff.mp hz).2).1⟩
  all_goals obtain ⟨entry, target, granted⟩ := h j
  · obtain ⟨o, e⟩ := chan j
    rw [e]
    exact (started_idle entry target _).1
  · obtain ⟨o, e⟩ := chan j
    rw [e]
    exact (started_idle entry target _).2
  · obtain ⟨o, e⟩ := chan j
    rw [e, stop]
    exact started_nonProtected granted _

theorem primed_takes : (budgetStart s).lightsNoted.TakesMinimums (budgetStart s).lightsNoted.bindsLight s.primed :=
  sendAllProtected_takes (noted_asksNothing h) fun z _ hi => ⟨z, hi⟩

theorem primed_light (z : Fin 24) : s.primed.light z = { s.light z with presenceT := s.startPresence z } := by
  have light : (budgetStart s).light z = s.light z := light_of_lighting (lighting_of_outside (budgetStart_outside s)) z
  rw [light_of_lighting (primed_lighting s), lightsNoted_light, light, startPresence_congr (budgetStart_starts h).plan light]

theorem primed_chan (i : Fin 128) : ∃ m g o, s.primed.chan i
    = { (s.chan i).started s.stop.state with cfg := { (s.chan i).cfg with protMin := m }, granted := g, out := o } := by
  obtain ⟨m, g, o, e⟩ := (primed_takes h).chan i
  obtain ⟨o', e'⟩ := noted_chan h i
  have cfg : ((s.chan i).started s.stop.state).cfg = (s.chan i).cfg := by
    unfold Channel.started
    split <;> rfl
  rw [e'] at e
  rw [← cfg]
  exact ⟨m, g, o, e⟩

theorem primed_binding (z : Fin 24) : s.primed.lightBinding z = s.lightBinding z := by
  have light := primed_light h z
  have chan := primed_chan h
  generalize s.primed = w at *
  refine lightBinding_of_wiring (fun i => ?_) (by rw [light])
  obtain ⟨m, g, o, e⟩ := chan i
  rw [e]
  exact ⟨m, rfl⟩

theorem noted_binding (z : Fin 24) : (budgetStart s).lightsNoted.lightBinding z = s.lightBinding z :=
  ((primed_takes h).binding (primed_lighting s) z).symm.trans (primed_binding h z)

/-- The derivation that ends the start writes bound LIGHT channels alone. -/
theorem startUnits_writesLights : s.primed.WritesLights s.primed.bindsLight (startUnits s) := by
  have idle := (primed_takes h).idle (noted_asksNothing h)
  rw [startUnits_eq]
  generalize s.primed = w at *
  exact deriveLights_writesLights (fun j => (idle j).1) fun j _ => (idle j).2

/-- A channel with no lighting zone bound to it stands as it started. -/
theorem startUnits_chan_unlit (hi : ∀ z, s.lightBinding z ≠ some i) :
    ∃ o, (startUnits s).chan i = { (s.chan i).started s.stop.state with out := o } := by
  rw [(startUnits_writesLights h).unlit i fun ⟨z, hz⟩ => hi z ((primed_binding h z).symm.trans hz),
    (primed_takes h).unlit i fun ⟨z, hz⟩ => hi z ((noted_binding h z).symm.trans hz)]
  exact noted_chan h i

theorem startUnits_binding (z : Fin 24) : (startUnits s).lightBinding z = s.lightBinding z := by
  rw [startUnits_eq, deriveLights_binding, primed_binding h]

end

end Sys2Proof.Machine
end

section
/-! SUPPORT. What the units' start leaves of each unit (R43, R59 to R63, R65, R145, R147). -/

namespace Sys2Proof.Machine

variable {s t u v : State} {i j : Fin 128} {z y : Fin 24} {c : Snapshot}

theorem startUnits_outsideLighting (s : State) : (startUnits s).outsideLighting = s.outsideLighting := by
  unfold startUnits
  exact (lightingStart_outsideLighting _).trans (outsideLighting_of (budgetStart_outside s))

theorem startUnits_stop (s : State) : (startUnits s).stop = s.stop := stop_of_outsideLighting (startUnits_outsideLighting s)

theorem startUnits_meters (s : State) : s.SameMeters (startUnits s) := by
  have started : s.SameMeters (startUpChannels s) := by
    obtain ⟨-, -, l, budget⟩ := startUpChannels_leaves s
    exact ⟨_, _, _, _, _, _, _, _, _, _, budget⟩
  have budget : s.SameMeters (budgetStart s) := by
    rw [budgetStart_eq]
    have figured := started.trans (figured_meters (startUpChannels s))
    exact figured.trans (.of_unshared (handOver_unshared _ _))
  unfold startUnits
  exact (State.SameMeters.units s).lightingStart budget

theorem startUnits_follows (s : State) : s.Follows (startUnits s) := by
  unfold startUnits
  exact (State.Follows.units s).lightingStart ((State.Follows.budget s).budgetStart (.refl s))

theorem deriveLights_reprotects (h : s.reprotects s) : (deriveLights s).reprotects (deriveLights s) := by
  unfold deriveLights
  exact forEach_keeps (I := fun u => u.reprotects u) (fun z u hu => (deriveLight_protects z u).current hu) _ s h

theorem noted_lightCfg (s : State) (z : Fin 24) : ((budgetStart s).lightsNoted.light z).cfg = (s.light z).cfg := by
  have zone : (budgetStart s).light z = s.light z := light_of_lighting (lighting_of_outside (budgetStart_outside s)) z
  have noted := lightsNoted_light (budgetStart s) z
  generalize (budgetStart s).lightsNoted = w at *
  generalize budgetStart s = b at *
  rw [noted, ← zone]

section
variable (h : s.Unstarted)
include h

theorem startUnits_trips (ht : (s.chan i).tripsNow = true) : s.reports (startUnits s) ⟨.channelTripped, s.plan.clock, i,
    le8 (s.chan i).cfg.role.code ++ leOpt8 (s.chan i).cfg.roleTarget ++ [0x00]⟩ := by
  refine startUpChannels_reports ht ((budgetStart_starts h).follows.trans ?_)
  unfold startUnits
  exact (State.Follows.units _).lightingStart (.refl _)

/-! ### The doors and the plan -/

theorem startUnits_dock : (startUnits s).dock = s.dock := by
  rw [(startUnits_writesLights h).dock, (primed_takes h).dock, lightsNoted_dock, (budgetStart_starts h).dock]

theorem startUnits_plan : (startUnits s).plan = { s.plan with totals := { s.plan.totals with shed := (startUnits s).plan.totals.shed } } := by
  have plan := (startUnits_writesLights h).plan
  have primed := (primed_takes h).plan
  rw [lightsNoted_plan, (budgetStart_starts h).plan] at primed
  rw [← plan] at primed
  exact primed

/-! ### The channels -/

theorem startUnits_cfg (i : Fin 128) : ∃ m, ((startUnits s).chan i).cfg = { (s.chan i).cfg with protMin := m } := by
  obtain ⟨m, g, o, e⟩ := primed_chan h i
  rw [startUnits_eq, deriveLights_cfg, e]
  exact ⟨m, rfl⟩

theorem startUnits_tripped (i : Fin 128) : ((startUnits s).chan i).tripped = ((s.chan i).started s.stop.state).tripped
    ∧ ((startUnits s).chan i).tripIn = (s.chan i).tripIn := by
  obtain ⟨m, g, o, e⟩ := primed_chan h i
  have stand := (tripsStand_property s.primed).lighting.deriveLights (s := s.primed) (fun _ => ⟨rfl, rfl⟩) i
  rw [← startUnits_eq, e] at stand
  refine ⟨stand.1, stand.2.trans ?_⟩
  unfold Channel.started
  dsimp only
  split <;> rfl

theorem startUnits_timers (hm : (s.chan i).minOnT = none) (hn : (s.chan i).minOffT = none) :
    ((startUnits s).chan i).minOnT = none ∧ ((startUnits s).chan i).minOffT = none ∧ ((startUnits s).chan i).entry = none := by
  have lights := startUnits_writesLights h
  obtain ⟨m, g, o, e⟩ := primed_chan h i
  obtain ⟨minOn, minOff⟩ := lights.timers i
  rw [e] at minOn minOff
  have kept : ((s.chan i).started s.stop.state).minOnT = (s.chan i).minOnT ∧ ((s.chan i).started s.stop.state).minOffT = (s.chan i).minOffT := by
    unfold Channel.started
    split <;> exact ⟨rfl, rfl⟩
  exact ⟨minOn.trans (kept.1.trans hm), minOff.trans (kept.2.trans hn), lights.entry i⟩

/-! ### The figures -/

theorem startUnits_ceiling : (startUnits s).budget.ct = s.budget.ceiling
    ∧ (startUnits s).budget.managed = s.budget.ceiling - s.budget.pu - s.budget.active.margin := by
  obtain ⟨-, ct, managed⟩ := (primed_takes h).ceiling
  obtain ⟨ct', managed'⟩ := (startUnits_writesLights h).ceiling
  rw [lightsNoted_budget, (budgetStart_starts h).ct] at ct
  rw [lightsNoted_budget, (budgetStart_starts h).managed] at managed
  exact ⟨ct'.trans ct, managed'.trans managed⟩

theorem noted_reprotects : (budgetStart s).lightsNoted.reprotects (budgetStart s).lightsNoted := by
  obtain ⟨budget, -, plan, stop, -⟩ := lightsNoted_leaves (budgetStart s)
  refine reprotects_of_figures (budgetStart_starts h).reprotects ?_ (basis_eq_of_budget budget (by rw [plan]) stop) fun i => by rw [chan_of_budget budget]
  unfold State.figures
  rw [budget]

theorem startUnits_reprotects : (startUnits s).reprotects (startUnits s) := by
  rw [startUnits_eq]
  exact deriveLights_reprotects (sendAllProtected_reprotects (noted_reprotects h))

theorem startUnits_serial (hz : ∀ z, s.lightBinding z = none) : (startUnits s).budget.lastSerial = s.budget.lastSerial := by
  rw [startUnits_eq, deriveLights_budget_of_unbound fun z => (primed_binding h z).trans (hz z), (primed_takes h).ceiling.1,
    lightsNoted_budget, (budgetStart_starts h).serial]

/-- Where every bound channel holds its zone's protected minimum already nothing is shed. -/
theorem startUnits_unshed (hm : ∀ z i, s.lightBinding z = some i → (s.chan i).cfg.protMin = (s.light z).cfg.protMin) :
    (startUnits s).plan = s.plan ∧ (startUnits s).budget.shed = false := by
  obtain ⟨budget, -, plan, -, -, -, light⟩ := lightsNoted_leaves (budgetStart s)
  have zones (z : Fin 24) : (budgetStart s).light z = s.light z := light_of_lighting (lighting_of_outside (budgetStart_outside s)) z
  have stands : s.primed = (budgetStart s).lightsNoted := by
    refine sendAllProtected_stands (noted_reprotects h) fun z i hz => ?_
    obtain ⟨o, e⟩ := noted_chan h i
    have cfg : ((s.chan i).started s.stop.state).cfg = (s.chan i).cfg := by
      unfold Channel.started
      split <;> rfl
    rw [light, zones, e]
    exact (congrArg ChannelConfig.protMin cfg).trans (hm z i ((noted_binding h z).symm.trans hz))
  have lights := startUnits_writesLights h
  have shed := lights.shed
  rw [stands, budget] at shed
  refine ⟨?_, shed (budgetStart_starts h).shed⟩
  rw [lights.plan, stands, plan, (budgetStart_starts h).plan]

/-! ### The lighting zones -/

theorem startUnits_walk : (startUnits s).lighting.walk = s.lighting.walk ∧ (startUnits s).lighting.lastKind = s.plan.current.fields.kind := by
  obtain ⟨-, -, -, -, walk, kind, -⟩ := lightsNoted_leaves (budgetStart s)
  rw [startUnits_eq, deriveLights_walk, deriveLights_lastKind, primed_lighting, walk, kind, lighting_of_outside (budgetStart_outside s),
    (budgetStart_starts h).plan]
  exact ⟨rfl, rfl⟩

theorem startUnits_zone (z : Fin 24) : ((startUnits s).light z).cfg = (s.light z).cfg ∧ ((startUnits s).light z).vacant = (s.light z).vacant
    ∧ ((startUnits s).light z).walkResult = (s.light z).walkResult ∧ ((startUnits s).light z).presenceT = s.startPresence z := by
  have kept : s.primed.keepsZone (deriveLights s.primed) z := .of_derived (deriveLights_light _ z)
  rw [← startUnits_eq] at kept
  unfold State.keepsZone at kept
  rw [primed_light h] at kept
  obtain ⟨cfg, vacant, timer, result⟩ := kept
  exact ⟨cfg, vacant, result, timer⟩

theorem startUnits_derived (hl : (s.light z).lastSent = 0) :
    ((startUnits s).light z).target = max ((startUnits s).tableLine z).1 ((startUnits s).light z).cfg.protMin
      ∧ ((startUnits s).light z).source = ((startUnits s).tableLine z).2
      ∧ ((startUnits s).light z).lastSent = if ((startUnits s).lightBinding z).isSome then ((startUnits s).light z).target else 0 := by
  have binding := startUnits_binding h z
  have primed := primed_binding h z
  have light : (s.primed.light z).lastSent = 0 := by
    rw [primed_light h]
    exact hl
  rw [startUnits_eq] at binding ⊢
  generalize s.primed = w at *
  obtain ⟨target, source, sent⟩ := derives_deriveLights w z
  rw [primed] at sent
  refine ⟨target, source, ?_⟩
  rw [binding]
  cases hb : s.lightBinding z with
  | none =>
    rw [hb] at sent
    exact sent.trans light
  | some i =>
    rw [hb] at sent
    exact sent.1

theorem startUnits_bound (hl : ∀ y, (s.light y).lastSent = 0) (hi : s.lightBinding z = some i) :
    ((startUnits s).chan i).target = ((startUnits s).light z).target ∧ ((startUnits s).chan i).cfg.protMin = (s.light z).cfg.protMin := by
  obtain ⟨m, g, o, e⟩ := primed_chan h i
  obtain ⟨entry, target, -⟩ := h i
  have bound : s.primed.lightBinding z = some i := (primed_binding h z).trans hi
  have sent (y : Fin 24) : (s.primed.light y).lastSent = 0 := by
    rw [primed_light h]
    exact hl y
  have light := noted_lightCfg s z
  have found : (budgetStart s).lightsNoted.lightBinding z = some i := by
    rw [noted_binding h]
    exact hi
  have minimum : (s.primed.chan i).cfg.protMin = ((budgetStart s).lightsNoted.light z).cfg.protMin := by
    unfold State.primed
    exact sendAllProtected_protMin found
  have untargeted := (started_idle entry target s.stop.state).2
  rw [startUnits_eq]
  generalize s.primed = w at *
  refine ⟨deriveLights_bound bound sent ?_, ?_⟩
  · rw [e]
    exact untargeted
  · rw [deriveLights_cfg, minimum, light]

end

end Sys2Proof.Machine
end

section
/-! SUPPORT. The state that a load leaves starts from the configuration installed (R10, R12, R29, R32, R43, R54, R65, R89, R108, R112, R115, R117,
R124, R145, R158). -/

namespace Sys2Proof.Machine

variable {s t u v : State} {i j : Fin 128} {z y : Fin 24} {c : Snapshot} {source : StoreSource} {l : Line} {b b' : LoadBudget} {n : Nat}

/-! ### A start behind the units' own words -/

theorem plan_startsFrom {p : PlanUnit} (h : p = { startPlan c with totals := { (startPlan c).totals with shed := n } }) : p.startsFrom c := by
  rw [h]
  rfl

theorem budget_startsFrom (hb : b.startsFrom c) (hu : u.budget = b) (h : u.SameMeters t) : t.budget.startsFrom c := by
  obtain ⟨ch, k, x, d, ct, managed, pProt, shareable, reserve, pool, e⟩ := h
  unfold LoadBudget.startsFrom at hb
  rw [hu] at e
  rw [e]
  exact (congrArg (fun a : LoadBudget => { a with
    channels := ch, lastSerial := k, tight := x, shed := d, ct := ct, managed := managed, pProt := pProt, shareable := shareable
    reserve := reserve, pool := pool }) hb :)

/-- A channel that starts TRIPPED or not, but for its grant (R43). -/
theorem started_tripped (cfg : ChannelConfig) (tripIn : Bool) (p : PlantState) :
    ((startChannel cfg tripIn).started p).tripped = (cfg.role.isStep && cfg.tripUsed && tripIn) := by
  have now : (startChannel cfg tripIn).tripsNow = (cfg.role.isStep && cfg.tripUsed && tripIn) := by
    unfold Channel.tripsNow startChannel
    simp
  unfold Channel.started
  rw [now]
  cases cfg.role.isStep && cfg.tripUsed && tripIn <;> rfl

/-- A channel that starts and is no LIGHT channel holds nothing, whether it starts TRIPPED or not. -/
theorem started_unlit {cfg : ChannelConfig} (hr : cfg.role ≠ .light) (tripIn : Bool) (p : PlantState) :
    ((startChannel cfg tripIn).started p).granted = 0 := by
  unfold Channel.started
  split
  · rfl
  · exact protPart_of_not_light hr

theorem started_fields (x : Channel) (p : PlantState) : (x.started p).cfg = x.cfg ∧ (x.started p).target = x.target
    ∧ (x.started p).serial = x.serial := by
  unfold Channel.started
  split <;> exact ⟨rfl, rfl, rfl⟩

/-- A LIGHT channel starts with its protected part (R43). -/
theorem started_light {x : Channel} (hl : x.cfg.role = .light) (p : PlantState) : (x.started p).granted = x.protPart p := by
  have never : x.tripsNow = false := by
    unfold Channel.tripsNow
    rw [hl]
    rfl
  unfold Channel.started
  rw [never, if_neg Bool.false_ne_true]

/-! ### The state installed -/

/-- The configuration installed, with the notices of the start-up raised: the state in which the units start. -/
def State.loading (s : State) (c : Snapshot) (source : StoreSource) (l : Line) : State := (s.installed c source).setLine l

theorem raise_writesLine (k : NoticeKind) (n : Nat) (x : Bytes) (s : State) : ∃ l, raise k n x s = s.setLine l := by
  unfold raise
  split
  · exact ⟨_, rfl⟩
  · exact ⟨s.line, rfl⟩

theorem startUpNotices_writesLine (r : Except StoreReason Snapshot) (s : State) : ∃ l, startUpNotices r s = s.setLine l := by
  have after (u : State) (l : Line) (hu : u = s.setLine l) (k : NoticeKind) (n : Nat) (x : Bytes) : ∃ l, raise k n x u = s.setLine l := by
    obtain ⟨l', e⟩ := raise_writesLine k n x u
    exact ⟨l', by rw [e, hu]; rfl⟩
  unfold startUpNotices
  dsimp only
  cases r with
  | ok _ =>
    obtain ⟨l, e⟩ := raise_writesLine .clockNeeded 0 [] s
    dsimp only
    split
    · exact after _ l e _ _ _
    · exact ⟨l, e⟩
  | error reason =>
    obtain ⟨l₀, e₀⟩ := raise_writesLine .storeInvalid 0 (le8 reason.code) s
    obtain ⟨l, e⟩ := after _ l₀ e₀ .clockNeeded 0 []
    dsimp only
    split
    · exact after _ l e _ _ _
    · exact ⟨l, e⟩

theorem sent_of_forgetNotices {l l' : Line} (h : l'.forgetNotices = l.forgetNotices) : l'.sent = l.sent := (congrArg Line.sent h :)

section
variable (s c source l)

theorem loading_chan (i : Fin 128) : (s.loading c source l).chan i = startChannel (look c.channels i) (s.chan i).tripIn :=
  afresh_chan s c .running { s.store with source := source } i
theorem loading_door (d : Fin 32) : (s.loading c source l).door d = startDoor (look c.doors d) (s.door d).rawOpen (s.door d).rawPresent :=
  afresh_door s c .running { s.store with source := source } d
theorem loading_zone (z : Fin 12) : (s.loading c source l).zone z = startZone z (look c.zones z) :=
  afresh_zone s c .running { s.store with source := source } z
theorem loading_light (z : Fin 24) : (s.loading c source l).light z = startLight (look c.lights z) :=
  afresh_light s c .running { s.store with source := source } z
theorem loading_temp (p : Fin 32) : look (s.loading c source l).climate.temps p = startPoint (look c.points.tempUsed p) 300 :=
  afresh_temp s c .running { s.store with source := source } p
theorem loading_exhaust (p : Fin 12) : look (s.loading c source l).climate.exhausts p = startPoint (look c.points.exhaustUsed p) 120 :=
  afresh_exhaust s c .running { s.store with source := source } p

theorem loading_unstarted : (s.loading c source l).Unstarted := fun i => by
  rw [loading_chan]
  exact ⟨rfl, rfl, rfl⟩

/-- The parts of the state installed that are written at once. -/
theorem loading_parts : (s.loading c source l).stage = .running ∧ (s.loading c source l).seconds = 0
    ∧ (s.loading c source l).store = { s.store with source := source }
    ∧ (s.loading c source l).stop = ⟨if s.stop.fire then .stopped else .running, s.stop.fire, 0⟩
    ∧ (s.loading c source l).pending = s.pending ∧ (s.loading c source l).drawn = s.drawn ∧ (s.loading c source l).line = l
    ∧ (s.loading c source l).dock = ⟨(s.loading c source l).dock.doors, Vector.replicate 12 0, none, [], 0, false, 0⟩
    ∧ (s.loading c source l).climate.outdoorPoint = c.points.outdoorPoint ∧ (s.loading c source l).climate.designTemp = c.points.designTemp
    ∧ (s.loading c source l).lighting.walk = none := ⟨rfl, rfl, rfl, rfl, rfl, rfl, rfl, rfl, rfl, rfl, rfl⟩

theorem loading_plan : (s.loading c source l).plan = startPlan c := rfl
theorem loading_budget : (s.loading c source l).budget = startBudget c fun i => (s.chan i).tripIn := rfl

theorem loading_startPresence (z : Fin 24) : (s.loading c source l).startPresence z
    = if (look c.lights z).presence = true ∧ c.fallback.kind ≠ .changeover then
        some (if c.fallback.kind = .break_ then (look c.lights z).breakHold else (look c.lights z).hold)
      else none := by
  have kind : (s.loading c source l).kind = c.fallback.kind := rfl
  unfold State.startPresence State.holdTime
  rw [kind, loading_light]
  rfl

/-! ### The units started from it -/

theorem loaded_channel (i : Fin 128) : ((startUnits (s.loading c source l)).chan i).startsFrom (look c.channels i) (s.chan i).tripIn := by
  have unstarted := loading_unstarted s c source l
  have chan := loading_chan s c source l i
  obtain ⟨m, cfg⟩ := startUnits_cfg unstarted i
  obtain ⟨tripped, tripIn⟩ := startUnits_tripped unstarted i
  obtain ⟨minOn, minOff, entry⟩ := startUnits_timers unstarted (i := i) (by rw [chan]; rfl) (by rw [chan]; rfl)
  have unlit := startUnits_chan_unlit unstarted (i := i)
  have binds (z : Fin 24) (hz : (s.loading c source l).lightBinding z = some i) : (look c.channels i).role = .light := by
    have bound := (Channel.boundTo_iff.mp (lightBinding_iff.mp hz).2).1
    rwa [chan] at bound
  rw [chan] at cfg tripped tripIn unlit
  generalize startUnits (s.loading c source l) = t at *
  generalize s.loading c source l = w at *
  refine ⟨?_, tripIn, tripped.trans (started_tripped _ _ _), minOn, minOff, entry, fun hr => ?_⟩
  · rw [cfg]
    rfl
  · obtain ⟨o, e⟩ := unlit fun z hz => hr (binds z hz)
    obtain ⟨cfg', target, serial⟩ := started_fields (startChannel (look c.channels i) (s.chan i).tripIn) w.stop.state
    rw [e]
    exact ⟨cfg', target, started_unlit hr _ _, serial⟩

theorem loaded_light (z : Fin 24) : ((startUnits (s.loading c source l)).light z).startsFrom (look c.lights z) c.fallback.kind := by
  obtain ⟨cfg, vacant, result, timer⟩ := startUnits_zone (loading_unstarted s c source l) z
  rw [loading_startPresence] at timer
  rw [loading_light] at cfg vacant result
  exact ⟨cfg, vacant, result, timer⟩

theorem loaded_plan : (startUnits (s.loading c source l)).plan.startsFrom c := by
  have plan := startUnits_plan (loading_unstarted s c source l)
  rw [loading_plan] at plan
  exact plan_startsFrom plan

theorem loaded_budget : (startUnits (s.loading c source l)).budget.startsFrom c :=
  budget_startsFrom (startBudget_startsFrom c _) (loading_budget s c source l) (startUnits_meters _)

theorem loaded_door (d : Fin 32) : ((startUnits (s.loading c source l)).door d).startsFrom (look c.doors d) (s.door d).rawOpen (s.door d).rawPresent := by
  rw [door_of_dock (startUnits_dock (loading_unstarted s c source l)), loading_door]
  rfl

theorem loaded_climate : (startUnits (s.loading c source l)).climate = (s.loading c source l).climate :=
  climate_of_outsideLighting (startUnits_outsideLighting _)

theorem loaded_beside : (startUnits (s.loading c source l)).pending = s.pending ∧ (startUnits (s.loading c source l)).drawn = s.drawn
    ∧ (startUnits (s.loading c source l)).stage = .running ∧ (startUnits (s.loading c source l)).seconds = 0
    ∧ (startUnits (s.loading c source l)).store = { s.store with source := source }
    ∧ (startUnits (s.loading c source l)).stop = ⟨if s.stop.fire then .stopped else .running, s.stop.fire, 0⟩
    ∧ (startUnits (s.loading c source l)).line.forgetNotices = l.forgetNotices := by
  have beside := startUnits_outsideLighting (s.loading c source l)
  have fields (u w : State) (h : u.outsideLighting = w.outsideLighting) : u.pending = w.pending ∧ u.drawn = w.drawn ∧ u.stage = w.stage
      ∧ u.seconds = w.seconds ∧ u.store = w.store ∧ u.stop = w.stop ∧ u.line.forgetNotices = w.line.forgetNotices :=
    ⟨(congrArg State.pending h :), (congrArg State.drawn h :), (congrArg State.stage h :), (congrArg State.seconds h :), (congrArg State.store h :),
      (congrArg State.stop h :), (congrArg State.line h :)⟩
  exact fields _ _ beside

/-- Every unit starts with the configuration installed. -/
theorem loaded_startsFrom (hs : l.sent = s.line.sent) : s.startsFrom (startUnits (s.loading c source l)) c := by
  have unstarted := loading_unstarted s c source l
  obtain ⟨-, -, -, -, -, -, -, dock, outdoor, design, walk⟩ := loading_parts s c source l
  obtain ⟨pending, drawn, -, seconds, -, stop, line⟩ := loaded_beside s c source l
  have climate := loaded_climate s c source l
  obtain ⟨walk', kind⟩ := startUnits_walk unstarted
  have dock' := startUnits_dock unstarted
  have sent : (startUnits (s.loading c source l)).line.sent = l.sent := sent_of_forgetNotices line
  refine ⟨seconds, loaded_plan s c source l, loaded_budget s c source l, loaded_channel s c source l, ?_, loaded_door s c source l,
    fun z => ?_, fun p => ?_, fun p => ?_, ?_, ?_, walk'.trans walk, kind, loaded_light s c source l, ?_, ?_, sent.trans hs, pending, drawn⟩
  · rw [dock']
    exact dock
  · have zone : (startUnits (s.loading c source l)).zone z = (s.loading c source l).zone z := zone_of_climate climate z
    rw [zone, loading_zone]
    exact ⟨rfl, rfl⟩
  · rw [climate, loading_temp]
    exact point_startsFrom _ _
  · rw [climate, loading_exhaust]
    exact point_startsFrom _ _
  · rw [climate]
    exact outdoor
  · rw [climate]
    exact design
  · rw [stop]
  · rw [stop]

end

end Sys2Proof.Machine
end

section
/-! PROOF. Power-on and the load of the setting store (O55: R158 with the rules of every unit's start). -/

namespace Sys2Proof.Machine

variable {s t : State} {i : Fin 128} {z : Fin 24} {c : Snapshot} {source : StoreSource} {l : Line}

/-! ### What the load installs -/

theorem loadImage_verified (h : s.store.image = .written c (crc16 c.image)) : loadImage true s.store.image = .ok c := by
  rw [h]
  exact loadImage_written c

/-- The reason a load is rejected for. -/
def rejection (answers : Bool) : StoreReason := if answers then .checkFailed else .noAnswer

theorem loadImage_rejected {x : StoreImage} {answers : Bool}
    (h : answers = false ∨ x = .blank ∨ ∃ c crc, x = .written c crc ∧ crc ≠ crc16 c.image) : loadImage answers x = .error (rejection answers) := by
  cases answers with
  | false => rfl
  | true =>
    obtain h | rfl | ⟨c, crc, rfl, differs⟩ := h
    · exact absurd h (by decide)
    · rfl
    · have unverified : (StoreImage.written c crc).verified = none := if_neg differs
      simp [loadImage, rejection, unverified]

/-! ### The first figures (R59, R60, R65) -/

theorem startBudget_ceiling (c : Snapshot) (trips : Fin 128 → Bool) (hw : 60 ≤ c.limits.window) :
    (startBudget c trips).ceiling = min c.limits.feed c.limits.contract := by
  have plain (feed contract window : Nat) (hw : 60 ≤ window) :
      (if 0 < contract * window then min feed ((contract * window - 0) / max (window - 0) 60) else 0) = min feed contract := by
    rw [Nat.sub_zero, Nat.sub_zero, Nat.max_eq_left hw, Nat.mul_div_cancel _ (by omega)]
    split
    · rfl
    · next none =>
      have : contract = 0 := by
        by_contra some
        exact none (Nat.mul_pos (by omega) (by omega))
      omega
  exact plain c.limits.feed c.limits.contract c.limits.window hw

theorem loaded_ceiling (s : State) (c : Snapshot) (source : StoreSource) (l : Line) :
    (60 ≤ c.limits.window → (startUnits (s.loading c source l)).budget.ct = min c.limits.feed c.limits.contract)
      ∧ (startUnits (s.loading c source l)).budget.managed = (startUnits (s.loading c source l)).budget.ct - c.limits.margin := by
  obtain ⟨ct, managed⟩ := startUnits_ceiling (loading_unstarted s c source l)
  have pu (trips : Fin 128 → Bool) : (startBudget c trips).pu = 0 ∧ (startBudget c trips).active.margin = c.limits.margin := ⟨rfl, rfl⟩
  rw [loading_budget] at ct managed
  rw [(pu _).1, (pu _).2] at managed
  rw [ct, managed]
  refine ⟨startBudget_ceiling c _, ?_⟩
  omega

/-! ### The start-up notices (R158, R167) -/

theorem startUpNotices_follows (r : Except StoreReason Snapshot) (s : State) : s.Follows (startUpNotices r s) := by
  unfold startUpNotices
  dsimp only
  cases r with
  | ok _ =>
    have clock := (State.Follows.refl s).raise .clockNeeded 0 []
    dsimp only
    split
    · exact clock.raise _ _ _
    · exact clock
  | error reason =>
    have clock := ((State.Follows.refl s).raise .storeInvalid 0 (le8 reason.code)).raise .clockNeeded 0 []
    dsimp only
    split
    · exact clock.raise _ _ _
    · exact clock

/-- CLOCK_NEEDED joins a queue with room unless the level is ALARMS. -/
theorem clockNeeded_notices (hc : s.plan.clock = none) (hr : s.line.notices.length < 2) : (raise .clockNeeded 0 [] s).line.notices
    = s.line.notices ++ if s.line.level = .alarms then [] else [⟨.clockNeeded, none, 0, []⟩] := by
  have passes : s.line.level.passes NoticeKind.clockNeeded.cls = true ↔ s.line.level ≠ .alarms := by
    cases s.line.level <;> decide
  have room : s.line.notices.length < Config.maxNotices := hr.trans (by decide)
  rw [raise_notices, hc]
  by_cases hl : s.line.level = .alarms
  · rw [if_neg fun admitted => passes.mp admitted.1 hl, if_pos hl, List.append_nil]
  · rw [if_pos ⟨passes.mpr hl, room⟩, if_neg hl]

/-- A notice of the alarm class joins a queue with room. -/
theorem alarm_notices {k : NoticeKind} (ha : k.cls = .alarm) (hc : s.plan.clock = none) (hr : s.line.notices.length < 3) (n : Nat) (b : Bytes) :
    (raise k n b s).line.notices = s.line.notices ++ [⟨k, none, n, b⟩] := by
  have admitted : s.admits k := ⟨by rw [ha]; cases s.line.level <;> rfl, hr.trans (by decide)⟩
  rw [raise_notices, hc, if_pos admitted]

/-- After the clock's notice comes that of a plant stop, with RUNNING as the state left. -/
theorem clockAndStop_notices (hc : s.plan.clock = none) (hr : s.line.notices.length < 2) :
    (if s.stop.state = .stopped then raise .plantStop 0 (le8 PlantState.running.code) (raise .clockNeeded 0 [] s)
      else raise .clockNeeded 0 [] s).line.notices
      = s.line.notices ++ (if s.line.level = .alarms then [] else [⟨.clockNeeded, none, 0, []⟩])
        ++ if s.stop.state = .stopped then [⟨.plantStop, none, 0, [0x00]⟩] else [] := by
  have notices := clockNeeded_notices hc hr
  have clock : (raise .clockNeeded 0 [] s).plan.clock = none := by
    rw [raise_plan]
    exact hc
  have room : (raise .clockNeeded 0 [] s).line.notices.length < 3 := by
    rw [notices, List.length_append]
    split <;> simp only [List.length_nil, List.length_singleton] <;> omega
  split
  · rw [alarm_notices rfl clock room, notices]
    rfl
  · rw [notices, List.append_nil]

theorem startUpNotices_accepted (hc : s.plan.clock = none) (hn : s.line.notices = []) : (startUpNotices (.ok c) s).line.notices
    = (if s.line.level = .alarms then [] else [⟨.clockNeeded, none, 0, []⟩])
      ++ if s.stop.state = .stopped then [⟨.plantStop, none, 0, [0x00]⟩] else [] := by
  have notices := clockAndStop_notices hc (by rw [hn]; decide)
  rw [hn, List.nil_append] at notices
  exact notices

theorem startUpNotices_rejected (reason : StoreReason) (hc : s.plan.clock = none) (hn : s.line.notices = []) (hl : s.line.level ≠ .alarms) :
    (startUpNotices (.error reason) s).line.notices
      = [⟨.storeInvalid, none, 0, le8 reason.code⟩, ⟨.clockNeeded, none, 0, []⟩]
        ++ if s.stop.state = .stopped then [⟨.plantStop, none, 0, [0x00]⟩] else [] := by
  have invalid : (raise .storeInvalid 0 (le8 reason.code) s).line.notices = [⟨.storeInvalid, none, 0, le8 reason.code⟩] := by
    rw [alarm_notices rfl hc (by rw [hn]; decide), hn]
    rfl
  have clock : (raise .storeInvalid 0 (le8 reason.code) s).plan.clock = none := by
    rw [raise_plan]
    exact hc
  have notices := clockAndStop_notices clock (by rw [invalid, List.length_singleton]; decide)
  rw [invalid, raise_level, if_neg hl, raise_stop] at notices
  unfold startUpNotices
  dsimp only
  exact notices

/-! ### The state loaded -/

/-- What a load that installs configuration c from this source leaves of the state s. -/
def State.startsLoaded (s t : State) (c : Snapshot) (source : StoreSource) : Prop :=
  t.stage = .running ∧ s.startsFrom t c ∧ t.store = { s.store with source := source }
    ∧ t.line.forgetNotices = ({ s.line with level := c.level } : Line).forgetNotices
    ∧ t.stop.state = (if s.stop.fire then .stopped else .running)
    ∧ (60 ≤ c.limits.window → t.budget.ct = min c.limits.feed c.limits.contract)
    ∧ t.budget.managed = t.budget.ct - c.limits.margin ∧ t.reprotects t
    ∧ (∀ z, (t.light z).target = max (t.tableLine z).1 (t.light z).cfg.protMin ∧ (t.light z).source = (t.tableLine z).2
        ∧ (t.light z).lastSent = if (t.lightBinding z).isSome then (t.light z).target else 0)
    ∧ (∀ i z, t.lightBinding z = some i →
        (t.chan i).target = (t.light z).target ∧ (t.chan i).cfg.protMin = (look c.lights z).protMin)
    ∧ (∀ i, (look c.channels i).role = .light → (∀ z, t.lightBinding z ≠ some i) →
        (t.chan i).cfg = look c.channels i ∧ (t.chan i).target = 0
          ∧ (t.chan i).granted = (t.chan i).protPart t.stop.state ∧ (t.chan i).serial = 0)
    ∧ ((∀ z, t.lightBinding z = none) → t.budget.lastSerial = 0)
    ∧ ((∀ i z, t.lightBinding z = some i → (look c.channels i).protMin = (look c.lights z).protMin) →
        t.plan.totals.shed = 0 ∧ t.budget.shed = false)
    ∧ ∀ i, (t.chan i).tripped = true →
        s.reports t ⟨.channelTripped, none, i, le8 (t.chan i).cfg.role.code ++ leOpt8 (t.chan i).cfg.roleTarget ++ [0x00]⟩

section
variable (s c source l)

theorem loaded_bound (hi : (startUnits (s.loading c source l)).lightBinding z = some i) :
    ((startUnits (s.loading c source l)).chan i).target = ((startUnits (s.loading c source l)).light z).target
      ∧ ((startUnits (s.loading c source l)).chan i).cfg.protMin = (look c.lights z).protMin := by
  have unstarted := loading_unstarted s c source l
  rw [startUnits_binding unstarted] at hi
  obtain ⟨target, minimum⟩ := startUnits_bound unstarted (fun y => by rw [loading_light]; rfl) hi
  rw [loading_light] at minimum
  exact ⟨target, minimum⟩

/-- A LIGHT channel that no zone is bound to starts with its protected part and is asked for nothing (R43, R55). -/
theorem loaded_unbound (hr : (look c.channels i).role = .light) (hi : ∀ z, (startUnits (s.loading c source l)).lightBinding z ≠ some i) :
    ((startUnits (s.loading c source l)).chan i).cfg = look c.channels i ∧ ((startUnits (s.loading c source l)).chan i).target = 0
      ∧ ((startUnits (s.loading c source l)).chan i).granted
        = ((startUnits (s.loading c source l)).chan i).protPart (startUnits (s.loading c source l)).stop.state
      ∧ ((startUnits (s.loading c source l)).chan i).serial = 0 := by
  have unstarted := loading_unstarted s c source l
  have started : ∃ o, (startUnits (s.loading c source l)).chan i
      = { ((s.loading c source l).chan i).started (s.loading c source l).stop.state with out := o } :=
    startUnits_chan_unlit unstarted fun z hz => hi z ((startUnits_binding unstarted z).trans hz)
  rw [startUnits_stop]
  rw [loading_chan] at started
  generalize startUnits (s.loading c source l) = t at *
  generalize s.loading c source l = w at *
  obtain ⟨o, e⟩ := started
  obtain ⟨cfg, target, serial⟩ := started_fields (startChannel (look c.channels i) (s.chan i).tripIn) w.stop.state
  have granted := started_light (x := startChannel (look c.channels i) (s.chan i).tripIn) hr w.stop.state
  have part {x y : Channel} (h : x.cfg = y.cfg) (p : PlantState) : x.protPart p = y.protPart p := by
    unfold Channel.protPart
    rw [h]
  rw [e]
  exact ⟨cfg, target, granted.trans (part cfg.symm _), serial⟩

theorem loaded_unshed (hm : ∀ i z, (startUnits (s.loading c source l)).lightBinding z = some i → (look c.channels i).protMin = (look c.lights z).protMin) :
    (startUnits (s.loading c source l)).plan.totals.shed = 0 ∧ (startUnits (s.loading c source l)).budget.shed = false := by
  have unstarted := loading_unstarted s c source l
  obtain ⟨plan, shed⟩ := startUnits_unshed unstarted fun z i hz => by
    rw [loading_chan, loading_light]
    exact hm i z ((startUnits_binding unstarted z).trans hz)
  refine ⟨?_, shed⟩
  rw [plan, loading_plan]
  rfl

/-- A channel that starts TRIPPED raises CHANNEL_TRIPPED with no granted step (R43). -/
theorem loaded_trips (hl : s.line.notices <+: l.notices) (ht : ((startUnits (s.loading c source l)).chan i).tripped = true) :
    s.reports (startUnits (s.loading c source l)) ⟨.channelTripped, none, i,
      le8 ((startUnits (s.loading c source l)).chan i).cfg.role.code ++ leOpt8 ((startUnits (s.loading c source l)).chan i).cfg.roleTarget ++ [0x00]⟩ := by
  obtain ⟨cfg, -, tripped, -⟩ := loaded_channel s c source l i
  have chan := loading_chan s c source l i
  have trips : ((s.loading c source l).chan i).tripsNow = true := by
    rw [chan]
    unfold Channel.tripsNow startChannel
    rw [tripped] at ht
    simpa using ht
  have report := startUnits_trips (loading_unstarted s c source l) trips
  rw [chan, loading_plan] at report
  have fields (x y : ChannelConfig) (m : Nat) (h : { x with protMin := m } = y) : x.role = y.role ∧ x.roleTarget = y.roleTarget :=
    ⟨(congrArg ChannelConfig.role h :), (congrArg ChannelConfig.roleTarget h :)⟩
  obtain ⟨role, target⟩ := fields _ _ _ cfg
  rw [role, target]
  exact State.reports.of_length report hl.length_le

theorem loaded_spec (hf : (s.installed c source).Follows (s.loading c source l)) : s.startsLoaded (startUnits (s.loading c source l)) c source := by
  have unstarted := loading_unstarted s c source l
  obtain ⟨notices, kept⟩ := hf
  have line : l.forgetNotices = ({ s.line with level := c.level } : Line).forgetNotices := kept
  obtain ⟨-, -, stage, -, store, stop, line'⟩ := loaded_beside s c source l
  obtain ⟨ct, managed⟩ := loaded_ceiling s c source l
  refine ⟨stage, loaded_startsFrom s c source l (sent_of_forgetNotices (l := { s.line with level := c.level }) line), store, line'.trans line, by rw [stop], ct, managed,
    startUnits_reprotects unstarted, fun z => startUnits_derived unstarted (by rw [loading_light]; rfl), fun _ _ => loaded_bound s c source l,
    fun _ => loaded_unbound s c source l, fun none => ?_, loaded_unshed s c source l, fun _ => loaded_trips s c source l notices⟩
  rw [startUnits_serial unstarted fun z => (startUnits_binding unstarted z).symm.trans (none z), loading_budget]
  rfl

end

/-- The end of a load: every unit starts with the configuration accepted, the start-up notices standing first in the queue. -/
theorem storeLoadComplete_loads (hs : s.stage = .loading) (answers : Bool) {r : Except StoreReason Snapshot}
    (hr : loadImage answers s.store.image = r) : ∃ t, exec (.storeLoadComplete answers) s = .next t
      ∧ s.startsLoaded t (loadedSnapshot r) (sourceOf r)
      ∧ (startUpNotices r (s.installed (loadedSnapshot r) (sourceOf r))).line.notices <+: t.line.notices := by
  have run := exec_storeLoadComplete_of_loading hs answers
  rw [finishLoading_eq, hr] at run
  have follows := startUpNotices_follows r (s.installed (loadedSnapshot r) (sourceOf r))
  obtain ⟨l, e⟩ : ∃ l, startUpNotices r (s.installed (loadedSnapshot r) (sourceOf r)) = s.loading (loadedSnapshot r) (sourceOf r) l :=
    startUpNotices_writesLine _ _
  rw [e] at run follows ⊢
  have loaded := loaded_spec s (loadedSnapshot r) (sourceOf r) l follows
  have started := (startUnits_follows (s.loading (loadedSnapshot r) (sourceOf r) l)).1
  generalize s.loading (loadedSnapshot r) (sourceOf r) l = v at *
  exact ⟨startUnits v, run, loaded, started⟩

theorem installed_starts (s : State) (c : Snapshot) (source : StoreSource) : (s.installed c source).plan.clock = none
    ∧ (s.installed c source).line = { s.line with level := c.level }
    ∧ (s.installed c source).stop.state = if s.stop.fire then .stopped else .running := ⟨rfl, rfl, rfl⟩

/-- The plant-stop notice of a start stands for the fire-panel input. -/
theorem stopped_notices (fire : Bool) (x : List Notice) : (if (if fire then PlantState.stopped else .running) = .stopped then x else [])
    = if fire then x else [] := by
  cases fire <;> rfl

theorem storeLoadComplete_accepted (hs : s.stage = .loading) (hi : s.store.image = .written c (crc16 c.image)) :
    ∃ t, exec (.storeLoadComplete true) s = .next t ∧ s.startsLoaded t c .store
      ∧ (s.line.notices = [] → ∃ later, t.line.notices
          = (if c.level = .alarms then [] else [⟨.clockNeeded, none, 0, []⟩])
            ++ (if s.stop.fire then [⟨.plantStop, none, 0, [0x00]⟩] else []) ++ later) := by
  obtain ⟨t, run, loaded, later, notices⟩ := storeLoadComplete_loads hs true (loadImage_verified hi)
  refine ⟨t, run, loaded, fun hn => ⟨later, ?_⟩⟩
  obtain ⟨clock, line, stop⟩ := installed_starts s c .store
  rw [← notices]
  dsimp only [loadedSnapshot, sourceOf]
  rw [startUpNotices_accepted clock (by rw [line]; exact hn), line, stop, stopped_notices]

theorem rejection_code (answers : Bool) : le8 (rejection answers).code = [if answers then 0x01 else 0x00] := by
  cases answers <;> rfl

theorem storeLoadComplete_rejected {answers : Bool} (hs : s.stage = .loading)
    (hi : answers = false ∨ s.store.image = .blank ∨ ∃ c crc, s.store.image = .written c crc ∧ crc ≠ crc16 c.image) :
    ∃ t, exec (.storeLoadComplete answers) s = .next t ∧ s.startsLoaded t factorySnapshot .defaults
      ∧ (s.line.notices = [] → ∃ later, t.line.notices
          = [⟨.storeInvalid, none, 0, [if answers then 0x01 else 0x00]⟩, ⟨.clockNeeded, none, 0, []⟩]
            ++ (if s.stop.fire then [⟨.plantStop, none, 0, [0x00]⟩] else []) ++ later) := by
  obtain ⟨t, run, loaded, later, notices⟩ := storeLoadComplete_loads hs answers (loadImage_rejected hi)
  refine ⟨t, run, loaded, fun hn => ⟨later, ?_⟩⟩
  obtain ⟨clock, line, stop⟩ := installed_starts s factorySnapshot .defaults
  have level : (s.installed factorySnapshot .defaults).line.level ≠ .alarms := by
    rw [line]
    exact NoticeLevel.noConfusion
  rw [← notices]
  dsimp only [loadedSnapshot, sourceOf]
  rw [startUpNotices_rejected _ clock (by rw [line]; exact hn) level, stop, stopped_notices, rejection_code]

/-! ### The factory configuration (R9, R43, R54, R88) -/

theorem startsFrom_factory (h : s.startsFrom t factorySnapshot) : t.plan.phases = [] ∧ t.budget.configured = ⟨12000, 16000, 300, 900, 10, 10⟩
    ∧ (∀ i, (t.chan i).cfg.role = .unused) ∧ ∀ d, (t.door d).state = .unused := by
  obtain ⟨-, plan, budget, chan, -, door, -⟩ := h
  refine ⟨(congrArg PlanUnit.phases plan :), (congrArg LoadBudget.configured budget :), fun i => ?_, fun d => ?_⟩
  · have cfg := (chan i).1
    rw [factory_channel] at cfg
    exact (congrArg ChannelConfig.role cfg :)
  · have disabled : (look factorySnapshot.doors d).enabled = false := by
      have : look factorySnapshot.doors d = defaultDoor := look_replicate _ _
      rw [this]
      rfl
    have state : (t.door d).state = if (look factorySnapshot.doors d).enabled then .unknown else .unused := (congrArg Door.state (door d) :)
    rw [state, disabled]
    rfl

/-- Settles O55: what a discarded state leaves depends on the inputs alone, and the load starts every unit from the image that verifies, or
from the factory configuration. -/
theorem powerOnLoadsTheStore : Obligations.PowerOnLoadsTheStore := by
  refine ⟨fun _ _ => powerOn_congr, powerOn_starts, fun _ _ => storeLoadComplete_congr, fun _ _ => storeLoadComplete_accepted, fun s answers hs hi => ?_,
    fun _ answers hs => exec_storeLoadComplete_idle hs answers⟩
  obtain ⟨t, run, loaded, notices⟩ := storeLoadComplete_rejected hs hi
  have level : t.line.level = .alarmsAndOperation := by
    obtain ⟨-, -, -, line, -⟩ := loaded
    exact (congrArg Line.level line :)
  have starts : s.startsFrom t factorySnapshot := by
    obtain ⟨-, starts, -⟩ := loaded
    exact starts
  obtain ⟨phases, limits, roles, doors⟩ := startsFrom_factory starts
  exact ⟨t, run, loaded, phases, limits, roles, doors, level, notices⟩

end Sys2Proof.Machine
end
